-- ==== Sys2Proof/Word.lean ====
section
/-! DEFINITION. The word types of the device: 32-bit registers (R4), 64-bit registers and Shiftboss words (R29), bytes. -/
namespace Sys2Proof

/-- A 32-bit device register word (R4, R22). -/
abbrev Word := BitVec 32

/-- A 64-bit register or Shiftboss value (R29). -/
abbrev DWord := BitVec 64

/-- One byte of a device memory or of host memory (R4). -/
abbrev Byte := BitVec 8

end Sys2Proof
end

