-- ==== Sys2Proof/Syntax.lean ====
section
/-! DEFINITION. The commands: one constructor of `Instr` per row of the spec's table of operations and events. What the outside
world brings (a register value, a packet, a pin, an analog reading) is an operand. -/
namespace Sys2Proof

/-- Who issues an access (R18): its 8-bit requester ID, and whether the access claims to be secure (for a host: whether it came
as a secure packet, R105; the device decides by R18 whether the claim counts). -/
structure Req where
  id : Nat
  secure : Bool
  deriving DecidableEq, Repr

/-- How a packet came off the link (R79, R80): intact, with its header lost (the block holding the header lies in an uncorrectable
codeword, or `LEN`, `CLASS`, `TYPE` or the direction is invalid), or with another block in an uncorrectable codeword. -/
inductive RxMark where
  | ok | badHeader | badBody
  deriving DecidableEq, Repr

/-- What every received packet brings beside its own fields: its `SEQ` (R77), the superframe it arrives in (R75, R79) and its mark. -/
structure RxHdr where
  seq : BitVec 8
  sf : Nat
  mark : RxMark
  deriving DecidableEq, Repr

/-- The trailer of a secure BK packet (R104): its counter and its tag. -/
structure SecTrailer where
  ctr : BitVec 64
  tag : BitVec 128
  deriving DecidableEq, Repr

/-- What an aligning receiver saw (R47): the symbol position of a match, the 20 bits as received at that match and the two after it, the symbols between
them, how many of the codewords between the last two decoded as correctable, and the header of one of those codewords. -/
structure HuntObs where
  pos : Nat
  w0 : BitVec 20
  w1 : BitVec 20
  w2 : BitVec 20
  gap1 : Nat
  gap2 : Nat
  good : Nat
  hdr : BitVec 20
  deriving DecidableEq, Repr

/-- How a back-channel command was seen (R63): in how many consecutive correctable codewords of one lane, and whether a codeword of NONE came before it. -/
structure BackObs where
  run : Nat
  fresh : Bool
  deriving DecidableEq, Repr

/-- The payload of `NEG` OFFER and ACCEPT (R84). -/
structure NegPay where
  vset : BitVec 2
  lanes : Nat
  rates : BitVec 2
  feat : BitVec 7
  comp : BitVec 7
  credit : BitVec 32
  deriving DecidableEq, Repr

/-- What a receive command brings: the codes of the path ADCs (path, sample since the last alignment, 12-bit code; R275, R276), those not listed being 0; or, for a claim that starts
behind the filters the spec does not give bit by bit, what these have made of them: index, path, I, Q after U5 (after U4 for a time-IQ carrier, at the PRACH rate for an occasion),
and the saturated samples by path and stage U3 to U5. -/
inductive RxIn where
  | adc (codes : List (Fin 64 × Nat × BitVec 12))
  | res (vals : List (Nat × Fin 64 × BitVec 16 × BitVec 16)) (clips : List (Fin 64 × Fin 3 × Nat))
  deriving DecidableEq, Repr

/-- The commands of the block: one constructor per row of the table of operations and events. -/
inductive Instr where
  /-- VDD_AON_APPLY (R132): Application of VDD_AON sets TB_CNT to 0 and starts the always-on island. -/
  | vddAonApply
  /-- RESET_ENTRY (R439): A fall of POR_N or RST_N drops every PWR_SEQ output within 1 µs, drives FE_CTL low and resets the registers. -/
  | resetEntry (por : Bool)
  /-- RESET_EXIT (R439): A rise of POR_N or RST_N leaves reset in DORMANT with the event sequence at 0 and FE_CTL pins driving SB_FE_SAFE. -/
  | resetExit (por : Bool)
  /-- REGISTER_WRITE (R25): A write of a register that has no row of its own, checked by the causes of R26 and applied or refused field by field. -/
  | registerWrite (r : Req) (addr : Word) (v : Word)
  /-- RC_REGISTER_READ (R6): A read of an RC field returns its stored value and then clears it, with a same-cycle set winning by R7. -/
  | rcRegisterRead (r : Req) (addr : Word)
  /-- LOW_WORD_READ (R30): A read of the low word of a 64-bit register latches the high word into the requester's holding register and tags it. -/
  | lowWordRead (r : Req) (addr : Word)
  /-- LOW_WORD_WRITE (R31): A write of the low word of a 64-bit register or of words 0-2 of a time-form register is held without taking effect. -/
  | lowWordWrite (r : Req) (addr : Word) (v : Word)
  /-- HIGH_WORD_WRITE (R31): A write of the high word commits it together with any held low word of the same requester in one cycle. -/
  | highWordWrite (r : Req) (addr : Word) (v : Word)
  /-- ATOMIC_64BIT_ACCESS (R32): A 64-bit access by a Shiftboss engine, Lode core or Foreman reads or writes both words atomically. -/
  | atomic64bitAccess (r : Req) (addr : Word) (v : Option DWord)
  /-- SYS_ACCERR_CLEAR (R35): Writing 1 to SYS_ACCERR.VALID clears the record, MULTI, COUNT, REQID and SYS_ACCERR_ADDR. -/
  | sysAccerrClear (r : Req) (v : Word)
  /-- DIE_LINK_LOST (R14): Loss of a die-to-die link treats the converter die as off: its TX paths are muted, its RX paths deliver zeros with OVR, its captures abort, and event 0x6001 is raised. -/
  | dieLinkLost (die : Fin 4)
  /-- TRAINING_START (R49): Writing LANE_PCTL.EN = 1 starts training on all nine lanes of the port. -/
  | trainingStart (r : Req) (p : Fin 2) (v : Word)
  /-- PORT_POWER_DOWN (R49): Writing LANE_PCTL.EN = 0 powers the port's lanes down from any state. -/
  | portPowerDown (r : Req) (p : Fin 2) (v : Word)
  /-- RATE_CHANGE (R42): A change of LANE_PCTL.RATE while EN = 1 retrains the port at the new rate. -/
  | rateChange (r : Req) (p : Fin 2) (rate : Bool)
  /-- SIGNAL_DETECT (R49): A differential signal on a lane in DETECT moves it to CDR and may start a training attempt. -/
  | signalDetect (p : Fin 2) (k : Fin 9)
  /-- CLOCK_RECOVERED (R49): Clock recovery on a lane in CDR moves it to ALIGN. -/
  | clockRecovered (p : Fin 2) (k : Fin 9)
  /-- LANE_ALIGNED (R47): Three commas at exact spacing align the lane, settle its polarity and move it to COEF. -/
  | laneAligned (p : Fin 2) (k : Fin 9) (h : HuntObs)
  /-- TAP_REQUEST (R53): A training control word with a new REQSEQ makes the transmitter apply each tap request, set ACKSEQ and report STS. -/
  | tapRequest (p : Fin 2) (k : Fin 9) (word : BitVec 128)
  /-- RECEIVER_CONVERGED (R55): The device's receiver converges and sets RXRDY; a lane that has sent RXRDY and seen the far end's moves to READY. -/
  | receiverConverged (p : Fin 2) (k : Fin 9)
  /-- MOVE_REQUEST (R56): A received MOVE = k makes the transmitter carry logical lane k on its relief lane from the next superframe. -/
  | moveRequest (p : Fin 2) (k : Fin 9) (word : BitVec 128)
  /-- DESKEW_DONE (R59): The port deskews its lanes into a fixed-depth buffer and reaches UP, raising event 0x3001 and starting negotiation. -/
  | deskewDone (p : Fin 2)
  /-- TRAINING_TIMEOUT (R50): A lane state timeout sends the lane to FAIL and fails the attempt, retrying or ending in FAIL with event 0x3002. -/
  | trainingTimeout (p : Fin 2) (k : Fin 9)
  /-- ATTEMPT_TIMEOUT (R50): A training attempt that has not reached UP 25 ms after it started fails. -/
  | attemptTimeout (p : Fin 2)
  /-- ALIGN_LOST (R48): Eight consecutive uncorrectable codewords or two missing commas make a lane lose alignment, hunt again and raise event 0x3003, stalling the port. -/
  | alignLost (p : Fin 2) (k : Fin 9) (uncorr missing : Nat)
  /-- REALIGN_WAIT_EXPIRY (R61): After 2 superframes without realignment, the receiver requests emergency relief or takes the port down to retrain. -/
  | realignWaitExpiry (p : Fin 2) (k : Fin 8)
  /-- DESKEW_RESTORED (R61): Deskew resumes at a comma after realignment or emergency relief, ending the stall with event 0x3005. -/
  | deskewRestored (p : Fin 2)
  /-- RELIEF_REQ (R67): Acceptance of RELIEF_REQ for lane k makes the transmitter copy lane k onto the relief lane from the next comma, or refuse it. -/
  | reliefReq (p : Fin 2) (b : BackObs) (k : Fin 8)
  /-- RELIEF_COMPARE_DONE (R67): After one superframe of comparison, the receiver takes lane k from the relief lane, sends RELIEF_SWITCHED and raises event 0x3007, or abandons the relief. -/
  | reliefCompareDone (p : Fin 2) (k : Fin 8) (hdr : BitVec 20) (mismatch : Bool)
  /-- RELIEF_SWITCHED (R67): Acceptance of RELIEF_SWITCHED makes the transmitter stop traffic on the old lane at the next comma, mark it retired and power it down. -/
  | reliefSwitched (p : Fin 2) (b : BackObs) (k : Fin 8)
  /-- RELIEF_REFUSE (R68): A received RELIEF_REFUSE abandons the relief and raises event 0x3008. -/
  | reliefRefuse (p : Fin 2) (b : BackObs) (k : Fin 8)
  /-- RETRAIN_REQ (R70): A received RETRAIN_REQ trains one retired lane alone up to READY and deskews it into the existing buffer as the relief lane. -/
  | retrainReq (p : Fin 2) (b : BackObs) (k : Fin 9)
  /-- RELIEVE_RX (R68): LANE_CMD RELIEVE_RX starts hitless relief of a receive lane at step 1, or answers ERR_BUSY when none is possible. -/
  | relieveRx (r : Req) (p : Fin 2) (k : Fin 16)
  /-- RELIEVE_TX (R68): LANE_CMD RELIEVE_TX starts hitless relief of a transmit lane at step 2 without a request. -/
  | relieveTx (r : Req) (p : Fin 2) (k : Fin 16)
  /-- RESTORE (R70): LANE_CMD RESTORE on a retired lane sends RETRAIN_REQ and retrains it as the relief lane, or raises event 0x3002 on failure. -/
  | restore (r : Req) (p : Fin 2) (k : Fin 16)
  /-- BEACON_ON (R73): LANE_CMD BEACON_ON starts the wake beacon on lane 0 of the port. -/
  | beaconOn (r : Req) (p : Fin 2)
  /-- BEACON_OFF (R73): LANE_CMD BEACON_OFF stops the wake beacon. -/
  | beaconOff (r : Req) (p : Fin 2)
  /-- BEACON_BURST (R73): Every 1 ms the device sends one 8 µs beacon burst on lane 0. -/
  | beaconBurst (p : Fin 2)
  /-- MARGIN_WINDOW_END (R64): At the end of a 65 536-codeword window, a count above SER_LIMIT sets MARGIN_LOW, raises event 0x300A and may start relief. -/
  | marginWindowEnd (p : Fin 2) (k : Fin 9) (corrected : Nat) (uncorr : Nat)
  /-- ESCAN_START (R66): Writing LANE_ESCAN_CTL.START = 1 starts an eye scan on the lanes in LMASK. -/
  | escanStart (r : Req) (p : Fin 2) (v : Word)
  /-- AUTO_ESCAN_PERIOD (R66): Once per MON_PERIOD, with ESC_AUTO = 1, the device scans every lane of the port against the thresholds of R64. -/
  | autoEscanPeriod (p : Fin 2)
  /-- ESCAN_DONE (R66): When the last selected lane finishes, results land in LANE_ESCAN_RES0-2 and event 0x300C is raised. -/
  | escanDone (p : Fin 2) (pts : List (List Nat))
  /-- WAKE_ACTIVITY (R72): Activity sustained for 4 µs on LA_RX0 or LB_RX0 is detected as a wake source. -/
  | wakeActivity (p : Fin 2)
  /-- ACK (R81): A received ACK frees acknowledged BK packets from the replay buffer and returns credits. -/
  | ack (p : Fin 2) (h : RxHdr) (aseq : BitVec 8) (cred : BitVec 16)
  /-- NAK (R81): A received NAK makes the transmitter resend every BK packet after the acknowledged SEQ. -/
  | nak (p : Fin 2) (h : RxHdr) (aseq : BitVec 8)
  /-- BK_REPLAY_TIMEOUT (R81): With no acknowledged progress for 8 µs the transmitter replays, and after 16 replays without progress the port goes down with event 0x3013. -/
  | bkReplayTimeout (p : Fin 2)
  /-- NEG_OFFER (R85): A received OFFER makes the device compute the result and send ACCEPT or REJECT. -/
  | negOffer (p : Fin 2) (h : RxHdr) (pay : NegPay)
  /-- NEG_ACCEPT (R85): A received ACCEPT equal to the device's makes the link OPERATIONAL with event 0x3010, or starts a retrain for a rate change. -/
  | negAccept (p : Fin 2) (h : RxHdr) (pay : NegPay)
  /-- NEG_REJECT (R85): A received REJECT counts toward NEG_FAIL after three. -/
  | negReject (p : Fin 2) (h : RxHdr) (reason : BitVec 8)
  /-- NEG_OFFER_REPEAT (R84): Every 100 µs until the peer's OFFER arrives, the device sends a NEG OFFER. -/
  | negOfferRepeat (p : Fin 2)
  /-- NEG_TIMEOUT (R85): 10 ms without a matching pair of ACCEPTs sets NEG_FAIL and raises event 0x3012. -/
  | negTimeout (p : Fin 2)
  /-- RENEG (R85): Writing LINK_CTL.RENEG restarts negotiation on the port, stopping RT and BK until OPERATIONAL. -/
  | reneg (r : Req) (p : Fin 2) (v : Word)
  /-- REG_WR (R89): A REG_WR packet writes one device register and is answered with RD_CPL. -/
  | regWr (p : Fin 2) (h : RxHdr) (sec : Option SecTrailer) (tag : BitVec 8) (addr : Word) (v : Word)
  /-- REG_RD (R89): A REG_RD packet reads one device register and returns the data in RD_CPL. -/
  | regRd (p : Fin 2) (h : RxHdr) (sec : Option SecTrailer) (tag : BitVec 8) (addr : Word)
  /-- MEM_WR (R91): A host MEM_WR writes 64-4 096 bytes into a device memory window and is answered with RD_CPL. -/
  | memWr (p : Fin 2) (h : RxHdr) (sec : Option SecTrailer) (tag : BitVec 8) (ch : BitVec 8) (addr : BitVec 64) (data : List Byte)
  /-- MEM_RD (R91): A host MEM_RD reads up to 64 blocks of a device memory window and returns them in RD_CPL. -/
  | memRd (p : Fin 2) (h : RxHdr) (sec : Option SecTrailer) (tag : BitVec 8) (flush : Bool) (nblk : BitVec 7) (addr : BitVec 64)
  /-- RD_CPL (R92): A completion for a device MEM_RD delivers data or an error status to the DMA transfer or flush that issued it. -/
  | rdCpl (p : Fin 2) (h : RxHdr) (sec : Option SecTrailer) (tag : BitVec 8) (status : BitVec 4) (last : Bool) (offs : BitVec 7) (data : List Byte)
  /-- CPL_TIMEOUT (R95): A device MEM_RD without its last completion after LINK_CPL_TMO ends its transfer with REMOTE_ERR and raises event 0x3015. -/
  | cplTimeout (p : Fin 2) (tag : BitVec 8)
  /-- MSG (R96): A host-to-device MSG fills and rings a mailbox channel in one operation and is answered with RD_CPL. -/
  | msg (p : Fin 2) (h : RxHdr) (sec : Option SecTrailer) (chan : Fin 32) (tag : BitVec 8) (words : List Word)
  /-- HELLO (R103): A HELLO on channel 0xFF ends any session and makes the enclave answer with KEY, or FAIL. -/
  | hello (p : Fin 2) (h : RxHdr) (sec : Option SecTrailer) (tag : BitVec 8) (nonce : BitVec 256) (cert : List Byte)
  /-- ENCAP (R103): An ENCAP completes the handshake by checking the host signature, deriving keys and sending DONE with event 0x3016, or FAIL. -/
  | encap (p : Fin 2) (h : RxHdr) (sec : Option SecTrailer) (tag : BitVec 8) (ct sig : List Byte)
  /-- CLOSE (R106): A secure CLOSE ends the session, discards both keys and raises event 0x3017. -/
  | close (p : Fin 2) (h : RxHdr) (sec : Option SecTrailer) (tag : BitVec 8)
  /-- HANDSHAKE_TIMEOUT (R103): More than 100 ms between HELLO and ENCAP ends the handshake with FAIL and event 0x3018. -/
  | handshakeTimeout (p : Fin 2)
  /-- SWITCH (R101): Writing LINK_DH_CTL.SWITCH triggers a failover, or answers ERR_BUSY while one is pending. -/
  | switch (r : Req) (v : Word)
  /-- FAILOVER_STALL_TIMEOUT (R101): A serving port STALLED longer than its failover stall time triggers a failover when FO_EN = 1. -/
  | failoverStallTimeout (p : Fin 2)
  /-- FAILOVER (R102): At the first symbol boundary at least 1 µs after the trigger, the other port serves the carrier, standby data takes over, and event 0x3014 is raised. -/
  | failover (c : Fin 8)
  /-- DH_MODE_APPLY (R100): A write of MODE, ACTIVE_B or LINK_DH_CARMAP takes effect per carrier at the carrier's next symbol boundary. -/
  | dhModeApply (c : Fin 8)
  /-- CPLANE (R107): A CPLANE packet's SECTION descriptors are taken in order and each is accepted, replaced, discarded as a duplicate or refused. -/
  | cplane (p : Fin 2) (h : RxHdr) (descs : List (BitVec 128))
  /-- LAYER_DL (R116): A LAYER_DL packet is checked against window, section and buffer space and buffered or dropped and counted. -/
  | layerDl (p : Fin 2) (h : RxHdr) (car : Fin 8) (sym : BitVec 4) (slot : BitVec 10) (secid : BitVec 12) (poff : BitVec 11) (pcnt : BitVec 11) (cw : BitVec 4) (ant : Bool) (stream : BitVec 7) (data : List Byte)
  /-- SECTION_LOCK (R124): A section locks when the latest limit of its CPLANE window passes for its first symbol. -/
  | sectionLock (c : Fin 8) (dir : Bool) (slot : BitVec 10) (secid : BitVec 12)
  /-- ORPHAN_DISCARD (R126): Data not covered by any accepted section when its window closes is discarded and counted in CAR_DL_ORPHAN_CNT. -/
  | orphanDiscard (c : Fin 8)
  /-- SYMBOL_READ (R177): At t_air − 34 µs the DL pipeline reads a symbol with its weights and fields, zeroing units without data and freeing finished sections. -/
  | symbolRead (c : Fin 8)
  /-- UL_SYMBOL (R212): After a symbol ends, U5-U7 remove the CP, transform, extract and combine the REs of locked sections and compress the units. -/
  | ulSymbol (c : Fin 8) (inp : RxIn)
  /-- UL_PACKET_SEND (R215): U8 forms and sends the LAYER_UL and SRS_RAW packets of a symbol, freeing UL buffer space as they leave. -/
  | ulPacketSend (p : Fin 2)
  /-- OVR_BLOCK (R217): A clipped 64-sample ADC block marks its overlapping symbols OVR, sets RXDP_OVR.OVR, counts and raises event 0x4020. -/
  | ovrBlock (path : Fin 64)
  /-- SYNC (R142): A TIME SYNC packet is stamped as t2, answered with DREQ stamped t3 and followed by REPORT. -/
  | sync (p : Fin 2) (h : RxHdr) (top : BitVec 4) (tseq : BitVec 16)
  /-- TD_OFFSET_COMMIT (R136): A committed TD_X_OFFSET sets the domain offset, re-anchors it and sets its VALID bit. -/
  | tdOffsetCommit (r : Req) (x : Fin 2) (w0 : Word) (w1 : Word) (w2 : Word) (w3 : Word)
  /-- TD_STEP_COMMIT (R136): A committed TD_X_STEP steps the domain time and re-anchors it, raising event 0xC006 for the selected domain. -/
  | tdStepCommit (r : Req) (x : Fin 2) (v : DWord)
  /-- TD_INC_COMMIT (R136): A committed TD_X_INC re-anchors the domain and sets the clamped increment and CLAMP bit. -/
  | tdIncCommit (r : Req) (x : Fin 2) (v : DWord)
  /-- TSEL_SWITCH (R139): A change of TIME_CTL.TSEL selects the other domain, sets TIME_TRANS so output time does not jump, raises event 0xC001 and starts a slew. -/
  | tselSwitch (r : Req) (v : Word)
  /-- SLEW_DONE (R140): When TIME_TRANS reaches 0, SLEWING clears and event 0xC002 is raised. -/
  | slewDone
  /-- PPSIN_CAPTURE (R144): A PPS_IN rising edge captures domain A, domain B and TB_CNT, clears PPSIN_LOST and raises event 0xC003. -/
  | ppsinCapture
  /-- PPSIN_LOST (R144): 1.1 s without a PPS_IN edge sets PPSIN_LOST and raises event 0xC004. -/
  | ppsinLost
  /-- PPS_OUT_RISE (R145): A natural rollover of the output seconds, delayed by DELAY, raises PPS_OUT. -/
  | ppsOutRise
  /-- PPS_OUT_FALL (R145): After WIDTH µs PPS_OUT falls. -/
  | ppsOutFall
  /-- ALIGN_CAPTURE (R146): An armed ALIGN_IN rise captures TB_CNT, clears ARM, raises event 0xC005 and starts a converter alignment in READY or a check in ACTIVE. -/
  | alignCapture (level : Bool)
  /-- SB_NOP (R160): Shiftboss NOP does nothing. -/
  | sbNop (e : Fin 5)
  /-- SB_HALT (R160): HALT stops the engine, clears RUN and raises event 0xA005. -/
  | sbHalt (e : Fin 5)
  /-- SB_AT (R157): AT waits for T = G[RA], running at once or skipping when late. -/
  | sbAt (e : Fin 5)
  /-- SB_AFTER (R160): AFTER waits for SB_TLAST plus a delta. -/
  | sbAfter (e : Fin 5)
  /-- SB_SYMWAIT (R158): SYMWAIT waits for the N-th symbol or slot boundary of a carrier plus OFS. -/
  | sbSymwait (e : Fin 5)
  /-- WAIT_RELEASE (R156): A waiting engine releases at its match cycle, sets SB_TLAST for time waits, and issues the next instruction. -/
  | waitRelease (e : Fin 5)
  /-- SB_SET (R160): SET stages a 32-bit register write. -/
  | sbSet (e : Fin 5)
  /-- SB_SETW (R160): SETW stages an atomic 64-bit register write. -/
  | sbSetw (e : Fin 5)
  /-- SB_SWAP (R163): SWAP stages a bank swap request for a resource at a boundary. -/
  | sbSwap (e : Fin 5)
  /-- SB_CAPTURE (R168): CAPTURE stages an observation or mirror capture request. -/
  | sbCapture (e : Fin 5)
  /-- SB_GATE (R165): GATE stages sleep or wake of the selected paths. -/
  | sbGate (e : Fin 5)
  /-- SB_FECTL (R166): FECTL stages a change of owned FE_CTL pins. -/
  | sbFectl (e : Fin 5)
  /-- SB_FESEND (R167): FESEND stages a FESPI frame, waiting for its end when R = 1. -/
  | sbFesend (e : Fin 5)
  /-- STAGED_EFFECT (R156): Staged instructions take effect together at their effect cycle. -/
  | stagedEffect (e : Fin 5) (mismatch : Bool)
  /-- SB_DISPATCH (R160): DISPATCH pushes a work item onto a Lode queue. -/
  | sbDispatch (e : Fin 5) (mismatch : Bool)
  /-- SB_DMAGO (R160): DMAGO starts or queues a DMA channel as the host's start write does. -/
  | sbDmago (e : Fin 5) (mismatch : Bool)
  /-- SB_POST (R160): POST writes 16 words into a mailbox and rings its doorbell. -/
  | sbPost (e : Fin 5) (mismatch : Bool)
  /-- SB_LOOP (R160): LOOP opens a counted loop, faulting beyond four levels. -/
  | sbLoop (e : Fin 5)
  /-- SB_ENDL (R160): ENDL decrements the innermost loop count and branches or pops. -/
  | sbEndl (e : Fin 5)
  /-- SB_BR (R160): BR branches to TARGET. -/
  | sbBr (e : Fin 5)
  /-- SB_BRC (R160): BRC branches when its condition holds. -/
  | sbBrc (e : Fin 5)
  /-- SB_CALL (R160): CALL pushes the call stack and branches. -/
  | sbCall (e : Fin 5)
  /-- SB_RET (R160): RET pops the call stack. -/
  | sbRet (e : Fin 5)
  /-- SB_WAITEV (R160): WAITEV waits for an event flag level or a timeout. -/
  | sbWaitev (e : Fin 5)
  /-- WAITEV_TIMEOUT (R160): A WAITEV whose TMO passes releases with C = 0. -/
  | waitevTimeout (e : Fin 5)
  /-- SB_SIGNAL (R160): SIGNAL sets or clears an event flag of the engine serving a role. -/
  | sbSignal (e : Fin 5) (mismatch : Bool)
  /-- SB_FENCE (R160): FENCE waits until every staged effect and write of the engine has taken effect. -/
  | sbFence (e : Fin 5)
  /-- SB_ADDI (R160): ADDI adds a signed immediate to a G register. -/
  | sbAddi (e : Fin 5)
  /-- SB_MOVI (R160): MOVI loads an immediate into a G register or its high half. -/
  | sbMovi (e : Fin 5)
  /-- ENGINE_FAULT (R170): An illegal word, stack or loop error, ECC, parity or BANKEND fault stops the engine, records FAULT and raises event 0xA004. -/
  | engineFault (e : Fin 5) (hard : Option Bool)
  /-- RUN (R171): Writing SB_CTL.RUN halts the engine after its current instruction or resumes it. -/
  | run (r : Req) (e : Fin 5) (run : Bool)
  /-- RESTART (R171): SB_CTL.RESTART sets the PC to ENTRY and clears C and both stacks, or answers ERR_BUSY while running. -/
  | restart (r : Req) (e : Fin 5) (run : Bool)
  /-- SB_SWAPREQ (R163): SB_SWAPREQ.REQ requests the engine's own program bank swap, at once when halted. -/
  | sbSwapreq (r : Req) (e : Fin 5) (v : Word)
  /-- SB_EVSET (R154): Writing SB_EVSET sets event flags. -/
  | sbEvset (r : Req) (e : Fin 5) (v : DWord)
  /-- SB_EVCLR (R154): Writing SB_EVCLR clears event flags. -/
  | sbEvclr (r : Req) (e : Fin 5) (v : DWord)
  /-- SB_FE_SAFE_WRITE (R166): Writing SB_FE_SAFE moves every pin not reached by an FECTL to the new level at once. -/
  | sbFeSafeWrite (r : Req) (v : Word)
  /-- SB_RELIEF_TARGET (R173): Writing SB_RELIEF.TARGET starts SB4 synchronizing with a role, or moves a faulted role to SB4. -/
  | sbReliefTarget (r : Req) (target : BitVec 4) (clr : Bool)
  /-- RELIEF_SYNCED (R173): SB4 copies the target at a halted or waiting cycle, sets SYNCED and raises event 0xA009. -/
  | reliefSynced
  /-- SB_RETIRE (R174): SB_RELIEF.RETIRE hands the target role to SB4, or answers ERR_BUSY without SYNCED. -/
  | sbRetire (r : Req)
  /-- FESPI_FRAME_END (R167): A FESPI frame ends, writes read data to RB, releases a waiting engine and starts the next queued frame. -/
  | fespiFrameEnd (p : Fin 4) (sdi : BitVec 64)
  /-- BANK_SWAP (R163): A pending swap of a double-banked resource changes the active bank at its role change, deferring it while a DMA writes the bank. -/
  | bankSwap (res : Fin 7) (idx : Fin 128)
  /-- SWAP_DEFER_RETRY (R153): A deferred TIME-kind swap is retried every 1 µs until the transfer has ended. -/
  | swapDeferRetry (res : Fin 7) (idx : Fin 128)
  /-- OLD_BANK_RELEASE (R525): When the last user of a bank that left the active role is done, its write protection and OLD_BUSY clear. -/
  | oldBankRelease (res : Fin 7) (idx : Fin 256)
  /-- CARRIER_ENABLE (R183): A write setting DL_EN or UL_EN checks the carrier, enabling it and setting BUSY or setting CFG_ERR with event 0x4012. -/
  | carrierEnable (r : Req) (c : Fin 8) (v : Word)
  /-- CARRIER_DRAINED (R183): When both enable bits are 0 and both directions have drained, CAR_STATUS.BUSY falls. -/
  | carrierDrained (c : Fin 8)
  /-- HOST_MUTE_RAMP_END (R197): The end of a host falling ramp sets TXDP_MUTE.MUTED. -/
  | hostMuteRampEnd (path : Fin 64)
  /-- MUTE_SOURCE_CLEAR (R197): A W1C clear of a hardware mute source clears it unless its cause remains, and may unmute the path. -/
  | muteSourceClear (r : Req) (path : Fin 64) (v : Word)
  /-- SLICE_RELIEF_TARGET (R199): Writing TXDP_SLICE_RELIEFs.TARGET starts shadowing a path on a spare slice, or connects a faulted path at once. -/
  | sliceReliefTarget (r : Req) (u : Fin 2) (v : Word)
  /-- SLICE_SYNCED (R199): After two boundaries per enabled carrier and 65 536 matching samples, SYNCED is set with event 0x4014. -/
  | sliceSynced (u : Fin 2) (mismatch : Bool)
  /-- SLICE_RETIRE (R200): TXDP_SLICE_RELIEFs.RETIRE makes the synchronized spare take over the path at a sample boundary. -/
  | sliceRetire (r : Req) (u : Fin 2) (v : Word)
  /-- SLICE_FAULT (R202): An uncorrectable slice fault hands the path to a synchronized spare, or mutes it with source SLICE and raises event 0x4013. -/
  | sliceFault (slice : Fin 66)
  /-- SLICE_TAKEN (R202): After two boundaries per enabled carrier, a fault-connected spare sets TAKEN and raises event 0x4015. -/
  | sliceTaken (u : Fin 2)
  /-- PRACH_ENABLE (R222): Writing RXDP_PRACH_CTLj.EN = 1 checks the configuration and enables it or sets CFG_ERR with event 0x4022. -/
  | prachEnable (r : Req) (j : Fin 4) (v : Word)
  /-- PRACH_OCCASION (R224): A PRACH occasion is extracted at U3's output and its repetitions are transformed and sent as PRACH packets. -/
  | prachOccasion (j : Fin 4) (inp : RxIn)
  /-- PRACH_DRAINED (R222): After the last PRACH packet of a started occasion completes with EN = 0, BUSY falls. -/
  | prachDrained (j : Fin 4)
  /-- BEAM_CW_ARM (R240): BEAM_CW_ARM arms a handle for a boundary, or is refused with BEAM_CW_ERR and event 0x4034. -/
  | beamCwArm (r : Req) (v : Word)
  /-- BEAM_CW_CANCEL (R243): BEAM_CW_ARM with CANCEL = 1 removes the arm and any waiting commit without counting a miss. -/
  | beamCwCancel (r : Req) (v : Word)
  /-- BEAM_CW_COMMIT (R241): BEAM_CW_COMMIT marks the inactive copy of a handle committed and schedules its flip. -/
  | beamCwCommit (r : Req) (v : Word)
  /-- CW_FLIP (R246): A committed copy becomes active at its role change, flipping A[h] and setting OLD_BUSY, or defers while DMA writes it. -/
  | cwFlip (dir : Fin 2) (h : Fin 256)
  /-- CW_MISS (R242): B − lead passing with the handle armed and uncommitted counts a miss, marks it STALE and raises event 0x4030. -/
  | cwMiss (dir : Fin 2) (h : Fin 256)
  /-- BEAM_SWAPREQ (R245): BEAM_SWAPREQ.REQ requests a whole-bank, explicit-half, taper or geometry swap, or answers ERR_BUSY. -/
  | beamSwapreq (r : Req) (v : Word)
  /-- BEAM_SS_CLR (R250): BEAM_SS_CLR zeroes a sounding set's slots and count before its next accumulation. -/
  | beamSsClr (r : Req) (v : Word)
  /-- SS_ACCUMULATE (R249): At an SRS symbol's end + 32.2 µs the accumulation completes and BEAM_SS_CNT increments. -/
  | ssAccumulate
  /-- DPD_SWAPREQ (R260): DPD_SWAPREQ.REQ requests a LUT bank swap for one path or all paths. -/
  | dpdSwapreq (r : Req) (v : Word)
  /-- OBS_CAP_REQ (R266): OBS_CAP_REQ.GO queues an observation or mirror capture request and writes its ticket, or answers ERR_BUSY. -/
  | obsCapReq (r : Req) (path : Fin 64) (v : Word)
  /-- CAPTURE_GRANT (R268): The Cage arbiter grants the oldest request for n_s slots when the previous grant ends. -/
  | captureGrant (a : Fin 72)
  /-- CAPTURE_GRANT_END (R267): A grant ends after its n_s slots and frees the receiver. -/
  | captureGrantEnd (a : Fin 72)
  /-- OBS_CAP_CANCEL (R270): OBS_CAP_CANCEL withdraws a path's request, aborting a granted capture with one dead slot. -/
  | obsCapCancel (r : Req) (path : Fin 64) (v : Word)
  /-- CAPTURE_DONE (R272): A capture writes its header last, sets DONE and STATUS and the SB_EVSRC flag, updates FROZEN and raises event 0x4043 if not DONE. -/
  | captureDone (a : Fin 72) (y : List (BitVec 32)) (ovr : Bool)
  /-- VSWR_WINDOW (R273): Every 256 TCLK cycles the VSWR detector evaluates the ratio, and NWIN out-of-band windows raise the alarm with event 0x4040. -/
  | vswrWindow (path : Fin 64) (seen : Nat)
  /-- ADC_ROTATION_START (R277): After each DWELL the spare sub-ADC begins sampling in parallel with the longest-serving one. -/
  | adcRotationStart (u : Fin 72)
  /-- ADC_ROTATION_SWAP (R277): After 4 096 compared samples the incoming sub-ADC takes the slot, or a second failure retires it. -/
  | adcRotationSwap (u : Fin 72) (agree : Bool)
  /-- SUBADC_RETIRE (R279): CONV_RXADC_CMD or CONV_OBS_CMDg RETIRE retires a sub-ADC, replacing a serving one and raising event 0x6020. -/
  | subadcRetire (r : Req) (u : Fin 72) (v : Word)
  /-- DAC_CELL_ROTATION (R282): After each DWELL the measured cell replaces the longest-serving cell at a DCLK boundary. -/
  | dacCellRotation (path : Fin 64)
  /-- DAC_CELL_RETIRE (R283): CONV_DAC_CMD RETIRE retires a cell, decrements SPARES and raises event 0x6022, or sets FAIL with event 0x6023. -/
  | dacCellRetire (r : Req) (path : Fin 64) (v : Word)
  /-- SOFT_ALIGN (R292): CONV_ALIGN_CTL.SOFT starts a converter alignment, or answers ERR_OFFLINE outside READY and ACTIVE. -/
  | softAlign (r : Req) (v : Word)
  /-- CONVERTER_ALIGNMENT (R292): At the 256th REFCLK edge the converters reset in READY with event 0x4050, or a check writes ERR in ACTIVE. -/
  | converterAlignment (err : BitVec 8)
  /-- LODE_WQ_PUSH (R308): LODE_WQ_PUSHq pushes a work item, or answers ERR_BUSY with event 0x9005 when the queue is full. -/
  | lodeWqPush (r : Req) (q : Fin 8) (v : Word)
  /-- ITEM_PULL (R309): An idle enabled core pulls the oldest item, checks its descriptor and starts the kernel or completes it as BADDESC or VERSION. -/
  | itemPull (c : Fin 34)
  /-- LODE_BUNDLE (R329): A core issues one bundle of up to three instructions, reading before and writing after, and runs loop end tests. -/
  | lodeBundle (c : Fin 34) (ecc : Fin 4)
  /-- FST_BUS_ERROR (R338): A non-OK response to a posted FST traps with code BUS at the next bundle boundary. -/
  | fstBusError (c : Fin 34)
  /-- WDOG (R321): Reaching the descriptor's WDOG limit traps the item with code WDOG. -/
  | wdog (c : Fin 34)
  /-- ITEM_COMPLETE (R312): At item end the core waits for its writes, writes the completion words and sets the SB_EVSRC flag and done count. -/
  | itemComplete (c : Fin 34)
  /-- CORE_FAULT (R322): An uncorrectable error in core memory or registers retires the core, reruns or fails the item and raises events 0x9003 and 0x9004. -/
  | coreFault (c : Fin 34)
  /-- LODE_RELIEF_RETIRE (R325): LODE_RELIEF.RETIRE stops a core pulling items and sets BUSY. -/
  | lodeReliefRetire (r : Req) (v : Word)
  /-- CORE_RELIEF (R325): After the retiring core's item ends and IMEM is copied, the relief core takes the logical number and event 0x9004 is raised. -/
  | coreRelief
  /-- SHARED_BANK_GRANT (R304): A shared-memory bank grants the oldest request each cluster cycle, issuing tickets to others. -/
  | sharedBankGrant (b : Fin 256) (arrive : List Nat) (leave : List Nat)
  /-- DMA_START (R354): DMA_GO.START copies the shadow set and begins the transfer, queues it, or answers ERR_BUSY. -/
  | dmaStart (r : Req) (c : Fin 16) (v : Word)
  /-- DMA_ABORT (R360): DMA_GO.ABORT ends a running transfer as ABORTED and discards a queued shadow set. -/
  | dmaAbort (r : Req) (c : Fin 16)
  /-- DMA_TRANSFER_END (R359): A transfer ends with its last block or at the first failure, flushes host writes and writes its completion record or waits in DONE_PENDING. -/
  | dmaTransferEnd (c : Fin 16) (ecc : Option Nat)
  /-- DMA_RECORD_WRITTEN (R366): After the record and its flush, the device sets the SB_EVSRC flag, raises events 0x8001 and 0x8002 and starts the queued shadow set. -/
  | dmaRecordWritten (c : Fin 16)
  /-- DMA_CQ_HEAD_WRITE (R364): A write of DMA_CQ_HEAD frees slots and lets waiting channels write their records in order. -/
  | dmaCqHeadWrite (r : Req) (q : Fin 4) (v : Word)
  /-- DMA_CQ_ENABLE (R367): Writing DMA_CQ_CFG.EN from 0 to 1 zeroes HEAD and TAIL and resolves the port; EN = 0 disables the queue. -/
  | dmaCqEnable (r : Req) (q : Fin 4) (v : Word)
  /-- MBX_MSG_WRITE (R370): A message word write claims or writes a mailbox, or answers ERR_BUSY. -/
  | mbxMsgWrite (r : Req) (c : Fin 32) (k : Fin 16) (v : Word)
  /-- MBX_DOORBELL (R371): A doorbell posts the message, sets FULL, increments SEQ, releases the claim and delivers it to the receiver. -/
  | mbxDoorbell (r : Req) (c : Fin 32) (v : Word)
  /-- MBX_ACK (R372): The receiver's read of MBX_MSG_15 clears FULL, sets the SB_EVSRC flag and may raise event 0x8005. -/
  | mbxAck (r : Req) (c : Fin 32)
  /-- MBX_FLUSH (R373): A receiver's MBX_FLUSH clears FULL, the claim and the buffer. -/
  | mbxFlush (r : Req) (c : Fin 32) (v : Word)
  /-- MBX_CLAIM_LAPSED (R370): A claimer that writes nothing for MBX_CLAIM_TMO loses its claim with event 0x8006. -/
  | mbxClaimLapsed (c : Fin 32)
  /-- TALLY_ACQUIRE (R375): A read of TALLY_LOCKk acquires a free lock and starts the hold timer, or returns the owner. -/
  | tallyAcquire (r : Req) (k : Fin 64)
  /-- TALLY_RELEASE (R377): A write of the owner's ID releases the lock; any other write answers ERR_NOTOWNER. -/
  | tallyRelease (r : Req) (k : Fin 64) (v : Word)
  /-- TALLY_HOLD_EXPIRY (R378): A lock held beyond TALLY_HOLDk is released with BROKEN, BCAUSE 1 and event 0x8003. -/
  | tallyHoldExpiry (k : Fin 64)
  /-- PORT_DOWN_LOCK_RELEASE (R379): A port down for LINK_DOWN_TMO frees its host's locks with BROKEN, BCAUSE 3 and event 0x8003. -/
  | portDownLockRelease (p : Fin 2)
  /-- ASSAY_RESULT (R385): An item's period yields a result that is applied, discarded as a failure, or NOTRUN, and may set FAIL with event 0x5001. -/
  | assayResult (item : Fin 9) (unit : Fin 72) (elem : Fin 128) (meas : Option (List Int)) (power : Nat) (val : Nat) (nblk : Nat)
  /-- ASSAY_SAVE (R394): ASSAY_SAVE.GO takes a snapshot of all values and starts writing the blob into shared memory. -/
  | assaySave (r : Req) (v : Word)
  /-- ASSAY_SAVE_DONE (R394): The save ends within 100 µs, sets DONE with result 1 and raises event 0x5003. -/
  | assaySaveDone
  /-- ASSAY_RESTORE (R396): ASSAY_RESTORE.GO checks the blob header and either refuses it or starts the restore. -/
  | assayRestore (r : Req) (v : Word)
  /-- ASSAY_RESTORE_DONE (R396): The restore's checks complete, replacing values with event 0x5003 or rejecting them with event 0x5004. -/
  | assayRestoreDone
  /-- MON_ENABLE (R401): Writing MON_CTL.EN = 1 starts the sequence at entry 0; EN = 0 abandons the entry in progress. -/
  | monEnable (r : Req) (v : Word)
  /-- MON_ENTRY_DONE (R400): An entry's conversions end, its result is written to MON_RESk and compared, and the next entry begins. -/
  | monEntryDone (inputs : List Int) (vref : Nat) (dev : List Int)
  /-- MON_URG (R404): MON_URG.GO queues an urgent request that preempts the sequence, or answers ERR_BUSY with event 0xB004. -/
  | monUrg (r : Req) (v : Word)
  /-- MON_URG_DONE (R406): An urgent request's result is written to MON_URG_RES or to Canary, and the abandoned entry restarts. -/
  | monUrgDone (inputs : List Int) (vref : Nat) (dev : List Int)
  /-- AUX_DAC_WRITE (R410): A write of AUX_DACn moves the output, starts a deglitch hold, or starts a range change. -/
  | auxDacWrite (r : Req) (n : Fin 72) (v : Word)
  /-- AUX_HOLD_END (R410): A 200 ns deglitch hold ends and the output starts moving to the new code. -/
  | auxHoldEnd (n : Fin 72)
  /-- AUX_RANGE_CHANGE_END (R410): 5 µs after a range change the output starts moving to the new code. -/
  | auxRangeChangeEnd (n : Fin 72)
  /-- AUX_CLRCODE_WRITE (R411): A write of AUX_CLRCODEn while CLEARED moves the output to the new clear code. -/
  | auxClrcodeWrite (r : Req) (n : Fin 72) (v : Word)
  /-- AUX_CLR_N_FALL (R413): AUX_CLR_N falling clears all channels to their clear codes, sets PINCLR and raises event 0xB012. -/
  | auxClrNFall
  /-- AUX_CLR_N_RISE (R413): AUX_CLR_N rising clears PINCLR while outputs stay at clear codes until rewritten. -/
  | auxClrNRise
  /-- CLRALL (R413): AUX_CTL.CLRALL clears every powered aux DAC channel. -/
  | clrall (r : Req) (v : Word)
  /-- AUX_SHORT (R414): A channel at its current limit for 10 µs sets SHORT and raises event 0xB010. -/
  | auxShort (n : Fin 72)
  /-- AUX_OPEN (R414): A channel below OPENMIN load current for 100 µs sets OPEN and raises event 0xB011. -/
  | auxOpen (n : Fin 72)
  /-- PWR_CMD (R416): Writing PWR_CMD.TARGET starts a permitted transition or answers ERR_BUSY. -/
  | pwrCmd (r : Req) (v : Word)
  /-- POWER_STEP (R419): The fixed delay of a bring-up or descent step expires and the next step's action runs, ending at the target state with event 0x1001. -/
  | powerStep (refclk swapped : Bool) (lost : BitVec 7)
  /-- WAKE (R424): A detected wake source records PWR_WAKESRC and starts the wake to IDLE, which trains the ports in TRAIN and raises event 0x1004. -/
  | wake (mask : BitVec 4)
  /-- PWR_CLASS_WRITE (R429): A write of PWR_CLASS changes the Lode clock, DPD pausing and TOFF carriers and raises event 0x1006. -/
  | pwrClassWrite (r : Req) (v : Word)
  /-- CANARY_UPDATE (R431): Every 100 µs Canary reads its sensors, marks broken ones and sets or clears WARN, THROT and CRIT. -/
  | canaryUpdate (reads : List (Option (BitVec 16 × Bool)))
  /-- THROT_ENFORCED (R434): The grace timer expiring while THROT is set raises the power class one step with events 0x2006 and 0x1006. -/
  | throtEnforced
  /-- SAFE_CLEAR (R437): Writing 1 to PWR_STATUS.SAFE leaves SAFE and releases FAULT_N unless the temperature is still high. -/
  | safeClear (r : Req) (v : Word)
  /-- FAULT_PIN (R438): Canary's 100 µs sample of FAULT_N finding an external low raises event 0x2007. -/
  | faultPin (low : Bool)
  /-- SUPPLY_CHECK (R438): With SUPCHK every 100 µs Canary checks one rail by an urgent request, raising event 0x2008 beyond 5 %. -/
  | supplyCheck
  /-- REFCLK_LOST (R507): Loss of REFCLK lock in IDLE, READY or ACTIVE holds the PLLs and raises event 0x1011. -/
  | refclkLost
  /-- REFCLK_RELOCK (R507): REFCLK returning relocks the PLLs and sets REFCLK_LOCK again. -/
  | refclkRelock (swapped : Bool)
  /-- ADIT_FETCH (R440): With a valid boot record and an OPERATIONAL MEMMASTER port, Adit fetches the image from host memory. -/
  | aditFetch (dst : BitVec 8) (data : List Byte)
  /-- ADIT_WAIT_TIMEOUT (R440): After 2 s without a usable port Adit waits for a LOAD message instead. -/
  | aditWaitTimeout
  /-- BOOT_DONE (R440): A verified image is copied to FW0, recorded in SEC_BOOTREC, and firmware starts with event 0x7001. -/
  | bootDone
  /-- LOAD (R446): A LOAD message makes Adit verify and load an image, or reply with a failure status and event 0x7002. -/
  | load (c : Fin 32) (dst : BitVec 8) (data : List Byte)
  /-- STAGE (R462): A STAGE message fetches and verifies an image into the inactive FW bank, setting STAGED with event 0x7003. -/
  | stage (c : Fin 32) (dst : BitVec 8) (data : List Byte)
  /-- FW_SWAP (R463): A SWAP message schedules a firmware swap at time T, or answers LATE or NOSTAGE. -/
  | fwSwap (c : Fin 32)
  /-- FW_SWAPPED (R463): At the swap instant FWSEL flips, the boot record takes the new image, and Foreman restarts with event 0x7004. -/
  | fwSwapped
  /-- ATTEST (R459): An ATTEST message makes firmware and enclave write a signed report, raising event 0x7008. -/
  | attest (c : Fin 32)
  /-- ID_GET (R457): An ID_GET message writes the identity public key to its destination. -/
  | idGet (c : Fin 32)
  /-- ROOT_PROG (R454): A ROOT_PROG message programs a root slot's key hash in OTP. -/
  | rootProg (c : Fin 32)
  /-- ROOT_REVOKE (R455): A ROOT_REVOKE message revokes a root slot, closes its sessions, discards staged images under it and raises event 0x7007. -/
  | rootRevoke (c : Fin 32)
  /-- SVN_COMMIT (R454): An SVN_COMMIT message raises the anti-rollback floor. -/
  | svnCommit (c : Fin 32)
  /-- LC_ADVANCE (R453): An LC_ADVANCE message moves the lifecycle forward and raises event 0x7006. -/
  | lcAdvance (c : Fin 32)
  /-- ID_GEN (R456): An ID_GEN message draws a seed, derives and seals the identity and stores its hash in OTP. -/
  | idGen (c : Fin 32)
  /-- REPAIR_COMMIT (R477): A REPAIR_COMMIT message writes an OTP repair record for a retired unit and raises event 0x6008. -/
  | repairCommit (c : Fin 32)
  /-- OTP_OPERATION_DONE (R454): An OTP programming operation finishes with its valid marker written last and the reply posted. -/
  | otpOperationDone (ok : Bool)
  /-- MSPI_WRITE (R443): A management-port WRITE frame writes up to 64 words, each carried out when its fourth byte arrives. -/
  | mspiWrite (addr : Word) (words : List Word)
  /-- MSPI_READ (R443): A management-port READ frame reads up to 64 words, each returned with a response token. -/
  | mspiRead (addr : Word) (n : Fin 64)
  /-- MSPI_STATUS (R443): A management-port STATUS frame returns and clears WERR and the first failed write's response code. -/
  | mspiStatus
  /-- BF_COLUMN_RELIEF (R466): A residue error zeroes the result and moves the antenna to the group's spare column with event 0x6002, or disables it with event 0x6003. -/
  | bfColumnRelief (dir : Fin 2) (ant : Fin 64) (car : Fin 8) (re : Nat)
  /-- ECC_UNCORRECTABLE (R469): An uncorrectable SRAM error is reported to its reader, counted and raises event 0x6007. -/
  | eccUncorrectable (array : Nat) (row : Fin 128) (addr : Nat)
  /-- SCRUB_PASS (R470): Each REPAIR_SCRUB period the scrubber corrects and writes back words, counting them and raising event 0x6006. -/
  | scrubPass (errs : List (Nat × Fin 128 × Nat))
  /-- SRAM_ROW_RELIEF (R471): A failing row is copied to a spare row within 10 µs and remapped at one cycle with event 0x6004, or reported with event 0x6005. -/
  | sramRowRelief (array : Nat) (row : Fin 128)
  /-- FOREMAN_LOCKSTEP (R472): A lockstep mismatch restarts both Foreman cores at ENTRY and raises event 0x6010. -/
  | foremanLockstep
  /-- EVT_IRQ_ACK (R482): Writing EVT_IRQ_ACK moves the acknowledgement point and releases IRQ_N when no enabled record remains. -/
  | evtIrqAck (r : Req) (v : Word)
  /-- FE_SHORT (R499): An FE_CTL pin whose ball level differs from its drive for 10 µs raises event 0xA00C. -/
  | feShort (pin : Fin 32)
  /-- PMU_COUNTER_WRITE (R489): A write of PMU_CNTk stores the value, discarding a same-cycle carry and setting OVF_LOST. -/
  | pmuCounterWrite (r : Req) (b : Fin 46) (k : Fin 8) (v : Word) (amt : Nat)
  /-- PMU_SEL_WRITE (R491): A write of PMU_SELk changes the selected event from the next cycle. -/
  | pmuSelWrite (r : Req) (b : Fin 46) (k : Fin 8) (v : Word)
  /-- FREEZE (R492): Writing PMU_CTL.FREEZE stops or resumes every bank at an instant 8 CCLK later. -/
  | freeze (r : Req) (v : Word)
  /-- SNAP (R493): Writing PMU_CTL.SNAP copies every counter and TB_CNT at one instant, or answers ERR_BUSY while one runs. -/
  | snap (r : Req) (v : Word)
  /-- PMU_OVERFLOW_FREEZE (R494): An overflow of a counter with FOVF freezes the PMU when FRZ_OVF = 1 and sets OVFZ and OVFBANK. -/
  | pmuOverflowFreeze
  /-- VDD_AON_LOSS (R415): Removal of VDD_AON puts the device in OFF, losing TB_CNT, the event log, the mailbox buffers and the boot record. -/
  | vddAonLoss
  /-- FAR_END_RXRDY (R49): A training control word from the far end with RXRDY = 1 moves a lane in COEF whose own RXRDY has been sent to READY. -/
  | farEndRxrdy (p : Fin 2) (k : Fin 9) (word : BitVec 128)
  /-- FIRMWARE_REPLY (R463): Restarted Foreman firmware posts its first reply, ending the Assay pause of items 3-8 (FWPAUSE) and returning DMA channel 15. -/
  | firmwareReply
  deriving DecidableEq, Repr

end Sys2Proof
end

