-- ==== Sys2Proof/Decode.lean ====
section
/-! DEFINITION. Table words. The rows of the spec's table are operations and events of a block: the spec gives none of them bits, so no word spells a
command. -/
namespace Sys2Proof

/-- The command that a word spells by the table's bits: none, whatever the word. -/
def decodeTableWord (_nbits _w : Nat) : Option Instr := none

end Sys2Proof
end

