-- ==== Sys2Proof/Machine/RegMap.lean ====
section
/-! DEFINITION. The register map: for every register table of the spec its address (`Reg.NAME`), its fields (`Fld.NAME_FIELD`)
and one row of its block's table (fields with type R6 and reset value R8). Registers that repeat (ports, paths, engines, …) take their
indices as arguments. Addresses are the device register space of R20 and R21; names are the spec's own. -/
namespace Sys2Proof.Machine

/-- A field `[msb:lsb]` of a register word (R3). -/
structure Field where
  lsb : Nat
  width : Nat
  deriving DecidableEq, Repr

/-- The Type column of a register table (R6). -/
inductive Access where
  | rw | ro | wo | w1c | w1s | rc
  deriving DecidableEq, Repr

/-- One field of a register table: its bits, its type and its reset value (R6, R8). -/
structure FieldRow where
  fld : Field
  acc : Access
  reset : Nat
  deriving DecidableEq, Repr

/-- One register of the map: its first byte address, the strides and counts it repeats with, how many 32-bit words it has
(R29: 2 for a 64-bit register; R134: 4 for a time-form register), and the fields of its first and of its later words. -/
structure RegRow where
  base : Nat
  dims : List (Nat × Nat)
  words : Nat
  fields : List FieldRow
  later : List FieldRow
  deriving DecidableEq, Repr

namespace Reg
/-- SYS_ID (0x000), 01_architecture.md. -/
def SYS_ID : Nat := 0x0
/-- SYS_STEP (0x004), 01_architecture.md. -/
def SYS_STEP : Nat := 0x4
/-- SYS_SERIAL_LO (0x008), SYS_SERIAL_HI (0x00C), 01_architecture.md. -/
def SYS_SERIAL : Nat := 0x8
/-- SYS_CLK_STATUS (0x010), 01_architecture.md. -/
def SYS_CLK_STATUS : Nat := 0x10
/-- SYS_ACCERR (0x020), 01_architecture.md. -/
def SYS_ACCERR : Nat := 0x20
/-- SYS_ACCERR_ADDR (0x024), 01_architecture.md. -/
def SYS_ACCERR_ADDR : Nat := 0x24
/-- PWR_CMD (0x000), 17_power_thermal.md. -/
def PWR_CMD : Nat := 0x10000
/-- PWR_STATUS (0x004), 17_power_thermal.md. -/
def PWR_STATUS : Nat := 0x10004
/-- PWR_CTL (0x008), 17_power_thermal.md. -/
def PWR_CTL : Nat := 0x10008
/-- PWR_CLASS (0x00C), 17_power_thermal.md. -/
def PWR_CLASS : Nat := 0x1000C
/-- PWR_RETMASK (0x010), PWR_RETLOST (0x014), 17_power_thermal.md. -/
def PWR_RETMASK : Nat := 0x10010
/-- PWR_RETMASK (0x010), PWR_RETLOST (0x014), 17_power_thermal.md. -/
def PWR_RETLOST : Nat := 0x10014
/-- PWR_WAKESRC (0x018), 17_power_thermal.md. -/
def PWR_WAKESRC : Nat := 0x10018
/-- CANARY_CTL (0x000), 17_power_thermal.md. -/
def CANARY_CTL : Nat := 0x20000
/-- CANARY_STAT (0x004), 17_power_thermal.md. -/
def CANARY_STAT : Nat := 0x20004
/-- CANARY_THR (0x008), 17_power_thermal.md. -/
def CANARY_THR : Nat := 0x20008
/-- CANARY_GRACE (0x00C), 17_power_thermal.md. -/
def CANARY_GRACE : Nat := 0x2000C
/-- CANARY_BROKEN (0x010), CANARY_MASK (0x018), 17_power_thermal.md. -/
def CANARY_BROKEN : Nat := 0x20010
/-- CANARY_BROKEN (0x010), CANARY_MASK (0x018), 17_power_thermal.md. -/
def CANARY_MASK : Nat := 0x20018
/-- CANARY_TEMPk (0x100 + k × 4), 17_power_thermal.md. -/
def CANARY_TEMP (i0 : Nat) : Nat := 0x20100 + 0x4 * i0
/-- TIME_CTL (0x000), 05_timebase.md. -/
def TIME_CTL : Nat := 0x30000
/-- TIME_STATUS (0x004), 05_timebase.md. -/
def TIME_STATUS : Nat := 0x30004
/-- TIME_TSW_SLEW (0x008), 05_timebase.md. -/
def TIME_TSW_SLEW : Nat := 0x30008
/-- TIME_TB_CNT (0x010), 05_timebase.md. -/
def TIME_TB_CNT : Nat := 0x30010
/-- TD_A_OFFSET, TD_B_OFFSET (time form, R134), 05_timebase.md. -/
def TD_OFFSET (i0 : Nat) : Nat := 0x30020 + 0x40 * i0
/-- TD_A_INC (0x030), TD_B_INC (0x070), 05_timebase.md. -/
def TD_INC (i0 : Nat) : Nat := 0x30030 + 0x40 * i0
/-- TD_A_STEP (0x038), TD_B_STEP (0x078), 05_timebase.md. -/
def TD_STEP (i0 : Nat) : Nat := 0x30038 + 0x40 * i0
/-- TD_A_ANCHOR (0x040), TD_B_ANCHOR (0x080), 05_timebase.md. -/
def TD_ANCHOR (i0 : Nat) : Nat := 0x30040 + 0x40 * i0
/-- TD_A_NOW, TD_B_NOW (time form, R134), 05_timebase.md. -/
def TD_NOW (i0 : Nat) : Nat := 0x30050 + 0x40 * i0
/-- TIME_NOW (time form, R134), 05_timebase.md. -/
def TIME_NOW : Nat := 0x300A0
/-- TIME_TRANS (0x0B0), 05_timebase.md. -/
def TIME_TRANS : Nat := 0x300B0
/-- TIME_PPSIN_A, TIME_PPSIN_B (time form, R134), 05_timebase.md. -/
def TIME_PPSIN (i0 : Nat) : Nat := 0x300C0 + 0x10 * i0
/-- TIME_PPSIN_TB (0x0E0), 05_timebase.md. -/
def TIME_PPSIN_TB : Nat := 0x300E0
/-- TIME_PPSO_CFG (0x0F0), 05_timebase.md. -/
def TIME_PPSO_CFG : Nat := 0x300F0
/-- TIME_PORTCOMP_A (0x100), TIME_PORTCOMP_B (0x104), 05_timebase.md. -/
def TIME_PORTCOMP (i0 : Nat) : Nat := 0x30100 + 0x4 * i0
/-- TIME_ALIGN_CTL (0x110), 05_timebase.md. -/
def TIME_ALIGN_CTL : Nat := 0x30110
/-- TIME_ALIGN_CAP (0x118), 05_timebase.md. -/
def TIME_ALIGN_CAP : Nat := 0x30118
/-- MBX_MSG_k (0x000 + k × 4), 14_dma_mailboxes.md. -/
def MBX_MSG (i0 : Nat) (i1 : Nat) : Nat := 0x40000 + 0x100 * i0 + 0x4 * i1
/-- MBX_DOORBELL (0x040), 14_dma_mailboxes.md. -/
def MBX_DOORBELL (i0 : Nat) : Nat := 0x40040 + 0x100 * i0
/-- MBX_STAT (0x044), 14_dma_mailboxes.md. -/
def MBX_STAT (i0 : Nat) : Nat := 0x40044 + 0x100 * i0
/-- MBX_CFG (0x048), 14_dma_mailboxes.md. -/
def MBX_CFG (i0 : Nat) : Nat := 0x40048 + 0x100 * i0
/-- MBX_FLUSH (0x04C), 14_dma_mailboxes.md. -/
def MBX_FLUSH (i0 : Nat) : Nat := 0x4004C + 0x100 * i0
/-- MBX_DESC (0x050), 14_dma_mailboxes.md. -/
def MBX_DESC (i0 : Nat) : Nat := 0x40050 + 0x100 * i0
/-- MBX_FULLMAP (0x2000), 14_dma_mailboxes.md. -/
def MBX_FULLMAP : Nat := 0x42000
/-- MBX_CLAIM_TMO (0x2004), 14_dma_mailboxes.md. -/
def MBX_CLAIM_TMO : Nat := 0x42004
/-- TALLY_LOCKk (0x3000 + k × 4), 14_dma_mailboxes.md. -/
def TALLY_LOCK (i0 : Nat) : Nat := 0x43000 + 0x4 * i0
/-- TALLY_HOLDk (0x3100 + k × 4), 14_dma_mailboxes.md. -/
def TALLY_HOLD (i0 : Nat) : Nat := 0x43100 + 0x4 * i0
/-- TALLY_STATk (0x3200 + k × 4), 14_dma_mailboxes.md. -/
def TALLY_STAT (i0 : Nat) : Nat := 0x43200 + 0x4 * i0
/-- DMA_SRC (0x000), DMA_DST (0x008), 14_dma_mailboxes.md. -/
def DMA_SRC (i0 : Nat) : Nat := 0x50000 + 0x100 * i0
/-- DMA_SRC (0x000), DMA_DST (0x008), 14_dma_mailboxes.md. -/
def DMA_DST (i0 : Nat) : Nat := 0x50008 + 0x100 * i0
/-- DMA_LEN (0x010), 14_dma_mailboxes.md. -/
def DMA_LEN (i0 : Nat) : Nat := 0x50010 + 0x100 * i0
/-- DMA_CFG (0x014), 14_dma_mailboxes.md. -/
def DMA_CFG (i0 : Nat) : Nat := 0x50014 + 0x100 * i0
/-- DMA_GO (0x018), 14_dma_mailboxes.md. -/
def DMA_GO (i0 : Nat) : Nat := 0x50018 + 0x100 * i0
/-- DMA_STAT (0x01C), 14_dma_mailboxes.md. -/
def DMA_STAT (i0 : Nat) : Nat := 0x5001C + 0x100 * i0
/-- DMA_PROG (0x020), 14_dma_mailboxes.md. -/
def DMA_PROG (i0 : Nat) : Nat := 0x50020 + 0x100 * i0
/-- DMA_CQ_BASE (queue, 0x00), 14_dma_mailboxes.md. -/
def DMA_CQ_BASE (i0 : Nat) : Nat := 0x51000 + 0x20 * i0
/-- DMA_CQ_CFG (queue, 0x08), 14_dma_mailboxes.md. -/
def DMA_CQ_CFG (i0 : Nat) : Nat := 0x51008 + 0x20 * i0
/-- DMA_CQ_HEAD (queue, 0x0C), DMA_CQ_TAIL (queue, 0x10), 14_dma_mailboxes.md. -/
def DMA_CQ_HEAD (i0 : Nat) : Nat := 0x5100C + 0x20 * i0
/-- DMA_CQ_HEAD (queue, 0x0C), DMA_CQ_TAIL (queue, 0x10), 14_dma_mailboxes.md. -/
def DMA_CQ_TAIL (i0 : Nat) : Nat := 0x51010 + 0x20 * i0
/-- PMU_CTL (0x000), 20_performance_counters.md. -/
def PMU_CTL : Nat := 0x60000
/-- PMU_STAT (0x004), 20_performance_counters.md. -/
def PMU_STAT : Nat := 0x60004
/-- PMU_SNAP_TB (0x008), 20_performance_counters.md. -/
def PMU_SNAP_TB : Nat := 0x60008
/-- PMU_USER (0x010), 20_performance_counters.md. -/
def PMU_USER : Nat := 0x60010
/-- PMU_OVFSUM (0x018), 20_performance_counters.md. -/
def PMU_OVFSUM : Nat := 0x60018
/-- PMU_CNTk (bank, 0x00 + k × 4), 20_performance_counters.md. -/
def PMU_CNT (i0 : Nat) (i1 : Nat) : Nat := 0x61000 + 0x100 * i0 + 0x4 * i1
/-- PMU_SNAPk (bank, 0x20 + k × 4), 20_performance_counters.md. -/
def PMU_SNAP (i0 : Nat) (i1 : Nat) : Nat := 0x61020 + 0x100 * i0 + 0x4 * i1
/-- PMU_SELk (bank, 0x40 + k × 4), 20_performance_counters.md. -/
def PMU_SEL (i0 : Nat) (i1 : Nat) : Nat := 0x61040 + 0x100 * i0 + 0x4 * i1
/-- PMU_BANK_OVF (bank, 0x80), 20_performance_counters.md. -/
def PMU_BANK_OVF (i0 : Nat) : Nat := 0x61080 + 0x100 * i0
/-- EVT_NEXT (0x000), 19_repair_availability.md. -/
def EVT_NEXT : Nat := 0x70000
/-- EVT_OLDEST (0x004), 19_repair_availability.md. -/
def EVT_OLDEST : Nat := 0x70004
/-- EVT_STAT (0x008), 19_repair_availability.md. -/
def EVT_STAT : Nat := 0x70008
/-- EVT_IRQ_EN (0x00C), 19_repair_availability.md. -/
def EVT_IRQ_EN : Nat := 0x7000C
/-- EVT_IRQ_ACK (0x010), 19_repair_availability.md. -/
def EVT_IRQ_ACK : Nat := 0x70010
/-- EVT_REC (0x1000–0x8FFF), 19_repair_availability.md. -/
def EVT_REC (i0 : Nat) : Nat := 0x71000 + 0x4 * i0
/-- LINK_CTL (0x000), 03_link.md. -/
def LINK_CTL (i0 : Nat) : Nat := 0x80000 + 0x10000 * i0
/-- LINK_FEAT_OFFER (0x004), 03_link.md. -/
def LINK_FEAT_OFFER (i0 : Nat) : Nat := 0x80004 + 0x10000 * i0
/-- LINK_STATUS (0x008), 03_link.md. -/
def LINK_STATUS (i0 : Nat) : Nat := 0x80008 + 0x10000 * i0
/-- LINK_NEG_RES (0x00C), 03_link.md. -/
def LINK_NEG_RES (i0 : Nat) : Nat := 0x8000C + 0x10000 * i0
/-- LINK_EVT_MASK (0x010), 03_link.md. -/
def LINK_EVT_MASK (i0 : Nat) : Nat := 0x80010 + 0x10000 * i0
/-- LINK_CPL_TMO (0x014), 03_link.md. -/
def LINK_CPL_TMO (i0 : Nat) : Nat := 0x80014 + 0x10000 * i0
/-- LINK_DOWN_TMO (0x018), 03_link.md. -/
def LINK_DOWN_TMO (i0 : Nat) : Nat := 0x80018 + 0x10000 * i0
/-- LINK_ERR (0x01C), 03_link.md. -/
def LINK_ERR (i0 : Nat) : Nat := 0x8001C + 0x10000 * i0
/-- LINK_SEC_STAT (0x020), 03_link.md. -/
def LINK_SEC_STAT (i0 : Nat) : Nat := 0x80020 + 0x10000 * i0
/-- LINK_DH_CTL (0x030), 03_link.md. -/
def LINK_DH_CTL : Nat := 0x80030
/-- LINK_DH_CARMAP (0x034), 03_link.md. -/
def LINK_DH_CARMAP : Nat := 0x80034
/-- Counters (0x040–0x06C), 03_link.md. -/
def LINK_RT_RX_CNT (i0 : Nat) : Nat := 0x80040 + 0x10000 * i0
/-- Counters (0x040–0x06C), 03_link.md. -/
def LINK_RT_LOST_CNT (i0 : Nat) : Nat := 0x80048 + 0x10000 * i0
/-- Counters (0x040–0x06C), 03_link.md. -/
def LINK_RT_ERR_CNT (i0 : Nat) : Nat := 0x80050 + 0x10000 * i0
/-- Counters (0x040–0x06C), 03_link.md. -/
def LINK_BK_RX_CNT (i0 : Nat) : Nat := 0x80058 + 0x10000 * i0
/-- Counters (0x040–0x06C), 03_link.md. -/
def LINK_REPLAY_CNT (i0 : Nat) : Nat := 0x80060 + 0x10000 * i0
/-- Counters (0x040–0x06C), 03_link.md. -/
def LINK_RT_IGN_CNT (i0 : Nat) : Nat := 0x80068 + 0x10000 * i0
/-- LANE_PCTL (0x000), 02_lanes.md. -/
def LANE_PCTL (i0 : Nat) : Nat := 0xA0000 + 0x40 * i0
/-- LANE_PSTAT (0x004), 02_lanes.md. -/
def LANE_PSTAT (i0 : Nat) : Nat := 0xA0004 + 0x40 * i0
/-- LANE_PMAP_RX (0x008), LANE_PMAP_TX (0x00C), 02_lanes.md. -/
def LANE_PMAP_RX (i0 : Nat) : Nat := 0xA0008 + 0x40 * i0
/-- LANE_PMAP_RX (0x008), LANE_PMAP_TX (0x00C), 02_lanes.md. -/
def LANE_PMAP_TX (i0 : Nat) : Nat := 0xA000C + 0x40 * i0
/-- LANE_CMD (0x010), 02_lanes.md. -/
def LANE_CMD (i0 : Nat) : Nat := 0xA0010 + 0x40 * i0
/-- LANE_THR (0x014), 02_lanes.md. -/
def LANE_THR (i0 : Nat) : Nat := 0xA0014 + 0x40 * i0
/-- LANE_ESCAN_CTL (0x020), 02_lanes.md. -/
def LANE_ESCAN_CTL (i0 : Nat) : Nat := 0xA0020 + 0x40 * i0
/-- LANE_LSTAT (0x1000), 02_lanes.md. -/
def LANE_LSTAT (i0 : Nat) (i1 : Nat) : Nat := 0xA1000 + 0x1000 * i0 + 0x100 * i1
/-- LANE_FFE (0x1004), 02_lanes.md. -/
def LANE_FFE (i0 : Nat) (i1 : Nat) : Nat := 0xA1004 + 0x1000 * i0 + 0x100 * i1
/-- LANE_TXCFG (0x1008), 02_lanes.md. -/
def LANE_TXCFG (i0 : Nat) (i1 : Nat) : Nat := 0xA1008 + 0x1000 * i0 + 0x100 * i1
/-- LANE_CW_CNT (0x1010), LANE_CORR_CNT (0x1018), 02_lanes.md. -/
def LANE_CW_CNT (i0 : Nat) (i1 : Nat) : Nat := 0xA1010 + 0x1000 * i0 + 0x100 * i1
/-- LANE_CW_CNT (0x1010), LANE_CORR_CNT (0x1018), 02_lanes.md. -/
def LANE_CORR_CNT (i0 : Nat) (i1 : Nat) : Nat := 0xA1018 + 0x1000 * i0 + 0x100 * i1
/-- LANE_UNCORR_CNT (0x1020), 02_lanes.md. -/
def LANE_UNCORR_CNT (i0 : Nat) (i1 : Nat) : Nat := 0xA1020 + 0x1000 * i0 + 0x100 * i1
/-- LANE_ESCAN_RES0 (0x1030), RES1 (0x1034), RES2 (0x1038), 02_lanes.md. -/
def LANE_ESCAN_RES (i0 : Nat) (i1 : Nat) (i2 : Nat) : Nat := 0xA1030 + 0x1000 * i0 + 0x100 * i1 + 0x4 * i2
/-- LANE_ESCAN_STAT (0x103C), 02_lanes.md. -/
def LANE_ESCAN_STAT (i0 : Nat) (i1 : Nat) : Nat := 0xA103C + 0x1000 * i0 + 0x100 * i1
/-- SB_CTL (0x000), 06_shiftboss.md. -/
def SB_CTL (i0 : Nat) : Nat := 0x100000 + 0x1000 * i0
/-- SB_STATUS (0x004), 06_shiftboss.md. -/
def SB_STATUS (i0 : Nat) : Nat := 0x100004 + 0x1000 * i0
/-- SB_SWAPREQ (0x008), 06_shiftboss.md. -/
def SB_SWAPREQ (i0 : Nat) : Nat := 0x100008 + 0x1000 * i0
/-- SB_SWAPT (0x010), 06_shiftboss.md. -/
def SB_SWAPT (i0 : Nat) : Nat := 0x100010 + 0x1000 * i0
/-- SB_TLAST (0x018), 06_shiftboss.md. -/
def SB_TLAST (i0 : Nat) : Nat := 0x100018 + 0x1000 * i0
/-- SB_EVF (0x020), SB_EVSET (0x028), SB_EVCLR (0x030), 06_shiftboss.md. -/
def SB_EVF (i0 : Nat) : Nat := 0x100020 + 0x1000 * i0
/-- SB_EVF (0x020), SB_EVSET (0x028), SB_EVCLR (0x030), 06_shiftboss.md. -/
def SB_EVSET (i0 : Nat) : Nat := 0x100028 + 0x1000 * i0
/-- SB_EVF (0x020), SB_EVSET (0x028), SB_EVCLR (0x030), 06_shiftboss.md. -/
def SB_EVCLR (i0 : Nat) : Nat := 0x100030 + 0x1000 * i0
/-- SB_ERR (0x038), 06_shiftboss.md. -/
def SB_ERR (i0 : Nat) : Nat := 0x100038 + 0x1000 * i0
/-- SB_ERR_ADDR (0x03C), 06_shiftboss.md. -/
def SB_ERR_ADDR (i0 : Nat) : Nat := 0x10003C + 0x1000 * i0
/-- Counters (0x040–0x04C), 06_shiftboss.md. -/
def SB_LATE_CNT (i0 : Nat) : Nat := 0x100040 + 0x1000 * i0
/-- Counters (0x040–0x04C), 06_shiftboss.md. -/
def SB_SKIP_CNT (i0 : Nat) : Nat := 0x100044 + 0x1000 * i0
/-- Counters (0x040–0x04C), 06_shiftboss.md. -/
def SB_DEFER_CNT (i0 : Nat) : Nat := 0x100048 + 0x1000 * i0
/-- Counters (0x040–0x04C), 06_shiftboss.md. -/
def SB_ISSUE_FAIL_CNT (i0 : Nat) : Nat := 0x10004C + 0x1000 * i0
/-- SB_Gn (0x100 + n × 8), 06_shiftboss.md. -/
def SB_G (i0 : Nat) (i1 : Nat) : Nat := 0x100100 + 0x1000 * i0 + 0x8 * i1
/-- SB_EVSRCk (0x200 + k × 4), 06_shiftboss.md. -/
def SB_EVSRC (i0 : Nat) (i1 : Nat) : Nat := 0x100200 + 0x1000 * i0 + 0x4 * i1
/-- SB_FMTVER (0x8000), 06_shiftboss.md. -/
def SB_FMTVER : Nat := 0x108000
/-- SB_FE_OWNg (0x8010 + g × 4), 06_shiftboss.md. -/
def SB_FE_OWN (i0 : Nat) : Nat := 0x108010 + 0x4 * i0
/-- SB_FE_STATE (0x8020), 06_shiftboss.md. -/
def SB_FE_STATE : Nat := 0x108020
/-- SB_FE_SAFE (0x8024), 06_shiftboss.md. -/
def SB_FE_SAFE : Nat := 0x108024
/-- SB_FESPI_CFGp (0x8030 + p × 4), 06_shiftboss.md. -/
def SB_FESPI_CFG (i0 : Nat) : Nat := 0x108030 + 0x4 * i0
/-- SB_RELIEF (0x8040), 06_shiftboss.md. -/
def SB_RELIEF : Nat := 0x108040
/-- TXDP_PATH_CTL (0x000), 07_transmit_path.md. -/
def TXDP_PATH_CTL (i0 : Nat) : Nat := 0x200000 + 0x100 * i0
/-- TXDP_GAIN (0x004), 07_transmit_path.md. -/
def TXDP_GAIN (i0 : Nat) : Nat := 0x200004 + 0x100 * i0
/-- TXDP_MUTE (0x008), 07_transmit_path.md. -/
def TXDP_MUTE (i0 : Nat) : Nat := 0x200008 + 0x100 * i0
/-- TXDP_CLIP (0x00C), 07_transmit_path.md. -/
def TXDP_CLIP (i0 : Nat) : Nat := 0x20000C + 0x100 * i0
/-- TXDP_CLIP_CNT (0x010), TXDP_CFR_CNT (0x014), 07_transmit_path.md. -/
def TXDP_CLIP_CNT (i0 : Nat) : Nat := 0x200010 + 0x100 * i0
/-- TXDP_CLIP_CNT (0x010), TXDP_CFR_CNT (0x014), 07_transmit_path.md. -/
def TXDP_CFR_CNT (i0 : Nat) : Nat := 0x200014 + 0x100 * i0
/-- TXDP_RAMP (0x4000), 07_transmit_path.md. -/
def TXDP_RAMP : Nat := 0x204000
/-- TXDP_CFR_CTL (0x4004), 07_transmit_path.md. -/
def TXDP_CFR_CTL : Nat := 0x204004
/-- TXDP_SLICE_MAPn (0x4100 + n × 4), 07_transmit_path.md. -/
def TXDP_SLICE_MAP (i0 : Nat) : Nat := 0x204100 + 0x4 * i0
/-- TXDP_SLICE_RELIEFs (0x4200 + s × 4), 07_transmit_path.md. -/
def TXDP_SLICE_RELIEF (i0 : Nat) : Nat := 0x204200 + 0x4 * i0
/-- TXDP_SLICE_FAULTn (0x4210 + n × 4), 07_transmit_path.md. -/
def TXDP_SLICE_FAULT (i0 : Nat) : Nat := 0x204210 + 0x4 * i0
/-- TXDP_CFR_PULSE (0x4400–0x4603), 07_transmit_path.md. -/
def TXDP_CFR_PULSE (i0 : Nat) : Nat := 0x204400 + 0x4 * i0
/-- RXDP_PATH_CTL (0x000), 08_receive_path.md. -/
def RXDP_PATH_CTL (i0 : Nat) : Nat := 0x300000 + 0x100 * i0
/-- RXDP_GAIN (0x004), 08_receive_path.md. -/
def RXDP_GAIN (i0 : Nat) : Nat := 0x300004 + 0x100 * i0
/-- RXDP_OVR (0x008), 08_receive_path.md. -/
def RXDP_OVR (i0 : Nat) : Nat := 0x300008 + 0x100 * i0
/-- RXDP_CLIP (0x00C), 08_receive_path.md. -/
def RXDP_CLIP (i0 : Nat) : Nat := 0x30000C + 0x100 * i0
/-- RXDP_OVR_CNT (0x010), RXDP_CLIP_CNT (0x014), 08_receive_path.md. -/
def RXDP_OVR_CNT (i0 : Nat) : Nat := 0x300010 + 0x100 * i0
/-- RXDP_OVR_CNT (0x010), RXDP_CLIP_CNT (0x014), 08_receive_path.md. -/
def RXDP_CLIP_CNT (i0 : Nat) : Nat := 0x300014 + 0x100 * i0
/-- RXDP_PRACH_CTLj (0x4000 + j × 0x20), 08_receive_path.md. -/
def RXDP_PRACH_CTL (i0 : Nat) : Nat := 0x304000 + 0x20 * i0
/-- RXDP_PRACH_FSTARTj (0x4004 + j × 0x20), 08_receive_path.md. -/
def RXDP_PRACH_FSTART (i0 : Nat) : Nat := 0x304004 + 0x20 * i0
/-- RXDP_PRACH_PMASKj (0x4008 + j × 0x20), 08_receive_path.md. -/
def RXDP_PRACH_PMASK (i0 : Nat) : Nat := 0x304008 + 0x20 * i0
/-- RXDP_PRACH_BEAMj_b (0x4010 + j × 0x20 + b × 4), 08_receive_path.md. -/
def RXDP_PRACH_BEAM (i0 : Nat) (i1 : Nat) : Nat := 0x304010 + 0x20 * i0 + 0x4 * i1
/-- CAR_CTL (0x000), 07_transmit_path.md. -/
def CAR_CTL (i0 : Nat) : Nat := 0x380000 + 0x100 * i0
/-- CAR_STATUS (0x004), 07_transmit_path.md. -/
def CAR_STATUS (i0 : Nat) : Nat := 0x380004 + 0x100 * i0
/-- CAR_CFG (0x008), 07_transmit_path.md. -/
def CAR_CFG (i0 : Nat) : Nat := 0x380008 + 0x100 * i0
/-- CAR_FREQ (0x00C), 07_transmit_path.md. -/
def CAR_FREQ (i0 : Nat) : Nat := 0x38000C + 0x100 * i0
/-- CAR_TXGAIN (0x010), 07_transmit_path.md. -/
def CAR_TXGAIN (i0 : Nat) : Nat := 0x380010 + 0x100 * i0
/-- CAR_TXWIN (0x014), 07_transmit_path.md. -/
def CAR_TXWIN (i0 : Nat) : Nat := 0x380014 + 0x100 * i0
/-- CAR_RXGAIN (0x020), 08_receive_path.md. -/
def CAR_RXGAIN (i0 : Nat) : Nat := 0x380020 + 0x100 * i0
/-- CAR_RXFFT (0x024), 08_receive_path.md. -/
def CAR_RXFFT (i0 : Nat) : Nat := 0x380024 + 0x100 * i0
/-- CAR_UL_PKT_CNT (0x028), CAR_UL_OVR_CNT (0x02C), CAR_UL_CLIP_CNT (0x030), 08_receive_path.md. -/
def CAR_UL_PKT_CNT (i0 : Nat) : Nat := 0x380028 + 0x100 * i0
/-- CAR_UL_PKT_CNT (0x028), CAR_UL_OVR_CNT (0x02C), CAR_UL_CLIP_CNT (0x030), 08_receive_path.md. -/
def CAR_UL_OVR_CNT (i0 : Nat) : Nat := 0x38002C + 0x100 * i0
/-- CAR_UL_PKT_CNT (0x028), CAR_UL_OVR_CNT (0x02C), CAR_UL_CLIP_CNT (0x030), 08_receive_path.md. -/
def CAR_UL_CLIP_CNT (i0 : Nat) : Nat := 0x380030 + 0x100 * i0
/-- CAR_TRAFFIC (0x040), 04_layer_traffic.md. -/
def CAR_TRAFFIC (i0 : Nat) : Nat := 0x380040 + 0x100 * i0
/-- CAR_DL_WIN (0x044), 04_layer_traffic.md. -/
def CAR_DL_WIN (i0 : Nat) : Nat := 0x380044 + 0x100 * i0
/-- CAR_UL_WIN (0x048), 04_layer_traffic.md. -/
def CAR_UL_WIN (i0 : Nat) : Nat := 0x380048 + 0x100 * i0
/-- CAR_SEC_ERR (0x04C), 04_layer_traffic.md. -/
def CAR_SEC_ERR (i0 : Nat) : Nat := 0x38004C + 0x100 * i0
/-- Counters (0x050–0x06C), 04_layer_traffic.md. -/
def CAR_DL_LATE_CNT (i0 : Nat) : Nat := 0x380050 + 0x100 * i0
/-- Counters (0x050–0x06C), 04_layer_traffic.md. -/
def CAR_DL_EARLY_CNT (i0 : Nat) : Nat := 0x380054 + 0x100 * i0
/-- Counters (0x050–0x06C), 04_layer_traffic.md. -/
def CAR_DL_ORPHAN_CNT (i0 : Nat) : Nat := 0x380058 + 0x100 * i0
/-- Counters (0x050–0x06C), 04_layer_traffic.md. -/
def CAR_DL_DUP_CNT (i0 : Nat) : Nat := 0x38005C + 0x100 * i0
/-- Counters (0x050–0x06C), 04_layer_traffic.md. -/
def CAR_SEC_REF_CNT (i0 : Nat) : Nat := 0x380060 + 0x100 * i0
/-- Counters (0x050–0x06C), 04_layer_traffic.md. -/
def CAR_SEC_REPL_CNT (i0 : Nat) : Nat := 0x380064 + 0x100 * i0
/-- Counters (0x050–0x06C), 04_layer_traffic.md. -/
def CAR_DL_DROP_CNT (i0 : Nat) : Nat := 0x380068 + 0x100 * i0
/-- Counters (0x050–0x06C), 04_layer_traffic.md. -/
def CAR_UL_DROP_CNT (i0 : Nat) : Nat := 0x38006C + 0x100 * i0
/-- CAR_FRAME_OFS (carrier page, 0x070), 05_timebase.md. -/
def CAR_FRAME_OFS (i0 : Nat) : Nat := 0x380070 + 0x100 * i0
/-- BEAM_FC_TX (0x000), BEAM_FC_RX (0x004), 09_beams.md. -/
def BEAM_FC (i0 : Nat) : Nat := 0x400000 + 0x4 * i0
/-- BEAM_BANK_STAT (0x008), 09_beams.md. -/
def BEAM_BANK_STAT : Nat := 0x400008
/-- BEAM_SWAPREQ (0x00C), 09_beams.md. -/
def BEAM_SWAPREQ : Nat := 0x40000C
/-- BEAM_SWAPT (0x010), 09_beams.md. -/
def BEAM_SWAPT : Nat := 0x400010
/-- BEAM_CW_ARM (0x020), 09_beams.md. -/
def BEAM_CW_ARM : Nat := 0x400020
/-- BEAM_CW_COMMIT (0x024), 09_beams.md. -/
def BEAM_CW_COMMIT : Nat := 0x400024
/-- BEAM_CW_ERR (0x028), 09_beams.md. -/
def BEAM_CW_ERR : Nat := 0x400028
/-- BEAM_SS_CLR (0x02C), 09_beams.md. -/
def BEAM_SS_CLR : Nat := 0x40002C
/-- Counters (0x040–0x050), 09_beams.md. -/
def BEAM_CW_MISS_CNT : Nat := 0x400040
/-- Counters (0x040–0x050), 09_beams.md. -/
def BEAM_CW_DEFER_CNT : Nat := 0x400044
/-- Counters (0x040–0x050), 09_beams.md. -/
def BEAM_STALE_CNT : Nat := 0x400048
/-- Counters (0x040–0x050), 09_beams.md. -/
def BEAM_REF_ERR_CNT : Nat := 0x40004C
/-- Counters (0x040–0x050), 09_beams.md. -/
def BEAM_SS_SAT_CNT : Nat := 0x400050
/-- BEAM_CW_STATh (0x1000 + DIR × 0x400 + h × 4), 09_beams.md. -/
def BEAM_CW_STAT (i0 : Nat) (i1 : Nat) : Nat := 0x401000 + 0x400 * i0 + 0x4 * i1
/-- BEAM_SS_CFGn (0x2000 + n × 8), 09_beams.md. -/
def BEAM_SS_CFG (i0 : Nat) : Nat := 0x402000 + 0x8 * i0
/-- BEAM_SS_SLOTn (0x2004 + n × 8), 09_beams.md. -/
def BEAM_SS_SLOT (i0 : Nat) : Nat := 0x402004 + 0x8 * i0
/-- BEAM_SS_CNTn (0x2800 + n × 4), 09_beams.md. -/
def BEAM_SS_CNT (i0 : Nat) : Nat := 0x402800 + 0x4 * i0
/-- DPD_PATH_CTL (0x000), 10_linearization.md. -/
def DPD_PATH_CTL (i0 : Nat) : Nat := 0x500000 + 0x100 * i0
/-- DPD_PMIN (0x004), 10_linearization.md. -/
def DPD_PMIN (i0 : Nat) : Nat := 0x500004 + 0x100 * i0
/-- DPD_STATUS (0x008), 10_linearization.md. -/
def DPD_STATUS (i0 : Nat) : Nat := 0x500008 + 0x100 * i0
/-- DPD_SAT_CNT (0x00C), 10_linearization.md. -/
def DPD_SAT_CNT (i0 : Nat) : Nat := 0x50000C + 0x100 * i0
/-- DPD_SWAPREQ (0x4000), 10_linearization.md. -/
def DPD_SWAPREQ : Nat := 0x504000
/-- DPD_SWAPT (0x4008), 10_linearization.md. -/
def DPD_SWAPT : Nat := 0x504008
/-- DPD_WINk (0x4100 + k × 4), 10_linearization.md. -/
def DPD_WIN (i0 : Nat) : Nat := 0x504100 + 0x4 * i0
/-- CONV_RXADC_STAT (0x000), 11_converters.md. -/
def CONV_RXADC_STAT (i0 : Nat) : Nat := 0x600000 + 0x100 * i0
/-- CONV_RXADC_MAP (0x004), 11_converters.md. -/
def CONV_RXADC_MAP (i0 : Nat) : Nat := 0x600004 + 0x100 * i0
/-- CONV_RXADC_CMD (0x008), 11_converters.md. -/
def CONV_RXADC_CMD (i0 : Nat) : Nat := 0x600008 + 0x100 * i0
/-- CONV_DAC_STAT (0x010), 11_converters.md. -/
def CONV_DAC_STAT (i0 : Nat) : Nat := 0x600010 + 0x100 * i0
/-- CONV_DAC_CMD (0x014), 11_converters.md. -/
def CONV_DAC_CMD (i0 : Nat) : Nat := 0x600014 + 0x100 * i0
/-- CONV_DAC_RETn (0x018 + n × 4), 11_converters.md. -/
def CONV_DAC_RET (i0 : Nat) (i1 : Nat) : Nat := 0x600018 + 0x100 * i0 + 0x4 * i1
/-- CONV_TX_MODE (0x4000), 11_converters.md. -/
def CONV_TX_MODE : Nat := 0x604000
/-- CONV_RX_MODE (0x4004), 11_converters.md. -/
def CONV_RX_MODE : Nat := 0x604004
/-- CONV_ROT (0x4008), 11_converters.md. -/
def CONV_ROT : Nat := 0x604008
/-- CONV_NCO_SEL (0x400C), 11_converters.md. -/
def CONV_NCO_SEL : Nat := 0x60400C
/-- CONV_NCO_TXk (0x4010 + k × 8), CONV_NCO_RXk (0x4030 + k × 8), 11_converters.md. -/
def CONV_NCO_TX (i0 : Nat) : Nat := 0x604010 + 0x8 * i0
/-- CONV_NCO_TXFk (0x4014 + k × 8), CONV_NCO_RXFk (0x4034 + k × 8), 11_converters.md. -/
def CONV_NCO_TXF (i0 : Nat) : Nat := 0x604014 + 0x8 * i0
/-- CONV_NCO_TXk (0x4010 + k × 8), CONV_NCO_RXk (0x4030 + k × 8), 11_converters.md. -/
def CONV_NCO_RX (i0 : Nat) : Nat := 0x604030 + 0x8 * i0
/-- CONV_NCO_TXFk (0x4014 + k × 8), CONV_NCO_RXFk (0x4034 + k × 8), 11_converters.md. -/
def CONV_NCO_RXF (i0 : Nat) : Nat := 0x604034 + 0x8 * i0
/-- CONV_ALIGN_CTL (0x4050), 11_converters.md. -/
def CONV_ALIGN_CTL : Nat := 0x604050
/-- CONV_ALIGN_STAT (0x4054), 11_converters.md. -/
def CONV_ALIGN_STAT : Nat := 0x604054
/-- CONV_OBS_STATg (0x4100 + g × 0x10), 11_converters.md. -/
def CONV_OBS_STAT (i0 : Nat) : Nat := 0x604100 + 0x10 * i0
/-- CONV_OBS_MAPg (0x4104 + g × 0x10), CONV_OBS_MAP2g (0x4108 + g × 0x10), 11_converters.md. -/
def CONV_OBS_MAP (i0 : Nat) : Nat := 0x604104 + 0x10 * i0
/-- CONV_OBS_MAPg (0x4104 + g × 0x10), CONV_OBS_MAP2g (0x4108 + g × 0x10), 11_converters.md. -/
def CONV_OBS_MAP2 (i0 : Nat) : Nat := 0x604108 + 0x10 * i0
/-- CONV_OBS_ALIASg (0x410C + g × 0x10), 11_converters.md. -/
def CONV_OBS_ALIAS (i0 : Nat) : Nat := 0x60410C + 0x10 * i0
/-- CONV_OBS_CMDg (0x4180 + g × 4), 11_converters.md. -/
def CONV_OBS_CMD (i0 : Nat) : Nat := 0x604180 + 0x4 * i0
/-- OBS_CAGE_CFG (0x000), 10_linearization.md. -/
def OBS_CAGE_CFG (i0 : Nat) : Nat := 0x700000 + 0x100 * i0
/-- OBS_CAGE_STAT (0x004), 10_linearization.md. -/
def OBS_CAGE_STAT (i0 : Nat) : Nat := 0x700004 + 0x100 * i0
/-- OBS_CAGE_END (0x008), 10_linearization.md. -/
def OBS_CAGE_END (i0 : Nat) : Nat := 0x700008 + 0x100 * i0
/-- OBS_CAGE_DEAD_CNT (0x010), 10_linearization.md. -/
def OBS_CAGE_DEAD_CNT (i0 : Nat) : Nat := 0x700010 + 0x100 * i0
/-- OBS_CAP_CFG (path, 0x000), 10_linearization.md. -/
def OBS_CAP_CFG (i0 : Nat) : Nat := 0x701000 + 0x100 * i0
/-- OBS_CAP_REQ (path, 0x004), 10_linearization.md. -/
def OBS_CAP_REQ (i0 : Nat) : Nat := 0x701004 + 0x100 * i0
/-- OBS_CAP_DEST (path, 0x008), 10_linearization.md. -/
def OBS_CAP_DEST (i0 : Nat) : Nat := 0x701008 + 0x100 * i0
/-- OBS_CAP_CANCEL (path, 0x00C), 10_linearization.md. -/
def OBS_CAP_CANCEL (i0 : Nat) : Nat := 0x70100C + 0x100 * i0
/-- OBS_CAP_STAT (path, 0x010), 10_linearization.md. -/
def OBS_CAP_STAT (i0 : Nat) : Nat := 0x701010 + 0x100 * i0
/-- OBS_CAP_TICKET (path, 0x018), OBS_CAP_MTICKET (path, 0x020), 10_linearization.md. -/
def OBS_CAP_TICKET (i0 : Nat) : Nat := 0x701018 + 0x100 * i0
/-- OBS_CAP_TICKET (path, 0x018), OBS_CAP_MTICKET (path, 0x020), 10_linearization.md. -/
def OBS_CAP_MTICKET (i0 : Nat) : Nat := 0x701020 + 0x100 * i0
/-- OBS_VSWR_CFG (path, 0x040), 10_linearization.md. -/
def OBS_VSWR_CFG (i0 : Nat) : Nat := 0x701040 + 0x100 * i0
/-- OBS_VSWR_REF (path, 0x044), 10_linearization.md. -/
def OBS_VSWR_REF (i0 : Nat) : Nat := 0x701044 + 0x100 * i0
/-- OBS_VSWR_STAT (path, 0x048), 10_linearization.md. -/
def OBS_VSWR_STAT (i0 : Nat) : Nat := 0x701048 + 0x100 * i0
/-- OBS_VSWR_PMIN (0x7000), 10_linearization.md. -/
def OBS_VSWR_PMIN : Nat := 0x707000
/-- MON_CTL (0x000), 16_monitor_auxdac.md. -/
def MON_CTL : Nat := 0x780000
/-- MON_STAT (0x004), 16_monitor_auxdac.md. -/
def MON_STAT : Nat := 0x780004
/-- MON_SEQ_CNT (0x008), 16_monitor_auxdac.md. -/
def MON_SEQ_CNT : Nat := 0x780008
/-- MON_URG (0x010), 16_monitor_auxdac.md. -/
def MON_URG : Nat := 0x780010
/-- MON_URG_RES (0x014), 16_monitor_auxdac.md. -/
def MON_URG_RES : Nat := 0x780014
/-- MON_WIN_STAT0 (0x020), MON_WIN_STAT1 (0x024), 16_monitor_auxdac.md. -/
def MON_WIN_STAT (i0 : Nat) : Nat := 0x780020 + 0x4 * i0
/-- MON_OVR_CNT (0x028), 16_monitor_auxdac.md. -/
def MON_OVR_CNT : Nat := 0x780028
/-- MON_SEQk (0x100 + k × 0x10), 16_monitor_auxdac.md. -/
def MON_SEQ (i0 : Nat) : Nat := 0x780100 + 0x10 * i0
/-- MON_WINk (0x104 + k × 0x10), 16_monitor_auxdac.md. -/
def MON_WIN (i0 : Nat) : Nat := 0x780104 + 0x10 * i0
/-- MON_RESk (0x10C + k × 0x10), 16_monitor_auxdac.md. -/
def MON_RES (i0 : Nat) : Nat := 0x78010C + 0x10 * i0
/-- AUX_DACn (0x000), 16_monitor_auxdac.md. -/
def AUX_DAC (i0 : Nat) : Nat := 0x7C0000 + 0x100 * i0
/-- AUX_CLRCODEn (0x004), 16_monitor_auxdac.md. -/
def AUX_CLRCODE (i0 : Nat) : Nat := 0x7C0004 + 0x100 * i0
/-- AUX_STATn (0x008), 16_monitor_auxdac.md. -/
def AUX_STAT (i0 : Nat) : Nat := 0x7C0008 + 0x100 * i0
/-- AUX_FAULTn (0x00C), 16_monitor_auxdac.md. -/
def AUX_FAULT (i0 : Nat) : Nat := 0x7C000C + 0x100 * i0
/-- AUX_LOADn (0x010), 16_monitor_auxdac.md. -/
def AUX_LOAD (i0 : Nat) : Nat := 0x7C0010 + 0x100 * i0
/-- AUX_CTL (0x8000), 16_monitor_auxdac.md. -/
def AUX_CTL : Nat := 0x7C8000
/-- AUX_FAULTMAPm (0x8010 + m × 4), 16_monitor_auxdac.md. -/
def AUX_FAULTMAP (i0 : Nat) : Nat := 0x7C8010 + 0x4 * i0
/-- ASSAY_CTL (0x000), 15_assay.md. -/
def ASSAY_CTL : Nat := 0x800000
/-- ASSAY_STAT (0x004), 15_assay.md. -/
def ASSAY_STAT : Nat := 0x800004
/-- ASSAY_NFAIL (0x008), 15_assay.md. -/
def ASSAY_NFAIL : Nat := 0x800008
/-- ASSAY_CALIO (0x00C), 15_assay.md. -/
def ASSAY_CALIO : Nat := 0x80000C
/-- ASSAY_SAVE (0x010), ASSAY_RESTORE (0x014), 15_assay.md. -/
def ASSAY_SAVE : Nat := 0x800010
/-- ASSAY_SAVE (0x010), ASSAY_RESTORE (0x014), 15_assay.md. -/
def ASSAY_RESTORE : Nat := 0x800014
/-- ASSAY_BLOB_STAT (0x018), 15_assay.md. -/
def ASSAY_BLOB_STAT : Nat := 0x800018
/-- ASSAY_STATE_LEN (0x01C), 15_assay.md. -/
def ASSAY_STATE_LEN : Nat := 0x80001C
/-- ASSAY_PERIODi (0x040 + i × 4), 15_assay.md. -/
def ASSAY_PERIOD (i0 : Nat) : Nat := 0x80004C + 0x4 * i0
/-- ASSAY_FAILi_w (0x100 + i × 0x10 + w × 4), 15_assay.md. -/
def ASSAY_FAIL (i0 : Nat) (i1 : Nat) : Nat := 0x800100 + 0x10 * i0 + 0x4 * i1
/-- ASSAY_NETTX (0x1000 + a × 8), ASSAY_NETRX (0x1200 + a × 8), 15_assay.md. -/
def ASSAY_NETTX (i0 : Nat) : Nat := 0x801000 + 0x8 * i0
/-- ASSAY_NETTX (0x1000 + a × 8), ASSAY_NETRX (0x1200 + a × 8), 15_assay.md. -/
def ASSAY_NETRX (i0 : Nat) : Nat := 0x801200 + 0x8 * i0
/-- ASSAY_STATE (0x1_0000–0x3_FFFF), 15_assay.md. -/
def ASSAY_STATE (i0 : Nat) : Nat := 0x810000 + 0x4 * i0
/-- LODE_ISAVER (0x000), 12_lode_cluster.md. -/
def LODE_ISAVER : Nat := 0x900000
/-- LODE_CL_STAT (0x004), 12_lode_cluster.md. -/
def LODE_CL_STAT : Nat := 0x900004
/-- LODE_RELIEF (0x008), 12_lode_cluster.md. -/
def LODE_RELIEF : Nat := 0x900008
/-- LODE_MAPn (0x010 + n × 4), 12_lode_cluster.md. -/
def LODE_MAP (i0 : Nat) : Nat := 0x900010 + 0x4 * i0
/-- LODE_CYC (0x030), 12_lode_cluster.md. -/
def LODE_CYC : Nat := 0x900030
/-- LODE_LMWIN (0x038), 12_lode_cluster.md. -/
def LODE_LMWIN : Nat := 0x900038
/-- LODE_WQ_PUSHq (0x100 + q × 0x10), 12_lode_cluster.md. -/
def LODE_WQ_PUSH (i0 : Nat) : Nat := 0x900100 + 0x10 * i0
/-- LODE_WQ_STATq (0x104 + q × 0x10), 12_lode_cluster.md. -/
def LODE_WQ_STAT (i0 : Nat) : Nat := 0x900104 + 0x10 * i0
/-- LODE_WQ_DONE_CNTq (0x108 + q × 0x10), LODE_WQ_FULL_CNTq (0x10C + q × 0x10), 12_lode_cluster.md. -/
def LODE_WQ_DONE_CNT (i0 : Nat) : Nat := 0x900108 + 0x10 * i0
/-- LODE_WQ_DONE_CNTq (0x108 + q × 0x10), LODE_WQ_FULL_CNTq (0x10C + q × 0x10), 12_lode_cluster.md. -/
def LODE_WQ_FULL_CNT (i0 : Nat) : Nat := 0x90010C + 0x10 * i0
/-- LODE_CORE_CTL (core, 0x000), 12_lode_cluster.md. -/
def LODE_CORE_CTL (i0 : Nat) : Nat := 0x901000 + 0x100 * i0
/-- LODE_CORE_STAT (core, 0x004), 12_lode_cluster.md. -/
def LODE_CORE_STAT (i0 : Nat) : Nat := 0x901004 + 0x100 * i0
/-- LODE_CFG (core, 0x008), 12_lode_cluster.md. -/
def LODE_CFG (i0 : Nat) : Nat := 0x901008 + 0x100 * i0
/-- LODE_TRAP (core, 0x00C), 12_lode_cluster.md. -/
def LODE_TRAP (i0 : Nat) : Nat := 0x90100C + 0x100 * i0
/-- LODE_STICKY (core, 0x010), 12_lode_cluster.md. -/
def LODE_STICKY (i0 : Nat) : Nat := 0x901010 + 0x100 * i0
/-- LODE_ITEM (core, 0x014), 12_lode_cluster.md. -/
def LODE_ITEM (i0 : Nat) : Nat := 0x901014 + 0x100 * i0
/-- LODE_CORE_PC (core, 0x018), 12_lode_cluster.md. -/
def LODE_CORE_PC (i0 : Nat) : Nat := 0x901018 + 0x100 * i0
/-- SEC_LIFECYCLE (0x000), 18_boot_security.md. -/
def SEC_LIFECYCLE : Nat := 0xF00000
/-- SEC_ROOT (0x004), 18_boot_security.md. -/
def SEC_ROOT : Nat := 0xF00004
/-- SEC_SVN (0x008), 18_boot_security.md. -/
def SEC_SVN : Nat := 0xF00008
/-- SEC_FW (0x00C), 18_boot_security.md. -/
def SEC_FW : Nat := 0xF0000C
/-- SEC_SWAPT (0x010), 18_boot_security.md. -/
def SEC_SWAPT : Nat := 0xF00010
/-- SEC_IDHASH (0x040–0x05C), 18_boot_security.md. -/
def SEC_IDHASH (i0 : Nat) : Nat := 0xF00040 + 0x4 * i0
/-- SEC_ROOTHASHs (0x100 + s × 0x20), 18_boot_security.md. -/
def SEC_ROOTHASH (i0 : Nat) (i1 : Nat) : Nat := 0xF00100 + 0x20 * i0 + 0x4 * i1
/-- SEC_BOOTREC (0x200–0x23C), 18_boot_security.md. -/
def SEC_BOOTREC (i0 : Nat) : Nat := 0xF00200 + 0x4 * i0
/-- SEC_BOOTSRC (0x240), 18_boot_security.md. -/
def SEC_BOOTSRC : Nat := 0xF00240
/-- SEC_BOOTADDR (0x248), SEC_BOOTLEN (0x250), 18_boot_security.md. -/
def SEC_BOOTADDR : Nat := 0xF00248
/-- SEC_BOOTADDR (0x248), SEC_BOOTLEN (0x250), 18_boot_security.md. -/
def SEC_BOOTLEN : Nat := 0xF00250
/-- SEC_OTP_CMD (0x400), 18_boot_security.md. -/
def SEC_OTP_CMD : Nat := 0xF00400
/-- SEC_OTP_STAT (0x404), 18_boot_security.md. -/
def SEC_OTP_STAT : Nat := 0xF00404
/-- REPAIR_STAT (0x800), 19_repair_availability.md. -/
def REPAIR_STAT : Nat := 0xF80800
/-- REPAIR_SCRUB (0x804), 19_repair_availability.md. -/
def REPAIR_SCRUB : Nat := 0xF80804
/-- REPAIR_CE_CNT (0x808), REPAIR_UE_CNT (0x80C), 19_repair_availability.md. -/
def REPAIR_CE_CNT : Nat := 0xF80808
/-- REPAIR_CE_CNT (0x808), REPAIR_UE_CNT (0x80C), 19_repair_availability.md. -/
def REPAIR_UE_CNT : Nat := 0xF8080C
/-- REPAIR_BFMAPd (0x810 + d × 4), 19_repair_availability.md. -/
def REPAIR_BFMAP (i0 : Nat) : Nat := 0xF80810 + 0x4 * i0
/-- REPAIR_BFFAILd (0x818 + d × 8), 19_repair_availability.md. -/
def REPAIR_BFFAIL (i0 : Nat) : Nat := 0xF80818 + 0x8 * i0
end Reg

namespace Fld
def SYS_ID_PART : Field := ⟨16, 16⟩
def SYS_ID_VENDOR : Field := ⟨0, 16⟩
def SYS_STEP_STEP : Field := ⟨0, 8⟩
def SYS_CLK_STATUS_REFCLK_SWAP : Field := ⟨31, 1⟩
def SYS_CLK_STATUS_REFCLK_LOCK : Field := ⟨30, 1⟩
def SYS_CLK_STATUS_LCLK_B : Field := ⟨11, 1⟩
def SYS_CLK_STATUS_LCLK_A : Field := ⟨10, 1⟩
def SYS_CLK_STATUS_DCLK : Field := ⟨9, 1⟩
def SYS_CLK_STATUS_OCLK : Field := ⟨8, 1⟩
def SYS_CLK_STATUS_ACLK : Field := ⟨7, 1⟩
def SYS_CLK_STATUS_MCLK : Field := ⟨6, 1⟩
def SYS_CLK_STATUS_FCLK : Field := ⟨5, 1⟩
def SYS_CLK_STATUS_VCLK : Field := ⟨4, 1⟩
def SYS_CLK_STATUS_TCLK : Field := ⟨3, 1⟩
def SYS_CLK_STATUS_CCLK : Field := ⟨2, 1⟩
def SYS_CLK_STATUS_REFCLK : Field := ⟨1, 1⟩
def SYS_CLK_STATUS_AONCLK : Field := ⟨0, 1⟩
def SYS_ACCERR_VALID : Field := ⟨31, 1⟩
def SYS_ACCERR_MULTI : Field := ⟨30, 1⟩
def SYS_ACCERR_COUNT : Field := ⟨8, 16⟩
def SYS_ACCERR_REQID : Field := ⟨0, 8⟩
def SYS_ACCERR_ADDR_ADDR : Field := ⟨0, 32⟩
def PWR_CMD_TARGET : Field := ⟨0, 3⟩
def PWR_STATUS_SAFE : Field := ⟨31, 1⟩
def PWR_STATUS_BUSY : Field := ⟨30, 1⟩
def PWR_STATUS_ABORTED : Field := ⟨29, 1⟩
def PWR_STATUS_APOINT : Field := ⟨27, 2⟩
def PWR_STATUS_ERR : Field := ⟨24, 3⟩
def PWR_STATUS_STEP : Field := ⟨4, 4⟩
def PWR_STATUS_STATE : Field := ⟨0, 3⟩
def PWR_CTL_TRAIN : Field := ⟨8, 2⟩
def PWR_CTL_WAKEEN : Field := ⟨0, 4⟩
def PWR_CLASS_NOFF : Field := ⟨4, 4⟩
def PWR_CLASS_CLASS : Field := ⟨0, 2⟩
def PWR_RETMASK_GROUPS : Field := ⟨0, 7⟩
def PWR_RETLOST_GROUPS : Field := ⟨0, 7⟩
def PWR_WAKESRC_SRC : Field := ⟨0, 4⟩
def CANARY_CTL_SUPCHK : Field := ⟨0, 1⟩
def CANARY_STAT_CRIT : Field := ⟨31, 1⟩
def CANARY_STAT_THROT : Field := ⟨30, 1⟩
def CANARY_STAT_WARN : Field := ⟨29, 1⟩
def CANARY_STAT_EXTFAULT : Field := ⟨28, 1⟩
def CANARY_STAT_HOT : Field := ⟨16, 6⟩
def CANARY_STAT_TMAX : Field := ⟨0, 16⟩
def CANARY_THR_CRIT : Field := ⟨16, 8⟩
def CANARY_THR_THROT : Field := ⟨8, 8⟩
def CANARY_THR_WARN : Field := ⟨0, 8⟩
def CANARY_GRACE_MS : Field := ⟨0, 10⟩
def CANARY_TEMP_VALID : Field := ⟨31, 1⟩
def CANARY_TEMP_T : Field := ⟨0, 16⟩
def TIME_CTL_PPSO_EN : Field := ⟨1, 1⟩
def TIME_CTL_TSEL : Field := ⟨0, 1⟩
def TIME_STATUS_CLAMP_B : Field := ⟨6, 1⟩
def TIME_STATUS_CLAMP_A : Field := ⟨5, 1⟩
def TIME_STATUS_PPSIN_LOST : Field := ⟨4, 1⟩
def TIME_STATUS_B_VALID : Field := ⟨3, 1⟩
def TIME_STATUS_A_VALID : Field := ⟨2, 1⟩
def TIME_STATUS_SLEWING : Field := ⟨1, 1⟩
def TIME_STATUS_TSEL_ACT : Field := ⟨0, 1⟩
def TIME_TSW_SLEW_RATE : Field := ⟨0, 16⟩
def TIME_PPSO_CFG_WIDTH : Field := ⟨20, 12⟩
def TIME_PPSO_CFG_DELAY : Field := ⟨0, 20⟩
def TIME_PORTCOMP_TX_ADJ : Field := ⟨16, 16⟩
def TIME_PORTCOMP_RX_ADJ : Field := ⟨0, 16⟩
def TIME_ALIGN_CTL_CAPTURED : Field := ⟨1, 1⟩
def TIME_ALIGN_CTL_ARM : Field := ⟨0, 1⟩
def MBX_MSG_DATA : Field := ⟨0, 32⟩
def MBX_DOORBELL_RING : Field := ⟨0, 1⟩
def MBX_STAT_FULL : Field := ⟨31, 1⟩
def MBX_STAT_CLAIMED : Field := ⟨30, 1⟩
def MBX_STAT_NOTIFY_LOST : Field := ⟨29, 1⟩
def MBX_STAT_SEQ : Field := ⟨16, 8⟩
def MBX_STAT_CLAIMER : Field := ⟨8, 8⟩
def MBX_STAT_SENDER : Field := ⟨0, 8⟩
def MBX_CFG_ACKEV : Field := ⟨31, 1⟩
def MBX_CFG_WQ : Field := ⟨24, 3⟩
def MBX_CFG_RX : Field := ⟨0, 8⟩
def MBX_FLUSH_FLUSH : Field := ⟨0, 1⟩
def MBX_DESC_ADDR : Field := ⟨0, 24⟩
def MBX_FULLMAP_FULL : Field := ⟨0, 32⟩
def MBX_CLAIM_TMO_US : Field := ⟨0, 16⟩
def TALLY_LOCK_OWNER : Field := ⟨0, 8⟩
def TALLY_HOLD_US : Field := ⟨0, 20⟩
def TALLY_STAT_HELD : Field := ⟨31, 1⟩
def TALLY_STAT_BROKEN : Field := ⟨30, 1⟩
def TALLY_STAT_BCAUSE : Field := ⟨24, 2⟩
def TALLY_STAT_BROKEN_ID : Field := ⟨16, 8⟩
def TALLY_STAT_OWNER : Field := ⟨0, 8⟩
def DMA_LEN_BYTES : Field := ⟨0, 32⟩
def DMA_CFG_UTAG : Field := ⟨16, 16⟩
def DMA_CFG_DSPACE : Field := ⟨8, 2⟩
def DMA_CFG_SSPACE : Field := ⟨4, 2⟩
def DMA_CFG_CQ : Field := ⟨2, 2⟩
def DMA_CFG_NOTIFY : Field := ⟨1, 1⟩
def DMA_GO_ABORT : Field := ⟨1, 1⟩
def DMA_GO_START : Field := ⟨0, 1⟩
def DMA_STAT_STATE : Field := ⟨30, 2⟩
def DMA_STAT_SHADOW_VALID : Field := ⟨29, 1⟩
def DMA_STAT_CQ_FULL : Field := ⟨28, 1⟩
def DMA_STAT_SEC : Field := ⟨27, 1⟩
def DMA_STAT_LAST_STATUS : Field := ⟨0, 8⟩
def DMA_PROG_BYTES : Field := ⟨0, 32⟩
def DMA_CQ_CFG_EN : Field := ⟨31, 1⟩
def DMA_CQ_CFG_LOC : Field := ⟨8, 2⟩
def DMA_CQ_CFG_LOG2SIZE : Field := ⟨0, 4⟩
def DMA_CQ_HEAD_IDX : Field := ⟨0, 16⟩
def DMA_CQ_TAIL_IDX : Field := ⟨0, 16⟩
def PMU_CTL_FREEZE : Field := ⟨31, 1⟩
def PMU_CTL_SNAP : Field := ⟨30, 1⟩
def PMU_CTL_FRZ_OVF : Field := ⟨29, 1⟩
def PMU_CTL_UOWN : Field := ⟨0, 1⟩
def PMU_STAT_FROZEN : Field := ⟨31, 1⟩
def PMU_STAT_SNAPPING : Field := ⟨30, 1⟩
def PMU_STAT_OVFZ : Field := ⟨29, 1⟩
def PMU_STAT_OVFBANK : Field := ⟨0, 6⟩
def PMU_CNT_COUNT : Field := ⟨0, 32⟩
def PMU_SNAP_COUNT : Field := ⟨0, 32⟩
def PMU_SEL_EN : Field := ⟨31, 1⟩
def PMU_SEL_CHAIN : Field := ⟨30, 1⟩
def PMU_SEL_FOVF : Field := ⟨29, 1⟩
def PMU_SEL_EVENT : Field := ⟨0, 8⟩
def PMU_BANK_OVF_OVF_LOST : Field := ⟨31, 1⟩
def PMU_BANK_OVF_OVF : Field := ⟨0, 8⟩
def EVT_NEXT_SEQ : Field := ⟨0, 32⟩
def EVT_OLDEST_SEQ : Field := ⟨0, 32⟩
def EVT_STAT_OVERRUN : Field := ⟨31, 1⟩
def EVT_IRQ_EN_CLASS : Field := ⟨1, 15⟩
def EVT_IRQ_ACK_SEQ : Field := ⟨0, 32⟩
def EVT_REC_DATA : Field := ⟨0, 32⟩
def LINK_CTL_COMP_OFFER : Field := ⟨16, 7⟩
def LINK_CTL_VSET_OFFER : Field := ⟨10, 2⟩
def LINK_CTL_RATE_OFFER : Field := ⟨8, 2⟩
def LINK_CTL_LANES8 : Field := ⟨3, 1⟩
def LINK_CTL_SEC_EN : Field := ⟨1, 1⟩
def LINK_CTL_RENEG : Field := ⟨0, 1⟩
def LINK_FEAT_OFFER_FEAT : Field := ⟨0, 7⟩
def LINK_STATUS_LSTATE : Field := ⟨28, 4⟩
def LINK_STATUS_VER : Field := ⟨26, 2⟩
def LINK_STATUS_RATE : Field := ⟨25, 1⟩
def LINK_STATUS_LANES8 : Field := ⟨24, 1⟩
def LINK_STATUS_SECURE : Field := ⟨23, 1⟩
def LINK_STATUS_ROLE : Field := ⟨21, 2⟩
def LINK_STATUS_PEER_CREDIT : Field := ⟨0, 16⟩
def LINK_NEG_RES_COMP : Field := ⟨16, 7⟩
def LINK_NEG_RES_FEAT : Field := ⟨0, 7⟩
def LINK_EVT_MASK_CLASS : Field := ⟨1, 15⟩
def LINK_CPL_TMO_US : Field := ⟨0, 20⟩
def LINK_DOWN_TMO_MS : Field := ⟨0, 16⟩
def LINK_ERR_SEC_REJ : Field := ⟨5, 1⟩
def LINK_ERR_CPL_TMO : Field := ⟨4, 1⟩
def LINK_ERR_REPLAY : Field := ⟨3, 1⟩
def LINK_ERR_MALFORMED : Field := ⟨2, 1⟩
def LINK_ERR_RT_ERRMARK : Field := ⟨1, 1⟩
def LINK_ERR_RT_LOST : Field := ⟨0, 1⟩
def LINK_SEC_STAT_FAIL : Field := ⟨4, 4⟩
def LINK_SEC_STAT_ROOT : Field := ⟨2, 2⟩
def LINK_SEC_STAT_HS_BUSY : Field := ⟨1, 1⟩
def LINK_SEC_STAT_OPEN : Field := ⟨0, 1⟩
def LINK_DH_CTL_FO_STALL : Field := ⟨16, 8⟩
def LINK_DH_CTL_SWITCH : Field := ⟨8, 1⟩
def LINK_DH_CTL_TSEL_FOLLOW : Field := ⟨5, 1⟩
def LINK_DH_CTL_HOT : Field := ⟨4, 1⟩
def LINK_DH_CTL_FO_EN : Field := ⟨3, 1⟩
def LINK_DH_CTL_ACTIVE_B : Field := ⟨2, 1⟩
def LINK_DH_CTL_MODE : Field := ⟨0, 2⟩
def LINK_DH_CARMAP_PORT : Field := ⟨0, 8⟩
def LANE_PCTL_MON_PERIOD : Field := ⟨8, 4⟩
def LANE_PCTL_ESC_AUTO : Field := ⟨3, 1⟩
def LANE_PCTL_RELIEF_AUTO : Field := ⟨2, 1⟩
def LANE_PCTL_RATE : Field := ⟨1, 1⟩
def LANE_PCTL_EN : Field := ⟨0, 1⟩
def LANE_PSTAT_RELIEF_TX : Field := ⟨20, 4⟩
def LANE_PSTAT_RELIEF_RX : Field := ⟨16, 4⟩
def LANE_PSTAT_RELIEF_BUSY_TX : Field := ⟨9, 1⟩
def LANE_PSTAT_RELIEF_BUSY_RX : Field := ⟨8, 1⟩
def LANE_PSTAT_PERMUTED : Field := ⟨5, 1⟩
def LANE_PSTAT_REVERSED : Field := ⟨4, 1⟩
def LANE_PSTAT_PSTATE : Field := ⟨0, 4⟩
def LANE_PMAP_RX_MAP : Field := ⟨0, 32⟩
def LANE_PMAP_TX_MAP : Field := ⟨0, 32⟩
def LANE_CMD_OP : Field := ⟨4, 4⟩
def LANE_CMD_LANE : Field := ⟨0, 4⟩
def LANE_THR_MARGIN_V : Field := ⟨24, 8⟩
def LANE_THR_MARGIN_PH : Field := ⟨16, 8⟩
def LANE_THR_SER_LIMIT : Field := ⟨0, 16⟩
def LANE_ESCAN_CTL_START : Field := ⟨31, 1⟩
def LANE_ESCAN_CTL_BUSY : Field := ⟨30, 1⟩
def LANE_ESCAN_CTL_LMASK : Field := ⟨9, 9⟩
def LANE_ESCAN_CTL_DWELL : Field := ⟨4, 5⟩
def LANE_ESCAN_CTL_ETHR : Field := ⟨0, 4⟩
def LANE_LSTAT_TRAIN_TRY : Field := ⟨16, 8⟩
def LANE_LSTAT_MARGIN_LOW : Field := ⟨12, 1⟩
def LANE_LSTAT_LLANE_RX : Field := ⟨8, 4⟩
def LANE_LSTAT_ALIGNED : Field := ⟨7, 1⟩
def LANE_LSTAT_POL_INV : Field := ⟨6, 1⟩
def LANE_LSTAT_ROLE : Field := ⟨4, 2⟩
def LANE_LSTAT_LSTATE : Field := ⟨0, 4⟩
def LANE_FFE_MAIN : Field := ⟨24, 7⟩
def LANE_FFE_PRE2 : Field := ⟨18, 6⟩
def LANE_FFE_PRE1 : Field := ⟨12, 6⟩
def LANE_FFE_POST1 : Field := ⟨6, 6⟩
def LANE_FFE_POST2 : Field := ⟨0, 6⟩
def LANE_TXCFG_AMP : Field := ⟨0, 3⟩
def LANE_UNCORR_CNT_COUNT : Field := ⟨0, 32⟩
def LANE_ESCAN_RES_LEFT : Field := ⟨24, 8⟩
def LANE_ESCAN_RES_RIGHT : Field := ⟨16, 8⟩
def LANE_ESCAN_RES_TOP : Field := ⟨8, 8⟩
def LANE_ESCAN_RES_BOTTOM : Field := ⟨0, 8⟩
def LANE_ESCAN_STAT_RESULT : Field := ⟨0, 2⟩
def SB_CTL_RESTART : Field := ⟨1, 1⟩
def SB_CTL_RUN : Field := ⟨0, 1⟩
def SB_STATUS_FAULT : Field := ⟨28, 4⟩
def SB_STATUS_STATE : Field := ⟨25, 3⟩
def SB_STATUS_ABANK : Field := ⟨24, 1⟩
def SB_STATUS_C : Field := ⟨23, 1⟩
def SB_STATUS_LDEPTH : Field := ⟨20, 3⟩
def SB_STATUS_CDEPTH : Field := ⟨16, 4⟩
def SB_STATUS_PC : Field := ⟨0, 12⟩
def SB_SWAPREQ_PENDING : Field := ⟨31, 1⟩
def SB_SWAPREQ_REQ : Field := ⟨30, 1⟩
def SB_SWAPREQ_BND : Field := ⟨28, 2⟩
def SB_SWAPREQ_CARRIER : Field := ⟨25, 3⟩
def SB_ERR_FESPI_OVF : Field := ⟨4, 1⟩
def SB_ERR_FE_DENIED : Field := ⟨3, 1⟩
def SB_ERR_SWAP_REFUSED : Field := ⟨2, 1⟩
def SB_ERR_ISSUE_FAIL : Field := ⟨1, 1⟩
def SB_ERR_BUSERR : Field := ⟨0, 1⟩
def SB_ERR_ADDR_ADDR : Field := ⟨0, 32⟩
def SB_LATE_CNT_COUNT : Field := ⟨0, 32⟩
def SB_SKIP_CNT_COUNT : Field := ⟨0, 32⟩
def SB_DEFER_CNT_COUNT : Field := ⟨0, 32⟩
def SB_ISSUE_FAIL_CNT_COUNT : Field := ⟨0, 32⟩
def SB_EVSRC_SRC : Field := ⟨0, 8⟩
def SB_FMTVER_VER : Field := ⟨0, 8⟩
def SB_FE_OWN_OWN : Field := ⟨0, 32⟩
def SB_FE_STATE_LEVEL : Field := ⟨0, 32⟩
def SB_FE_SAFE_LEVEL : Field := ⟨0, 32⟩
def SB_FESPI_CFG_OWNER : Field := ⟨28, 4⟩
def SB_FESPI_CFG_DIV : Field := ⟨0, 8⟩
def SB_RELIEF_RETIRE : Field := ⟨31, 1⟩
def SB_RELIEF_SYNCED : Field := ⟨30, 1⟩
def SB_RELIEF_TAKEN : Field := ⟨29, 1⟩
def SB_RELIEF_MISMATCH : Field := ⟨28, 1⟩
def SB_RELIEF_TARGET : Field := ⟨16, 4⟩
def SB_RELIEF_MAP : Field := ⟨0, 16⟩
def TXDP_PATH_CTL_CFR_BYP : Field := ⟨1, 1⟩
def TXDP_PATH_CTL_MUTE : Field := ⟨0, 1⟩
def TXDP_GAIN_GI : Field := ⟨16, 16⟩
def TXDP_GAIN_GQ : Field := ⟨0, 16⟩
def TXDP_MUTE_MUTED : Field := ⟨8, 1⟩
def TXDP_MUTE_SLICE : Field := ⟨5, 1⟩
def TXDP_MUTE_SAFE : Field := ⟨4, 1⟩
def TXDP_MUTE_DIE : Field := ⟨3, 1⟩
def TXDP_MUTE_VSWR : Field := ⟨2, 1⟩
def TXDP_MUTE_STATE : Field := ⟨1, 1⟩
def TXDP_MUTE_HOST : Field := ⟨0, 1⟩
def TXDP_CLIP_CFR : Field := ⟨4, 1⟩
def TXDP_CLIP_ALIGN : Field := ⟨3, 1⟩
def TXDP_CLIP_COMB : Field := ⟨2, 1⟩
def TXDP_CLIP_IFFT : Field := ⟨1, 1⟩
def TXDP_CLIP_BF : Field := ⟨0, 1⟩
def TXDP_CLIP_CNT_COUNT : Field := ⟨0, 32⟩
def TXDP_CFR_CNT_COUNT : Field := ⟨0, 32⟩
def TXDP_RAMP_LEN : Field := ⟨0, 10⟩
def TXDP_CFR_CTL_THR : Field := ⟨16, 15⟩
def TXDP_CFR_CTL_PEAKWIN : Field := ⟨8, 4⟩
def TXDP_CFR_CTL_MAXPK : Field := ⟨4, 4⟩
def TXDP_CFR_CTL_STAGES : Field := ⟨0, 3⟩
def TXDP_SLICE_MAP_MAP : Field := ⟨0, 32⟩
def TXDP_SLICE_RELIEF_RETIRE : Field := ⟨31, 1⟩
def TXDP_SLICE_RELIEF_SYNCED : Field := ⟨30, 1⟩
def TXDP_SLICE_RELIEF_TAKEN : Field := ⟨29, 1⟩
def TXDP_SLICE_RELIEF_MISMATCH : Field := ⟨28, 1⟩
def TXDP_SLICE_RELIEF_BUSY : Field := ⟨27, 1⟩
def TXDP_SLICE_RELIEF_SPARE : Field := ⟨16, 7⟩
def TXDP_SLICE_RELIEF_TARGET : Field := ⟨0, 7⟩
def TXDP_SLICE_FAULT_FAULT : Field := ⟨0, 32⟩
def TXDP_CFR_PULSE_PI : Field := ⟨16, 16⟩
def TXDP_CFR_PULSE_PQ : Field := ⟨0, 16⟩
def RXDP_PATH_CTL_BLANK : Field := ⟨0, 1⟩
def RXDP_GAIN_GI : Field := ⟨16, 16⟩
def RXDP_GAIN_GQ : Field := ⟨0, 16⟩
def RXDP_OVR_SLICE : Field := ⟨2, 1⟩
def RXDP_OVR_DIE : Field := ⟨1, 1⟩
def RXDP_OVR_OVR : Field := ⟨0, 1⟩
def RXDP_CLIP_FFT : Field := ⟨2, 1⟩
def RXDP_CLIP_EXTR : Field := ⟨1, 1⟩
def RXDP_CLIP_ALIGN : Field := ⟨0, 1⟩
def RXDP_OVR_CNT_COUNT : Field := ⟨0, 32⟩
def RXDP_CLIP_CNT_COUNT : Field := ⟨0, 32⟩
def RXDP_PRACH_CTL_EN : Field := ⟨31, 1⟩
def RXDP_PRACH_CTL_CFG_ERR : Field := ⟨30, 1⟩
def RXDP_PRACH_CTL_BUSY : Field := ⟨29, 1⟩
def RXDP_PRACH_CTL_CARRIER : Field := ⟨26, 3⟩
def RXDP_PRACH_CTL_FMT : Field := ⟨22, 4⟩
def RXDP_PRACH_CTL_MU : Field := ⟨19, 3⟩
def RXDP_PRACH_CTL_LRA : Field := ⟨17, 2⟩
def RXDP_PRACH_CTL_MODE : Field := ⟨16, 1⟩
def RXDP_PRACH_CTL_NBEAM : Field := ⟨14, 2⟩
def RXDP_PRACH_CTL_PSHIFT : Field := ⟨10, 4⟩
def RXDP_PRACH_FSTART_FSTART : Field := ⟨0, 16⟩
def RXDP_PRACH_BEAM_BSRC : Field := ⟨25, 2⟩
def RXDP_PRACH_BEAM_BVAL : Field := ⟨0, 25⟩
def CAR_CTL_TPRIO : Field := ⟨8, 3⟩
def CAR_CTL_PHCOMP : Field := ⟨2, 1⟩
def CAR_CTL_UL_EN : Field := ⟨1, 1⟩
def CAR_CTL_DL_EN : Field := ⟨0, 1⟩
def CAR_STATUS_CFG_ERR : Field := ⟨2, 1⟩
def CAR_STATUS_TOFF : Field := ⟨1, 1⟩
def CAR_STATUS_BUSY : Field := ⟨0, 1⟩
def CAR_CFG_NPRB : Field := ⟨16, 9⟩
def CAR_CFG_FFTLOG : Field := ⟨4, 4⟩
def CAR_CFG_MU : Field := ⟨0, 3⟩
def CAR_FREQ_F5K : Field := ⟨0, 18⟩
def CAR_TXGAIN_BFSHIFT : Field := ⟨24, 3⟩
def CAR_TXGAIN_SHIFT : Field := ⟨20, 4⟩
def CAR_TXGAIN_GAIN : Field := ⟨0, 16⟩
def CAR_TXWIN_LEN : Field := ⟨0, 8⟩
def CAR_RXGAIN_BFSHIFT : Field := ⟨24, 3⟩
def CAR_RXGAIN_SHIFT : Field := ⟨20, 4⟩
def CAR_RXGAIN_GAIN : Field := ⟨0, 16⟩
def CAR_RXFFT_ADV : Field := ⟨0, 8⟩
def CAR_UL_PKT_CNT_COUNT : Field := ⟨0, 32⟩
def CAR_UL_OVR_CNT_COUNT : Field := ⟨0, 32⟩
def CAR_UL_CLIP_CNT_COUNT : Field := ⟨0, 32⟩
def CAR_TRAFFIC_UL_PKT_MAX : Field := ⟨16, 12⟩
def CAR_TRAFFIC_UL_TIQ : Field := ⟨1, 1⟩
def CAR_TRAFFIC_DL_TIQ : Field := ⟨0, 1⟩
def CAR_DL_WIN_DL_C_EARLY : Field := ⟨20, 12⟩
def CAR_DL_WIN_DL_EARLY : Field := ⟨8, 12⟩
def CAR_DL_WIN_DL_LATE : Field := ⟨0, 8⟩
def CAR_UL_WIN_UL_C_EARLY : Field := ⟨20, 12⟩
def CAR_UL_WIN_UL_C_LATE : Field := ⟨0, 8⟩
def CAR_SEC_ERR_VALID : Field := ⟨31, 1⟩
def CAR_SEC_ERR_REASON : Field := ⟨28, 3⟩
def CAR_SEC_ERR_SYMBOL : Field := ⟨24, 4⟩
def CAR_SEC_ERR_SECID : Field := ⟨12, 12⟩
def CAR_SEC_ERR_SLOT : Field := ⟨0, 10⟩
def CAR_DL_LATE_CNT_COUNT : Field := ⟨0, 32⟩
def CAR_DL_EARLY_CNT_COUNT : Field := ⟨0, 32⟩
def CAR_DL_ORPHAN_CNT_COUNT : Field := ⟨0, 32⟩
def CAR_DL_DUP_CNT_COUNT : Field := ⟨0, 32⟩
def CAR_SEC_REF_CNT_COUNT : Field := ⟨0, 32⟩
def CAR_SEC_REPL_CNT_COUNT : Field := ⟨0, 32⟩
def CAR_DL_DROP_CNT_COUNT : Field := ⟨0, 32⟩
def CAR_UL_DROP_CNT_COUNT : Field := ⟨0, 32⟩
def BEAM_FC_INV : Field := ⟨31, 1⟩
def BEAM_FC_FC5K : Field := ⟨0, 22⟩
def BEAM_BANK_STAT_TXALL_PEND : Field := ⟨31, 1⟩
def BEAM_BANK_STAT_RXALL_PEND : Field := ⟨30, 1⟩
def BEAM_BANK_STAT_EXP_PEND : Field := ⟨28, 2⟩
def BEAM_BANK_STAT_TAPER_PEND : Field := ⟨27, 1⟩
def BEAM_BANK_STAT_GEOM_PEND : Field := ⟨26, 1⟩
def BEAM_BANK_STAT_GEOM_OLD : Field := ⟨12, 1⟩
def BEAM_BANK_STAT_TAPER_OLD : Field := ⟨11, 1⟩
def BEAM_BANK_STAT_EXP_OLD : Field := ⟨9, 2⟩
def BEAM_BANK_STAT_GEOM_ABANK : Field := ⟨5, 1⟩
def BEAM_BANK_STAT_TAPER_ABANK : Field := ⟨4, 1⟩
def BEAM_BANK_STAT_EXP_SERVE : Field := ⟨2, 2⟩
def BEAM_SWAPREQ_REQ : Field := ⟨30, 1⟩
def BEAM_SWAPREQ_BND : Field := ⟨28, 2⟩
def BEAM_SWAPREQ_CARRIER : Field := ⟨25, 3⟩
def BEAM_SWAPREQ_RES : Field := ⟨16, 4⟩
def BEAM_SWAPREQ_IDX : Field := ⟨8, 1⟩
def BEAM_CW_ARM_DIR : Field := ⟨31, 1⟩
def BEAM_CW_ARM_CARRIER : Field := ⟨28, 3⟩
def BEAM_CW_ARM_SLOT : Field := ⟨18, 10⟩
def BEAM_CW_ARM_SYMBOL : Field := ⟨14, 4⟩
def BEAM_CW_ARM_CANCEL : Field := ⟨8, 1⟩
def BEAM_CW_ARM_HANDLE : Field := ⟨0, 8⟩
def BEAM_CW_COMMIT_DIR : Field := ⟨31, 1⟩
def BEAM_CW_COMMIT_HANDLE : Field := ⟨0, 8⟩
def BEAM_CW_ERR_VALID : Field := ⟨31, 1⟩
def BEAM_CW_ERR_REASON : Field := ⟨28, 3⟩
def BEAM_CW_ERR_DIR : Field := ⟨8, 1⟩
def BEAM_CW_ERR_HANDLE : Field := ⟨0, 8⟩
def BEAM_SS_CLR_SET : Field := ⟨0, 8⟩
def BEAM_CW_MISS_CNT_COUNT : Field := ⟨0, 32⟩
def BEAM_CW_DEFER_CNT_COUNT : Field := ⟨0, 32⟩
def BEAM_STALE_CNT_COUNT : Field := ⟨0, 32⟩
def BEAM_REF_ERR_CNT_COUNT : Field := ⟨0, 32⟩
def BEAM_SS_SAT_CNT_COUNT : Field := ⟨0, 32⟩
def BEAM_CW_STAT_A : Field := ⟨31, 1⟩
def BEAM_CW_STAT_ARMED : Field := ⟨30, 1⟩
def BEAM_CW_STAT_COMMITTED : Field := ⟨29, 1⟩
def BEAM_CW_STAT_STALE : Field := ⟨28, 1⟩
def BEAM_CW_STAT_OLD_BUSY : Field := ⟨27, 1⟩
def BEAM_CW_STAT_ACAR : Field := ⟨24, 3⟩
def BEAM_CW_STAT_ASLOT : Field := ⟨14, 10⟩
def BEAM_CW_STAT_ASYM : Field := ⟨10, 4⟩
def BEAM_SS_CFG_PSH : Field := ⟨28, 4⟩
def BEAM_SS_CFG_FSH : Field := ⟨24, 4⟩
def BEAM_SS_CFG_COMB : Field := ⟨22, 2⟩
def BEAM_SS_CFG_COFF : Field := ⟨19, 3⟩
def BEAM_SS_CFG_SBPRB : Field := ⟨8, 8⟩
def BEAM_SS_CFG_EN : Field := ⟨0, 1⟩
def BEAM_SS_SLOT_NSLOT : Field := ⟨16, 8⟩
def BEAM_SS_SLOT_SLOT0 : Field := ⟨0, 8⟩
def BEAM_SS_CNT_COUNT : Field := ⟨0, 32⟩
def DPD_PATH_CTL_BYP : Field := ⟨0, 1⟩
def DPD_PMIN_PMIN : Field := ⟨0, 16⟩
def DPD_STATUS_GEN : Field := ⟨16, 16⟩
def DPD_STATUS_SWAPERR : Field := ⟨13, 3⟩
def DPD_STATUS_SWAPFAIL : Field := ⟨12, 1⟩
def DPD_STATUS_FROZEN : Field := ⟨3, 1⟩
def DPD_STATUS_PEND : Field := ⟨2, 1⟩
def DPD_STATUS_OLD_BUSY : Field := ⟨1, 1⟩
def DPD_STATUS_ABANK : Field := ⟨0, 1⟩
def DPD_SAT_CNT_COUNT : Field := ⟨0, 32⟩
def DPD_SWAPREQ_REQ : Field := ⟨30, 1⟩
def DPD_SWAPREQ_BND : Field := ⟨28, 2⟩
def DPD_SWAPREQ_CARRIER : Field := ⟨25, 3⟩
def DPD_SWAPREQ_IDX : Field := ⟨0, 7⟩
def DPD_WIN_EN : Field := ⟨31, 1⟩
def DPD_WIN_BANK : Field := ⟨8, 1⟩
def DPD_WIN_PATH : Field := ⟨0, 6⟩
def CONV_RXADC_STAT_FAIL : Field := ⟨31, 1⟩
def CONV_RXADC_STAT_USED : Field := ⟨30, 1⟩
def CONV_RXADC_STAT_RETIRED : Field := ⟨8, 4⟩
def CONV_RXADC_STAT_CAL : Field := ⟨4, 4⟩
def CONV_RXADC_MAP_MAP : Field := ⟨0, 32⟩
def CONV_RXADC_CMD_RETIRE : Field := ⟨31, 1⟩
def CONV_RXADC_CMD_SUB : Field := ⟨0, 4⟩
def CONV_DAC_STAT_FAIL : Field := ⟨31, 1⟩
def CONV_DAC_STAT_SPARES : Field := ⟨16, 3⟩
def CONV_DAC_STAT_CAL : Field := ⟨0, 7⟩
def CONV_DAC_CMD_RETIRE : Field := ⟨31, 1⟩
def CONV_DAC_CMD_CELL : Field := ⟨0, 7⟩
def CONV_DAC_RET_RET : Field := ⟨0, 32⟩
def CONV_TX_MODE_FSC : Field := ⟨8, 4⟩
def CONV_TX_MODE_UPRIGHT : Field := ⟨4, 1⟩
def CONV_TX_MODE_MIX : Field := ⟨0, 1⟩
def CONV_RX_MODE_UPRIGHT : Field := ⟨4, 1⟩
def CONV_ROT_DWELL : Field := ⟨0, 16⟩
def CONV_NCO_SEL_RXP : Field := ⟨4, 2⟩
def CONV_NCO_SEL_TXP : Field := ⟨0, 2⟩
def CONV_NCO_TX_ZONE : Field := ⟨24, 2⟩
def CONV_NCO_TX_FC5K : Field := ⟨0, 22⟩
def CONV_NCO_TXF_FINE : Field := ⟨0, 16⟩
def CONV_NCO_RX_ZONE : Field := ⟨24, 2⟩
def CONV_NCO_RX_FC5K : Field := ⟨0, 22⟩
def CONV_NCO_RXF_FINE : Field := ⟨0, 16⟩
def CONV_ALIGN_CTL_SOFT : Field := ⟨0, 1⟩
def CONV_ALIGN_STAT_DONE : Field := ⟨31, 1⟩
def CONV_ALIGN_STAT_CHECK : Field := ⟨30, 1⟩
def CONV_ALIGN_STAT_PEND : Field := ⟨29, 1⟩
def CONV_ALIGN_STAT_ERR : Field := ⟨0, 8⟩
def CONV_OBS_STAT_FAIL : Field := ⟨31, 1⟩
def CONV_OBS_STAT_USED : Field := ⟨30, 1⟩
def CONV_OBS_STAT_RETIRED : Field := ⟨8, 4⟩
def CONV_OBS_STAT_CAL : Field := ⟨4, 4⟩
def CONV_OBS_MAP_MAP : Field := ⟨0, 32⟩
def CONV_OBS_MAP2_MAP : Field := ⟨0, 32⟩
def CONV_OBS_ALIAS_LO : Field := ⟨16, 16⟩
def CONV_OBS_ALIAS_HI : Field := ⟨0, 16⟩
def CONV_OBS_CMD_RETIRE : Field := ⟨31, 1⟩
def CONV_OBS_CMD_SUB : Field := ⟨0, 4⟩
def OBS_CAGE_CFG_SETTLE : Field := ⟨20, 12⟩
def OBS_CAGE_CFG_SLOT : Field := ⟨0, 16⟩
def OBS_CAGE_STAT_GRANTED : Field := ⟨31, 1⟩
def OBS_CAGE_STAT_QDEPTH : Field := ⟨8, 4⟩
def OBS_CAGE_STAT_OWNER : Field := ⟨0, 4⟩
def OBS_CAGE_DEAD_CNT_COUNT : Field := ⟨0, 32⟩
def OBS_CAP_CFG_STREAMS : Field := ⟨0, 4⟩
def OBS_CAP_REQ_GO : Field := ⟨31, 1⟩
def OBS_CAP_REQ_MIRROR : Field := ⟨30, 1⟩
def OBS_CAP_REQ_NBLK : Field := ⟨0, 16⟩
def OBS_CAP_DEST_ADDR : Field := ⟨0, 24⟩
def OBS_CAP_CANCEL_MIRROR : Field := ⟨1, 1⟩
def OBS_CAP_CANCEL_CANCEL : Field := ⟨0, 1⟩
def OBS_CAP_STAT_PEND : Field := ⟨31, 1⟩
def OBS_CAP_STAT_GRANT : Field := ⟨30, 1⟩
def OBS_CAP_STAT_DONE : Field := ⟨29, 1⟩
def OBS_CAP_STAT_STATUS : Field := ⟨24, 3⟩
def OBS_CAP_STAT_M_PEND : Field := ⟨15, 1⟩
def OBS_CAP_STAT_M_GRANT : Field := ⟨14, 1⟩
def OBS_CAP_STAT_M_DONE : Field := ⟨13, 1⟩
def OBS_CAP_STAT_M_STATUS : Field := ⟨8, 3⟩
def OBS_VSWR_CFG_EN : Field := ⟨31, 1⟩
def OBS_VSWR_CFG_NWIN : Field := ⟨24, 3⟩
def OBS_VSWR_CFG_HI : Field := ⟨8, 8⟩
def OBS_VSWR_CFG_LO : Field := ⟨0, 8⟩
def OBS_VSWR_REF_REF : Field := ⟨0, 16⟩
def OBS_VSWR_STAT_ALARM : Field := ⟨31, 1⟩
def OBS_VSWR_STAT_RATIO : Field := ⟨0, 16⟩
def OBS_VSWR_PMIN_PMIN : Field := ⟨0, 16⟩
def MON_CTL_EN : Field := ⟨31, 1⟩
def MON_CTL_ONESHOT : Field := ⟨30, 1⟩
def MON_CTL_LAST : Field := ⟨0, 6⟩
def MON_STAT_RUN : Field := ⟨31, 1⟩
def MON_STAT_URGBUSY : Field := ⟨30, 1⟩
def MON_STAT_UQDEPTH : Field := ⟨27, 3⟩
def MON_STAT_ENTRY : Field := ⟨0, 6⟩
def MON_SEQ_CNT_COUNT : Field := ⟨0, 32⟩
def MON_URG_GO : Field := ⟨31, 1⟩
def MON_URG_RANGE : Field := ⟨16, 1⟩
def MON_URG_SETTLE : Field := ⟨12, 4⟩
def MON_URG_AVG : Field := ⟨8, 3⟩
def MON_URG_CH : Field := ⟨0, 6⟩
def MON_URG_RES_NEW : Field := ⟨31, 1⟩
def MON_URG_RES_OR : Field := ⟨30, 1⟩
def MON_URG_RES_REQID : Field := ⟨22, 8⟩
def MON_URG_RES_CH : Field := ⟨16, 6⟩
def MON_URG_RES_CODE : Field := ⟨0, 12⟩
def MON_WIN_STAT_EXIT : Field := ⟨0, 32⟩
def MON_OVR_CNT_COUNT : Field := ⟨0, 32⟩
def MON_SEQ_RANGE : Field := ⟨16, 1⟩
def MON_SEQ_SETTLE : Field := ⟨12, 4⟩
def MON_SEQ_AVG : Field := ⟨8, 3⟩
def MON_SEQ_CH : Field := ⟨0, 6⟩
def MON_WIN_EN : Field := ⟨31, 1⟩
def MON_WIN_HI : Field := ⟨16, 12⟩
def MON_WIN_HYS : Field := ⟨12, 4⟩
def MON_WIN_LO : Field := ⟨0, 12⟩
def MON_RES_NEW : Field := ⟨31, 1⟩
def MON_RES_OR : Field := ⟨30, 1⟩
def MON_RES_OUT : Field := ⟨29, 1⟩
def MON_RES_CH : Field := ⟨16, 6⟩
def MON_RES_CODE : Field := ⟨0, 12⟩
def AUX_DAC_RANGE : Field := ⟨16, 1⟩
def AUX_DAC_CODE : Field := ⟨0, 12⟩
def AUX_CLRCODE_CODE : Field := ⟨0, 12⟩
def AUX_STAT_CLEARED : Field := ⟨31, 1⟩
def AUX_STAT_HOLD : Field := ⟨30, 1⟩
def AUX_FAULT_OPEN : Field := ⟨1, 1⟩
def AUX_FAULT_SHORT : Field := ⟨0, 1⟩
def AUX_LOAD_OPENMIN : Field := ⟨0, 8⟩
def AUX_CTL_PINCLR : Field := ⟨31, 1⟩
def AUX_CTL_CLRALL : Field := ⟨0, 1⟩
def AUX_FAULTMAP_FAULT : Field := ⟨0, 32⟩
def ASSAY_CTL_EN : Field := ⟨31, 1⟩
def ASSAY_CTL_RXINJ : Field := ⟨30, 1⟩
def ASSAY_CTL_ITEMS : Field := ⟨0, 9⟩
def ASSAY_STAT_CONV : Field := ⟨31, 1⟩
def ASSAY_STAT_BUSY : Field := ⟨30, 1⟩
def ASSAY_STAT_FWPAUSE : Field := ⟨29, 1⟩
def ASSAY_STAT_FAIL_ANY : Field := ⟨0, 9⟩
def ASSAY_NFAIL_N : Field := ⟨0, 8⟩
def ASSAY_CALIO_LEVEL : Field := ⟨0, 8⟩
def ASSAY_SAVE_GO : Field := ⟨31, 1⟩
def ASSAY_SAVE_ADDR : Field := ⟨0, 24⟩
def ASSAY_RESTORE_GO : Field := ⟨31, 1⟩
def ASSAY_RESTORE_ADDR : Field := ⟨0, 24⟩
def ASSAY_BLOB_STAT_DONE : Field := ⟨31, 1⟩
def ASSAY_BLOB_STAT_OP : Field := ⟨30, 1⟩
def ASSAY_BLOB_STAT_RESULT : Field := ⟨0, 4⟩
def ASSAY_STATE_LEN_BYTES : Field := ⟨0, 32⟩
def ASSAY_PERIOD_MS : Field := ⟨0, 16⟩
def ASSAY_FAIL_FAIL : Field := ⟨0, 32⟩
def ASSAY_STATE_DATA : Field := ⟨0, 32⟩
def LODE_ISAVER_VER : Field := ⟨0, 8⟩
def LODE_CL_STAT_ACTIVE : Field := ⟨8, 6⟩
def LODE_CL_STAT_SPARES : Field := ⟨4, 2⟩
def LODE_CL_STAT_CLKDIV : Field := ⟨0, 2⟩
def LODE_RELIEF_RETIRE : Field := ⟨31, 1⟩
def LODE_RELIEF_BUSY : Field := ⟨30, 1⟩
def LODE_RELIEF_CORE : Field := ⟨0, 6⟩
def LODE_MAP_MAP : Field := ⟨0, 32⟩
def LODE_LMWIN_CORE : Field := ⟨0, 6⟩
def LODE_WQ_PUSH_ADDR : Field := ⟨0, 24⟩
def LODE_WQ_STAT_FULL : Field := ⟨31, 1⟩
def LODE_WQ_STAT_RUNNING : Field := ⟨16, 6⟩
def LODE_WQ_STAT_DEPTH : Field := ⟨0, 7⟩
def LODE_WQ_DONE_CNT_COUNT : Field := ⟨0, 32⟩
def LODE_WQ_FULL_CNT_COUNT : Field := ⟨0, 32⟩
def LODE_CORE_CTL_EN : Field := ⟨31, 1⟩
def LODE_CORE_CTL_QMASK : Field := ⟨0, 8⟩
def LODE_CORE_STAT_STATE : Field := ⟨29, 3⟩
def LODE_CORE_STAT_LOCAL : Field := ⟨28, 1⟩
def LODE_CORE_STAT_SUP : Field := ⟨27, 1⟩
def LODE_CORE_STAT_QUEUE : Field := ⟨24, 3⟩
def LODE_CORE_STAT_LOGICAL : Field := ⟨16, 6⟩
def LODE_CFG_TRUNC : Field := ⟨0, 1⟩
def LODE_TRAP_LAST : Field := ⟨8, 8⟩
def LODE_TRAP_SAT : Field := ⟨1, 1⟩
def LODE_TRAP_AOV : Field := ⟨0, 1⟩
def LODE_STICKY_AOV : Field := ⟨16, 16⟩
def LODE_STICKY_SAT : Field := ⟨0, 16⟩
def LODE_ITEM_ADDR : Field := ⟨0, 24⟩
def LODE_CORE_PC_PC : Field := ⟨0, 24⟩
def SEC_LIFECYCLE_STATE : Field := ⟨0, 2⟩
def SEC_ROOT_RUNROM : Field := ⟨20, 1⟩
def SEC_ROOT_RUNSLOT : Field := ⟨16, 4⟩
def SEC_ROOT_DEAD : Field := ⟨12, 4⟩
def SEC_ROOT_REVOKED : Field := ⟨8, 4⟩
def SEC_ROOT_PROG : Field := ⟨0, 4⟩
def SEC_SVN_RUN : Field := ⟨8, 6⟩
def SEC_SVN_MIN : Field := ⟨0, 6⟩
def SEC_FW_LASTREJ : Field := ⟨4, 4⟩
def SEC_FW_SWAP_PEND : Field := ⟨2, 1⟩
def SEC_FW_STAGED : Field := ⟨1, 1⟩
def SEC_FW_FWSEL : Field := ⟨0, 1⟩
def SEC_IDHASH_HASH : Field := ⟨0, 32⟩
def SEC_ROOTHASH_HASH : Field := ⟨0, 32⟩
def SEC_BOOTREC_MEAS : Field := ⟨0, 32⟩
def SEC_BOOTSRC_VALID : Field := ⟨31, 1⟩
def SEC_BOOTSRC_SPACE : Field := ⟨0, 2⟩
def SEC_BOOTLEN_VALUE : Field := ⟨0, 32⟩
def SEC_OTP_CMD_CMD : Field := ⟨0, 32⟩
def SEC_OTP_STAT_BUSY : Field := ⟨31, 1⟩
def SEC_OTP_STAT_LAST : Field := ⟨0, 8⟩
def REPAIR_STAT_USED : Field := ⟨22, 10⟩
def REPAIR_STAT_BADREC : Field := ⟨12, 10⟩
def REPAIR_STAT_NOROW : Field := ⟨11, 1⟩
def REPAIR_SCRUB_MS : Field := ⟨0, 16⟩
def REPAIR_CE_CNT_COUNT : Field := ⟨0, 32⟩
def REPAIR_UE_CNT_COUNT : Field := ⟨0, 32⟩
def REPAIR_BFMAP_MAP : Field := ⟨0, 32⟩
end Fld

def rows_sys : List RegRow :=
  [ ⟨0x0, [], 1, [⟨⟨16, 16⟩, .ro, 25700⟩, ⟨⟨0, 16⟩, .ro, 18516⟩], []⟩
  , ⟨0x4, [], 1, [⟨⟨0, 8⟩, .ro, 192⟩], []⟩
  , ⟨0x8, [], 2, [⟨⟨0, 32⟩, .ro, 0⟩], [⟨⟨0, 32⟩, .ro, 0⟩]⟩
  , ⟨0x10, [], 1, [⟨⟨31, 1⟩, .ro, 0⟩, ⟨⟨30, 1⟩, .ro, 0⟩, ⟨⟨11, 1⟩, .ro, 0⟩, ⟨⟨10, 1⟩, .ro, 0⟩, ⟨⟨9, 1⟩, .ro, 0⟩, ⟨⟨8, 1⟩, .ro, 0⟩, ⟨⟨7, 1⟩, .ro, 0⟩, ⟨⟨6, 1⟩, .ro, 0⟩, ⟨⟨5, 1⟩, .ro, 0⟩, ⟨⟨4, 1⟩, .ro, 0⟩, ⟨⟨3, 1⟩, .ro, 0⟩, ⟨⟨2, 1⟩, .ro, 0⟩, ⟨⟨1, 1⟩, .ro, 0⟩, ⟨⟨0, 1⟩, .ro, 1⟩], []⟩
  , ⟨0x20, [], 1, [⟨⟨31, 1⟩, .w1c, 0⟩, ⟨⟨30, 1⟩, .ro, 0⟩, ⟨⟨8, 16⟩, .ro, 0⟩, ⟨⟨0, 8⟩, .ro, 0⟩], []⟩
  , ⟨0x24, [], 1, [⟨⟨0, 32⟩, .ro, 0⟩], []⟩ ]
def rows_pwr : List RegRow :=
  [ ⟨0x10000, [], 1, [⟨⟨0, 3⟩, .wo, 0⟩], []⟩
  , ⟨0x10004, [], 1, [⟨⟨31, 1⟩, .w1c, 0⟩, ⟨⟨30, 1⟩, .ro, 0⟩, ⟨⟨29, 1⟩, .w1c, 0⟩, ⟨⟨27, 2⟩, .ro, 0⟩, ⟨⟨24, 3⟩, .ro, 0⟩, ⟨⟨4, 4⟩, .ro, 0⟩, ⟨⟨0, 3⟩, .ro, 1⟩], []⟩
  , ⟨0x10008, [], 1, [⟨⟨8, 2⟩, .rw, 3⟩, ⟨⟨0, 4⟩, .rw, 15⟩], []⟩
  , ⟨0x1000C, [], 1, [⟨⟨4, 4⟩, .rw, 1⟩, ⟨⟨0, 2⟩, .rw, 0⟩], []⟩
  , ⟨0x10010, [], 1, [⟨⟨0, 7⟩, .rw, 127⟩], []⟩
  , ⟨0x10014, [], 1, [⟨⟨0, 7⟩, .w1c, 0⟩], []⟩
  , ⟨0x10018, [], 1, [⟨⟨0, 4⟩, .w1c, 0⟩], []⟩ ]
def rows_canary : List RegRow :=
  [ ⟨0x20000, [], 1, [⟨⟨0, 1⟩, .rw, 0⟩], []⟩
  , ⟨0x20004, [], 1, [⟨⟨31, 1⟩, .ro, 0⟩, ⟨⟨30, 1⟩, .ro, 0⟩, ⟨⟨29, 1⟩, .ro, 0⟩, ⟨⟨28, 1⟩, .ro, 0⟩, ⟨⟨16, 6⟩, .ro, 0⟩, ⟨⟨0, 16⟩, .ro, 0⟩], []⟩
  , ⟨0x20008, [], 1, [⟨⟨16, 8⟩, .rw, 127⟩, ⟨⟨8, 8⟩, .rw, 118⟩, ⟨⟨0, 8⟩, .rw, 110⟩], []⟩
  , ⟨0x2000C, [], 1, [⟨⟨0, 10⟩, .rw, 20⟩], []⟩
  , ⟨0x20010, [], 2, [⟨⟨0, 32⟩, .ro, 0⟩], [⟨⟨0, 8⟩, .ro, 0⟩]⟩
  , ⟨0x20018, [], 2, [⟨⟨0, 32⟩, .rw, 0⟩], [⟨⟨0, 8⟩, .rw, 0⟩]⟩
  , ⟨0x20100, [(4, 40)], 1, [⟨⟨31, 1⟩, .ro, 0⟩, ⟨⟨0, 16⟩, .ro, 0⟩], []⟩ ]
def rows_time0 : List RegRow :=
  [ ⟨0x30000, [], 1, [⟨⟨1, 1⟩, .rw, 0⟩, ⟨⟨0, 1⟩, .rw, 0⟩], []⟩
  , ⟨0x30004, [], 1, [⟨⟨6, 1⟩, .ro, 0⟩, ⟨⟨5, 1⟩, .ro, 0⟩, ⟨⟨4, 1⟩, .ro, 0⟩, ⟨⟨3, 1⟩, .ro, 0⟩, ⟨⟨2, 1⟩, .ro, 0⟩, ⟨⟨1, 1⟩, .ro, 0⟩, ⟨⟨0, 1⟩, .ro, 0⟩], []⟩
  , ⟨0x30008, [], 1, [⟨⟨0, 16⟩, .rw, 256⟩], []⟩
  , ⟨0x30010, [], 2, [⟨⟨0, 32⟩, .ro, 0⟩], [⟨⟨0, 32⟩, .ro, 0⟩]⟩
  , ⟨0x30020, [(64, 2)], 4, [⟨⟨0, 32⟩, .rw, 0⟩], [⟨⟨0, 32⟩, .rw, 0⟩]⟩
  , ⟨0x30030, [(64, 2)], 2, [⟨⟨0, 32⟩, .rw, 1789569707⟩], [⟨⟨0, 16⟩, .rw, 260⟩]⟩
  , ⟨0x30038, [(64, 2)], 2, [⟨⟨0, 32⟩, .wo, 0⟩], [⟨⟨0, 32⟩, .wo, 0⟩]⟩
  , ⟨0x30040, [(64, 2)], 2, [⟨⟨0, 32⟩, .ro, 0⟩], [⟨⟨0, 32⟩, .ro, 0⟩]⟩
  , ⟨0x30050, [(64, 2)], 4, [⟨⟨0, 32⟩, .ro, 0⟩], [⟨⟨0, 32⟩, .ro, 0⟩]⟩
  , ⟨0x300A0, [], 4, [⟨⟨0, 32⟩, .ro, 0⟩], [⟨⟨0, 32⟩, .ro, 0⟩]⟩
  , ⟨0x300B0, [], 2, [⟨⟨0, 32⟩, .ro, 0⟩], [⟨⟨0, 32⟩, .ro, 0⟩]⟩
  , ⟨0x300C0, [(16, 2)], 4, [⟨⟨0, 32⟩, .ro, 0⟩], [⟨⟨0, 32⟩, .ro, 0⟩]⟩ ]
def rows_time1 : List RegRow :=
  [ ⟨0x300E0, [], 2, [⟨⟨0, 32⟩, .ro, 0⟩], [⟨⟨0, 32⟩, .ro, 0⟩]⟩
  , ⟨0x300F0, [], 1, [⟨⟨20, 12⟩, .rw, 100⟩, ⟨⟨0, 20⟩, .rw, 0⟩], []⟩
  , ⟨0x30100, [(4, 2)], 1, [⟨⟨16, 16⟩, .rw, 0⟩, ⟨⟨0, 16⟩, .rw, 0⟩], []⟩
  , ⟨0x30110, [], 1, [⟨⟨1, 1⟩, .w1c, 0⟩, ⟨⟨0, 1⟩, .rw, 0⟩], []⟩
  , ⟨0x30118, [], 2, [⟨⟨0, 32⟩, .ro, 0⟩], [⟨⟨0, 32⟩, .ro, 0⟩]⟩ ]
def rows_time : List RegRow := rows_time0 ++ rows_time1
def rows_mbx : List RegRow :=
  [ ⟨0x40000, [(256, 32), (4, 16)], 1, [⟨⟨0, 32⟩, .rw, 0⟩], []⟩
  , ⟨0x40040, [(256, 32)], 1, [⟨⟨0, 1⟩, .wo, 0⟩], []⟩
  , ⟨0x40044, [(256, 32)], 1, [⟨⟨31, 1⟩, .ro, 0⟩, ⟨⟨30, 1⟩, .ro, 0⟩, ⟨⟨29, 1⟩, .w1c, 0⟩, ⟨⟨16, 8⟩, .ro, 0⟩, ⟨⟨8, 8⟩, .ro, 0⟩, ⟨⟨0, 8⟩, .ro, 0⟩], []⟩
  , ⟨0x40048, [(256, 32)], 1, [⟨⟨31, 1⟩, .rw, 0⟩, ⟨⟨24, 3⟩, .rw, 0⟩, ⟨⟨0, 8⟩, .rw, 0⟩], []⟩
  , ⟨0x4004C, [(256, 32)], 1, [⟨⟨0, 1⟩, .wo, 0⟩], []⟩
  , ⟨0x40050, [(256, 32)], 1, [⟨⟨0, 24⟩, .rw, 0⟩], []⟩
  , ⟨0x42000, [], 1, [⟨⟨0, 32⟩, .ro, 0⟩], []⟩
  , ⟨0x42004, [], 1, [⟨⟨0, 16⟩, .rw, 100⟩], []⟩
  , ⟨0x43000, [(4, 64)], 1, [⟨⟨0, 8⟩, .rw, 0⟩], []⟩
  , ⟨0x43100, [(4, 64)], 1, [⟨⟨0, 20⟩, .rw, 1000⟩], []⟩
  , ⟨0x43200, [(4, 64)], 1, [⟨⟨31, 1⟩, .ro, 0⟩, ⟨⟨30, 1⟩, .w1c, 0⟩, ⟨⟨24, 2⟩, .ro, 0⟩, ⟨⟨16, 8⟩, .ro, 0⟩, ⟨⟨0, 8⟩, .ro, 0⟩], []⟩ ]
def rows_dma : List RegRow :=
  [ ⟨0x50000, [(256, 16)], 2, [⟨⟨0, 32⟩, .rw, 0⟩], [⟨⟨0, 32⟩, .rw, 0⟩]⟩
  , ⟨0x50008, [(256, 16)], 2, [⟨⟨0, 32⟩, .rw, 0⟩], [⟨⟨0, 32⟩, .rw, 0⟩]⟩
  , ⟨0x50010, [(256, 16)], 1, [⟨⟨0, 32⟩, .rw, 0⟩], []⟩
  , ⟨0x50014, [(256, 16)], 1, [⟨⟨16, 16⟩, .rw, 0⟩, ⟨⟨8, 2⟩, .rw, 0⟩, ⟨⟨4, 2⟩, .rw, 0⟩, ⟨⟨2, 2⟩, .rw, 0⟩, ⟨⟨1, 1⟩, .rw, 0⟩], []⟩
  , ⟨0x50018, [(256, 16)], 1, [⟨⟨1, 1⟩, .wo, 0⟩, ⟨⟨0, 1⟩, .wo, 0⟩], []⟩
  , ⟨0x5001C, [(256, 16)], 1, [⟨⟨30, 2⟩, .ro, 0⟩, ⟨⟨29, 1⟩, .ro, 0⟩, ⟨⟨28, 1⟩, .ro, 0⟩, ⟨⟨27, 1⟩, .ro, 0⟩, ⟨⟨0, 8⟩, .ro, 0⟩], []⟩
  , ⟨0x50020, [(256, 16)], 1, [⟨⟨0, 32⟩, .ro, 0⟩], []⟩
  , ⟨0x51000, [(32, 4)], 2, [⟨⟨0, 32⟩, .rw, 0⟩], [⟨⟨0, 32⟩, .rw, 0⟩]⟩
  , ⟨0x51008, [(32, 4)], 1, [⟨⟨31, 1⟩, .rw, 0⟩, ⟨⟨8, 2⟩, .rw, 0⟩, ⟨⟨0, 4⟩, .rw, 4⟩], []⟩
  , ⟨0x5100C, [(32, 4)], 1, [⟨⟨0, 16⟩, .rw, 0⟩], []⟩
  , ⟨0x51010, [(32, 4)], 1, [⟨⟨0, 16⟩, .ro, 0⟩], []⟩ ]
def rows_pmu : List RegRow :=
  [ ⟨0x60000, [], 1, [⟨⟨31, 1⟩, .rw, 0⟩, ⟨⟨30, 1⟩, .wo, 0⟩, ⟨⟨29, 1⟩, .rw, 0⟩, ⟨⟨0, 1⟩, .rw, 0⟩], []⟩
  , ⟨0x60004, [], 1, [⟨⟨31, 1⟩, .ro, 0⟩, ⟨⟨30, 1⟩, .ro, 0⟩, ⟨⟨29, 1⟩, .w1c, 0⟩, ⟨⟨0, 6⟩, .ro, 0⟩], []⟩
  , ⟨0x60008, [], 2, [⟨⟨0, 32⟩, .ro, 0⟩], [⟨⟨0, 32⟩, .ro, 0⟩]⟩
  , ⟨0x60010, [], 2, [⟨⟨0, 32⟩, .rw, 0⟩], [⟨⟨0, 14⟩, .rw, 0⟩]⟩
  , ⟨0x60018, [], 2, [⟨⟨0, 32⟩, .ro, 0⟩], [⟨⟨0, 14⟩, .ro, 0⟩]⟩
  , ⟨0x61000, [(256, 46), (4, 8)], 1, [⟨⟨0, 32⟩, .rw, 0⟩], []⟩
  , ⟨0x61020, [(256, 46), (4, 8)], 1, [⟨⟨0, 32⟩, .ro, 0⟩], []⟩
  , ⟨0x61040, [(256, 46), (4, 8)], 1, [⟨⟨31, 1⟩, .rw, 0⟩, ⟨⟨30, 1⟩, .rw, 0⟩, ⟨⟨29, 1⟩, .rw, 0⟩, ⟨⟨0, 8⟩, .rw, 0⟩], []⟩
  , ⟨0x61080, [(256, 46)], 1, [⟨⟨31, 1⟩, .w1c, 0⟩, ⟨⟨0, 8⟩, .w1c, 0⟩], []⟩ ]
def rows_evt : List RegRow :=
  [ ⟨0x70000, [], 1, [⟨⟨0, 32⟩, .ro, 0⟩], []⟩
  , ⟨0x70004, [], 1, [⟨⟨0, 32⟩, .ro, 0⟩], []⟩
  , ⟨0x70008, [], 1, [⟨⟨31, 1⟩, .w1c, 0⟩], []⟩
  , ⟨0x7000C, [], 1, [⟨⟨1, 15⟩, .rw, 0⟩], []⟩
  , ⟨0x70010, [], 1, [⟨⟨0, 32⟩, .rw, 0⟩], []⟩
  , ⟨0x71000, [(4, 8192)], 1, [⟨⟨0, 32⟩, .ro, 0⟩], []⟩ ]
def rows_linka0 : List RegRow :=
  [ ⟨0x80000, [(65536, 2)], 1, [⟨⟨16, 7⟩, .rw, 127⟩, ⟨⟨10, 2⟩, .rw, 3⟩, ⟨⟨8, 2⟩, .rw, 3⟩, ⟨⟨3, 1⟩, .rw, 1⟩, ⟨⟨1, 1⟩, .rw, 1⟩, ⟨⟨0, 1⟩, .wo, 0⟩], []⟩
  , ⟨0x80004, [(65536, 2)], 1, [⟨⟨0, 7⟩, .rw, 127⟩], []⟩
  , ⟨0x80008, [(65536, 2)], 1, [⟨⟨28, 4⟩, .ro, 0⟩, ⟨⟨26, 2⟩, .ro, 0⟩, ⟨⟨25, 1⟩, .ro, 0⟩, ⟨⟨24, 1⟩, .ro, 0⟩, ⟨⟨23, 1⟩, .ro, 0⟩, ⟨⟨21, 2⟩, .ro, 0⟩, ⟨⟨0, 16⟩, .ro, 0⟩], []⟩
  , ⟨0x8000C, [(65536, 2)], 1, [⟨⟨16, 7⟩, .ro, 0⟩, ⟨⟨0, 7⟩, .ro, 0⟩], []⟩
  , ⟨0x80010, [(65536, 2)], 1, [⟨⟨1, 15⟩, .rw, 0⟩], []⟩
  , ⟨0x80014, [(65536, 2)], 1, [⟨⟨0, 20⟩, .rw, 1000⟩], []⟩
  , ⟨0x80018, [(65536, 2)], 1, [⟨⟨0, 16⟩, .rw, 10⟩], []⟩
  , ⟨0x8001C, [(65536, 2)], 1, [⟨⟨5, 1⟩, .w1c, 0⟩, ⟨⟨4, 1⟩, .w1c, 0⟩, ⟨⟨3, 1⟩, .w1c, 0⟩, ⟨⟨2, 1⟩, .w1c, 0⟩, ⟨⟨1, 1⟩, .w1c, 0⟩, ⟨⟨0, 1⟩, .w1c, 0⟩], []⟩
  , ⟨0x80020, [(65536, 2)], 1, [⟨⟨4, 4⟩, .ro, 0⟩, ⟨⟨2, 2⟩, .ro, 0⟩, ⟨⟨1, 1⟩, .ro, 0⟩, ⟨⟨0, 1⟩, .ro, 0⟩], []⟩
  , ⟨0x80030, [], 1, [⟨⟨16, 8⟩, .rw, 0⟩, ⟨⟨8, 1⟩, .wo, 0⟩, ⟨⟨5, 1⟩, .rw, 0⟩, ⟨⟨4, 1⟩, .rw, 0⟩, ⟨⟨3, 1⟩, .rw, 1⟩, ⟨⟨2, 1⟩, .rw, 0⟩, ⟨⟨0, 2⟩, .rw, 0⟩], []⟩
  , ⟨0x80034, [], 1, [⟨⟨0, 8⟩, .rw, 0⟩], []⟩
  , ⟨0x80040, [(65536, 2)], 2, [⟨⟨0, 32⟩, .ro, 0⟩], [⟨⟨0, 32⟩, .ro, 0⟩]⟩ ]
def rows_linka1 : List RegRow :=
  [ ⟨0x80048, [(65536, 2)], 2, [⟨⟨0, 32⟩, .ro, 0⟩], [⟨⟨0, 32⟩, .ro, 0⟩]⟩
  , ⟨0x80050, [(65536, 2)], 2, [⟨⟨0, 32⟩, .ro, 0⟩], [⟨⟨0, 32⟩, .ro, 0⟩]⟩
  , ⟨0x80058, [(65536, 2)], 2, [⟨⟨0, 32⟩, .ro, 0⟩], [⟨⟨0, 32⟩, .ro, 0⟩]⟩
  , ⟨0x80060, [(65536, 2)], 2, [⟨⟨0, 32⟩, .ro, 0⟩], [⟨⟨0, 32⟩, .ro, 0⟩]⟩
  , ⟨0x80068, [(65536, 2)], 2, [⟨⟨0, 32⟩, .ro, 0⟩], [⟨⟨0, 32⟩, .ro, 0⟩]⟩ ]
def rows_linka : List RegRow := rows_linka0 ++ rows_linka1
def rows_lane0 : List RegRow :=
  [ ⟨0xA0000, [(64, 2)], 1, [⟨⟨8, 4⟩, .rw, 6⟩, ⟨⟨3, 1⟩, .rw, 1⟩, ⟨⟨2, 1⟩, .rw, 1⟩, ⟨⟨1, 1⟩, .rw, 0⟩, ⟨⟨0, 1⟩, .rw, 0⟩], []⟩
  , ⟨0xA0004, [(64, 2)], 1, [⟨⟨20, 4⟩, .ro, 15⟩, ⟨⟨16, 4⟩, .ro, 15⟩, ⟨⟨9, 1⟩, .ro, 0⟩, ⟨⟨8, 1⟩, .ro, 0⟩, ⟨⟨5, 1⟩, .ro, 0⟩, ⟨⟨4, 1⟩, .ro, 0⟩, ⟨⟨0, 4⟩, .ro, 0⟩], []⟩
  , ⟨0xA0008, [(64, 2)], 1, [⟨⟨0, 32⟩, .ro, 1985229328⟩], []⟩
  , ⟨0xA000C, [(64, 2)], 1, [⟨⟨0, 32⟩, .ro, 1985229328⟩], []⟩
  , ⟨0xA0010, [(64, 2)], 1, [⟨⟨4, 4⟩, .wo, 0⟩, ⟨⟨0, 4⟩, .wo, 0⟩], []⟩
  , ⟨0xA0014, [(64, 2)], 1, [⟨⟨24, 8⟩, .rw, 6⟩, ⟨⟨16, 8⟩, .rw, 4⟩, ⟨⟨0, 16⟩, .rw, 2000⟩], []⟩
  , ⟨0xA0020, [(64, 2)], 1, [⟨⟨31, 1⟩, .wo, 0⟩, ⟨⟨30, 1⟩, .ro, 0⟩, ⟨⟨9, 9⟩, .rw, 0⟩, ⟨⟨4, 5⟩, .rw, 24⟩, ⟨⟨0, 4⟩, .rw, 1⟩], []⟩
  , ⟨0xA1000, [(4096, 2), (256, 9)], 1, [⟨⟨16, 8⟩, .ro, 0⟩, ⟨⟨12, 1⟩, .ro, 0⟩, ⟨⟨8, 4⟩, .ro, 15⟩, ⟨⟨7, 1⟩, .ro, 0⟩, ⟨⟨6, 1⟩, .ro, 0⟩, ⟨⟨4, 2⟩, .ro, 3⟩, ⟨⟨0, 4⟩, .ro, 0⟩], []⟩
  , ⟨0xA1004, [(4096, 2), (256, 9)], 1, [⟨⟨24, 7⟩, .ro, 52⟩, ⟨⟨18, 6⟩, .ro, 0⟩, ⟨⟨12, 6⟩, .ro, 58⟩, ⟨⟨6, 6⟩, .ro, 58⟩, ⟨⟨0, 6⟩, .ro, 0⟩], []⟩
  , ⟨0xA1008, [(4096, 2), (256, 9)], 1, [⟨⟨0, 3⟩, .rw, 4⟩], []⟩
  , ⟨0xA1010, [(4096, 2), (256, 9)], 2, [⟨⟨0, 32⟩, .ro, 0⟩], [⟨⟨0, 32⟩, .ro, 0⟩]⟩
  , ⟨0xA1018, [(4096, 2), (256, 9)], 2, [⟨⟨0, 32⟩, .ro, 0⟩], [⟨⟨0, 32⟩, .ro, 0⟩]⟩ ]
def rows_lane1 : List RegRow :=
  [ ⟨0xA1020, [(4096, 2), (256, 9)], 1, [⟨⟨0, 32⟩, .ro, 0⟩], []⟩
  , ⟨0xA1030, [(4096, 2), (256, 9), (4, 3)], 1, [⟨⟨24, 8⟩, .ro, 0⟩, ⟨⟨16, 8⟩, .ro, 0⟩, ⟨⟨8, 8⟩, .ro, 0⟩, ⟨⟨0, 8⟩, .ro, 0⟩], []⟩
  , ⟨0xA103C, [(4096, 2), (256, 9)], 1, [⟨⟨0, 2⟩, .ro, 0⟩], []⟩ ]
def rows_lane : List RegRow := rows_lane0 ++ rows_lane1
def rows_sb0 : List RegRow :=
  [ ⟨0x100000, [(4096, 5)], 1, [⟨⟨1, 1⟩, .wo, 0⟩, ⟨⟨0, 1⟩, .rw, 0⟩], []⟩
  , ⟨0x100004, [(4096, 5)], 1, [⟨⟨28, 4⟩, .ro, 0⟩, ⟨⟨25, 3⟩, .ro, 0⟩, ⟨⟨24, 1⟩, .ro, 0⟩, ⟨⟨23, 1⟩, .ro, 0⟩, ⟨⟨20, 3⟩, .ro, 0⟩, ⟨⟨16, 4⟩, .ro, 0⟩, ⟨⟨0, 12⟩, .ro, 0⟩], []⟩
  , ⟨0x100008, [(4096, 5)], 1, [⟨⟨31, 1⟩, .ro, 0⟩, ⟨⟨30, 1⟩, .wo, 0⟩, ⟨⟨28, 2⟩, .rw, 0⟩, ⟨⟨25, 3⟩, .rw, 0⟩], []⟩
  , ⟨0x100010, [(4096, 5)], 2, [⟨⟨0, 32⟩, .rw, 0⟩], [⟨⟨0, 32⟩, .rw, 0⟩]⟩
  , ⟨0x100018, [(4096, 5)], 2, [⟨⟨0, 32⟩, .rw, 0⟩], [⟨⟨0, 32⟩, .rw, 0⟩]⟩
  , ⟨0x100020, [(4096, 5)], 2, [⟨⟨0, 32⟩, .ro, 0⟩], [⟨⟨0, 32⟩, .ro, 0⟩]⟩
  , ⟨0x100028, [(4096, 5)], 2, [⟨⟨0, 32⟩, .wo, 0⟩], [⟨⟨0, 32⟩, .wo, 0⟩]⟩
  , ⟨0x100030, [(4096, 5)], 2, [⟨⟨0, 32⟩, .wo, 0⟩], [⟨⟨0, 32⟩, .wo, 0⟩]⟩
  , ⟨0x100038, [(4096, 5)], 1, [⟨⟨4, 1⟩, .w1c, 0⟩, ⟨⟨3, 1⟩, .w1c, 0⟩, ⟨⟨2, 1⟩, .w1c, 0⟩, ⟨⟨1, 1⟩, .w1c, 0⟩, ⟨⟨0, 1⟩, .w1c, 0⟩], []⟩
  , ⟨0x10003C, [(4096, 5)], 1, [⟨⟨0, 32⟩, .ro, 0⟩], []⟩
  , ⟨0x100040, [(4096, 5)], 1, [⟨⟨0, 32⟩, .rc, 0⟩], []⟩
  , ⟨0x100044, [(4096, 5)], 1, [⟨⟨0, 32⟩, .rc, 0⟩], []⟩ ]
def rows_sb1 : List RegRow :=
  [ ⟨0x100048, [(4096, 5)], 1, [⟨⟨0, 32⟩, .rc, 0⟩], []⟩
  , ⟨0x10004C, [(4096, 5)], 1, [⟨⟨0, 32⟩, .rc, 0⟩], []⟩
  , ⟨0x100100, [(4096, 5), (8, 16)], 2, [⟨⟨0, 32⟩, .rw, 0⟩], [⟨⟨0, 32⟩, .rw, 0⟩]⟩
  , ⟨0x100200, [(4096, 5), (4, 16)], 1, [⟨⟨0, 8⟩, .rw, 0⟩], []⟩
  , ⟨0x108000, [], 1, [⟨⟨0, 8⟩, .ro, 1⟩], []⟩
  , ⟨0x108010, [(4, 4)], 1, [⟨⟨0, 32⟩, .rw, 4294967295⟩], []⟩
  , ⟨0x108020, [], 1, [⟨⟨0, 32⟩, .ro, 0⟩], []⟩
  , ⟨0x108024, [], 1, [⟨⟨0, 32⟩, .rw, 0⟩], []⟩
  , ⟨0x108030, [(4, 4)], 1, [⟨⟨28, 4⟩, .rw, 15⟩, ⟨⟨0, 8⟩, .rw, 59⟩], []⟩
  , ⟨0x108040, [], 1, [⟨⟨31, 1⟩, .wo, 0⟩, ⟨⟨30, 1⟩, .ro, 0⟩, ⟨⟨29, 1⟩, .ro, 0⟩, ⟨⟨28, 1⟩, .w1c, 0⟩, ⟨⟨16, 4⟩, .rw, 0⟩, ⟨⟨0, 16⟩, .ro, 12816⟩], []⟩ ]
def rows_sb : List RegRow := rows_sb0 ++ rows_sb1
def rows_txdp : List RegRow :=
  [ ⟨0x200000, [(256, 64)], 1, [⟨⟨1, 1⟩, .rw, 1⟩, ⟨⟨0, 1⟩, .rw, 0⟩], []⟩
  , ⟨0x200004, [(256, 64)], 1, [⟨⟨16, 16⟩, .rw, 16384⟩, ⟨⟨0, 16⟩, .rw, 0⟩], []⟩
  , ⟨0x200008, [(256, 64)], 1, [⟨⟨8, 1⟩, .ro, 1⟩, ⟨⟨5, 1⟩, .w1c, 0⟩, ⟨⟨4, 1⟩, .w1c, 0⟩, ⟨⟨3, 1⟩, .w1c, 0⟩, ⟨⟨2, 1⟩, .w1c, 0⟩, ⟨⟨1, 1⟩, .ro, 1⟩, ⟨⟨0, 1⟩, .ro, 0⟩], []⟩
  , ⟨0x20000C, [(256, 64)], 1, [⟨⟨4, 1⟩, .w1c, 0⟩, ⟨⟨3, 1⟩, .w1c, 0⟩, ⟨⟨2, 1⟩, .w1c, 0⟩, ⟨⟨1, 1⟩, .w1c, 0⟩, ⟨⟨0, 1⟩, .w1c, 0⟩], []⟩
  , ⟨0x200010, [(256, 64)], 1, [⟨⟨0, 32⟩, .rc, 0⟩], []⟩
  , ⟨0x200014, [(256, 64)], 1, [⟨⟨0, 32⟩, .rc, 0⟩], []⟩
  , ⟨0x204000, [], 1, [⟨⟨0, 10⟩, .rw, 256⟩], []⟩
  , ⟨0x204004, [], 1, [⟨⟨16, 15⟩, .rw, 16384⟩, ⟨⟨8, 4⟩, .rw, 4⟩, ⟨⟨4, 4⟩, .rw, 4⟩, ⟨⟨0, 3⟩, .rw, 2⟩], []⟩
  , ⟨0x204100, [(4, 16)], 1, [⟨⟨0, 32⟩, .ro, 0⟩], []⟩
  , ⟨0x204200, [(4, 2)], 1, [⟨⟨31, 1⟩, .wo, 0⟩, ⟨⟨30, 1⟩, .ro, 0⟩, ⟨⟨29, 1⟩, .ro, 0⟩, ⟨⟨28, 1⟩, .w1c, 0⟩, ⟨⟨27, 1⟩, .ro, 0⟩, ⟨⟨16, 7⟩, .ro, 0⟩, ⟨⟨0, 7⟩, .rw, 127⟩], []⟩
  , ⟨0x204210, [(4, 3)], 1, [⟨⟨0, 32⟩, .ro, 0⟩], []⟩
  , ⟨0x204400, [(4, 129)], 1, [⟨⟨16, 16⟩, .rw, 0⟩, ⟨⟨0, 16⟩, .rw, 0⟩], []⟩ ]
def rows_rxdp : List RegRow :=
  [ ⟨0x300000, [(256, 64)], 1, [⟨⟨0, 1⟩, .rw, 0⟩], []⟩
  , ⟨0x300004, [(256, 64)], 1, [⟨⟨16, 16⟩, .rw, 16384⟩, ⟨⟨0, 16⟩, .rw, 0⟩], []⟩
  , ⟨0x300008, [(256, 64)], 1, [⟨⟨2, 1⟩, .ro, 0⟩, ⟨⟨1, 1⟩, .ro, 0⟩, ⟨⟨0, 1⟩, .w1c, 0⟩], []⟩
  , ⟨0x30000C, [(256, 64)], 1, [⟨⟨2, 1⟩, .w1c, 0⟩, ⟨⟨1, 1⟩, .w1c, 0⟩, ⟨⟨0, 1⟩, .w1c, 0⟩], []⟩
  , ⟨0x300010, [(256, 64)], 1, [⟨⟨0, 32⟩, .rc, 0⟩], []⟩
  , ⟨0x300014, [(256, 64)], 1, [⟨⟨0, 32⟩, .rc, 0⟩], []⟩
  , ⟨0x304000, [(32, 4)], 1, [⟨⟨31, 1⟩, .rw, 0⟩, ⟨⟨30, 1⟩, .w1c, 0⟩, ⟨⟨29, 1⟩, .ro, 0⟩, ⟨⟨26, 3⟩, .rw, 0⟩, ⟨⟨22, 4⟩, .rw, 0⟩, ⟨⟨19, 3⟩, .rw, 0⟩, ⟨⟨17, 2⟩, .rw, 2⟩, ⟨⟨16, 1⟩, .rw, 0⟩, ⟨⟨14, 2⟩, .rw, 0⟩, ⟨⟨10, 4⟩, .rw, 0⟩], []⟩
  , ⟨0x304004, [(32, 4)], 1, [⟨⟨0, 16⟩, .rw, 0⟩], []⟩
  , ⟨0x304008, [(32, 4)], 2, [⟨⟨0, 32⟩, .rw, 0⟩], [⟨⟨0, 32⟩, .rw, 0⟩]⟩
  , ⟨0x304010, [(32, 4), (4, 4)], 1, [⟨⟨25, 2⟩, .rw, 0⟩, ⟨⟨0, 25⟩, .rw, 0⟩], []⟩ ]
def rows_carrier0 : List RegRow :=
  [ ⟨0x380000, [(256, 8)], 1, [⟨⟨8, 3⟩, .rw, 0⟩, ⟨⟨2, 1⟩, .rw, 1⟩, ⟨⟨1, 1⟩, .rw, 0⟩, ⟨⟨0, 1⟩, .rw, 0⟩], []⟩
  , ⟨0x380004, [(256, 8)], 1, [⟨⟨2, 1⟩, .w1c, 0⟩, ⟨⟨1, 1⟩, .ro, 0⟩, ⟨⟨0, 1⟩, .ro, 0⟩], []⟩
  , ⟨0x380008, [(256, 8)], 1, [⟨⟨16, 9⟩, .rw, 1⟩, ⟨⟨4, 4⟩, .rw, 12⟩, ⟨⟨0, 3⟩, .rw, 1⟩], []⟩
  , ⟨0x38000C, [(256, 8)], 1, [⟨⟨0, 18⟩, .rw, 0⟩], []⟩
  , ⟨0x380010, [(256, 8)], 1, [⟨⟨24, 3⟩, .rw, 0⟩, ⟨⟨20, 4⟩, .rw, 6⟩, ⟨⟨0, 16⟩, .rw, 16384⟩], []⟩
  , ⟨0x380014, [(256, 8)], 1, [⟨⟨0, 8⟩, .rw, 0⟩], []⟩
  , ⟨0x380020, [(256, 8)], 1, [⟨⟨24, 3⟩, .rw, 0⟩, ⟨⟨20, 4⟩, .rw, 6⟩, ⟨⟨0, 16⟩, .rw, 16384⟩], []⟩
  , ⟨0x380024, [(256, 8)], 1, [⟨⟨0, 8⟩, .rw, 0⟩], []⟩
  , ⟨0x380028, [(256, 8)], 1, [⟨⟨0, 32⟩, .rc, 0⟩], []⟩
  , ⟨0x38002C, [(256, 8)], 1, [⟨⟨0, 32⟩, .rc, 0⟩], []⟩
  , ⟨0x380030, [(256, 8)], 1, [⟨⟨0, 32⟩, .rc, 0⟩], []⟩
  , ⟨0x380040, [(256, 8)], 1, [⟨⟨16, 12⟩, .rw, 1024⟩, ⟨⟨1, 1⟩, .rw, 0⟩, ⟨⟨0, 1⟩, .rw, 0⟩], []⟩ ]
def rows_carrier1 : List RegRow :=
  [ ⟨0x380044, [(256, 8)], 1, [⟨⟨20, 12⟩, .rw, 500⟩, ⟨⟨8, 12⟩, .rw, 300⟩, ⟨⟨0, 8⟩, .rw, 40⟩], []⟩
  , ⟨0x380048, [(256, 8)], 1, [⟨⟨20, 12⟩, .rw, 500⟩, ⟨⟨0, 8⟩, .rw, 20⟩], []⟩
  , ⟨0x38004C, [(256, 8)], 1, [⟨⟨31, 1⟩, .w1c, 0⟩, ⟨⟨28, 3⟩, .ro, 0⟩, ⟨⟨24, 4⟩, .ro, 0⟩, ⟨⟨12, 12⟩, .ro, 0⟩, ⟨⟨0, 10⟩, .ro, 0⟩], []⟩
  , ⟨0x380050, [(256, 8)], 1, [⟨⟨0, 32⟩, .rc, 0⟩], []⟩
  , ⟨0x380054, [(256, 8)], 1, [⟨⟨0, 32⟩, .rc, 0⟩], []⟩
  , ⟨0x380058, [(256, 8)], 1, [⟨⟨0, 32⟩, .rc, 0⟩], []⟩
  , ⟨0x38005C, [(256, 8)], 1, [⟨⟨0, 32⟩, .rc, 0⟩], []⟩
  , ⟨0x380060, [(256, 8)], 1, [⟨⟨0, 32⟩, .rc, 0⟩], []⟩
  , ⟨0x380064, [(256, 8)], 1, [⟨⟨0, 32⟩, .rc, 0⟩], []⟩
  , ⟨0x380068, [(256, 8)], 1, [⟨⟨0, 32⟩, .rc, 0⟩], []⟩
  , ⟨0x38006C, [(256, 8)], 1, [⟨⟨0, 32⟩, .rc, 0⟩], []⟩
  , ⟨0x380070, [(256, 8)], 2, [⟨⟨0, 32⟩, .rw, 0⟩], [⟨⟨0, 3⟩, .rw, 0⟩]⟩ ]
def rows_carrier : List RegRow := rows_carrier0 ++ rows_carrier1
def rows_beam0 : List RegRow :=
  [ ⟨0x400000, [(4, 2)], 1, [⟨⟨31, 1⟩, .rw, 0⟩, ⟨⟨0, 22⟩, .rw, 0⟩], []⟩
  , ⟨0x400008, [], 1, [⟨⟨31, 1⟩, .ro, 0⟩, ⟨⟨30, 1⟩, .ro, 0⟩, ⟨⟨28, 2⟩, .ro, 0⟩, ⟨⟨27, 1⟩, .ro, 0⟩, ⟨⟨26, 1⟩, .ro, 0⟩, ⟨⟨12, 1⟩, .ro, 0⟩, ⟨⟨11, 1⟩, .ro, 0⟩, ⟨⟨9, 2⟩, .ro, 0⟩, ⟨⟨5, 1⟩, .ro, 0⟩, ⟨⟨4, 1⟩, .ro, 0⟩, ⟨⟨2, 2⟩, .ro, 0⟩], []⟩
  , ⟨0x40000C, [], 1, [⟨⟨30, 1⟩, .wo, 0⟩, ⟨⟨28, 2⟩, .rw, 0⟩, ⟨⟨25, 3⟩, .rw, 0⟩, ⟨⟨16, 4⟩, .rw, 1⟩, ⟨⟨8, 1⟩, .rw, 0⟩], []⟩
  , ⟨0x400010, [], 2, [⟨⟨0, 32⟩, .rw, 0⟩], [⟨⟨0, 32⟩, .rw, 0⟩]⟩
  , ⟨0x400020, [], 1, [⟨⟨31, 1⟩, .wo, 0⟩, ⟨⟨28, 3⟩, .wo, 0⟩, ⟨⟨18, 10⟩, .wo, 0⟩, ⟨⟨14, 4⟩, .wo, 0⟩, ⟨⟨8, 1⟩, .wo, 0⟩, ⟨⟨0, 8⟩, .wo, 0⟩], []⟩
  , ⟨0x400024, [], 1, [⟨⟨31, 1⟩, .wo, 0⟩, ⟨⟨0, 8⟩, .wo, 0⟩], []⟩
  , ⟨0x400028, [], 1, [⟨⟨31, 1⟩, .w1c, 0⟩, ⟨⟨28, 3⟩, .ro, 0⟩, ⟨⟨8, 1⟩, .ro, 0⟩, ⟨⟨0, 8⟩, .ro, 0⟩], []⟩
  , ⟨0x40002C, [], 1, [⟨⟨0, 8⟩, .wo, 0⟩], []⟩
  , ⟨0x400040, [], 1, [⟨⟨0, 32⟩, .rc, 0⟩], []⟩
  , ⟨0x400044, [], 1, [⟨⟨0, 32⟩, .rc, 0⟩], []⟩
  , ⟨0x400048, [], 1, [⟨⟨0, 32⟩, .rc, 0⟩], []⟩
  , ⟨0x40004C, [], 1, [⟨⟨0, 32⟩, .rc, 0⟩], []⟩ ]
def rows_beam1 : List RegRow :=
  [ ⟨0x400050, [], 1, [⟨⟨0, 32⟩, .rc, 0⟩], []⟩
  , ⟨0x401000, [(1024, 2), (4, 256)], 1, [⟨⟨31, 1⟩, .ro, 0⟩, ⟨⟨30, 1⟩, .ro, 0⟩, ⟨⟨29, 1⟩, .ro, 0⟩, ⟨⟨28, 1⟩, .ro, 0⟩, ⟨⟨27, 1⟩, .ro, 0⟩, ⟨⟨24, 3⟩, .ro, 0⟩, ⟨⟨14, 10⟩, .ro, 0⟩, ⟨⟨10, 4⟩, .ro, 0⟩], []⟩
  , ⟨0x402000, [(8, 256)], 1, [⟨⟨28, 4⟩, .rw, 0⟩, ⟨⟨24, 4⟩, .rw, 0⟩, ⟨⟨22, 2⟩, .rw, 0⟩, ⟨⟨19, 3⟩, .rw, 0⟩, ⟨⟨8, 8⟩, .rw, 4⟩, ⟨⟨0, 1⟩, .rw, 0⟩], []⟩
  , ⟨0x402004, [(8, 256)], 1, [⟨⟨16, 8⟩, .rw, 0⟩, ⟨⟨0, 8⟩, .rw, 0⟩], []⟩
  , ⟨0x402800, [(4, 256)], 1, [⟨⟨0, 32⟩, .ro, 0⟩], []⟩ ]
def rows_beam : List RegRow := rows_beam0 ++ rows_beam1
def rows_dpd : List RegRow :=
  [ ⟨0x500000, [(256, 64)], 1, [⟨⟨0, 1⟩, .rw, 1⟩], []⟩
  , ⟨0x500004, [(256, 64)], 1, [⟨⟨0, 16⟩, .rw, 64⟩], []⟩
  , ⟨0x500008, [(256, 64)], 1, [⟨⟨16, 16⟩, .ro, 0⟩, ⟨⟨13, 3⟩, .ro, 0⟩, ⟨⟨12, 1⟩, .w1c, 0⟩, ⟨⟨3, 1⟩, .ro, 0⟩, ⟨⟨2, 1⟩, .ro, 0⟩, ⟨⟨1, 1⟩, .ro, 0⟩, ⟨⟨0, 1⟩, .ro, 0⟩], []⟩
  , ⟨0x50000C, [(256, 64)], 1, [⟨⟨0, 32⟩, .rc, 0⟩], []⟩
  , ⟨0x504000, [], 1, [⟨⟨30, 1⟩, .wo, 0⟩, ⟨⟨28, 2⟩, .rw, 0⟩, ⟨⟨25, 3⟩, .rw, 0⟩, ⟨⟨0, 7⟩, .rw, 0⟩], []⟩
  , ⟨0x504008, [], 2, [⟨⟨0, 32⟩, .rw, 0⟩], [⟨⟨0, 32⟩, .rw, 0⟩]⟩
  , ⟨0x504100, [(4, 16)], 1, [⟨⟨31, 1⟩, .rw, 0⟩, ⟨⟨8, 1⟩, .rw, 0⟩, ⟨⟨0, 6⟩, .rw, 0⟩], []⟩ ]
def rows_conv0 : List RegRow :=
  [ ⟨0x600000, [(256, 64)], 1, [⟨⟨31, 1⟩, .ro, 0⟩, ⟨⟨30, 1⟩, .ro, 0⟩, ⟨⟨8, 4⟩, .ro, 15⟩, ⟨⟨4, 4⟩, .ro, 8⟩], []⟩
  , ⟨0x600004, [(256, 64)], 1, [⟨⟨0, 32⟩, .ro, 1985229328⟩], []⟩
  , ⟨0x600008, [(256, 64)], 1, [⟨⟨31, 1⟩, .wo, 0⟩, ⟨⟨0, 4⟩, .wo, 0⟩], []⟩
  , ⟨0x600010, [(256, 64)], 1, [⟨⟨31, 1⟩, .ro, 0⟩, ⟨⟨16, 3⟩, .ro, 4⟩, ⟨⟨0, 7⟩, .ro, 63⟩], []⟩
  , ⟨0x600014, [(256, 64)], 1, [⟨⟨31, 1⟩, .wo, 0⟩, ⟨⟨0, 7⟩, .wo, 0⟩], []⟩
  , ⟨0x600018, [(256, 64), (4, 3)], 1, [⟨⟨0, 32⟩, .ro, 0⟩], []⟩
  , ⟨0x604000, [], 1, [⟨⟨8, 4⟩, .rw, 8⟩, ⟨⟨4, 1⟩, .rw, 1⟩, ⟨⟨0, 1⟩, .rw, 0⟩], []⟩
  , ⟨0x604004, [], 1, [⟨⟨4, 1⟩, .rw, 1⟩], []⟩
  , ⟨0x604008, [], 1, [⟨⟨0, 16⟩, .rw, 1000⟩], []⟩
  , ⟨0x60400C, [], 1, [⟨⟨4, 2⟩, .rw, 0⟩, ⟨⟨0, 2⟩, .rw, 0⟩], []⟩
  , ⟨0x604010, [(8, 4)], 1, [⟨⟨0, 22⟩, .rw, 0⟩], []⟩
  , ⟨0x604014, [(8, 4)], 1, [⟨⟨0, 16⟩, .rw, 0⟩], []⟩ ]
def rows_conv1 : List RegRow :=
  [ ⟨0x604030, [(8, 4)], 1, [⟨⟨24, 2⟩, .rw, 0⟩, ⟨⟨0, 22⟩, .rw, 0⟩], []⟩
  , ⟨0x604034, [(8, 4)], 1, [⟨⟨0, 16⟩, .rw, 0⟩], []⟩
  , ⟨0x604050, [], 1, [⟨⟨0, 1⟩, .wo, 0⟩], []⟩
  , ⟨0x604054, [], 1, [⟨⟨31, 1⟩, .w1c, 0⟩, ⟨⟨30, 1⟩, .w1c, 0⟩, ⟨⟨29, 1⟩, .ro, 0⟩, ⟨⟨0, 8⟩, .ro, 0⟩], []⟩
  , ⟨0x604100, [(16, 8)], 1, [⟨⟨31, 1⟩, .ro, 0⟩, ⟨⟨30, 1⟩, .ro, 0⟩, ⟨⟨8, 4⟩, .ro, 15⟩, ⟨⟨4, 4⟩, .ro, 12⟩], []⟩
  , ⟨0x604104, [(16, 8)], 1, [⟨⟨0, 32⟩, .ro, 1985229328⟩], []⟩
  , ⟨0x604108, [(16, 8)], 1, [⟨⟨0, 32⟩, .ro, 47768⟩], []⟩
  , ⟨0x60410C, [(16, 8)], 1, [⟨⟨16, 16⟩, .ro, 0⟩, ⟨⟨0, 16⟩, .ro, 0⟩], []⟩
  , ⟨0x604180, [(4, 8)], 1, [⟨⟨31, 1⟩, .wo, 0⟩, ⟨⟨0, 4⟩, .wo, 0⟩], []⟩ ]
def rows_conv : List RegRow := rows_conv0 ++ rows_conv1
def rows_obs0 : List RegRow :=
  [ ⟨0x700000, [(256, 8)], 1, [⟨⟨20, 12⟩, .rw, 394⟩, ⟨⟨0, 16⟩, .rw, 15729⟩], []⟩
  , ⟨0x700004, [(256, 8)], 1, [⟨⟨31, 1⟩, .ro, 0⟩, ⟨⟨8, 4⟩, .ro, 0⟩, ⟨⟨0, 4⟩, .ro, 15⟩], []⟩
  , ⟨0x700008, [(256, 8)], 2, [⟨⟨0, 32⟩, .ro, 0⟩], [⟨⟨0, 32⟩, .ro, 0⟩]⟩
  , ⟨0x700010, [(256, 8)], 1, [⟨⟨0, 32⟩, .rc, 0⟩], []⟩
  , ⟨0x701000, [(256, 64)], 1, [⟨⟨0, 4⟩, .rw, 15⟩], []⟩
  , ⟨0x701004, [(256, 64)], 1, [⟨⟨31, 1⟩, .wo, 0⟩, ⟨⟨30, 1⟩, .wo, 0⟩, ⟨⟨0, 16⟩, .wo, 0⟩], []⟩
  , ⟨0x701008, [(256, 64)], 1, [⟨⟨0, 24⟩, .rw, 0⟩], []⟩
  , ⟨0x70100C, [(256, 64)], 1, [⟨⟨1, 1⟩, .wo, 0⟩, ⟨⟨0, 1⟩, .wo, 0⟩], []⟩
  , ⟨0x701010, [(256, 64)], 1, [⟨⟨31, 1⟩, .ro, 0⟩, ⟨⟨30, 1⟩, .ro, 0⟩, ⟨⟨29, 1⟩, .w1c, 0⟩, ⟨⟨24, 3⟩, .ro, 0⟩, ⟨⟨15, 1⟩, .ro, 0⟩, ⟨⟨14, 1⟩, .ro, 0⟩, ⟨⟨13, 1⟩, .w1c, 0⟩, ⟨⟨8, 3⟩, .ro, 0⟩], []⟩
  , ⟨0x701018, [(256, 64)], 2, [⟨⟨0, 32⟩, .ro, 0⟩], [⟨⟨0, 32⟩, .ro, 0⟩]⟩
  , ⟨0x701020, [(256, 64)], 2, [⟨⟨0, 32⟩, .ro, 0⟩], [⟨⟨0, 32⟩, .ro, 0⟩]⟩
  , ⟨0x701040, [(256, 64)], 1, [⟨⟨31, 1⟩, .rw, 0⟩, ⟨⟨24, 3⟩, .rw, 3⟩, ⟨⟨8, 8⟩, .rw, 128⟩, ⟨⟨0, 8⟩, .rw, 32⟩], []⟩ ]
def rows_obs1 : List RegRow :=
  [ ⟨0x701044, [(256, 64)], 1, [⟨⟨0, 16⟩, .rw, 0⟩], []⟩
  , ⟨0x701048, [(256, 64)], 1, [⟨⟨31, 1⟩, .w1c, 0⟩, ⟨⟨0, 16⟩, .ro, 0⟩], []⟩
  , ⟨0x707000, [], 1, [⟨⟨0, 16⟩, .rw, 256⟩], []⟩ ]
def rows_obs : List RegRow := rows_obs0 ++ rows_obs1
def rows_mon : List RegRow :=
  [ ⟨0x780000, [], 1, [⟨⟨31, 1⟩, .rw, 0⟩, ⟨⟨30, 1⟩, .rw, 0⟩, ⟨⟨0, 6⟩, .rw, 0⟩], []⟩
  , ⟨0x780004, [], 1, [⟨⟨31, 1⟩, .ro, 0⟩, ⟨⟨30, 1⟩, .ro, 0⟩, ⟨⟨27, 3⟩, .ro, 0⟩, ⟨⟨0, 6⟩, .ro, 0⟩], []⟩
  , ⟨0x780008, [], 1, [⟨⟨0, 32⟩, .ro, 0⟩], []⟩
  , ⟨0x780010, [], 1, [⟨⟨31, 1⟩, .wo, 0⟩, ⟨⟨16, 1⟩, .wo, 0⟩, ⟨⟨12, 4⟩, .wo, 0⟩, ⟨⟨8, 3⟩, .wo, 0⟩, ⟨⟨0, 6⟩, .wo, 0⟩], []⟩
  , ⟨0x780014, [], 1, [⟨⟨31, 1⟩, .rc, 0⟩, ⟨⟨30, 1⟩, .ro, 0⟩, ⟨⟨22, 8⟩, .ro, 0⟩, ⟨⟨16, 6⟩, .ro, 0⟩, ⟨⟨0, 12⟩, .ro, 0⟩], []⟩
  , ⟨0x780020, [(4, 2)], 1, [⟨⟨0, 32⟩, .w1c, 0⟩], []⟩
  , ⟨0x780028, [], 1, [⟨⟨0, 32⟩, .rc, 0⟩], []⟩
  , ⟨0x780100, [(16, 64)], 1, [⟨⟨16, 1⟩, .rw, 0⟩, ⟨⟨12, 4⟩, .rw, 8⟩, ⟨⟨8, 3⟩, .rw, 0⟩, ⟨⟨0, 6⟩, .rw, 0⟩], []⟩
  , ⟨0x780104, [(16, 64)], 1, [⟨⟨31, 1⟩, .rw, 0⟩, ⟨⟨16, 12⟩, .rw, 4095⟩, ⟨⟨12, 4⟩, .rw, 0⟩, ⟨⟨0, 12⟩, .rw, 0⟩], []⟩
  , ⟨0x78010C, [(16, 64)], 1, [⟨⟨31, 1⟩, .rc, 0⟩, ⟨⟨30, 1⟩, .ro, 0⟩, ⟨⟨29, 1⟩, .ro, 0⟩, ⟨⟨16, 6⟩, .ro, 0⟩, ⟨⟨0, 12⟩, .ro, 0⟩], []⟩ ]
def rows_aux : List RegRow :=
  [ ⟨0x7C0000, [(256, 72)], 1, [⟨⟨16, 1⟩, .rw, 0⟩, ⟨⟨0, 12⟩, .rw, 0⟩], []⟩
  , ⟨0x7C0004, [(256, 72)], 1, [⟨⟨0, 12⟩, .rw, 0⟩], []⟩
  , ⟨0x7C0008, [(256, 72)], 1, [⟨⟨31, 1⟩, .ro, 1⟩, ⟨⟨30, 1⟩, .ro, 0⟩], []⟩
  , ⟨0x7C000C, [(256, 72)], 1, [⟨⟨1, 1⟩, .w1c, 0⟩, ⟨⟨0, 1⟩, .w1c, 0⟩], []⟩
  , ⟨0x7C0010, [(256, 72)], 1, [⟨⟨0, 8⟩, .rw, 0⟩], []⟩
  , ⟨0x7C8000, [], 1, [⟨⟨31, 1⟩, .ro, 0⟩, ⟨⟨0, 1⟩, .wo, 0⟩], []⟩
  , ⟨0x7C8010, [(4, 3)], 1, [⟨⟨0, 32⟩, .ro, 0⟩], []⟩ ]
def rows_assay0 : List RegRow :=
  [ ⟨0x800000, [], 1, [⟨⟨31, 1⟩, .rw, 1⟩, ⟨⟨30, 1⟩, .rw, 1⟩, ⟨⟨0, 9⟩, .rw, 511⟩], []⟩
  , ⟨0x800004, [], 1, [⟨⟨31, 1⟩, .ro, 0⟩, ⟨⟨30, 1⟩, .ro, 0⟩, ⟨⟨29, 1⟩, .ro, 0⟩, ⟨⟨0, 9⟩, .ro, 0⟩], []⟩
  , ⟨0x800008, [], 1, [⟨⟨0, 8⟩, .rw, 8⟩], []⟩
  , ⟨0x80000C, [], 1, [⟨⟨0, 8⟩, .rw, 100⟩], []⟩
  , ⟨0x800010, [], 1, [⟨⟨31, 1⟩, .wo, 0⟩, ⟨⟨0, 24⟩, .wo, 0⟩], []⟩
  , ⟨0x800014, [], 1, [⟨⟨31, 1⟩, .wo, 0⟩, ⟨⟨0, 24⟩, .wo, 0⟩], []⟩
  , ⟨0x800018, [], 1, [⟨⟨31, 1⟩, .w1c, 0⟩, ⟨⟨30, 1⟩, .ro, 0⟩, ⟨⟨0, 4⟩, .ro, 0⟩], []⟩
  , ⟨0x80001C, [], 1, [⟨⟨0, 32⟩, .ro, 0⟩], []⟩
  , ⟨0x80004C, [(4, 6)], 1, [⟨⟨0, 16⟩, .rw, 0⟩], []⟩
  , ⟨0x800100, [(16, 9), (4, 4)], 1, [⟨⟨0, 32⟩, .w1c, 0⟩], []⟩
  , ⟨0x801000, [(8, 64)], 2, [⟨⟨0, 24⟩, .rw, 0⟩], [⟨⟨0, 32⟩, .rw, 0⟩]⟩
  , ⟨0x801200, [(8, 64)], 2, [⟨⟨0, 24⟩, .rw, 0⟩], [⟨⟨0, 32⟩, .rw, 0⟩]⟩ ]
def rows_assay1 : List RegRow :=
  [ ⟨0x810000, [(4, 49152)], 1, [⟨⟨0, 32⟩, .ro, 0⟩], []⟩ ]
def rows_assay : List RegRow := rows_assay0 ++ rows_assay1
def rows_lode0 : List RegRow :=
  [ ⟨0x900000, [], 1, [⟨⟨0, 8⟩, .ro, 1⟩], []⟩
  , ⟨0x900004, [], 1, [⟨⟨8, 6⟩, .ro, 32⟩, ⟨⟨4, 2⟩, .ro, 2⟩, ⟨⟨0, 2⟩, .ro, 0⟩], []⟩
  , ⟨0x900008, [], 1, [⟨⟨31, 1⟩, .wo, 0⟩, ⟨⟨30, 1⟩, .ro, 0⟩, ⟨⟨0, 6⟩, .wo, 0⟩], []⟩
  , ⟨0x900010, [(4, 8)], 1, [⟨⟨0, 32⟩, .ro, 0⟩], []⟩
  , ⟨0x900030, [], 2, [⟨⟨0, 32⟩, .ro, 0⟩], [⟨⟨0, 32⟩, .ro, 0⟩]⟩
  , ⟨0x900038, [], 1, [⟨⟨0, 6⟩, .rw, 0⟩], []⟩
  , ⟨0x900100, [(16, 8)], 1, [⟨⟨0, 24⟩, .wo, 0⟩], []⟩
  , ⟨0x900104, [(16, 8)], 1, [⟨⟨31, 1⟩, .ro, 0⟩, ⟨⟨16, 6⟩, .ro, 0⟩, ⟨⟨0, 7⟩, .ro, 0⟩], []⟩
  , ⟨0x900108, [(16, 8)], 1, [⟨⟨0, 32⟩, .rc, 0⟩], []⟩
  , ⟨0x90010C, [(16, 8)], 1, [⟨⟨0, 32⟩, .rc, 0⟩], []⟩
  , ⟨0x901000, [(256, 34)], 1, [⟨⟨31, 1⟩, .rw, 1⟩, ⟨⟨0, 8⟩, .rw, 255⟩], []⟩
  , ⟨0x901004, [(256, 34)], 1, [⟨⟨29, 3⟩, .ro, 0⟩, ⟨⟨28, 1⟩, .ro, 0⟩, ⟨⟨27, 1⟩, .ro, 0⟩, ⟨⟨24, 3⟩, .ro, 0⟩, ⟨⟨16, 6⟩, .ro, 0⟩], []⟩ ]
def rows_lode1 : List RegRow :=
  [ ⟨0x901008, [(256, 34)], 1, [⟨⟨0, 1⟩, .ro, 0⟩], []⟩
  , ⟨0x90100C, [(256, 34)], 1, [⟨⟨8, 8⟩, .ro, 0⟩, ⟨⟨1, 1⟩, .rw, 0⟩, ⟨⟨0, 1⟩, .rw, 0⟩], []⟩
  , ⟨0x901010, [(256, 34)], 1, [⟨⟨16, 16⟩, .ro, 0⟩, ⟨⟨0, 16⟩, .ro, 0⟩], []⟩
  , ⟨0x901014, [(256, 34)], 1, [⟨⟨0, 24⟩, .ro, 0⟩], []⟩
  , ⟨0x901018, [(256, 34)], 1, [⟨⟨0, 24⟩, .ro, 0⟩], []⟩ ]
def rows_lode : List RegRow := rows_lode0 ++ rows_lode1
def rows_sec0 : List RegRow :=
  [ ⟨0xF00000, [], 1, [⟨⟨0, 2⟩, .ro, 0⟩], []⟩
  , ⟨0xF00004, [], 1, [⟨⟨20, 1⟩, .ro, 0⟩, ⟨⟨16, 4⟩, .ro, 15⟩, ⟨⟨12, 4⟩, .ro, 0⟩, ⟨⟨8, 4⟩, .ro, 0⟩, ⟨⟨0, 4⟩, .ro, 0⟩], []⟩
  , ⟨0xF00008, [], 1, [⟨⟨8, 6⟩, .ro, 0⟩, ⟨⟨0, 6⟩, .ro, 0⟩], []⟩
  , ⟨0xF0000C, [], 1, [⟨⟨4, 4⟩, .ro, 0⟩, ⟨⟨2, 1⟩, .ro, 0⟩, ⟨⟨1, 1⟩, .ro, 0⟩, ⟨⟨0, 1⟩, .ro, 0⟩], []⟩
  , ⟨0xF00010, [], 2, [⟨⟨0, 32⟩, .ro, 0⟩], [⟨⟨0, 32⟩, .ro, 0⟩]⟩
  , ⟨0xF00040, [(4, 8)], 1, [⟨⟨0, 32⟩, .ro, 0⟩], []⟩
  , ⟨0xF00100, [(32, 4), (4, 8)], 1, [⟨⟨0, 32⟩, .ro, 0⟩], []⟩
  , ⟨0xF00200, [(4, 16)], 1, [⟨⟨0, 32⟩, .ro, 0⟩], []⟩
  , ⟨0xF00240, [], 1, [⟨⟨31, 1⟩, .ro, 0⟩, ⟨⟨0, 2⟩, .ro, 0⟩], []⟩
  , ⟨0xF00248, [], 2, [⟨⟨0, 32⟩, .ro, 0⟩], [⟨⟨0, 32⟩, .ro, 0⟩]⟩
  , ⟨0xF00250, [], 1, [⟨⟨0, 32⟩, .ro, 0⟩], []⟩
  , ⟨0xF00400, [], 1, [⟨⟨0, 32⟩, .wo, 0⟩], []⟩ ]
def rows_sec1 : List RegRow :=
  [ ⟨0xF00404, [], 1, [⟨⟨31, 1⟩, .ro, 0⟩, ⟨⟨0, 8⟩, .ro, 0⟩], []⟩ ]
def rows_sec : List RegRow := rows_sec0 ++ rows_sec1
def rows_otp : List RegRow :=
  [ ⟨0xF80800, [], 1, [⟨⟨22, 10⟩, .ro, 0⟩, ⟨⟨12, 10⟩, .ro, 0⟩, ⟨⟨11, 1⟩, .w1c, 0⟩], []⟩
  , ⟨0xF80804, [], 1, [⟨⟨0, 16⟩, .rw, 1000⟩], []⟩
  , ⟨0xF80808, [], 1, [⟨⟨0, 32⟩, .rc, 0⟩], []⟩
  , ⟨0xF8080C, [], 1, [⟨⟨0, 32⟩, .rc, 0⟩], []⟩
  , ⟨0xF80810, [(4, 2)], 1, [⟨⟨0, 32⟩, .ro, 522133279⟩], []⟩
  , ⟨0xF80818, [(8, 2)], 2, [⟨⟨0, 32⟩, .ro, 0⟩], [⟨⟨0, 32⟩, .ro, 0⟩]⟩ ]

/-- The register rows of the 64 KiB block `block` of the address map (R20). -/
def rowsOfBlock (block : Nat) : List RegRow :=
  match block with
  | 0x0 => rows_sys
  | 0x1 => rows_pwr
  | 0x2 => rows_canary
  | 0x3 => rows_time
  | 0x4 => rows_mbx
  | 0x5 => rows_dma
  | 0x6 => rows_pmu
  | 0x7 => rows_evt
  | 0x8 => rows_linka
  | 0xa => rows_lane
  | 0x10 => rows_sb
  | 0x20 => rows_txdp
  | 0x30 => rows_rxdp
  | 0x38 => rows_carrier
  | 0x40 => rows_beam
  | 0x50 => rows_dpd
  | 0x60 => rows_conv
  | 0x70 => rows_obs
  | 0x78 => rows_mon
  | 0x7c => rows_aux
  | 0x80 => rows_assay
  | 0x90 => rows_lode
  | 0xf0 => rows_sec
  | 0xf8 => rows_otp
  | 0x9 => rows_linka
  | 0x81 => rows_assay
  | 0x82 => rows_assay
  | 0x83 => rows_assay
  | _ => []

/-- Whether the byte offset `off` lies in one of the copies of a register, and which word of the copy it lies in. -/
def coversOff (words : Nat) : List (Nat × Nat) → Nat → Option Nat
  | [], off => if off < 4 * words then some (off / 4) else none
  | (stride, count) :: rest, off =>
    if off / stride < count then coversOff words rest (off % stride) else none

/-- The word of a register row that the byte address lies in. -/
def RegRow.wordAt (r : RegRow) (addr : Nat) : Option Nat :=
  if addr < r.base then none else coversOff r.words r.dims (addr - r.base)

/-- The row of the register map that holds the address, with the word of the register it names. -/
def findIn : List RegRow → Nat → Option (RegRow × Nat)
  | [], _ => none
  | r :: rs, addr =>
    match r.wordAt addr with
    | some w => some (r, w)
    | none => findIn rs addr

/-- The register at a byte address, if the map has one there (R21). -/
def findReg (addr : Nat) : Option (RegRow × Nat) := findIn (rowsOfBlock (addr / 0x10000)) addr

/-- The fields of the addressed word of a register. -/
def RegRow.fieldsAt (r : RegRow) (w : Nat) : List FieldRow := if w = 0 then r.fields else r.later

end Sys2Proof.Machine
end

