-- ==== Sys2Proof/Machine/Bits.lean ====
section
/-! DEFINITION. Bit fields, sign extension and byte order: every place where bits are taken from or put into a word goes
through these (R3, R4, R5). -/
namespace Sys2Proof.Machine

/-- Bits `[lsb+width-1 : lsb]` of a natural number (R3). -/
def bitsAt (n lsb width : Nat) : Nat := (n >>> lsb) % 2 ^ width

/-- One bit of a natural number. -/
def bitAt (n i : Nat) : Bool := n.testBit i

/-- The field of a register word, as a number (R3). -/
def getF (w : Word) (f : Field) : Nat := bitsAt w.toNat f.lsb f.width

/-- The mask of the bits of a field. -/
def Field.mask (f : Field) : Word := BitVec.ofNat 32 ((2 ^ f.width - 1) <<< f.lsb)

/-- The word with one field replaced; every other bit is as it was. -/
def setF (w : Word) (f : Field) (v : Nat) : Word :=
  (w &&& ~~~ f.mask) ||| (BitVec.ofNat 32 (v <<< f.lsb) &&& f.mask)

/-- A two's-complement number of `width` bits (R5). -/
def sext (n width : Nat) : Int :=
  let m := n % 2 ^ width
  if m < 2 ^ (width - 1) then (m : Int) else (m : Int) - (2 ^ width : Nat)

/-- The two's-complement encoding of an integer in `width` bits (R5). -/
def encS (width : Nat) (x : Int) : Nat := (x % (2 ^ width : Nat)).toNat

/-- A Boolean as a bit. -/
def b2n (b : Bool) : Nat := if b then 1 else 0

/-- A number from bytes, least significant first (R4). -/
def leNat : List Byte → Nat
  | [] => 0
  | b :: bs => b.toNat + 256 * leNat bs

/-- The `n` bytes of a number, least significant first (R4). -/
def natLE : Nat → Nat → List Byte
  | 0, _ => []
  | n + 1, x => BitVec.ofNat 8 x :: natLE n (x / 256)

/-- The integer quotient rounded toward zero, as the spec's pseudocode divides (Scope, Timing tables and pseudocode). -/
def divz (a b : Int) : Int := Int.tdiv a b

/-- Floor of a signed number shifted right (Scope: `>>` on a signed value is an arithmetic shift). -/
def asr (a : Int) (n : Nat) : Int := a / (2 ^ n : Nat)

/-- A number held to a range (saturation). -/
def clampI (lo hi x : Int) : Int := if x < lo then lo else if hi < x then hi else x

/-- A counter that stays at its maximum of `width` bits. -/
def satInc (width n d : Nat) : Nat := Nat.min (n + d) (2 ^ width - 1)

/-- The set bits of a mask below `n`, rising. -/
def maskList (n m : Nat) : List Nat := (List.range n).filter (fun i => m.testBit i)

/-- How many bits below `n` are set. -/
def popcount (n m : Nat) : Nat := (maskList n m).length

/-- A mask with one bit set or cleared. -/
def setBitN (m i : Nat) (b : Bool) : Nat := if m.testBit i then (if b then m else m - 2 ^ i) else (if b then m + 2 ^ i else m)

/-- CRC-32C of one byte appended: polynomial 0x1EDC6F41, bits least significant first (Scope, Standards used). -/
def crcByte (c : Nat) (b : Byte) : Nat :=
  (List.range 8).foldl (fun r _ => if r % 2 = 1 then Nat.xor (r / 2) 0x82F63B78 else r / 2) (Nat.xor c b.toNat)

/-- CRC-32C of bytes: preset to ones, complemented at the end. -/
def crc32c (bs : List Byte) : Nat := Nat.xor (bs.foldl crcByte 0xFFFFFFFF) 0xFFFFFFFF

end Sys2Proof.Machine
end

