-- ==== Sys2Proof/Machine/Keccak.lean ====
section
/-! DEFINITION. The hash functions that the spec names (Scope, Standards used): SHAKE256 and the other functions of FIPS 202 that FIPS 203 builds on, and
KMAC256 of NIST SP 800-185. Bytes are numbers below 256; a hash state is one number. Marks and risks: log entry 3. -/
namespace Sys2Proof.Machine

/-- A value whose bytes come first byte least significant. -/
def leOf (bs : List Nat) : Nat := bs.foldr (fun b v => b % 256 + 256 * v) 0

/-! ## The permutation (FIPS 202, 3.2-3.4). Its state is one number of 1 600 bits, in which bit 64(5y + x) + z is A[x, y, z]: five planes of 320 bits, a plane
of five lanes. -/

/-- Plane `y`, and the state of five planes. -/
def hashPlane (s y : Nat) : Nat := bitsAt s (320 * y) 320
def ofPlanes (f : Nat → Nat) : Nat := (List.range 5).foldl (fun v y => v + f y * 2 ^ (320 * y)) 0

/-- `v` of `w` bits turned right by `n` bits; on a plane, 64 bits bring the lane x + 1 to x. -/
def turnRight (w v n : Nat) : Nat := v / 2 ^ n + v % 2 ^ n * 2 ^ (w - n)

/-- Every lane of a plane turned left by one bit. -/
def lanesLeft1 (v : Nat) : Nat := (List.range 5).foldl (fun u x => u + turnRight 64 (bitsAt v (64 * x) 64) 63 * 2 ^ (64 * x)) 0

/-- Step θ: each bit takes the parity of the column to its left and of the column to its right one bit below. -/
def stepTheta (s : Nat) : Nat :=
  let c := Nat.xor (hashPlane s 0) (Nat.xor (hashPlane s 1) (Nat.xor (hashPlane s 2) (Nat.xor (hashPlane s 3) (hashPlane s 4))))
  let d := Nat.xor (turnRight 320 c 256) (turnRight 320 (lanesLeft1 c) 64)
  ofPlanes (fun y => Nat.xor (hashPlane s y) d)

/-- Steps ρ and π as one walk of 24 moves that begins at (1, 0): move `t` turns the lane at (x, y) left by (t + 1)(t + 2)/2 bits and puts it at (y, 2x + 3y), where
the next move begins. Lane (0, 0) stays. -/
def stepRhoPi (s : Nat) : Nat :=
  ((List.range 24).foldl (fun (w : (Nat × Nat) × Nat) t =>
    let ((x, y), u) := w
    let to_ := (y, (2 * x + 3 * y) % 5)
    let v := turnRight 64 (bitsAt s (64 * (5 * y + x)) 64) ((64 * 5 - (t + 1) * (t + 2) / 2) % 64)
    (to_, u + v * 2 ^ (64 * (5 * to_.2 + to_.1)))) ((1, 0), s % 2 ^ 64)).2

/-- Step χ, plane by plane: a bit flips where the next lane's bit is 0 and the one after it is 1. -/
def stepChi (s : Nat) : Nat :=
  ofPlanes (fun y =>
    let p := hashPlane s y
    let q := turnRight 320 p 128
    Nat.xor p (Nat.xor q (Nat.land q (turnRight 320 p 64))))

/-- The shift register of the round constants (algorithm 5): x^8 + x^6 + x^5 + x^4 + 1. -/
def rcNext (r : Nat) : Nat := if r < 128 then 2 * r else Nat.xor (2 * r) 0x171

/-- Step ι of one round: seven bits of the register go to the bits 2^j - 1 of lane (0, 0); with it the register after them. -/
def stepIota (s r : Nat) : Nat × Nat :=
  (List.range 7).foldl (fun (w : Nat × Nat) j => (Nat.xor w.1 (w.2 % 2 * 2 ^ (2 ^ j - 1)), rcNext w.2)) (s, r)

/-- The permutation: 24 rounds, the register starting at 1. -/
def permute1600 (s : Nat) : Nat :=
  ((List.range 24).foldl (fun (w : Nat × Nat) _ => stepIota (stepChi (stepRhoPi (stepTheta w.1))) w.2) (s, 1)).1

/-! ## The sponge (FIPS 202, 4-6) -/

/-- Take in a message in blocks of `rate` bytes, added to the low bits of the state; the last block ends with the function's suffix bits and the padding's
last 1. `n` whole blocks are left. -/
def takeIn (rate suffix : Nat) : Nat → List Nat → Nat → Nat
  | 0, bs, s => permute1600 (Nat.xor s (leOf bs + suffix * 256 ^ bs.length + 0x80 * 256 ^ (rate - 1)))
  | n + 1, bs, s => takeIn rate suffix n (bs.drop rate) (permute1600 (Nat.xor s (leOf (bs.take rate))))

/-- Give out `n` blocks of `rate` bytes. -/
def giveOut (rate : Nat) : Nat → Nat → List Nat
  | 0, _ => []
  | n + 1, s => (List.range rate).map (fun i => bitsAt s (8 * i) 8) ++ giveOut rate n (permute1600 s)

/-- `out` bytes of the sponge of a rate of `rate` bytes with the suffix bits `suffix`. -/
def sponge (rate suffix : Nat) (msg : List Nat) (out : Nat) : List Nat :=
  (giveOut rate ((out + rate - 1) / rate) (takeIn rate suffix (msg.length / rate) msg 0)).take out

def shake128 (msg : List Nat) (out : Nat) : List Nat := sponge 168 0x1F msg out
def shake256 (msg : List Nat) (out : Nat) : List Nat := sponge 136 0x1F msg out
def sha3of256 (msg : List Nat) : List Nat := sponge 136 0x06 msg 32
def sha3of512 (msg : List Nat) : List Nat := sponge 72 0x06 msg 64

/-! ## KMAC256 (SP 800-185, 2.3 and 4) -/

/-- The bytes of a number, most significant first, without leading zeros; at least one. -/
def minBytes (n : Nat) : List Nat :=
  let k := (List.range 8).foldl (fun m i => if 256 ^ (i + 1) ≤ n then i + 2 else m) 1
  (List.range k).map (fun i => n / 256 ^ (k - 1 - i) % 256)

def leftEncode (n : Nat) : List Nat := (minBytes n).length :: minBytes n
def rightEncode (n : Nat) : List Nat := minBytes n ++ [(minBytes n).length]
def encodeString (s : List Nat) : List Nat := leftEncode (8 * s.length) ++ s
def bytepad (s : List Nat) (w : Nat) : List Nat :=
  let z := leftEncode w ++ s
  z ++ List.replicate ((w - z.length % w) % w) 0

/-- KMAC256 with `bits` bits of output and a customization string. -/
def kmac256 (key msg : List Nat) (bits : Nat) (custom : List Nat) : List Nat :=
  sponge 136 0x04 (bytepad (encodeString [0x4B, 0x4D, 0x41, 0x43] ++ encodeString custom) 136 ++ bytepad (encodeString key) 136 ++ msg ++ rightEncode bits)
    (bits / 8)

/-! ## As the rules use them -/

/-- Bytes as numbers. -/
def byteNats (bs : List Byte) : List Nat := bs.map (·.toNat)

/-- SHAKE256 with 256 and 512 bits of output (R448-R459, R103). -/
def hash256 (bs : List Byte) : BitVec 256 := BitVec.ofNat 256 (leOf (shake256 (byteNats bs) 32))
def hash512 (bs : List Byte) : BitVec 512 := BitVec.ofNat 512 (leOf (shake256 (byteNats bs) 64))

/-- The bytes of a key or hash, in order. -/
def keyBytes (n v : Nat) : List Nat := (natLE n v).map (·.toNat)

/-- The tag of a secure packet (R104): `KMAC256(key, bytes, 128, "FLG TAG")`. -/
def kmacTag (key : BitVec 256) (bytes : List Nat) : BitVec 128 :=
  BitVec.ofNat 128 (leOf (kmac256 (keyBytes 32 key.toNat) bytes 128 [0x46, 0x4C, 0x47, 0x20, 0x54, 0x41, 0x47]))

/-- A session key (R103): `KMAC256(K, T2, 256, "FLG D2H")`, or "FLG H2D". -/
def sessionKey (k : BitVec 256) (t2 : BitVec 512) (d2h : Bool) : BitVec 256 :=
  BitVec.ofNat 256 (leOf (kmac256 (keyBytes 32 k.toNat) (keyBytes 64 t2.toNat) 256
    (if d2h then [0x46, 0x4C, 0x47, 0x20, 0x44, 0x32, 0x48] else [0x46, 0x4C, 0x47, 0x20, 0x48, 0x32, 0x44])))

/-- The content of DONE (R103): `KMAC256(K_D2H, T2, 128, "FLG DONE")`. -/
def doneTag (kd : BitVec 256) (t2 : BitVec 512) : BitVec 128 :=
  BitVec.ofNat 128 (leOf (kmac256 (keyBytes 32 kd.toNat) (keyBytes 64 t2.toNat) 128 [0x46, 0x4C, 0x47, 0x20, 0x44, 0x4F, 0x4E, 0x45]))

end Sys2Proof.Machine
end

