-- ==== Sys2Proof/Machine/LaneCode.lean ====
section
/-! DEFINITION. What travels on a lane (02_lanes, R42-R47, R52, R71, R74-R76), as functions on bits: headers and commas, the scrambler, the
RS(544,514) code, PAM4 levels, the block stream of a port. Bits are listed in sending order. Marks and risks: log entry 56. -/
namespace Sys2Proof.Machine

/-! ## Bits and symbols -/

/-- The `n` low bits of a number, most significant first: the order in which headers and blocks are sent (R44). -/
def bitsMsb : Nat → Nat → List Bool
  | 0, _ => []
  | n + 1, x => x.testBit n :: bitsMsb n x

/-- The number that bits spell, most significant first. -/
def ofBitsMsb (bs : List Bool) : Nat := bs.foldl (fun n b => 2 * n + (if b then 1 else 0)) 0

/-- A list in pieces of `k`, at most `n` of them. -/
def pieces {α : Type} (k : Nat) : Nat → List α → List (List α)
  | 0, _ => []
  | n + 1, xs => if xs.isEmpty then [] else xs.take k :: pieces k n (xs.drop k)

/-- The PAM4 level of a pair of bits, the first sent more significant (R44). -/
def pam4 : Bool × Bool → Nat
  | (false, false) => 0
  | (false, true) => 1
  | (true, true) => 2
  | (true, false) => 3

/-- The pair of bits of a PAM4 level (R44). -/
def pam4Bits (level : Nat) : Bool × Bool :=
  if level = 0 then (false, false) else if level = 1 then (false, true) else if level = 2 then (true, true) else (true, false)

/-- The PAM4 levels of bits in sending order (R44). -/
def pam4Levels : List Bool → List Nat
  | a :: b :: rest => pam4 (a, b) :: pam4Levels rest
  | _ => []

/-! ## The code (R43): RS(544,514) of IEEE 802.3 over ten-bit symbols -/

/-- Product in GF(2^10) with the field polynomial x^10 + x^3 + 1 of IEEE 802.3 (PRESUMED, log entry 56). -/
def gfMul (a b : Nat) : Nat :=
  (List.range 10).foldl (fun acc i =>
    let d := 2 * acc
    let r := if d.testBit 10 then d ^^^ 0x409 else d
    if b.testBit (9 - i) then r ^^^ a else r) 0

/-- Powers of the field's generator α = 2. -/
def gfExp (n : Nat) : Nat := (List.range (n % 1023)).foldl (fun x _ => gfMul x 2) 1

/-- The inverse of a non-zero element: its power 1 022. -/
def gfInv (a : Nat) : Nat :=
  let r := (List.range 8).foldl (fun x _ => gfMul (gfMul x x) a) a
  gfMul r r

/-- The generator polynomial with the roots α^0 to α^29, without its leading 1, highest degree first. -/
def rsGen : List Nat :=
  ((List.range 30).foldl (fun (g : List Nat) j =>
    let r := gfExp j
    (g ++ [0]).zipWith (fun x y => x ^^^ gfMul r y) (0 :: g)) [1]).drop 1

/-- The 30 parity symbols of a message, in sending order (R43). -/
def rsParity (msg : List Nat) : List Nat :=
  let g := rsGen
  msg.foldl (fun (reg : List Nat) m =>
    let f := m ^^^ reg.getD 0 0
    (reg.drop 1 ++ [0]).zipWith (fun x c => x ^^^ gfMul f c) g) (List.replicate 30 0)

/-- The value of a polynomial, given lowest degree first. -/
def polyAt (p : List Nat) (x : Nat) : Nat := p.reverse.foldl (fun acc c => gfMul acc x ^^^ c) 0

/-- The syndromes of a received word: its values at α^0 to α^29. -/
def rsSyndromes (cw : List Nat) : List Nat :=
  (List.range 30).map (fun j => let x := gfExp j; cw.foldl (fun acc c => gfMul acc x ^^^ c) 0)

/-- One step of the Berlekamp-Massey search on the locator, lowest degree first: current and previous locators, errors assumed, gap, last discrepancy. -/
def bmStep (syn : List Nat) (st : List Nat × List Nat × Nat × Nat × Nat) (n : Nat) : List Nat × List Nat × Nat × Nat × Nat :=
  let (c, b, l, m, bd) := st
  let d := (List.range (l + 1)).foldl (fun acc i => acc ^^^ gfMul (c.getD i 0) (syn.getD (n - i) 0)) 0
  if d = 0 then (c, b, l, m + 1, bd)
  else
    let k := gfMul d (gfInv bd)
    let sh := List.replicate m 0 ++ b.map (gfMul k)
    let c' := (List.range (Nat.max c.length sh.length)).map (fun i => c.getD i 0 ^^^ sh.getD i 0)
    if 2 * l ≤ n then (c', c, n + 1 - l, 1, d) else (c', b, l, m + 1, bd)

/-- The error locator of the syndromes and its number of errors. -/
def rsLocator (syn : List Nat) : List Nat × Nat :=
  let (c, _, l, _, _) := (List.range 30).foldl (bmStep syn) ([1], [1], 0, 1, 1)
  (c, l)

/-- Correct up to 15 symbol errors of a received word of 544 symbols (R43): the word and the symbols corrected, or none where it is uncorrectable. -/
def rsCorrect (cw : List Nat) : Option (List Nat × Nat) :=
  let syn := rsSyndromes cw
  if syn.all (· == 0) then some (cw, 0)
  else
    let (loc, l) := rsLocator syn
    let omega := (List.range 30).map (fun i => (List.range (i + 1)).foldl (fun acc j => acc ^^^ gfMul (loc.getD j 0) (syn.getD (i - j) 0)) 0)
    let deriv := (List.range loc.length).map (fun i => if i % 2 = 0 then loc.getD (i + 1) 0 else 0)
    let fixed := (List.range 544).map (fun i =>
      let y := cw.getD i 0
      let xi := gfExp (1023 - (543 - i))
      if polyAt loc xi = 0 then (y ^^^ gfMul (gfExp (543 - i)) (gfMul (polyAt omega xi) (gfInv (polyAt deriv xi))), 1) else (y, 0))
    let n := fixed.foldl (fun s x => s + x.2) 0
    let out := fixed.map (·.1)
    if l ≤ 15 ∧ n = l ∧ (rsSyndromes out).all (· == 0) then some (out, n) else none

/-! ## The scrambler (R45) -/

/-- The seed at the first block bit of a superframe: 0x2AAA_AA00 with the logical lane carried (R45). -/
def scrSeed (llane : Nat) : Nat := 0x2AAAAA00 ||| llane

/-- Scramble bits with x^31 + x^28 + 1: each is added to the bit that the register feeds back. The same function descrambles. -/
def scramble : Nat → List Bool → Nat × List Bool
  | st, [] => (st, [])
  | st, b :: bs =>
    let k := st.testBit 30 != st.testBit 27
    let (st', out) := scramble ((2 * st + (if k then 1 else 0)) % 2 ^ 31) bs
    (st', (b != k) :: out)

/-! ## Headers (R46) -/

/-- The comma of codeword 0 (R46). -/
def comma : Nat := 0x3E5C7

/-- Its polarity image: the first bit of every pair inverted (R47). -/
def commaImage : Nat := comma ^^^ 0xAAAAA

/-- The header of codewords 1-255 (R46). -/
def laneHeader (htype bcmd barg llane cwidx : Nat) : Nat :=
  htype % 4 * 2 ^ 18 + bcmd % 16 * 2 ^ 14 + barg % 16 * 2 ^ 10 + llane % 16 * 2 ^ 6 + cwidx % 64

/-- A header's fields (R46). -/
def hdrType (h : Nat) : Nat := bitsAt h 18 2
def hdrCmd (h : Nat) : Nat := bitsAt h 14 4
def hdrArg (h : Nat) : Nat := bitsAt h 10 4
def hdrLane (h : Nat) : Nat := bitsAt h 6 4
def hdrIdx (h : Nat) : Nat := bitsAt h 0 6

/-! ## Codewords (R43-R45) -/

/-- The bits of a codeword in sending order: header, 40 blocks, parity over the scrambled message. The blocks from number `clear` on are scrambled
(0 traffic, 1 training). `st` is the scrambler before the codeword; the result brings it after. -/
def codeword (st hdr : Nat) (blocks : List Nat) (clear : Nat) : Nat × List Bool :=
  let plain := (blocks.take clear).flatMap (bitsMsb 128)
  let (st', body) := scramble st ((blocks.drop clear).flatMap (bitsMsb 128))
  let msg := bitsMsb 20 hdr ++ plain ++ body
  let par := rsParity ((pieces 10 514 msg).map ofBitsMsb)
  (st', msg ++ par.flatMap (bitsMsb 10))

/-- Read a received codeword of 5 440 bits: its header and 40 blocks, descrambled from number `clear` on, and the symbols corrected; none where it is
uncorrectable. -/
def readCodeword (st : Nat) (bits : List Bool) (clear : Nat) : Option (Nat × List Nat × Nat) :=
  match rsCorrect ((pieces 10 544 bits).map ofBitsMsb) with
  | none => none
  | some (cw, n) =>
    let msg := (cw.take 514).flatMap (bitsMsb 10)
    let body := msg.drop 20
    let plain := body.take (128 * clear)
    let (_, rest) := scramble st (body.drop (128 * clear))
    some (ofBitsMsb (msg.take 20), (pieces 128 40 (plain ++ rest)).map ofBitsMsb, n)

/-! ## Alignment (R47) -/

/-- Symbols between two commas (R47). -/
def superframeSymbols : Nat := 256 * 2720

/-- Whether three matches declare the lane aligned, and whether they are the polarity image (R47): the same pattern three times at the exact
spacing, and 200 or more of the 255 codewords between the last two correctable. A reserved `HTYPE` is no header (R46). -/
def huntAligned (h : HuntObs) : Option Bool :=
  let hdr := h.hdr.toNat
  let words := [h.w0.toNat, h.w1.toNat, h.w2.toNat]
  if h.gap1 ≠ superframeSymbols ∨ h.gap2 ≠ superframeSymbols ∨ h.good < 200 ∨ 255 < h.good ∨ ¬ (hdrType hdr = 1 ∨ hdrType hdr = 2) then none
  else if words = [comma, comma, comma] then some false
  else if words = [commaImage, commaImage, commaImage] then some true
  else none

/-! ## The training control word (R52) -/

/-- A training control word of the fields of R52; reserved bits 0. -/
def trainingWord (tstate llane req sts rxrdy reqseq ackseq move lanecap : Nat) : Nat :=
  2 * 2 ^ 120 + tstate % 16 * 2 ^ 116 + llane % 16 * 2 ^ 112 + req % 1024 * 2 ^ 100 + sts % 1024 * 2 ^ 90 + rxrdy % 2 * 2 ^ 89 + reqseq % 256 * 2 ^ 80 +
    ackseq % 256 * 2 ^ 72 + move % 16 * 2 ^ 68 + lanecap % 16 * 2 ^ 64

/-- Fields of a received control word (R52). -/
def twVer (w : Nat) : Nat := bitsAt w 120 8
def twReq (w : Nat) : Nat := bitsAt w 100 10
def twRdy (w : Nat) : Bool := w.testBit 89
def twReqSeq (w : Nat) : Nat := bitsAt w 80 8
def twAckSeq (w : Nat) : Nat := bitsAt w 72 8
def twMove (w : Nat) : Nat := bitsAt w 68 4
def twCap (w : Nat) : Nat := bitsAt w 64 4

/-! ## The block stream (R74, R75) -/

/-- The stream index within a superframe of block `b` of codeword `c` on logical lane `k` of `n` (R74). -/
def streamIndex (n c b k : Nat) : Nat := (c * 40 + b) * n + k

/-- Blocks of a superframe (R74). -/
def superframeBlocks (n : Nat) : Nat := 256 * 40 * n

/-- Where a packet of `len` blocks starts when the stream has come to block `pos`: it crosses no superframe boundary (R75). -/
def placeAt (n pos len : Nat) : Nat :=
  let sf := superframeBlocks n
  if sf < pos % sf + len then (pos / sf + 1) * sf else pos

/-- The blocks that a packet's bytes fill: byte i lies in bits [127 - 8 (i mod 16) : 120 - 8 (i mod 16)] of block i div 16 (R76). -/
def packetBlocks (bytes : List Nat) (len : Nat) : List Nat :=
  (List.range len).map (fun j => (List.range 16).foldl (fun v i => 256 * v + bytes.getD (16 * j + i) 0 % 256) 0)

/-- The block of an `IDLE` packet: class 0, type 0, `LEN` 1, the rest zero (R75, R78). -/
def idleBlock : Nat := 2 ^ 40 * 2 ^ 64

end Sys2Proof.Machine
end

