-- ==== Sys2Proof/Config.lean ====
section
/-! DEFINITION. What the spec leaves open: the free values. Each constant has no body, so no proof can see what it is, and a
statement holds whatever it is. -/
namespace Sys2Proof

/-- A fresh value for each use: `freeValue n` is what the device delivers the `n`-th time the spec says that some value
results but not which (the counter is `State.free`; log entry 2). -/
opaque Config.freeValue : Nat → Nat

/-- The free values of one use that has many of them (R187, R211, R281; log entry 2): by the number of the use and the place in it. -/
opaque Config.freeAt : Nat → Nat → Nat

/-- Stage 3's rate conversion (R189, R191): by N × 2^MU and the place between two carrier samples, on the carrier samples around it, in their unit. The spec bounds
ripple and image rejection only (log entry 7). -/
opaque Config.txConvert : Nat → Nat → List (Int × Int) → Int × Int

/-- Assay's correction of a transmit path in stage 4 (R192): by the correction values of the path and of its die, on the samples around one; in units of 2^-16. -/
opaque Config.txAlign : List Nat → List (Int × Int) → Int × Int

/-- Interpolation ×3 of stage 6 and ×4 of stage 8 (R195): by the phase, on the input samples around it. -/
opaque Config.txInterp3 : Nat → List (Int × Int) → Int × Int
opaque Config.txInterp4 : Nat → List (Int × Int) → Int × Int

/-- U2's decimation by 6 (R208), on rotated ADC samples in units of 2^-128. -/
opaque Config.rxDecimate : List (Int × Int) → Int × Int

/-- Assay's correction of a receive path in U3 (R209): as `txAlign`. -/
opaque Config.rxAlign : List Nat → List (Int × Int) → Int × Int

/-- U4's channel filter and rate conversion (R210): by N × 2^MU and the place of the output sample between two inputs, on rotated inputs in units of 2^-128; in units
of 2^-16. -/
opaque Config.rxConvert : Nat → Nat → List (Int × Int) → Int × Int

/-- The decimation of a PRACH extraction (R224): by the FFT size, the PRACH SCS in units of 1.25 kHz and the place of the output sample, on mixed inputs in units of 2^-128. -/
opaque Config.prachDecimate : Nat → Nat → Nat → List (Int × Int) → Int × Int

/-- Length in 64-byte units of the calibration state (`ASSAY_STATE_LEN`, set by firmware; R393); the device reports it modulo 3 073. -/
opaque Config.assayUnits : Nat

/-- The payload version of the running firmware image's calibration state (R395), by the image's version word. -/
opaque Config.assayPver : Nat → BitVec 8

/-- Byte `i` of the calibration state that holds the given correction values, by instance (R393: its layout is not specified). -/
opaque Config.assayByte : List (Nat × Nat) → Nat → BitVec 8

/-- The correction values that a payload holds (R396; the inverse of the layout that R393 leaves open). -/
opaque Config.assayValues : List (BitVec 8) → List (Nat × Nat)

/-- Assay's `MONCAL` correction of a monitor code, by the correction value in use (R398; the value's meaning is firmware's, R387). -/
opaque Config.monCorrect : Nat → Int → Int

/-- Assay's `AUXGAIN` correction of an aux DAC code, by the correction value in use (R408, R411). -/
opaque Config.auxCorrect : Nat → Nat → Nat

/-- The hash of Huathen's manufacturing key in the Adit ROM (R452). -/
opaque Config.romKeyHash : BitVec 256

/-- A Falcon-1024 signature with the identity key of a seed, by the fresh value it draws (R457). -/
opaque Config.falconSign : Nat → Nat → List (BitVec 8) → List (BitVec 8)

/-- The identity public key of a seed (R456). -/
opaque Config.identityKey : Nat → List (BitVec 8)

end Sys2Proof
end

