-- ==== Sys2Proof/Machine/Store.lean ====
section
/-! DEFINITION. Sparse tables: the one way this model holds many like things by key (register words by address, memory
bytes by address, per-unit records by unit number). A table is a list of (key, value) pairs in one canonical form: keys
strictly rising, and no entry equal to what an unlisted key reads as, so that equal tables are equal lists. -/
namespace Sys2Proof.Machine

/-- What a table holds at a key: its entry, or what an unlisted key reads as. -/
def kvGet {α : Type} (dflt : Nat → α) : List (Nat × α) → Nat → α
  | [], k => dflt k
  | (a, v) :: rest, k => if a = k then v else kvGet dflt rest k

/-- The table without the entries of one key. -/
def kvErase {α : Type} (k : Nat) : List (Nat × α) → List (Nat × α)
  | [] => []
  | (a, v) :: rest => if a = k then kvErase k rest else (a, v) :: kvErase k rest

/-- Insert before the first larger key. -/
def kvInsert {α : Type} (k : Nat) (x : α) : List (Nat × α) → List (Nat × α)
  | [] => [(k, x)]
  | (a, v) :: rest => if k < a then (k, x) :: (a, v) :: rest else (a, v) :: kvInsert k x rest

/-- Write one key, keeping the canonical form: writing what an unlisted key reads as removes the entry. -/
def kvSet {α : Type} [DecidableEq α] (dflt : Nat → α) (m : List (Nat × α)) (k : Nat) (x : α) : List (Nat × α) :=
  if x = dflt k then kvErase k m else kvInsert k x (kvErase k m)

/-- Every key of the table is above `k`. -/
def kvAbove {α : Type} (k : Nat) (m : List (Nat × α)) : Bool := m.all (fun e => decide (k < e.1))

/-- The canonical form: keys strictly rising, no entry equal to its default. -/
def kvWf {α : Type} [DecidableEq α] (dflt : Nat → α) : List (Nat × α) → Bool
  | [] => true
  | (a, v) :: rest => kvAbove a rest && decide (v ≠ dflt a) && kvWf dflt rest

end Sys2Proof.Machine
end

