-- ==== Sys2Proof/Machine/State.lean ====
section
/-! DEFINITION. The state of the device: plain data, holding everything the spec gives the machine. Registers live in one sparse
table keyed by their address (`State.regs`, with `RegMap` naming addresses, fields and reset values); state the spec gives that no
register shows (timers, queues, stored sections, sequence numbers, …) has fields of its own, grouped by chapter. Timers are kept
as the model time (`State.tick`) at which they started. -/
namespace Sys2Proof.Machine

/-- Why the machine stops with a fault. No command of the table stops it: every command has an effect in every state. -/
inductive Fault where
  /-- Raised by nothing: a fault that ends the model's run does not exist in this block (safe). -/
  | none
  deriving DecidableEq, Repr

/-- Why a command is refused by the model. -/
inductive Refusal where
  /-- Raised by `exec` for a command that has no meaning yet; the argument is the mnemonic (safe: the machine stops). -/
  | notModelled (mnemonic : String)
  deriving DecidableEq, Repr

/-- An instant of the output time in thirds of u = 2^-16 ns: one Tc is exactly 100 000 of them (R135, R147). -/
abbrev Th := Int

/-! ## Events, bus and outputs -/

/-- One record of the event log (R480): `time` holds words 2-5. -/
structure EvRec where
  seq : Nat
  code : Nat
  unit : Nat
  tsValid : Bool
  lost : Bool
  time : List Nat
  arg6 : Nat
  arg7 : Nat
  deriving DecidableEq, Repr

/-- An event raised in the present cycle that the log has not numbered yet (R38). -/
structure EvReq where
  code : Nat
  unit : Nat
  arg6 : Nat
  arg7 : Nat
  deriving DecidableEq, Repr

/-- A packet the device sends (R77, R78): `body` is bytes 8 on, as little-endian 32-bit words. -/
structure Pkt where
  cls : Nat
  type : Nat
  len : Nat
  seq : Nat
  tspec : Nat
  body : List Nat
  deriving DecidableEq, Repr

/-- What the device puts out, as an observer outside sees it, newest first in `State.out`. -/
inductive Out where
  /-- a new block stream on a port: lanes joined, the tick at which its superframe 0 starts (R74) -/
  | stream (port n at_ : Nat)
  /-- a packet on a port, and the index of its first block in the port's stream, counted from the stream's start (R74, R75) -/
  | pkt (port at_ : Nat) (p : Pkt)
  /-- a back-channel command on a port (R63): in every header of every lane in use for one superframe; MIRROR_ON on the relief lane while it copies -/
  | back (port cmd arg : Nat)
  /-- a new training control word on a physical lane (R52) -/
  | train (port lane word : Nat)
  /-- one beacon burst on lane 0 of a port (R73) -/
  | beacon (port : Nat)
  /-- a frame on a FESPI port (R167): bits and data sent -/
  | fespi (port bits : Nat) (data : Nat)
  /-- a reply of the management port (R443): bytes sent on `MSPI_DO` -/
  | mspi (bytes : List Nat)
  /-- `PPS_OUT` rises or falls -/
  | pps (level : Bool)
  deriving DecidableEq, Repr

/-- The last response of each requester and its holding registers (R24, R30, R31, R134). -/
structure BusUnit where
  /-- response code of the last access (R24) -/
  resp : Nat := 0
  /-- what the last read returned (both words for a 64-bit access) -/
  data : Nat := 0
  /-- read-holding register: the address of the register it is tagged with and its latched later words (R30, R134) -/
  rdTag : Option Nat := none
  rdHold : List Nat := []
  /-- write-holding register: the register's first address and the words held so far, by word number (R31, R134) -/
  wrTag : Option Nat := none
  wrHold : List (Nat × Nat) := []
  deriving DecidableEq, Repr

/-! ## Time (05_timebase) -/

/-- What the TIME block keeps beside its registers (R140, R144-R146). -/
structure TimeSt where
  /-- the transition offset, in units of 2^-32 ns (R140) -/
  trans : Int := 0
  /-- what the slew has not yet taken: fifteenths of 2^-32 ns (R140) -/
  slewFrac : Nat := 0
  /-- `TB_CNT` of the last captured `PPS_IN` edge (R144) -/
  ppsAt : Option Nat := none
  /-- whether the armed `ALIGN_IN` capture has sampled it low since arming (R146) -/
  alignLow : Bool := false
  /-- `PPS_OUT`: its level, and the tick at which the pulse in progress falls (R145) -/
  ppsOut : Bool := false
  ppsFallAt : Nat := 0
  /-- ticks at which `PPS_OUT` is due to rise: natural rollovers of the output seconds, delayed (R145) -/
  ppsDue : List Nat := []
  /-- steps committed in the cycle of a `TB_CNT` value: domain, that value, their sum in units u (R136) -/
  steps : List (Nat × Nat × Int) := []
  deriving DecidableEq, Repr

/-! ## Lanes (02_lanes) -/

/-- One physical lane of a port, beside its registers (R49). -/
structure LaneSt where
  /-- when the lane entered its state (R49 timeouts) -/
  stateAt : Nat := 0
  /-- own `RXRDY` sent, far end's `RXRDY` seen (R49) -/
  rxRdy : Bool := false
  farRdy : Bool := false
  /-- last far-end `REQSEQ` acted on, and the `STS` reported, 2 bits per tap (R52, R53) -/
  ackSeq : Option Nat := none
  sts : Nat := 0
  /-- trains alone after `RESTORE` or RETRAIN_REQ (R70) -/
  alone : Bool := false
  /-- when alignment was lost (R61) -/
  lostAt : Nat := 0
  /-- retired in the receive, in the transmit direction (R68, R70) -/
  rxRetired : Bool := false
  txRetired : Bool := false
  /-- where its commas arrive: a symbol position modulo a superframe (R47, R59) -/
  commaAt : Nat := 0
  /-- the device's own requests to the far transmitter: `REQ` and `REQSEQ` (R52, R53, R55) -/
  req : Nat := 0
  reqSeq : Nat := 0
  deriving DecidableEq, Repr

/-- One port's lanes, beside the registers. -/
structure PortLanes where
  /-- the attempt in progress: its number and start (R50) -/
  attempts : Nat := 0
  attemptAt : Option Nat := none
  /-- when the first lane of the port entered READY (R49) -/
  readyAt : Option Nat := none
  /-- lanes the far end drives, 4 or 8 (R52 `LANECAP`) -/
  farCap : Nat := 8
  /-- polarity event already raised in this training (R57) -/
  polSeen : Bool := false
  /-- receive relief: the logical lane being moved (R67 steps 1-4) -/
  rxRelief : Option Nat := none
  /-- transmit relief: the logical lane being copied (R67 steps 2-5) -/
  txRelief : Option Nat := none
  /-- emergency relief requested for a logical lane (R61) -/
  emergency : Option Nat := none
  /-- when the stall began (R60) -/
  stallAt : Nat := 0
  /-- wake beacon running, time of its last burst (R73) -/
  beacon : Bool := false
  beaconAt : Option Nat := none
  /-- the scan in progress (R66): its lanes, the lanes that a relief or power-down has aborted in it, whether it is an automatic one, when it began, and the
  lanes of a host scan that waits for an automatic one -/
  scan : Nat := 0
  scanAbort : Nat := 0
  scanAuto : Bool := false
  scanSince : Nat := 0
  scanNext : Option Nat := none
  /-- `MOVE` sent (R56) -/
  move : Option Nat := none
  /-- the deskew buffer as fixed at DESKEW (R59): the comma position of the earliest lane, and the depth in lane words -/
  deskew : Option (Nat × Nat) := none
  /-- back-channel commands sent and still in headers: command, argument, the tick at which they start (R63) -/
  sending : List (Nat × Nat × Nat) := []
  /-- a back-channel instance has been accepted, and no codeword of NONE since (R63) -/
  backSeen : Bool := false
  /-- time of the last automatic scan (R66) -/
  autoScanAt : Nat := 0
  deriving DecidableEq, Repr

/-! ## Link (03_link) -/

/-- The result of a negotiation (R85). -/
structure NegResult where
  ver : Nat
  lanes : Nat
  rate : Nat
  feat : Nat
  comp : Nat
  deriving DecidableEq, Repr

/-- A secure session's handshake in progress (R103). -/
structure Handshake where
  at_ : Nat
  t1 : BitVec 512
  slot : Nat
  hostKey : List Byte
  /-- the number of the free value that the ephemeral key was drawn as -/
  kem : Nat
  deriving DecidableEq, Repr

/-- One link port, beside its registers (R81, R98). -/
structure PortLink where
  /-- BK transmit (R81): next `SEQ`, unacknowledged packets oldest first, packets waiting, replays without progress, time of the last progress -/
  txSeq : Nat := 0
  unacked : List Pkt := []
  waiting : List Pkt := []
  replays : Nat := 0
  progressAt : Nat := 0
  /-- BK receive (R81): last accepted `SEQ`, whether the one NAK has been sent -/
  rxSeq : Nat := 255
  nakSent : Bool := false
  /-- credits available to send, 16-byte units (R82) -/
  credits : Nat := 0
  /-- RT sequence numbers per type: last received, next to send (R80) -/
  rtRx : List (Nat × Option Nat) := []
  rtTx : List (Nat × Nat) := []
  /-- superframe whose rest is discarded (R79) -/
  discardSf : Option Nat := none
  /-- negotiation (R84-R86): start, last OFFER sent, the credit of the peer's OFFER, own and peer ACCEPT, REJECTs, first result when a rate change is under way -/
  negAt : Nat := 0
  offerAt : Nat := 0
  peerOffer : Option Nat := none
  ownAccept : Option NegResult := none
  peerAccept : Option NegResult := none
  rejects : Nat := 0
  wanted : Option NegResult := none
  /-- when the port left OPERATIONAL or STALLED (R98), and whether its locks have been freed since (R379) -/
  downAt : Option Nat := none
  locksFreed : Bool := false
  /-- secure session (R103-R106): handshake, keys, last accepted and last sent counters -/
  hs : Option Handshake := none
  keyH2D : BitVec 256 := 0
  keyD2H : BitVec 256 := 0
  rxCtr : Nat := 0
  txCtr : Nat := 0
  /-- the block stream that the port sends (R74, R75): its lanes, the tick of its start, and the first block after the last packet -/
  streamN : Nat := 8
  streamAt : Nat := 0
  streamPos : Nat := 0
  /-- consecutive packet starts of RT while BK packets wait (R83) -/
  rtRun : Nat := 0
  /-- the `TIME` exchange in progress: the tick at which `DREQ` leaves, its `TSEQ`, and t2 (R142, R143) -/
  exch : Option (Nat × Nat × Nat) := none
  deriving DecidableEq, Repr

/-- A failover that waits for its switch boundaries (R101, R102): trigger time, carriers still to switch, the port that takes over (2: for each
carrier the other one), whether its event has been raised. -/
structure Failover where
  at_ : Nat
  cars : Nat
  to_ : Nat
  raised : Bool
  deriving DecidableEq, Repr

/-- Dual-homing beside its registers: the code in force for each carrier (R100: 0 or 1 a port, 2 SINGLE, 4 or 5 MIRROR), writes waiting for a symbol boundary with
the tick of the last one, the pending failover, and the last changes (carrier, boundary, code before it), newest first (R102). -/
structure DualHome where
  serve : List Nat := [2, 2, 2, 2, 2, 2, 2, 2]
  applyCars : Nat := 0
  applyAt : Nat := 0
  failover : Option Failover := none
  past : List (Nat × Th × Nat) := []
  deriving DecidableEq, Repr

/-! ## Power and thermal (17_power_thermal) -/

/-- A power transition in progress (R416-R422). -/
structure Trans where
  /-- bring-up (true) or descent -/
  up : Bool
  /-- the step whose delay is running: 1-7 U1-U7, 8-12 C1-C5; 13 and 14 are the abort points A1 and A2, about to be passed (R421) -/
  step : Nat
  /-- which of the four clocks of U5 (0 first started or stopped; R419, R421) -/
  sub : Nat
  /-- when its action ran (model ticks) -/
  at_ : Nat
  /-- the state code the transition leads to, and the one it started from -/
  target : Nat
  start : Nat
  /-- the sequence is being reversed because REFCLK was absent (R420) -/
  failed : Bool
  deriving DecidableEq, Repr

/-- What the power page and Canary keep beside their registers. -/
structure PowerSt where
  /-- `VDD_AON` absent (OFF, R415) -/
  off : Bool := false
  /-- `POR_N` or `RST_N` held low (R439) -/
  porLow : Bool := false
  rstLow : Bool := false
  /-- `PWR_SEQ0`-`PWR_SEQ5` as a mask (R418) -/
  seq : Nat := 0
  trans : Option Trans := none
  /-- the converter pages answer: the delay of C3 is over (R524) -/
  convOn : Bool := false
  /-- converter dies whose die-to-die link is lost (R14, R473) -/
  dieLost : Nat := 0
  /-- a wake was detected during a descent and is held (R422) -/
  heldWake : Bool := false
  /-- retention groups kept by the entry to RETAIN (R425) -/
  retGroups : Nat := 0
  /-- the bring-up in progress, or the next one, ends in a boot: after reset, and from DORMANT and RETAIN (R440) -/
  bootDue : Bool := true
  /-- SAFE descends to IDLE as soon as the step in progress is over (R436) -/
  safeDue : Bool := false
  /-- Canary: time of the last update (R431), grace timer start (R434), consecutive missed updates per sensor (R432), `FAULT_N` pulled low from outside
  at the last sample, time of the last supply request, its next channel, time of the last sample of `FAULT_N` (R438) -/
  canaryAt : Nat := 0
  graceAt : Option Nat := none
  missed : List (Nat × Nat) := []
  faultLow : Bool := false
  supAt : Nat := 0
  supChan : Nat := 32
  faultAt : Nat := 0
  deriving DecidableEq, Repr

/-! ## Boot and security (18_boot_security), repair (19_repair_availability) -/

/-- A used record of the OTP repair area (R475): words 0-2 and `MARK`, which is 0 where the programming was cut off (R478). -/
structure OtpRec where
  w0 : Nat
  w1 : Nat
  crc : Nat
  mark : Nat
  deriving DecidableEq, Repr

/-- What OTP holds (R452-R456, R475, SYS_SERIAL): lifecycle, root slots (masks, and the eight hash words of each), SVN floor, the sealed identity seed (the
number of the free value it was drawn as) and the hash of its public key, whether the identity area is consumed, the repair records in order, the serial number, the clear codes of aux DAC channels
that are not 0x000 (R409). -/
structure OtpSt where
  lc : Nat := 0
  prog : Nat := 0
  dead : Nat := 0
  revoked : Nat := 0
  hashes : List (Nat × List Nat) := []
  svn : Nat := 0
  seed : Option Nat := none
  idHash : List Nat := []
  idUsed : Bool := false
  recs : List OtpRec := []
  serial : Nat := 0
  clr : List (Nat × Nat) := []
  deriving DecidableEq, Repr

/-- A service request being served (R445): opcode, the channel that carried it, its reply channel and tag. -/
structure SvcReq where
  op : Nat
  chan : Nat
  reply : Nat
  tag : Nat
  deriving DecidableEq, Repr

/-- A verified image (R448-R451): where it came from, what its header says, its measurement. -/
structure Image where
  space : Nat
  addr : Nat
  len : Nat
  root : Nat
  svn : Nat
  entry : Nat
  meas : List Nat
  deriving DecidableEq, Repr

/-- An OTP operation in progress (R454, R478): what its marker will make valid. -/
inductive OtpOp where
  | slot (n : Nat) (hash : List Nat)
  | revoke (n : Nat)
  | svn (v : Nat)
  | lifecycle (v : Nat)
  | identity (seed : Nat) (hash : List Nat)
  | repair (w0 w1 : Nat)
  deriving DecidableEq, Repr

/-- Where Adit stands (R440): not running, waiting for a host port (step 3) since a tick, waiting for `LOAD`, an image verified and to be
started, or handed over to firmware. -/
inductive AditSt where
  | off
  | port (since : Nat)
  | message
  | verified (img : Image) (req : Option SvcReq)
  | done
  deriving DecidableEq, Repr

/-- What Foreman and the enclave keep beside their registers: Adit, whether the identity is unsealed (R440), the request that firmware answers first
when it has started (R445, R463), whether channel 15 is Foreman's (R441), the running and the staged image, the swap's request, the OTP operation in
progress. -/
structure SecSt where
  adit : AditSt := .off
  identity : Bool := false
  fwReply : Option SvcReq := none
  ch15 : Bool := false
  run : Option Image := none
  staged : Option Image := none
  swapReq : Option SvcReq := none
  otpOp : Option (OtpOp × SvcReq) := none
  deriving DecidableEq, Repr

/-- SRAM rows as (array, row) (R470, R471): retired ones, those a spare was wanted for in vain, those in which the last scrub pass found a correctable
error, those to be retired, and when the last pass ended. -/
structure SramSt where
  retired : List (Nat × Nat) := []
  failed : List (Nat × Nat) := []
  suspect : List (Nat × Nat) := []
  due : List (Nat × Nat) := []
  scrubAt : Nat := 0
  deriving DecidableEq, Repr

/-! ## Double-banked resources (R163, R525) -/

/-- A pending swap of a double-banked resource (R163, R164): `res` is a resource of R163's table, `idx` the path, half or physical engine
it names, `bound` the boundary B, `eng` the requesting physical engine (none for a host request). `bnd` and `car` name the boundary's kind;
`deferred` marks a TIME swap that a DMA transfer has deferred (R153). -/
structure SwapPend where
  res : Nat
  idx : Nat
  bnd : Nat
  car : Nat
  bound : Th
  eng : Option Nat
  deferred : Bool
  deriving DecidableEq, Repr

/-- A bank that has left the active role for boundary `bound` and is in use until the output time `until_` (R525). -/
structure OldBank where
  res : Nat
  idx : Nat
  bank : Nat
  bound : Th
  until_ : Th
  deriving DecidableEq, Repr

/-! ## Shiftboss (06_shiftboss) -/

/-- What a staged instruction will do at its effect cycle (R156). -/
inductive StagedOp where
  | set (addr val : Nat)
  | setw (addr val : Nat)
  | swap (bnd car res idx t : Nat)
  | capture (mirror : Bool) (nblk path dest rb : Nat)
  | gate (dir : Nat) (sleep : Bool) (mask : Nat)
  | fectl (fop mask val : Nat)
  | fesend (r : Bool) (port nbits data rb : Nat)
  deriving DecidableEq, Repr

/-- A staged instruction: its effect cycle (FCLK cycle number), what it does, and the target of the wait that released it when that is its reference
time (R156, R180). -/
structure Staged where
  due : Nat
  op : StagedOp
  tw : Option Th
  deriving DecidableEq, Repr

/-- What an engine waits for (R156). -/
inductive EngWait where
  | none
  /-- a time wait: its target in ST and exactly, and `SKIPTO` when its `S` bit is set -/
  | time (t : Nat) (tw : Th) (skip : Option Nat)
  | ev (flag : Nat) (pol clr : Bool) (deadline : Option Nat)
  | fence
  | fesend (port : Nat)
  deriving DecidableEq, Repr

/-- One Shiftboss engine beside its registers (R149, R156, R160). -/
structure Engine where
  wait : EngWait := .none
  /-- FCLK cycle of the last issue, and release cycle and target of the latest wait (R156) -/
  cyc : Nat := 0
  rel : Nat := 0
  relT : Option Th := none
  staged : List Staged := []
  /-- loop stack, innermost first: address after `LOOP`, remaining count (R160) -/
  loops : List (Nat × Nat) := []
  calls : List Nat := []
  /-- by event flag: one more than the FCLK cycle of its last set, and of its last change (R154) -/
  evSet : List (Nat × Nat) := []
  evChg : List (Nat × Nat) := []
  deriving DecidableEq, Repr

/-- A FESPI frame (R167). -/
structure FeFrame where
  eng : Nat
  nbits : Nat
  data : Nat
  rb : Nat
  r : Bool
  deriving DecidableEq, Repr

/-- The Shiftboss block beside the engines: FE pins reached by an `FECTL` (R166), FESPI queues per port with the frame in progress first
(R167), whether SB4 is synchronizing (R173), paths asleep per direction, and the tick until which a woken RX path delivers zeros (R165). -/
structure SbSt where
  reached : Nat := 0
  fespi : List (Nat × List FeFrame) := []
  syncing : Bool := true
  /-- the faulted engine whose role SB4 serves once the host sets its `RUN` (R175) -/
  heir : Option Nat := none
  /-- start of the frame in progress of each port (FCLK cycle) -/
  feAt : List (Nat × Nat) := []
  asleepTx : Nat := 0
  asleepRx : Nat := 0
  wokeRx : List (Nat × Nat) := []
  deriving DecidableEq, Repr

/-! ## Computed weights and sounding (09_beams) -/

/-- A past flip of a handle (R241, R242): its boundary, the bank that symbols before it use, the boundary from which those were stale, if they were. -/
structure CwFlip where
  bound : Th
  bank : Nat
  stale : Option Th
  deriving DecidableEq, Repr

/-- The arm, commit and flip of one handle in one direction, beside `BEAM_CW_STAT` (R240-R246): boundary armed for, flip boundary of a waiting commit and the carrier it is
a boundary of, the flips of the last 20 ms, newest first, end of the old copy's use, boundary from which its symbols are stale while `STALE` is 1. -/
structure CwSt where
  armB : Th := 0
  flipB : Option Th := none
  flipCar : Nat := 0
  past : List CwFlip := []
  oldUntil : Th := 0
  staleB : Th := 0
  lastRaise : Nat := 0
  deriving DecidableEq, Repr

/-- The SRS resource elements of one symbol that wait for their accumulation (R248, R249): set, carrier, PRB ranges (first, count), output time of the symbol's
air-time end, the REs after U5 as (subcarrier, path, I, Q), and whether the set is cleared right after (R250). -/
structure SrsPend where
  set : Nat
  car : Nat
  prbs : List (Nat × Nat)
  endT : Th
  res : List (Nat × Nat × Int × Int)
  clear : Bool := false
  deriving DecidableEq, Repr

/-! ## DMA, mailboxes, tally (14_dma_mailboxes) -/

/-- An outstanding device `MEM_RD` (R91, R92, R95): its port and tag, the offset it reads into, its length, the bytes received so far, when
it was issued, and whether it is the flush of R93. -/
structure MemRd where
  port : Nat
  tag : Nat
  off : Nat
  len : Nat
  got : Nat
  at_ : Nat
  flush : Bool
  deriving DecidableEq, Repr

/-- A completion record before it is written (R363). -/
structure CqRec where
  status : Nat
  doneBytes : Nat
  tb : Nat
  failAddr : Nat
  rsrc : Nat
  resp : Nat
  deriving DecidableEq, Repr

/-- What a channel is doing beside `DMA_STAT.STATE`: moving data, flushing host writes (R93), holding a record for a full queue (R365), flushing
the record (R366), or about to notify. -/
inductive DmaPhase where
  | idle | move | flushData | pending | flushRec | written
  deriving DecidableEq, Repr

/-- The active set of a DMA channel and its progress (R353-R361). -/
structure DmaCh where
  phase : DmaPhase := .idle
  src : Nat := 0
  dst : Nat := 0
  len : Nat := 0
  sspace : Nat := 0
  dspace : Nat := 0
  cq : Nat := 0
  notify : Bool := false
  utag : Nat := 0
  /-- secure state of the transfer, and of the queued start (R354) -/
  sec : Bool := false
  nextSec : Bool := false
  /-- next source offset to request, outstanding requests, offsets of 64-byte blocks done out of order -/
  next : Nat := 0
  rds : List MemRd := []
  /-- a flush read that waits for a free tag: its port and address (R93, R95) -/
  flushTo : Option (Nat × Nat) := none
  rec_ : Option CqRec := none
  /-- order in which channels entered DONE_PENDING (R365) -/
  pendAt : Nat := 0
  /-- the tick in which the transfer began (R358) -/
  began : Nat := 0
  deriving DecidableEq, Repr

/-- Completion queues: resolved port per queue (R367), `MEM_RD` tags not yet reusable per port (R95), the DONE_PENDING order counter. -/
structure DmaSt where
  cqPort : List (Nat × Nat) := []
  quarantine : List (Nat × Nat × Nat) := []
  pendCount : Nat := 0
  deriving DecidableEq, Repr

/-- A mailbox claim's time of last write (R370) and a lock's acquisition time and limit (R378), in ticks. -/
structure LockSt where
  at_ : Nat := 0
  limit : Nat := 0
  deriving DecidableEq, Repr

/-! ## Lode (12_lode_cluster) -/

/-- A work item (R308): descriptor address, argument, whether it has been run before (R324), the requester and the tick of its push. -/
structure WorkItem where
  desc : Nat
  arg : Nat
  rerun : Bool
  by_ : Nat
  at_ : Nat
  deriving DecidableEq, Repr

/-- One level of a hardware loop (R349): address of its first bundle and of its last instruction. -/
structure LoopLvl where
  start : Nat
  end_ : Nat
  deriving DecidableEq, Repr

/-- A Lode core beside its registers: the register files of R298 (lists indexed by register number; vector and accumulator registers as 32 parts
I0, Q0, I1, Q1, …; M registers as 24-bit words), active loop levels outermost first, and the item it runs (`startCyc`: the cluster cycle of its start). -/
structure LodeCore where
  running : Bool := false
  queue : Nat := 0
  item : Option WorkItem := none
  desc : Nat := 0
  sup : Bool := false
  local_ : Bool := false
  rerun : Bool := false
  wdog : Nat := 0
  startCyc : Nat := 0
  pc : Nat := 0
  v : List (Nat × List Int) := []
  a : List (Nat × List Int) := []
  s : List (Nat × Nat) := []
  p : List (Nat × Nat) := []
  b : List (Nat × Nat) := []
  l : List (Nat × Nat) := []
  m : List (Nat × Nat) := []
  x : List (Nat × Nat) := [(0, 15), (1, 15), (2, 15), (3, 15)]
  lc : List (Nat × Nat) := []
  loops : List LoopLvl := []
  trapAov : Bool := false
  trapSat : Bool := false
  /-- an item end that waits for `ITEM_COMPLETE`: status, trap code -/
  ended : Option (Nat × Nat) := none
  /-- address of the last bundle; of the first instruction to run when there is none yet -/
  lastPc : Nat := 0
  /-- a posted `FST` was refused (R338) -/
  busErr : Bool := false
  /-- issue slots classed since the last tick (R487) -/
  slots : Nat := 0
  deriving DecidableEq, Repr

/-- The Cage arbiter of a shared-memory bank (R303-R307): the last owner (a capture writer 0-7, or 256 + a requester ID), the requests waiting
in order with their tickets, the latest promised cycle and the last cycle run. -/
structure BankArb where
  parked : Option Nat := none
  waiting : List (Nat × Nat) := []
  tLast : Nat := 0
  cyc : Nat := 0
  deriving DecidableEq, Repr

/-- The Lode cluster beside its registers: queues, the core being retired gracefully with its relief core and the cycle at which the copy of IMEM began
(R323, R325), sixteenths of a cluster cycle, shared-memory bank arbiters. -/
structure LodeSt where
  queues : List (Nat × List WorkItem) := []
  retiring : Option Nat := none
  copy : Option (Nat × Nat) := none
  cycFrac : Nat := 0
  banks : List (Nat × BankArb) := []
  deriving DecidableEq, Repr

/-! ## Layer traffic (04_layer_traffic) -/

/-- An uplink packet that waits in the UL buffer (R127): the ports that have still to send it, its packet and the buffer bytes it holds. -/
structure UlPkt where
  ports : Nat
  car : Nat
  type : Nat
  len : Nat
  tspec : Nat
  body : List Nat
  deriving DecidableEq, Repr

/-- A section symbol (or PRACH repetition) whose units U7 delivers from `due` on (R130): the packets' common fields, the units left with the offset of
the next one, at most `per` units a packet; the packet being formed with its offset, and whether a gap lies before it. -/
structure UlJob where
  due : Th
  ports : Nat
  car : Nat
  type : Nat
  tspec : Nat
  cw : Nat
  qual : Nat
  stream : Nat
  rep : Nat
  per : Nat
  units : List (List Nat)
  next : Nat := 0
  cur : List (List Nat) := []
  poff : Nat := 0
  gap : Bool := false
  deriving DecidableEq, Repr

/-- An accepted SECTION descriptor (R107-R112), resolved to one occurrence: `frame` is the carrier's frame number of R147 (not reduced modulo
1 024). `raw` is the 128-bit descriptor. `port` is the port it came from, `standby` whether it is a standby copy (R100), `locked` whether it has locked (R124), `lockT` the output time at which it locks, by the window in force
when it arrived (R122). -/
structure Section where
  raw : Nat
  car : Nat
  frame : Int
  port : Nat
  standby : Bool
  locked : Bool
  lockT : Th
  deriving DecidableEq, Repr

/-- Buffered `LAYER_DL` data of one packet (R113, R127): occurrence, section, units and bytes; `held` while no section covers it (R126). -/
structure DlData where
  car : Nat
  frame : Int
  slot : Nat
  sym : Nat
  secid : Nat
  poff : Nat
  pcnt : Nat
  cw : Nat
  ant : Bool
  stream : Nat
  port : Nat
  standby : Bool
  held : Bool
  data : List Nat
  /-- the output time at which its own window closes, by the limit in force when it arrived (R122, R126) -/
  lateT : Th
  deriving DecidableEq, Repr


/-! ## Datapaths (04, 07, 08) -/

/-- A change of a symbol field (R180, R207): the register, the air time from which the new value applies, and the value before. -/
structure SymChange where
  addr : Nat
  thr : Th
  old : Word
  deriving DecidableEq, Repr

/-- A carrier beside its registers: the end of the last downlink symbol that was enabled, tail included, and of the last uplink one (R183), and the
last symbol of each direction that has been processed (frame × 4 480 + symbol of the frame), and the last frame with its first 1 474.56 MS/s sample (R190). -/
structure CarSt where
  dlEnd : Th := 0
  ulEnd : Th := 0
  dlDone : Option Int := none
  ulDone : Option Int := none
  frame0 : Option (Int × Int) := none
  deriving DecidableEq, Repr

/-- A host mute ramp of a path (R197): falling or rising, when it started (model ticks), and the level it started from, in ramp samples out of `len`. -/
structure Ramp where
  falling : Bool
  at_ : Th
  from_ : Nat
  len : Nat
  deriving DecidableEq, Repr

/-- How a path's stage 8 input was treated before an instant of stage 8 entry time: forced to zero, or under a host ramp (R197). -/
structure MutePast where
  path : Nat
  until_ : Th
  muted : Bool
  ramp : Option Ramp
  deriving DecidableEq, Repr

/-- Samples of one path by index, those that are zero left out: index, I, Q. -/
abbrev Sig := List (Int × Int × Int)

/-- A downlink symbol of a carrier after stage 2 (R187, R188), as stages 3 on need it: its air time, the grid time of its first CP sample (200 000 units per
TCLK period since the last converter alignment), N = 2^`log`, `MU`, the CP in samples, `CAR_TXWIN.LEN`, `CAR_TXGAIN.GAIN`, `F5K`; for the carrier NCO (R190) whether
`PHCOMP` is 1, the symbol's start in its 1 ms subframe and its CP in Tc, the first 1 474.56 MS/s sample of the frame; and by path its N
samples after stage 2, or the CP + N samples of a time-IQ carrier (R119). -/
structure TxSym where
  car : Nat
  air : Th
  start : Int
  log : Nat
  mu : Nat
  cp : Nat
  win : Nat
  gain : Nat
  f5k : Int
  phcomp : Bool
  tc : Nat
  ncp : Nat
  frame0 : Int
  tiq : Bool
  x : List (Nat × List (Int × Int))
  deriving DecidableEq, Repr

/-- One pass of peak cancellation (R193): the samples it works on, and the peaks cancelled in the last block of 64 it met. -/
structure CfrPass where
  buf : Sig := []
  blk : Int := 0
  peaks : Nat := 0
  deriving DecidableEq, Repr

/-- A stage 7 sample of a capture in progress (R271): its index, u, x and the partners' v. -/
structure DpdRec where
  n : Int
  u : Int × Int
  x : Int × Int
  v : List (Int × Int)
  deriving DecidableEq, Repr

/-- What a DAC drives (R281): the code d, offset binary o, unary positions on u, binary segment b. -/
structure DacCode where
  d : Int := 0
  o : Nat := 8192
  u : Nat := 32
  b : Nat := 0
  deriving DecidableEq, Repr

/-- The samples of a transmit path in its pipeline (R176): after stages 3, 4, 5 and 6 (the input u of stage 7), the four passes of stage 5, the stage 8 input, what captures
of the path need, the power of the stage 8 input in the VSWR window in progress (sum of I² + Q²) and of the last one (R273), the power and number of samples after stage 7 since the
last Assay result of the path (R384), and the DAC code. -/
structure TxLane where
  comb : Sig := []
  align : Sig := []
  passes : List CfrPass := []
  cfr : Sig := []
  u : Sig := []
  e8 : Sig := []
  recs : List DpdRec := []
  winSum : Nat := 0
  winPow : Nat := 0
  avgSum : Nat := 0
  code : DacCode := {}
  deriving DecidableEq, Repr

/-- A slice relief unit that synchronizes or takes over (R199-R202): when its run of matching samples started, when its count of symbol boundaries started,
and whether it is the connection of a faulted path. -/
structure SliceSync where
  at_ : Th := 0
  bounds : Th := 0
  faulted : Bool := false
  deriving DecidableEq, Repr

/-- A PRACH occasion whose packets have been formed (R222, R225): configuration and the `TSPEC` of its packets. -/
structure Occasion where
  cfg : Nat
  tspec : Nat
  deriving DecidableEq, Repr

/-! ## Observation (10_linearization) -/

/-- A capture request (R266): `assay` marks a request of Assay, `at_` is the model tick in which it arrived (R268). -/
structure CapReq where
  path : Nat
  mirror : Bool
  nblk : Nat
  dest : Nat
  assay : Bool
  at_ : Nat := 0
  deriving DecidableEq, Repr

/-- A Cage arbiter (R266-R270): receiver 0-7, or 8 + path for the mirror captures of a path. Times are `TB_CNT` values. `owner` is the parked or current
owner (path of the group, 8 Assay, 15 none). A withdrawn or aborted capture keeps its grant until `end_`. -/
structure CageArb where
  queue : List CapReq := []
  cur : Option CapReq := none
  at_ : Nat := 0
  sampleAt : Nat := 0
  end_ : Nat := 0
  owner : Nat := 15
  /-- the parked owner before the current grant -/
  prev : Nat := 15
  /-- the capture of the current grant has completed -/
  done : Bool := false
  /-- a mute source was active inside the capture (R271) -/
  muted : Bool := false
  /-- output time of sample 0, once it has been reached (R155, R271) -/
  air0 : Option Th := none
  /-- planes recorded (`OBS_CAP_CFG.STREAMS` at the grant) -/
  streams : Nat := 0
  deriving DecidableEq, Repr

/-! ## Performance counters (20_performance_counters) -/

/-- What the PMU keeps beside its registers: freezes (true) and resumptions that wait for their instant (R492), the snapshot instant (R493), overflows
that ask for a freeze and have not been acted on, by bank and cycle, and whether such a freeze is on its way (R494). -/
structure PmuSt where
  freeze : List (Bool × Nat) := []
  snapAt : Option Nat := none
  ovfs : List (Nat × Nat) := []
  ovfDue : Bool := false
  deriving DecidableEq, Repr

/-! ## Converters (11_converters) -/

/-- An interleaved ADC beside its registers (R276, R277): serving sub-ADCs, longest in service first (empty: as at power-up), when the dwell started,
when the comparison in progress started, comparisons failed in a row. -/
structure ConvAdc where
  order : List Nat := []
  since : Nat := 0
  rotAt : Option Nat := none
  strikes : Nat := 0
  deriving DecidableEq, Repr

/-- A DAC beside its registers (R282): the cell of each unary position and the positions, longest served by their cell first (empty: as at power-up);
idle spares (none: as at power-up); when the dwell started. -/
structure ConvDac where
  map : List Nat := []
  order : List Nat := []
  idle : Option (List Nat) := none
  since : Nat := 0
  deriving DecidableEq, Repr

/-- Converter alignment (R292): start of the one in progress, and the reset edge of the last. -/
structure AlignSt where
  at_ : Option Nat := none
  resetAt : Nat := 0
  deriving DecidableEq, Repr

/-- How long something has held (R165, R197): the ticks of the spells that ended, the start of the one that goes on. -/
structure Spell where
  sum : Nat := 0
  from_ : Option Nat := none
  deriving DecidableEq, Repr

/-! ## Assay (15_assay) -/

/-- Assay beside its registers (R385-R396): by instance (item × 2^14 + unit × 2^7 + element) the failures in a row (2^32 once FAIL has been set), the results passed
since CONV's count began, the correction value in use and the time of the last result; the path corrections of the last 20 ms that were replaced: instance, when, old
value (R386); since when each item runs, as the tick after it last did not (R383); for each instance the ticks its path had slept and been muted by its last result
(R384); the tick after the last usable monitor result of channels 40-43 (R407); the status + 1 of a completed Assay capture by receiver; the save or restore in progress: restore, address, snapshot values and `TB_CNT`. -/
structure AssaySt where
  counts : List (Nat × Nat) := []
  passed : List (Nat × Nat) := []
  values : List (Nat × Nat) := []
  lastAt : List (Nat × Nat) := []
  past : List (Nat × Th × Nat) := []
  begun : List (Nat × Nat) := []
  idle : List (Nat × Nat × Nat) := []
  monAt : List (Nat × Nat) := []
  caps : List (Nat × Nat) := []
  op : Option (Bool × Nat) := none
  snap : List (Nat × Nat) := []
  snapTb : Nat := 0
  deriving DecidableEq, Repr

/-! ## Monitor ADC and aux DACs (16_monitor_aux) -/

/-- A request of the urgent queue (R404): requester (none: Canary), setting (as `MON_URG`), slot and tick in which it was accepted. -/
structure MonReq where
  req : Option Nat
  cfg : Nat
  at_ : Nat
  tick : Nat
  deriving DecidableEq, Repr

/-- A phase pair in progress (R400, R405): the entry (none: the urgent request `urg`), its setting, its first slot (after an inserted settle slot), the tick in which the request was accepted. -/
structure MonRun where
  entry : Option Nat
  urg : Option Nat
  cfg : Nat
  start : Nat
  tick : Nat
  deriving DecidableEq, Repr

/-- A result in the pipeline (R400, R406): the slot in which it is written, the entry or requester, channel, code and over range. -/
structure MonPipe where
  slot : Nat
  entry : Option Nat
  urg : Option Nat
  ch : Nat
  code : Nat
  or_ : Bool
  deriving DecidableEq, Repr

/-- The monitor sequencer beside its registers: what runs, the entry to go on with after urgent requests, the `LAST` in force, waiting requests, results in the
pipeline and whether a settle slot is to be inserted (R402). -/
structure MonSt where
  run : Option MonRun := none
  resume : Option Nat := none
  last : Nat := 0
  queue : List MonReq := []
  pipe : List MonPipe := []
  insert : Bool := false
  deriving DecidableEq, Repr

/-- An aux DAC channel beside its registers (R410): the code it outputs or moves to, the range of its output, the code that a hold or range change waits
to output, the start of the deglitch hold or range change, and of the detection intervals of a short and of an open output (ticks, R414). -/
structure AuxCh where
  out : Nat := 0
  rng : Nat := 0
  next : Nat := 0
  holdAt : Option Nat := none
  rangeAt : Option Nat := none
  shortAt : Nat := 0
  openAt : Nat := 0
  deriving DecidableEq, Repr

/-! ## The machine -/

/-- The whole state of the device. -/
structure State where
  /-- the commands waiting, first in first out -/
  pending : List Instr := []
  /-- model time in TCLK periods since the model started (log entry 1) -/
  tick : Nat := 0
  /-- free values taken so far (log entry 2) -/
  free : Nat := 0
  /-- register words that differ from their reset value, by address (R6, R8, R20) -/
  regs : List (Nat × Word) := []
  /-- bytes of the on-die memories that are not zero (R426): the windows at their device addresses, the rest at keys of 2^32 and above -/
  mem : List Host.Cell := []
  /-- `TB_CNT` (R132) -/
  tb : Nat := 0
  /-- bus record per requester (R24, R30, R31) -/
  bus : List (Nat × BusUnit) := []
  /-- the event ring, newest first (R481), rate-limit windows (R523), and the per-frame limits of Layer Traffic -/
  evs : List EvRec := []
  evWin : List (Nat × Nat) := []
  evFrame : List (Nat × Nat) := []
  /-- within a cycle: the events raised in it, newest first (R38), and the W1C bits that hardware set in it, by register word (R7); both empty between
  commands -/
  raised : List EvReq := []
  sets : List (Nat × Word) := []
  /-- gating units whose first refused access has raised event 0x1010 (R35) -/
  episodes : List Nat := []
  /-- what the device has put out, newest first -/
  out : List Out := []
  power : PowerSt := {}
  time : TimeSt := {}
  lanes : List (Nat × LaneSt) := []
  ports : List (Nat × PortLanes) := []
  links : List (Nat × PortLink) := []
  dh : DualHome := {}
  swaps : List SwapPend := []
  olds : List OldBank := []
  sb : SbSt := {}
  engines : List (Nat × Engine) := []
  cws : List (Nat × CwSt) := []
  srs : List SrsPend := []
  dma : DmaSt := {}
  chans : List (Nat × DmaCh) := []
  claims : List (Nat × LockSt) := []
  locks : List (Nat × LockSt) := []
  lode : LodeSt := {}
  cores : List (Nat × LodeCore) := []
  ulq : List UlPkt := []
  ulJobs : List UlJob := []
  sections : List Section := []
  dl : List DlData := []
  symHist : List SymChange := []
  cars : List (Nat × CarSt) := []
  /-- over-range blocks by path and start of their span (R217) -/
  ovrs : List (Nat × Th) := []
  /-- since when a path delivers zero samples, by 8 × path + cause (0 blanked, 1 asleep, 2 die off, 3 slice fault; R212), as pin times -/
  rxZero : List (Nat × Th) := []
  /-- ended spells of zero samples of the last 20 ms: 8 × path + cause, from, to (R212) -/
  rxZeroPast : List (Nat × Th × Th) := []
  ramps : List (Nat × Ramp) := []
  /-- mutes and ramps that have ended within the last 20 µs (R197) -/
  mutePast : List MutePast := []
  /-- how long paths have slept and been muted: by path, + 64 × (0 TX asleep, 1 RX asleep, 2 TX muted) (R384) -/
  spells : List (Nat × Spell) := []
  /-- the transmit pipeline: symbols that stages 3 on still need, and the paths with samples in it (R176) -/
  txSyms : List TxSym := []
  tx : List (Nat × TxLane) := []
  /-- LUT bank swaps of the last 1 ms: path, boundary, bank and generation before it (R259, R260) -/
  dpdPast : List (Nat × Th × Nat × Nat) := []
  /-- the ADC samples up to which the saturations of U3 have been counted, by path (R196, R209) -/
  u3Upto : List (Nat × Int) := []
  /-- the last VSWR window that has been evaluated, by path, as the tick of its end (R273) -/
  vswrAt : List (Nat × Nat) := []
  slices : List (Nat × SliceSync) := []
  occasions : List Occasion := []
  /-- repetitions processed of the oldest occasion of each PRACH configuration (R225) -/
  prachReps : List (Nat × Nat) := []
  cages : List (Nat × CageArb) := []
  /-- consecutive out-of-band VSWR windows per path (R273) -/
  vswrRun : List (Nat × Nat) := []
  pmu : PmuSt := {}
  adcs : List (Nat × ConvAdc) := []
  dacs : List (Nat × ConvDac) := []
  align : AlignSt := {}
  assay : AssaySt := {}
  mon : MonSt := {}
  aux : List (Nat × AuxCh) := []
  /-- residue errors whose RE has not been processed yet: direction, antenna, carrier, RE (R466) -/
  bfErr : List (Nat × Nat × Nat × Nat) := []
  /-- OTP content, which nothing erases, and what Foreman and the enclave hold (18_boot_security) -/
  otp : OtpSt := {}
  sec : SecSt := {}
  /-- SRAM rows (R470, R471) -/
  sram : SramSt := {}
  /-- response code of the first failed management-port write since the last STATUS (R443: `WERR`) -/
  mspiErr : Option Nat := none
  deriving DecidableEq, Repr

/-- The machine right after reset: every register at its reset value, memory zero, DORMANT (R8, R415, R426, R439). -/
def State.reset : State := {}

end Sys2Proof.Machine
end

