-- ==== Sys2Proof/Machine/Ops.lean ====
section
/-! DEFINITION. The shared operations: registers and fields, time, the event log, the BK transmitter, and the answer of the register bus
to an access (causes R26, offline blocks R33-R35). Marks and risks: log entries 46, 30. -/
namespace Sys2Proof.Machine

/-- What every meaning answers. -/
abbrev Res := Host.Outcome State Fault Refusal

/-! ## Registers -/

/-- The reset value of a register word whose value depends on which copy it is, where the description gives it (R8). -/
def indexedReset (addr : Nat) : Option Nat :=
  if Reg.TXDP_SLICE_MAP 0 ≤ addr ∧ addr < Reg.TXDP_SLICE_MAP 16 then
    let n := (addr - Reg.TXDP_SLICE_MAP 0) / 4
    some ((4 * n) + (4 * n + 1) * 256 + (4 * n + 2) * 65536 + (4 * n + 3) * 16777216)
  else if addr = Reg.TXDP_SLICE_RELIEF 0 then some (64 * 65536 + 0x7F)
  else if addr = Reg.TXDP_SLICE_RELIEF 1 then some (65 * 65536 + 0x7F)
  else if Reg.LODE_MAP 0 ≤ addr ∧ addr < Reg.LODE_MAP 8 then
    let n := (addr - Reg.LODE_MAP 0) / 4
    some ((4 * n) + (4 * n + 1) * 256 + (4 * n + 2) * 65536 + (4 * n + 3) * 16777216)
  else if Reg.LODE_CORE_STAT 0 ≤ addr ∧ addr < Reg.LODE_CORE_STAT 34 ∧ (addr - Reg.LODE_CORE_STAT 0) % 0x100 = 0 then
    let c := (addr - Reg.LODE_CORE_STAT 0) / 0x100
    some (if c < 32 then c * 65536 else 5 * 536870912 + 0x3F * 65536)
  else if Reg.MBX_CFG 0 ≤ addr ∧ addr < Reg.MBX_CFG 32 ∧ (addr - Reg.MBX_CFG 0) % 0x100 = 0 then
    let m := (addr - Reg.MBX_CFG 0) / 0x100
    some (if m < 8 then 4 else if m < 16 then 1 else if m < 24 then 2 else if m < 28 then 4 else 5)
  else if Reg.ASSAY_PERIOD 0 ≤ addr ∧ addr < Reg.ASSAY_PERIOD 6 then
    let i := (addr - Reg.ASSAY_PERIOD 0) / 4 + 3
    some (if i = 3 ∨ i = 4 ∨ i = 7 then 100 else 1000)
  else none

/-- The reset value of the word at an address, from its register table (R8). -/
def resetWord (addr : Nat) : Word :=
  match indexedReset addr with
  | some v => BitVec.ofNat 32 v
  | none =>
    match findReg addr with
    | none => 0
    | some (r, w) => (r.fieldsAt w).foldl (fun acc f => setF acc f.fld f.reset) 0

/-- The stored value of a register word. -/
def State.rd (s : State) (a : Nat) : Word := kvGet resetWord s.regs a

/-- Store a register word. -/
def State.wr (s : State) (a : Nat) (v : Word) : State := { s with regs := kvSet resetWord s.regs a v }

/-- A field of a register. -/
def State.fld (s : State) (a : Nat) (f : Field) : Nat := getF (s.rd a) f

/-- A one-bit field of a register. -/
def State.bit (s : State) (a : Nat) (f : Field) : Bool := s.fld a f != 0

/-- Replace one field of a register. -/
def State.setFld (s : State) (a : Nat) (f : Field) (v : Nat) : State := s.wr a (setF (s.rd a) f v)

/-- A 64-bit register (R29). -/
def State.rd64 (s : State) (a : Nat) : Nat := (s.rd a).toNat + 2 ^ 32 * (s.rd (a + 4)).toNat

/-- Store a 64-bit register (R29). -/
def State.wr64 (s : State) (a : Nat) (v : Nat) : State :=
  (s.wr a (BitVec.ofNat 32 v)).wr (a + 4) (BitVec.ofNat 32 (v / 2 ^ 32))

/-- Count in a 32-bit counter that saturates at 0xFFFF_FFFF. -/
def State.count (s : State) (a : Nat) (d : Nat := 1) : State := s.wr a (BitVec.ofNat 32 (satInc 32 (s.rd a).toNat d))

/-- Count in a 64-bit counter. -/
def State.count64 (s : State) (a : Nat) (d : Nat := 1) : State := s.wr64 a (s.rd64 a + d)

/-- An amount of event `ev` of bank `b` reaches the counters of the bank from number `k` on (R484, R488): wrap, `OVF`, a carry into a chained
counter, and an overflow that may freeze the PMU (R494). `n` counters are left. -/
def State.pmuFrom (s : State) (b ev amt k : Nat) : Nat → State
  | 0 => s
  | n + 1 =>
    let sel := s.rd (Reg.PMU_SEL b k)
    if getF sel Fld.PMU_SEL_EN = 1 ∧ getF sel Fld.PMU_SEL_EVENT = ev ∧ ¬(k % 2 = 1 ∧ getF sel Fld.PMU_SEL_CHAIN = 1) then
      let v := (s.rd (Reg.PMU_CNT b k)).toNat + amt
      let s1 := s.wr (Reg.PMU_CNT b k) (BitVec.ofNat 32 v)
      let ovf := fun (t : State) (j : Nat) =>
        let t1 := t.setFld (Reg.PMU_BANK_OVF b) Fld.PMU_BANK_OVF_OVF (setBitN (t.fld (Reg.PMU_BANK_OVF b) Fld.PMU_BANK_OVF_OVF) j true)
        if t.bit (Reg.PMU_SEL b j) Fld.PMU_SEL_FOVF && t.bit Reg.PMU_CTL Fld.PMU_CTL_FRZ_OVF then
          { t1 with pmu := { t1.pmu with ovfs := t1.pmu.ovfs ++ [(b, s.tick)] } } else t1
      if v < 2 ^ 32 then s1.pmuFrom b ev amt (k + 1) n
      else
        let s2 := ovf s1 k
        let nx := s2.rd (Reg.PMU_SEL b (k + 1))
        let s3 := if k % 2 = 0 ∧ getF nx Fld.PMU_SEL_EN = 1 ∧ getF nx Fld.PMU_SEL_CHAIN = 1 then
            let c := (s2.rd (Reg.PMU_CNT b (k + 1))).toNat + v / 2 ^ 32
            let t := s2.wr (Reg.PMU_CNT b (k + 1)) (BitVec.ofNat 32 c)
            if c < 2 ^ 32 then t else ovf t (k + 1)
          else s2
        s3.pmuFrom b ev amt (k + 1) n
    else s.pmuFrom b ev amt (k + 1) n

/-- Count an event in a bank of the PMU (R484-R486); nothing while frozen (R492). -/
def State.pmuCount (s : State) (b ev : Nat) (amt : Nat := 1) : State :=
  if amt = 0 ∨ s.bit Reg.PMU_STAT Fld.PMU_STAT_FROZEN then s else s.pmuFrom b ev amt 0 8

/-- Take the next free value (log entry 2). -/
def State.takeFree (s : State) : Nat × State := (Config.freeValue s.free, { s with free := s.free + 1 })

/-! ## Device memory -/

/-- What a byte of device memory that nothing has written reads as: every clear writes zeros (R426). -/
def memDefault (_ : Nat) : Byte := 0

/-- The canonical form of memory: addresses strictly rising, no entry of zero. -/
def Memory.wf (m : List Host.Cell) : Bool := kvWf memDefault m

/-- One byte of device memory. -/
def State.ldb (s : State) (a : Nat) : Byte := kvGet memDefault s.mem a

/-- Store one byte of device memory. -/
def State.stb (s : State) (a : Nat) (b : Byte) : State := { s with mem := kvSet memDefault s.mem a b }

/-- `n` bytes of device memory from an address, in address order. -/
def State.ldBytes (s : State) (a : Nat) : Nat → List Byte
  | 0 => []
  | n + 1 => s.ldb a :: State.ldBytes s (a + 1) n

/-- Store bytes in address order. -/
def State.stBytes (s : State) (a : Nat) : List Byte → State
  | [] => s
  | b :: bs => (s.stb a b).stBytes (a + 1) bs

/-- A little-endian number of `n` bytes (R4). -/
def State.ldN (s : State) (a n : Nat) : Nat := leNat (s.ldBytes a n)

/-- Store a little-endian number of `n` bytes (R4). -/
def State.stN (s : State) (a n v : Nat) : State := s.stBytes a (natLE n v)

/-- Device memory without the bytes of `[lo, hi)`: what a clear to zero leaves (R426). -/
def State.clearMem (s : State) (lo hi : Nat) : State :=
  { s with mem := s.mem.filter (fun c => decide (c.1 < lo ∨ hi ≤ c.1)) }

/-! ## Per-unit records -/

/-- The record of a physical lane of a port. -/
def State.lane (s : State) (p k : Nat) : LaneSt := kvGet (fun _ => {}) s.lanes (16 * p + k)
def State.setLane (s : State) (p k : Nat) (l : LaneSt) : State :=
  { s with lanes := kvSet (fun _ => {}) s.lanes (16 * p + k) l }

/-- The lane record of a port. -/
def State.port (s : State) (p : Nat) : PortLanes := kvGet (fun _ => {}) s.ports p
def State.setPort (s : State) (p : Nat) (l : PortLanes) : State := { s with ports := kvSet (fun _ => {}) s.ports p l }

/-- The link record of a port. -/
def State.link (s : State) (p : Nat) : PortLink := kvGet (fun _ => {}) s.links p
def State.setLink (s : State) (p : Nat) (l : PortLink) : State := { s with links := kvSet (fun _ => {}) s.links p l }

/-- The bus record of a requester. -/
def State.busOf (s : State) (r : Nat) : BusUnit := kvGet (fun _ => {}) s.bus r
def State.setBus (s : State) (r : Nat) (b : BusUnit) : State := { s with bus := kvSet (fun _ => {}) s.bus r b }

/-- Add one output. -/
def State.emit (s : State) (o : Out) : State := { s with out := o :: s.out }

/-! ## Time -/

/-- Model ticks (TCLK periods) in a number of microseconds, rounded up: 983.04 per µs. -/
def usTicks (us : Nat) : Nat := (us * 98304 + 99) / 100

/-- Model ticks in a number of milliseconds. -/
def msTicks (ms : Nat) : Nat := ms * 983040

/-- Sub-nanosecond units u = 2^-16 ns in one second (R135). -/
def uPerSec : Nat := 1000000000 * 65536

/-- The value of a time-form register in units u (R134, R135). -/
def State.rdTime (s : State) (a : Nat) : Nat :=
  let sub := (s.rd a).toNat % 65536
  let ns := (s.rd (a + 4)).toNat
  let sec := (s.rd (a + 8)).toNat + 2 ^ 32 * ((s.rd (a + 12)).toNat % 65536)
  (sec * 1000000000 + ns) * 65536 + sub

/-- The four words of a time value in units u (R134, R135); the seconds count modulo 2^48. -/
def timeWords (t : Nat) : List Nat :=
  let sec := t / uPerSec
  [t % 65536, (t / 65536) % 1000000000, sec % 2 ^ 32, (sec / 2 ^ 32) % 65536]

/-- Store a time value in a time-form register. -/
def State.wrTime (s : State) (a : Nat) (t : Nat) : State :=
  match timeWords t with
  | [w0, w1, w2, w3] =>
    (((s.wr a (BitVec.ofNat 32 w0)).wr (a + 4) (BitVec.ofNat 32 w1)).wr (a + 8) (BitVec.ofNat 32 w2)).wr (a + 12)
      (BitVec.ofNat 32 w3)
  | _ => s

/-- The increment of domain `x` in force: the register held to nominal ± 0.1 % (R137). -/
def State.incInForce (s : State) (x : Nat) : Nat :=
  let inc := s.rd64 (Reg.TD_INC x) % 2 ^ 48
  if inc < 0x010428000000 then 0x010428000000 else if 0x0104AD555556 < inc then 0x0104AD555556 else inc

/-- The time of domain `x` (0 A, 1 B) at the count `tb`, in units u: the read equation of R135. -/
def State.domAt (s : State) (x tb : Nat) : Nat :=
  let d := (tb + 2 ^ 64 - s.rd64 (Reg.TD_ANCHOR x)) % 2 ^ 64
  s.rdTime (Reg.TD_OFFSET x) + (d * s.incInForce x) / 2 ^ 24

/-- The time of domain `x` now (R135). -/
def State.dom (s : State) (x : Nat) : Nat := s.domAt x s.tb

/-- The selected domain (R138). -/
def State.tsel (s : State) : Nat := s.fld Reg.TIME_CTL Fld.TIME_CTL_TSEL

/-- `TIME_TRANS` as it reads: truncated toward zero to units u (R138, R140). -/
def State.transU (s : State) : Int := divz s.time.trans 65536

/-- The output time in units u (R138). -/
def State.outU (s : State) : Nat := ((s.dom s.tsel : Int) + s.transU).toNat

/-- Whether the selected domain is valid (R133), which none is while TCLK is stopped. -/
def State.selValid (s : State) : Bool :=
  s.bit Reg.SYS_CLK_STATUS Fld.SYS_CLK_STATUS_TCLK &&
    s.bit Reg.TIME_STATUS (if s.tsel = 0 then Fld.TIME_STATUS_A_VALID else Fld.TIME_STATUS_B_VALID)

/-- The output time in Shiftboss ST units: 2^-10 ns below the 64-bit wrap is defined where it is used; here whole nanoseconds. -/
def State.outNs (s : State) : Nat := s.outU / 65536

/-- Raise an event: it waits for the end of the cycle, where the log numbers the events of the cycle in the order of R38. -/
def State.raise (s : State) (code unit : Nat) (arg6 : Nat := 0) (arg7 : Nat := 0) : State :=
  { s with raised := ⟨code, unit, arg6, arg7⟩ :: s.raised }

/-! ## The BK transmitter (R81, R82) -/

/-- Whether a BK packet spends credits: every request of the device (R82); `RD_CPL`, `EVENT` and `NEG` do not. -/
def Pkt.spends (p : Pkt) : Bool := let t := p.type % 0x80; t == 0x10 || t == 0x11 || t == 0x15

/-- Bytes held in the replay buffer (R81). -/
def PortLink.held (l : PortLink) : Nat := l.unacked.foldl (fun n p => n + 16 * p.len) 0

/-- Whether the transmitter has room for a BK packet: at most 128 unacknowledged, 256 KiB of replay buffer (R81), a session counter below its end (R106). -/
def PortLink.fits (l : PortLink) (p : Pkt) : Bool :=
  decide (l.unacked.length < 128) && decide (l.held + 16 * p.len ≤ 262144) && !(decide (0x80 ≤ p.type) && decide (2 ^ 48 ≤ l.txCtr))

/-- The bytes of a number, most significant first (R76: the header). -/
def natBE : Nat → Nat → List Nat
  | 0, _ => []
  | n + 1, x => (x >>> (8 * n)) % 256 :: natBE n x

/-- The 64-bit header of a packet (R77). -/
def Pkt.header (p : Pkt) : Nat := p.cls * 2 ^ 60 + p.type * 2 ^ 52 + p.len * 2 ^ 40 + p.seq * 2 ^ 32 + p.tspec

/-- The bytes of a packet in sending order (R76). -/
def Pkt.bytes (p : Pkt) : List Nat := natBE 8 p.header ++ p.body.flatMap (fun w => (natLE 4 w).map (·.toNat))

/-- The blocks that a packet fills (R76). -/
def Pkt.blocks (p : Pkt) : List Nat := packetBlocks p.bytes p.len

/-- Ticks of a superframe and of a codeword at a port's rate (R42), rounded up. -/
def State.superframeTicks (s : State) (p : Nat) : Nat := if s.fld (Reg.LANE_PCTL p) Fld.LANE_PCTL_RATE = 1 then 12885 else 25770
def State.codewordTicks (s : State) (p : Nat) : Nat := if s.fld (Reg.LANE_PCTL p) Fld.LANE_PCTL_RATE = 1 then 51 else 101

/-- The block that a port's stream has come to at a tick: 40 blocks per lane and codeword time, 78 125 blocks of a lane in 98 304 ticks at rate 1 (R42, R74). -/
def State.streamIndexAt (s : State) (p t : Nat) : Nat :=
  let l := s.link p
  (t - l.streamAt) * 78125 * l.streamN / (if s.fld (Reg.LANE_PCTL p) Fld.LANE_PCTL_RATE = 1 then 98304 else 196608)

/-- Put packets on a port's stream in order, each at the first block where it fits (R74, R75). -/
def State.putPkts (s : State) (p : Nat) : List Pkt → State
  | [] => s
  | q :: qs =>
    let l := s.link p
    let at_ := placeAt l.streamN (Nat.max l.streamPos (s.streamIndexAt p s.tick)) q.len
    ((s.setLink p { l with streamPos := at_ + q.len }).emit (.pkt p at_ q)).putPkts p qs

/-- A new block stream of `n` lanes starts on a port at a tick (R74, R87). -/
def State.startStream (s : State) (p n at_ : Nat) : State :=
  (s.setLink p { s.link p with streamN := n, streamAt := at_, streamPos := 0 }).emit (.stream p n at_)

/-- Append the trailer of a secure packet: counter, eight reserved bytes, tag over everything before it (R104). -/
def PortLink.seal (l : PortLink) (p : Pkt) : PortLink × Pkt :=
  if p.cls = 2 ∧ 0x80 ≤ p.type then
    let c := l.txCtr + 1
    let q := { p with body := p.body ++ [c % 2 ^ 32, c / 2 ^ 32 % 2 ^ 32, 0, 0] }
    let t := (kmacTag l.keyD2H q.bytes).toNat
    ({ l with txCtr := c }, { q with body := q.body ++ [t % 2 ^ 32, t / 2 ^ 32 % 2 ^ 32, t / 2 ^ 64 % 2 ^ 32, t / 2 ^ 96] })
  else (l, p)

/-- Give a packet the next `SEQ`, seal it if it is secure, and keep it until it is acknowledged (R81, R104). -/
def PortLink.sendOne (l0 : PortLink) (p : Pkt) (tick : Nat) : PortLink × Pkt :=
  let (l, q) := l0.seal { p with seq := l0.txSeq }
  ({ l with
      txSeq := (l.txSeq + 1) % 256
      unacked := l.unacked ++ [q]
      credits := if p.spends then l.credits - p.len else l.credits
      progressAt := if l.unacked.isEmpty then tick else l.progressAt }, q)

/-- Send at most `n` of the waiting packets, in order: without room everything waits, so that completions leave in the order of their requests (R90); a
request that lacks credits holds back later requests, never completions or events (R82). The answer: the port, what still waits, what was sent. -/
def pumpList (tick : Nat) : List Pkt → PortLink → Bool → Nat → List Pkt → List Pkt → PortLink × List Pkt × List Pkt
  | [], l, _, _, left, sent => (l, left, sent.reverse)
  | p :: ps, l, blocked, n, left, sent =>
    if n = 0 ∨ !l.fits p then (l, left ++ p :: ps, sent.reverse)
    else if p.spends && (blocked || decide (l.credits < p.len)) then pumpList tick ps l true n (left ++ [p]) sent
    else
      let (l', q) := l.sendOne p tick
      pumpList tick ps l' blocked (n - 1) left (q :: sent)

/-- Send at most `n` waiting BK packets of a port. -/
def State.pumpSome (s : State) (p n : Nat) : State :=
  let l := s.link p
  let (l', left, sent) := pumpList s.tick l.waiting l false n [] []
  ((s.setLink p { l' with waiting := left, rtRun := if sent.isEmpty then l'.rtRun else 0 }).putPkts p sent).pmuCount (40 + p) 0x03
    (sent.foldl (fun (n : Nat) (q : Pkt) => n + q.len) 0)

/-- A secure packet that has not been sent when its session ends goes out non-secure ("When a secure request meets a session end"). -/
def Pkt.unseal (q : Pkt) : Pkt :=
  if q.cls = 2 ∧ 0x80 ≤ q.type then { q with type := q.type - 0x80, len := q.len - 2 } else q

/-- End the secure session of a port: both keys discarded, event 0x3017 (R106); nothing where none is open. -/
def State.sessionEnd (s : State) (p : Nat) : State :=
  if s.bit (Reg.LINK_SEC_STAT p) Fld.LINK_SEC_STAT_OPEN then
    let l := s.link p
    let s1 := s.setLink p { l with waiting := l.waiting.map Pkt.unseal, keyH2D := 0, keyD2H := 0, rxCtr := 0, txCtr := 0 }
    let s2 := (s1.setFld (Reg.LINK_SEC_STAT p) Fld.LINK_SEC_STAT_OPEN 0).setFld (Reg.LINK_STATUS p) Fld.LINK_STATUS_SECURE 0
    s2.raise 0x3017 p
  else s

/-- The link state of a port (R98). -/
def State.lstate (s : State) (p : Nat) : Nat := s.fld (Reg.LINK_STATUS p) Fld.LINK_STATUS_LSTATE

/-- OPERATIONAL or STALLED: the states in which a port carries the BK class (R97, R98, R99). -/
def State.linkUp (s : State) (p : Nat) : Bool := s.lstate p == 2 || s.lstate p == 3

/-- Whether an RT packet is ready on a port (R83): an uplink packet that it has still to send (R127). -/
def State.rtReady (s : State) (p : Nat) : Bool := s.linkUp p && s.ulq.any (fun u => u.ports.testBit p)

/-- Send the BK packets of a port that may be sent now (R83): none while RT packets are ready, but one once 31 packet starts in a row have gone to RT
while it waited. A counter that has reached 2^48 ends the session (R106), and what waited goes out non-secure. -/
def State.pump (s : State) (p : Nat) : State :=
  let n := if !s.rtReady p then (s.link p).waiting.length else if 31 ≤ (s.link p).rtRun then 1 else 0
  let t := s.pumpSome p n
  if 2 ^ 48 ≤ (t.link p).txCtr then (t.sessionEnd p).pumpSome p n else t

/-- Whether a port sends a BK type now: everything while OPERATIONAL or STALLED, only `NEG` while negotiating (R85, R98, R99). -/
def State.carriesType (s : State) (p type : Nat) : Bool := s.linkUp p || (type == 0x17 && (s.lstate p == 1 || s.lstate p == 4))

/-- Hand a BK packet to the transmitter of a port (R81); a port that does not carry it sends nothing. -/
def State.sendBk (s : State) (p type len tspec : Nat) (body : List Nat) : State :=
  if s.carriesType p type then
    let l := s.link p
    (s.setLink p { l with waiting := l.waiting ++ [⟨2, type, len, 0, tspec, body⟩] }).pump p
  else s

/-- Send an RT packet (no retry; R80, R81) with the next `SEQ` of its type; BK packets that wait have seen one more packet start go to RT (R83). -/
def State.sendRt (s : State) (p type len tspec : Nat) (body : List Nat) : State :=
  let l := s.link p
  let n := kvGet (fun _ => 0) l.rtTx type
  let l' := { l with rtTx := kvSet (fun _ => 0) l.rtTx type ((n + 1) % 256), rtRun := if l.waiting.isEmpty then 0 else l.rtRun + 1 }
  ((s.setLink p l').putPkts p [⟨1, type, len, n, tspec, body⟩]).pmuCount (40 + p) 0x01 len

/-- Send a LINK packet: it goes before anything that waits (R83). -/
def State.sendLink (s : State) (p type tspec : Nat) : State := s.putPkts p [⟨0, type, 1, 0, tspec, [0, 0]⟩]

/-! ## Events (R37-R39, R479-R481, R97) -/

/-- The words of an event record as the log and the `EVENT` packet hold them (R480). -/
def EvRec.words (e : EvRec) : List Nat :=
  [b2n e.tsValid * 2 ^ 31 + b2n e.lost * 2 ^ 30 + e.unit * 65536 + e.code, e.seq] ++ e.time ++ [e.arg6, e.arg7]

/-- Send an event on one port unless its mask or state excludes it (R97). -/
def State.sendEvent (s : State) (p : Nat) (e : EvRec) : State :=
  if s.linkUp p && !(s.rd (Reg.LINK_EVT_MASK p)).toNat.testBit (e.code / 4096) then
    s.sendBk p 0x16 3 e.seq ([0, 0] ++ e.words)
  else s

/-- Whether a new record overwrites one that has not been acknowledged (R481). -/
def State.overrun (s : State) : Bool :=
  let next := (s.rd Reg.EVT_NEXT).toNat
  let ack := (s.rd Reg.EVT_IRQ_ACK).toNat
  decide (1024 ≤ s.evs.length) && decide ((next + 2 ^ 32 - 1024 + 2 ^ 32 - ack) % 2 ^ 32 < (next + 2 ^ 32 - ack) % 2 ^ 32)

/-- Log an event: the next sequence number, the output time (or `TB_CNT` without a valid domain), the record in the ring of 1 024, and
the `EVENT` packets (R37, R38, R480, R481, R97). -/
def State.logEvent (s : State) (r : EvReq) : State :=
  let seq := (s.rd Reg.EVT_NEXT).toNat
  let time := if s.selValid then timeWords s.outU else [s.tb % 2 ^ 32, s.tb / 2 ^ 32 % 2 ^ 32, 0, 0]
  let e : EvRec := ⟨seq, r.code, r.unit % 256, s.selValid, s.overrun, time, r.arg6, r.arg7⟩
  let evs := (e :: s.evs).take 1024
  let s1 := if s.overrun then s.setFld Reg.EVT_STAT Fld.EVT_STAT_OVERRUN 1 else s
  let s2 := s1.wr Reg.EVT_NEXT (BitVec.ofNat 32 (seq + 1))
  let s3 := s2.wr Reg.EVT_OLDEST (BitVec.ofNat 32 (seq + 1 + 2 ^ 32 - evs.length))
  ({ s3 with evs := evs }.sendEvent 0 e).sendEvent 1 e

/-- The address-map base of the block that raises an event (R20, R38): the block whose registers the chapter of the event gives; the codes of a
link port come from LINKA or LINKB by `UNIT`. The spec names the block for 0x1010 alone (log entry 53). -/
def EvReq.base (r : EvReq) : Nat :=
  let c := r.code
  if c = 0x1010 then 0
  else if c < 0x2000 then 0x10000
  else if c < 0x3000 then 0x20000
  else if c < 0x3010 then 0xA0000
  else if c < 0x4000 then (if r.unit = 1 then 0x90000 else 0x80000)
  else if c < 0x4010 ∨ c = 0x4012 then 0x380000
  else if c < 0x4020 then 0x200000
  else if c < 0x4030 then 0x300000
  else if c < 0x4040 then 0x400000
  else if c = 0x4040 ∨ c = 0x4043 then 0x700000
  else if c < 0x4050 then 0x500000
  else if c < 0x5000 then 0x600000
  else if c < 0x6000 then 0x800000
  else if 0x6020 ≤ c ∧ c < 0x6030 then 0x600000
  else if c < 0x7000 then 0xF80000
  else if c < 0x8000 then 0xF00000
  else if c = 0x8001 ∨ c = 0x8002 ∨ c = 0x8004 then 0x50000
  else if c < 0x9000 then 0x40000
  else if c < 0xA000 then 0x900000
  else if c < 0xB000 then 0x100000
  else if c < 0xB010 then 0x780000
  else if c < 0xC000 then 0x7C0000
  else 0x30000

/-- Whether the log numbers the first of two events of one cycle before the second: base of the raising block, code, `UNIT` (R38). -/
def EvReq.before (x y : EvReq) : Bool :=
  let key := fun (r : EvReq) => (r.base * 2 ^ 16 + r.code) * 256 + r.unit % 256
  decide (key x ≤ key y)

/-- Insert an event into an ordered list, before the ones it does not come after. -/
def insertEvent (x : EvReq) : List EvReq → List EvReq
  | [] => [x]
  | y :: ys => if x.before y then x :: y :: ys else y :: insertEvent x ys

/-- The events of a cycle in the order in which the log numbers them (R38); `rs` is newest first, and equal keys keep the order of raising. -/
def orderEvents (rs : List EvReq) : List EvReq := rs.foldl (fun acc r => insertEvent r acc) []

/-- The end of a cycle: the log numbers the events raised in it (R38). -/
def State.endCycle (s : State) : State :=
  (orderEvents s.raised).foldl State.logEvent { s with raised := [], sets := [] }

/-- What a meaning answers: the next state, at the end of the command's cycle. -/
def finish (s : State) : Res := .next s.endCycle

/-- Hardware sets a W1C flag: a clear in the same cycle loses against it (R7). -/
def State.flag (s : State) (a : Nat) (f : Field) : State :=
  { s.setFld a f 1 with sets := (a, setF 0 f 1) :: s.sets }

/-- The W1C bits that hardware has set in this cycle are set, whatever a write of the cycle has cleared (R7). -/
def State.setsWin (s : State) : State := s.sets.foldl (fun (t : State) x => t.wr x.1 (t.rd x.1 ||| x.2)) s

/-- Raise an event at most once per unit and `ms` milliseconds of `TB_CNT` (R523). -/
def State.raiseLim (s : State) (ms code unit : Nat) (arg6 : Nat := 0) (arg7 : Nat := 0) : State :=
  let key := code * 256 + unit % 256
  let last := kvGet (fun _ => 0) s.evWin key
  if last = 0 ∨ ms * 983040 ≤ (s.tb + 1 - last) then
    { s with evWin := kvSet (fun _ => 0) s.evWin key (s.tb + 1) }.raise code unit arg6 arg7
  else s

/-! ## The register bus -/

/-- Whether a requester's access is secure (R18): the host and a DMA channel by what the access claims, Foreman and the enclave always. -/
def State.secureReq (s : State) (r : Req) : Bool :=
  if r.id = 1 ∨ r.id = 2 then r.secure && s.bit (Reg.LINK_SEC_STAT (r.id - 1)) Fld.LINK_SEC_STAT_OPEN
  else if r.id = 4 ∨ r.id = 5 then true
  else if 56 ≤ r.id ∧ r.id ≤ 71 then r.secure
  else false

/-- A clock domain runs (SYS_CLK_STATUS). -/
def State.clkOn (s : State) (f : Field) : Bool := s.bit Reg.SYS_CLK_STATUS f

/-- The converter die that answers an address, where one does: CONV paths and receivers, MON (CD0), the AUX channels (R524; Dies table). -/
def dieOf (addr : Nat) : Option Nat :=
  if 0x600000 ≤ addr ∧ addr < 0x604000 then some ((addr - 0x600000) / 0x1000)
  else if 0x604100 ≤ addr ∧ addr < 0x604180 then some ((addr - 0x604100) / 0x20)
  else if 0x604180 ≤ addr ∧ addr < 0x6041A0 then some ((addr - 0x604180) / 8)
  else if 0x780000 ≤ addr ∧ addr < 0x790000 then some 0
  else if 0x7C0000 ≤ addr ∧ addr < 0x7C8000 then some (Nat.min 3 ((addr - 0x7C0000) / 0x1200))
  else none

/-- The mailbox registers that the always-on island holds (R23, R415): message words, DOORBELL, STAT, CFG and FLUSH of every channel,
and FULLMAP. -/
def mbxIsland (addr : Nat) : Bool :=
  (decide (0x40000 ≤ addr ∧ addr < 0x42000) && decide ((addr - 0x40000) % 0x100 < 0x50)) || decide (0x42000 ≤ addr ∧ addr < 0x42004)

/-- Which gating unit serves an address (R33, R35). DESIGN CHOICE (log entry 54): the spec does not say what one block is for a gating episode; the
model takes each block of R20's address map with its windows as one, and each converter die's part of a block that the dies share as one of its own. -/
def gateUnit (addr : Nat) : Nat :=
  let b := addr / 0x10000
  let b' := if 0x1000 ≤ b ∧ b < 0x1100 then 0x1000 else if 0x2000 ≤ b ∧ b < 0x2800 then 0x2000
    else if 0x2800 ≤ b ∧ b < 0x2A00 then 0x2800 else if 0x11 ≤ b ∧ b < 0x16 then 0x10
    else if 0x58 ≤ b ∧ b < 0x60 then 0x50 else if 0x98 ≤ b ∧ b < 0xA0 then 0x90 else if 0x81 ≤ b ∧ b < 0x84 then 0x80
    else if b = 0xF8 then 0xF8 else b
  match dieOf addr with
  | some k => b' * 8 + k
  | none => b' * 8 + 7

/-- Nothing answers and nothing is logged: `VDD_AON` is absent, or `POR_N` or `RST_N` is low (R415, R439). -/
def State.held (s : State) : Bool := s.power.off || s.power.porLow || s.power.rstLow

/-- Whether the clock domain and die that serve a gating unit run (R524, R14). -/
def State.unitOn (s : State) (u : Nat) : Bool :=
  let b := u / 8
  let k := u % 8
  if s.held then false
  else if b = 0 ∨ b = 1 ∨ b = 7 then true
  else if b = 3 then s.clkOn Fld.SYS_CLK_STATUS_TCLK
  else if (0x90 ≤ b ∧ b < 0xF0) ∨ b = 0x1000 then s.clkOn Fld.SYS_CLK_STATUS_VCLK
  else if b = 0x60 ∨ b = 0x78 ∨ (b = 0x7C ∧ k < 4) then
    s.power.convOn && !(decide (k < 4) && s.power.dieLost.testBit k)
  else if (0x10 ≤ b ∧ b < 0x78) ∨ b = 0x2000 ∨ b = 0x2800 then s.clkOn Fld.SYS_CLK_STATUS_FCLK
  else s.clkOn Fld.SYS_CLK_STATUS_CCLK

/-- A unit that a retirement has taken off the bus: the page and local window of a retired Lode core (R325), the page and program
windows of a retired engine (R174). -/
def State.retiredPage (s : State) (addr : Nat) : Bool :=
  if Reg.LODE_CORE_CTL 0 ≤ addr ∧ addr < Reg.LODE_CORE_CTL 34 then
    s.fld (Reg.LODE_CORE_STAT ((addr - Reg.LODE_CORE_CTL 0) / 0x100)) Fld.LODE_CORE_STAT_STATE == 4
  else if 0x980000 ≤ addr ∧ addr < 0xA00000 then
    s.fld (Reg.LODE_CORE_STAT (s.fld Reg.LODE_LMWIN Fld.LODE_LMWIN_CORE)) Fld.LODE_CORE_STAT_STATE == 4
  else if 0x100000 ≤ addr ∧ addr < 0x105000 then
    s.fld (Reg.SB_STATUS ((addr - 0x100000) / 0x1000)) Fld.SB_STATUS_STATE == 6
  else if 0x110000 ≤ addr ∧ addr < 0x160000 then
    s.fld (Reg.SB_STATUS ((addr - 0x110000) / 0x10000)) Fld.SB_STATUS_STATE == 6
  else false

/-- Whether an access to the address answers ERR_OFFLINE (R33, R524). -/
def State.offline (s : State) (addr : Nat) : Bool :=
  if mbxIsland addr then s.held else !(s.unitOn (gateUnit addr)) || s.retiredPage addr

/-- Secure-only pages: SEC, OTP and REPAIR (R20, R460), and the pages of MBX24-MBX31 (R368). -/
def securePage (addr : Nat) : Bool :=
  decide (0xF00000 ≤ addr ∧ addr < 0x1000000) || decide (0x41800 ≤ addr ∧ addr < 0x42000)

/-- The regions of the weight window (R252). -/
def inWeight (a : Nat) : Bool :=
  (decide (0x20000000 ≤ a ∧ a < 0x21000000) && decide ((a - 0x20000000) % 0x400000 < 0x36A000)) ||
  decide (0x21000000 ≤ a ∧ a < 0x21208000) || decide (0x21210000 ≤ a ∧ a < 0x21211000) ||
  decide (0x22000000 ≤ a ∧ a < 0x223FFC00)

/-- The regions of the memory windows of the register space: the Shiftboss program windows (R150), the DPD LUT windows (R261), the Lode
local memory window (LODE_LMWIN), the shared memory, the weight window and the DL and UL buffer windows (R129). -/
def inWindow (a : Nat) : Bool :=
  decide (0x110000 ≤ a ∧ a < 0x160000) || decide (0x580000 ≤ a ∧ a < 0x600000) ||
  decide (0x980000 ≤ a ∧ a < 0x990000) || decide (0x9A0000 ≤ a ∧ a < 0x9E0000) ||
  decide (0x10000000 ≤ a ∧ a < 0x11000000) || inWeight a || decide (0x28000000 ≤ a ∧ a < 0x29800000)

/-- A window address that the present mapping leads nowhere: a DPD LUT window with `EN` = 0 (R261), the Lode local memory window while it names no
core (LODE_LMWIN). -/
def State.unmapped (s : State) (addr : Nat) : Bool :=
  if 0x580000 ≤ addr ∧ addr < 0x600000 then s.fld (Reg.DPD_WIN ((addr - 0x580000) / 0x8000)) Fld.DPD_WIN_EN == 0
  else if 0x980000 ≤ addr ∧ addr < 0xA00000 then decide (34 ≤ s.fld Reg.LODE_LMWIN Fld.LODE_LMWIN_CORE)
  else false

/-- Channel 15 is Foreman's and answers ERR_BUSY to every other requester (R441). -/
def State.ch15Busy (s : State) (r : Req) (addr : Nat) : Bool := s.sec.ch15 && r.id != 4 && decide (Reg.DMA_GO 15 / 0x100 = addr / 0x100)

/-- The address-dependent causes of R26, in its order: ERR_NOREG, ERR_SECURE, ERR_ALIGN, ERR_OFFLINE; then the
ERR_BUSY of channel 15 while it is Foreman's (R441); 0 where none applies. -/
def State.causes (s : State) (r : Req) (addr : Nat) : Nat :=
  if (findReg addr).isNone && (!inWindow addr || s.unmapped addr) then 3
  else if securePage addr && !s.secureReq r then 2
  else if addr % 4 ≠ 0 then 5
  else if s.offline addr then 1
  else if s.ch15Busy r addr then 7
  else 0

/-- The retired unit whose page or window an address lies in, as a key of `State.episodes` (R35): 2^16 and a Lode core, or 2^16 + 64 and an engine. -/
def State.retiredUnit (s : State) (addr : Nat) : Nat :=
  2 ^ 16 + (if Reg.LODE_CORE_CTL 0 ≤ addr ∧ addr < Reg.LODE_CORE_CTL 34 then (addr - Reg.LODE_CORE_CTL 0) / 0x100
    else if 0x980000 ≤ addr ∧ addr < 0xA00000 then s.fld Reg.LODE_LMWIN Fld.LODE_LMWIN_CORE
    else if 0x100000 ≤ addr ∧ addr < 0x105000 then 64 + (addr - 0x100000) / 0x1000
    else 64 + (addr - 0x110000) / 0x10000)

/-- The key of the gating episode that an offline address belongs to (R35): its gating unit while that is off, else the retired unit. -/
def State.episodeKey (s : State) (addr : Nat) : Nat := if s.unitOn (gateUnit addr) then s.retiredUnit addr else gateUnit addr

/-- Whether the block of an episode's key is on again (R35); a retired unit stays off until reset (R174, R325). -/
def State.episodeOver (s : State) (u : Nat) : Bool :=
  if u < 2 ^ 16 then s.unitOn u
  else if u < 2 ^ 16 + 64 then s.fld (Reg.LODE_CORE_STAT (u - 2 ^ 16)) Fld.LODE_CORE_STAT_STATE != 4
  else s.fld (Reg.SB_STATUS (u - 2 ^ 16 - 64)) Fld.SB_STATUS_STATE != 6

/-- Record an access refused with ERR_OFFLINE: `SYS_ACCERR`, and event 0x1010 once per gating episode (R35). While the whole device is held, so is SYS. -/
def State.recordOffline (s : State) (r : Req) (addr : Nat) : State :=
  if s.held then s else
  let s1 :=
    if s.bit Reg.SYS_ACCERR Fld.SYS_ACCERR_VALID then
      let c := satInc 16 (s.fld Reg.SYS_ACCERR Fld.SYS_ACCERR_COUNT) 1
      let t := s.setFld Reg.SYS_ACCERR Fld.SYS_ACCERR_COUNT c
      if s.fld Reg.SYS_ACCERR Fld.SYS_ACCERR_REQID = r.id % 256 then t else t.setFld Reg.SYS_ACCERR Fld.SYS_ACCERR_MULTI 1
    else
      (s.wr Reg.SYS_ACCERR (setF (setF (setF 0 Fld.SYS_ACCERR_VALID 1) Fld.SYS_ACCERR_COUNT 1) Fld.SYS_ACCERR_REQID r.id)).wr
        Reg.SYS_ACCERR_ADDR (BitVec.ofNat 32 addr)
  let u := s.episodeKey addr
  if s1.episodes.contains u then s1 else { s1 with episodes := u :: s1.episodes }.raise 0x1010 r.id addr

/-- The gating episodes that have ended because their unit is on again (R35). -/
def State.endEpisodes (s : State) : State := { s with episodes := s.episodes.filter (fun u => !s.episodeOver u) }

/-- Remember the response of an access (R24); while the device is held, nothing answers. -/
def State.answer (s : State) (r : Req) (code data : Nat) : State :=
  if s.held then s else
  let t := (s.setBus r.id { s.busOf r.id with resp := code, data := data }).pmuCount 45 0x01
  if code = 0 then t else t.pmuCount 45 0x02

/-- An access to any other address discards a held low word (R31). -/
def State.dropHeld (s : State) (r : Req) : State :=
  s.setBus r.id { s.busOf r.id with wrTag := none, wrHold := [] }

/-- A write of one register by a requester: the causes of R26 first, then the register's own rule, which answers a code and the new
state (R24-R27). -/
def State.writeBy (s : State) (r : Req) (addr : Nat) (rule : State → Nat × State) : State :=
  let s0 := s.dropHeld r
  match s0.causes r addr with
  | 0 => let (c, t) := rule s0; t.answer r c 0
  | 1 => (s0.recordOffline r addr).answer r 1 0
  | c => s0.answer r c 0

/-- A read of one register by a requester: refused reads return 0, or 0x0FF0_0FF0 from a block that is off (R24, R33). -/
def State.readBy (s : State) (r : Req) (addr : Nat) (rule : State → Nat × Nat × State) : State :=
  match s.causes r addr with
  | 0 => let (c, d, t) := rule s; t.answer r c d
  | 1 => (s.recordOffline r addr).answer r 1 0x0FF00FF0
  | c => s.answer r c 0

/-- The new value of one word when each field takes a write by its type (R6): RW and the reserved bits by R9. -/
def applyFields (old new : Word) (fs : List FieldRow) : Word :=
  fs.foldl (fun acc f =>
    match f.acc with
    | .rw => setF acc f.fld (getF new f.fld)
    | .w1c => setF acc f.fld (getF (acc &&& ~~~ new) f.fld)
    | .w1s => setF acc f.fld (getF (acc ||| new) f.fld)
    | _ => acc) old

/-- Write a plain register word: every field by its type (R6, R9). -/
def State.plainWrite (s : State) (addr : Nat) (v : Word) : State :=
  match findReg addr with
  | none => s
  | some (row, w) => s.wr addr (applyFields (s.rd addr) v (row.fieldsAt w))

/-- The word that a plain write would store. -/
def State.plainValue (s : State) (addr : Nat) (v : Word) : Word :=
  match findReg addr with
  | none => s.rd addr
  | some (row, w) => applyFields (s.rd addr) v (row.fieldsAt w)

/-- Whether a write would change a stored field (R25). -/
def State.wouldChange (s : State) (addr : Nat) (v : Word) (f : Field) : Bool :=
  getF (s.plainValue addr v) f != s.fld addr f

/-! ## Spells (R384) -/

/-- A path goes to sleep or wakes, is muted or unmuted. -/
def State.setSpell (s : State) (k : Nat) (on : Bool) : State :=
  let x : Spell := kvGet (fun _ => {}) s.spells k
  let y : Spell := match x.from_ with
    | some t => if on then x else { sum := x.sum + (s.tick - t), from_ := none }
    | none => if on then { x with from_ := some s.tick } else x
  { s with spells := kvSet (fun _ => {}) s.spells k y }

/-- The ticks it has held. -/
def State.spellTicks (s : State) (k : Nat) : Nat :=
  let x : Spell := kvGet (fun _ => {}) s.spells k
  x.sum + (match x.from_ with | some t => s.tick - t | none => 0)

end Sys2Proof.Machine
end

