-- ==== Sys2Proof/Machine/Windows.lean ====
section
/-! DEFINITION. The memory windows: which memory an address reaches and what refuses a write (active banks R152, R234, R239, R246, R261; buffer
windows R129; accumulator R251; Lode local memory, LODE_LMWIN), and the double-banked resources behind them. -/
namespace Sys2Proof.Machine

/-- Key of a Lode core's own memories: IMEM at +0, DMEM-X at +0x2_0000, DMEM-Y at +0x4_0000 (R299). -/
def coreMem (core : Nat) : Nat := 2 ^ 32 + core * 0x80000

/-- Key of a path's DPD LUT bank, 32 KiB (R261). -/
def dpdMem (path bank : Nat) : Nat := 2 ^ 33 + (path * 2 + bank) * 0x8000

/-- Address of a Shiftboss program bank (R150). -/
def sbBank (e b : Nat) : Nat := 0x110000 + e * 0x10000 + b * 0x8000

/-- The engine that serves a role (R149). -/
def State.sbServer (s : State) (r : Nat) : Nat := bitsAt (s.fld Reg.SB_RELIEF Fld.SB_RELIEF_MAP) (4 * r) 4

/-- The engine that SB4's target role names, when it names one (R173). -/
def State.sbTarget (s : State) : Option Nat :=
  let r := s.fld Reg.SB_RELIEF Fld.SB_RELIEF_TARGET
  if r < 4 then some (s.sbServer r) else none

/-- The engine is SB4 while it shadows (R173). -/
def State.sbShadows (s : State) (e : Nat) : Bool := e == 4 && s.fld (Reg.SB_STATUS 4) Fld.SB_STATUS_STATE == 7

/-- The address that a Shiftboss program window reads: while SB4 shadows, every write to its target's banks is repeated in SB4's (R173). -/
def State.sbWinAddr (s : State) (a : Nat) : Nat :=
  if 0x150000 ≤ a ∧ a < 0x160000 ∧ s.sbShadows 4 then
    (match s.sbTarget with
     | some e => a - sbBank 4 0 + sbBank e 0
     | none => a)
  else a

/-- Address of the shared memory (R20, R300). -/
def sharedMem : Nat := 0x10000000

/-- Address of a weight bank: `dir` 0 TX, 1 RX (R252). -/
def weightBank (dir bank : Nat) : Nat := 0x20000000 + dir * 0x800000 + bank * 0x400000

/-- Whether a bank of a resource still serves its last users (R525): `OLD_BUSY`. -/
def State.oldBusy (s : State) (res idx bank : Nat) : Bool :=
  s.olds.any (fun o => o.res == res && o.idx == idx && o.bank == bank)

/-- A directory entry's words 0 and 1 (R237). -/
structure DirEntry where
  valid : Bool
  carrier : Nat
  grp : Nat
  ncol : Nat
  base : Nat
  ng : Nat
  g0 : Nat
  deriving DecidableEq, Repr

/-- The directory entry of a handle in a physical bank (R237). -/
def State.dirEntry (s : State) (dir bank h : Nat) : DirEntry :=
  let w0 := s.ldN (weightBank dir bank + h * 64) 4
  let w1 := s.ldN (weightBank dir bank + h * 64 + 4) 4
  ⟨bitAt w0 31, bitsAt w0 28 3, bitsAt w0 25 3, bitsAt w0 21 4, bitsAt w0 0 14, bitsAt w1 16 11, bitsAt w1 0 11⟩

/-- Whether a handle's copy in a bank is protected (R239): active, committed and waiting, or old and busy. -/
def State.copyProtected (s : State) (dir bank h : Nat) : Bool :=
  let st := s.rd (Reg.BEAM_CW_STAT dir h)
  getF st Fld.BEAM_CW_STAT_A == bank || getF st Fld.BEAM_CW_STAT_COMMITTED == 1 || getF st Fld.BEAM_CW_STAT_OLD_BUSY == 1

/-- Whether a record of a bank lies in the range that a protected entry names (R239). -/
def State.recordProtected (s : State) (dir bank r : Nat) : Bool :=
  (List.range 256).any (fun h =>
    s.copyProtected dir bank h &&
      (let e := s.dirEntry dir bank h
       decide (e.base ≤ r ∧ r < e.base + e.ng * (e.ncol + 1))))

/-- Whether a write of `n` bytes at offset `o` of a weight bank touches a protected byte (R239). -/
def State.weightProtected (s : State) (dir bank o n : Nat) : Bool :=
  (List.range ((o + n - 1) / 64 + 1 - o / 64)).any (fun i =>
    let q := o / 64 + i
    if q < 256 then s.copyProtected dir bank q
    else s.recordProtected dir bank ((q - 256) / 4))

/-- What refuses a write to the weight window: 4 ERR_ACTIVE_BANK; `none` where the write is discarded with OK (R251); else 0. -/
def State.weightWriteCode (s : State) (a n : Nat) : Option Nat :=
  let st := s.rd Reg.BEAM_BANK_STAT
  if a < 0x21000000 then
    let o := a - 0x20000000
    some (if s.weightProtected (o / 0x800000) ((o / 0x400000) % 2) (o % 0x400000) n then 4 else 0)
  else if a < 0x21208000 then
    let h := if a < 0x21200000 then (a - 0x21000000) / 0x100000 else (a - 0x21200000) / 0x4000
    some (if (getF st Fld.BEAM_BANK_STAT_EXP_SERVE).testBit h || (getF st Fld.BEAM_BANK_STAT_EXP_OLD).testBit h then 4 else 0)
  else if a < 0x21210800 then
    let b := (a - 0x21210000) / 0x400
    some (if getF st Fld.BEAM_BANK_STAT_TAPER_ABANK = b ∨ getF st Fld.BEAM_BANK_STAT_TAPER_OLD = 1 then 4 else 0)
  else if a < 0x21211000 then
    let b := (a - 0x21210800) / 0x400
    some (if getF st Fld.BEAM_BANK_STAT_GEOM_ABANK = b ∨ getF st Fld.BEAM_BANK_STAT_GEOM_OLD = 1 then 4 else 0)
  else none

/-- The memory a DPD window address reaches, through the mapping of `DPD_WINk` applied at the access (R261): path, bank, byte offset. -/
def State.dpdWin (s : State) (a : Nat) : Option (Nat × Nat × Nat) :=
  let k := (a - 0x580000) / 0x8000
  let w := s.rd (Reg.DPD_WIN k)
  if getF w Fld.DPD_WIN_EN = 1 then some (getF w Fld.DPD_WIN_PATH, getF w Fld.DPD_WIN_BANK, (a - 0x580000) % 0x8000) else none

/-- `n` bytes that the spec leaves open, as fresh free values (log entry 2). -/
def State.freeBytes (s : State) : Nat → List Byte × State
  | 0 => ([], s)
  | n + 1 =>
    let (v, s1) := s.takeFree
    let (bs, s2) := s1.freeBytes n
    (BitVec.ofNat 8 v :: bs, s2)

/-- Read `n` bytes through a window that is on: response code and bytes (R24, R129, R261, LODE_LMWIN). -/
def State.winRead (s : State) (a n : Nat) : Nat × List Byte × State :=
  let zeros := List.replicate n (0 : Byte)
  if 0x580000 ≤ a ∧ a < 0x600000 then
    match s.dpdWin a with
    | some (p, b, o) => (0, s.ldBytes (dpdMem p b + o) n, s)
    | none => (3, zeros, s)
  else if 0x980000 ≤ a ∧ a < 0xA00000 then
    let c := s.fld Reg.LODE_LMWIN Fld.LODE_LMWIN_CORE
    if 34 ≤ c then (3, zeros, s)
    else if s.fld (Reg.LODE_CORE_STAT c) Fld.LODE_CORE_STAT_STATE = 1 then (7, zeros, s)
    else (0, s.ldBytes (coreMem c + (a - 0x980000)) n, s)
  else if 0x28000000 ≤ a ∧ a < 0x29800000 then
    let (bs, t) := s.freeBytes n
    (0, bs, t)
  else (0, s.ldBytes (s.sbWinAddr a) n, s)

/-- Write bytes through a window that is on: response code and state; a refused write writes nothing. A write into SB4's windows while it shadows is
discarded, as one into its page is (DESIGN CHOICE, log entry 16). -/
def State.winWrite (s : State) (a : Nat) (bs : List Byte) : Nat × State :=
  let n := bs.length
  if 0x110000 ≤ a ∧ a < 0x160000 then
    let e := (a - 0x110000) / 0x10000
    let b := ((a - 0x110000) / 0x8000) % 2
    if s.fld (Reg.SB_STATUS e) Fld.SB_STATUS_ABANK = b then (4, s) else (0, if s.sbShadows e then s else s.stBytes a bs)
  else if 0x580000 ≤ a ∧ a < 0x600000 then
    match s.dpdWin a with
    | none => (3, s)
    | some (p, b, o) =>
      if s.fld (Reg.DPD_STATUS p) Fld.DPD_STATUS_ABANK = b ∨ s.oldBusy 3 p b then (4, s)
      else (0, s.stBytes (dpdMem p b + o) bs)
  else if 0x980000 ≤ a ∧ a < 0xA00000 then
    let c := s.fld Reg.LODE_LMWIN Fld.LODE_LMWIN_CORE
    if 34 ≤ c then (3, s)
    else if s.fld (Reg.LODE_CORE_STAT c) Fld.LODE_CORE_STAT_STATE = 1 then (7, s)
    else (0, s.stBytes (coreMem c + (a - 0x980000)) bs)
  else if 0x20000000 ≤ a ∧ a < 0x28000000 then
    match s.weightWriteCode a n with
    | none => (0, s)
    | some 0 => (0, s.stBytes a bs)
    | some c => (c, s)
  else if 0x28000000 ≤ a ∧ a < 0x29800000 then (0, s)
  else (0, s.stBytes a bs)

/-- Whether the `n` bytes from `a` lie in window regions that answer: 3 ERR_NOREG, 1 ERR_OFFLINE, 0 otherwise. -/
def State.winCause (s : State) (a n : Nat) : Nat :=
  if !(inWindow a && inWindow (a + n - 1)) || s.unmapped a then 3 else if s.offline a then 1 else 0

/-- A block read by a requester (R18): cause first, then the window; a refusal because the block is off is recorded (R28, R35, R91). -/
def State.blockRead (s : State) (r : Req) (a n : Nat) : Nat × List Byte × State :=
  match s.winCause a n with
  | 0 => s.winRead a n
  | 1 => (1, (List.replicate (n / 4) (natLE 4 0x0FF00FF0)).flatten, s.recordOffline r a)
  | c => (c, List.replicate n 0, s)

/-- A block write by a requester (R18); it discards the word that the requester holds (R31). -/
def State.blockWrite (s : State) (r : Req) (a : Nat) (bs : List Byte) : Nat × State :=
  let t := s.dropHeld r
  match t.winCause a bs.length with
  | 0 => t.winWrite a bs
  | 1 => (1, t.recordOffline r a)
  | c => (c, t)

end Sys2Proof.Machine
end

