-- ==== Sys2Proof/Machine/Notify.lean ====
section
/-! DEFINITION. Notifications that several blocks share: Shiftboss event flags set by hardware sources (R154, SB_EVSRC), and pushes on Lode work
queues (R308). -/
namespace Sys2Proof.Machine

/-- The record of a Shiftboss engine. -/
def State.eng (s : State) (e : Nat) : Engine := kvGet (fun _ => {}) s.engines e
def State.setEng (s : State) (e : Nat) (x : Engine) : State := { s with engines := kvSet (fun _ => {}) s.engines e x }

/-- A write into an engine's page; into SB4's while it shadows it is discarded (log entry 16). -/
def State.sbPageWrite (s : State) (e : Nat) (rule : State → Nat × State) : Nat × State := if s.sbShadows e then (0, s) else rule s

/-- The FCLK cycle in progress: three cycles per two periods of TCLK (log entry 1). -/
def State.fcyc (s : State) : Nat := s.tick * 3 / 2

/-- Note a cycle for the flags of a mask. -/
def noteFlags (l : List (Nat × Nat)) (mask c : Nat) : List (Nat × Nat) := (maskList 64 mask).foldl (fun m k => kvSet (fun _ => 0) m k (c + 1)) l

/-- The flags of an engine become `new` in cycle `c`. -/
def State.setFlags (s : State) (e new c : Nat) : State :=
  let x := s.eng e
  (s.wr64 (Reg.SB_EVF e) new).setEng e { x with evChg := noteFlags x.evChg (Nat.xor (s.rd64 (Reg.SB_EVF e)) new) c }

/-- Set event flags of an engine in cycle `c` (R154). -/
def State.evOrAt (s : State) (e mask c : Nat) : State :=
  let t := s.setFlags e (Nat.lor (s.rd64 (Reg.SB_EVF e)) (mask % 2 ^ 64)) c
  t.setEng e { t.eng e with evSet := noteFlags (t.eng e).evSet (mask % 2 ^ 64) c }

/-- Clear event flags of an engine in cycle `c`; a flag set in the same cycle stays (R154). -/
def State.evClearAt (s : State) (e mask c : Nat) : State :=
  let v := s.rd64 (Reg.SB_EVF e)
  let gone := (maskList 64 (Nat.land v (mask % 2 ^ 64))).filter (fun k => kvGet (fun _ => 0) (s.eng e).evSet k != c + 1)
  s.setFlags e (gone.foldl (fun m k => setBitN m k false) v) c

/-- Set or clear event flags of an engine now (R154). -/
def State.evOr (s : State) (e mask : Nat) : State := s.evOrAt e mask s.fcyc
def State.evClear (s : State) (e mask : Nat) : State := s.evClearAt e mask s.fcyc

/-- The first cycle in which a waiting engine sees a flag as it is: the one after its last change (R154). -/
def State.evSeen (s : State) (e flag : Nat) : Nat := kvGet (fun _ => 0) (s.eng e).evChg flag

/-- The flags of one engine that a hardware source sets: E(48+k) where `SB_EVSRCk` names it. -/
def State.srcMask (s : State) (e src : Nat) : Nat :=
  (List.range 16).foldl (fun m k =>
    if s.fld (Reg.SB_EVSRC e k) Fld.SB_EVSRC_SRC = src then m + 2 ^ (48 + k) else m) 0

/-- A hardware source sets its flags on every engine (R154). -/
def State.evSource (s : State) (src : Nat) : State :=
  (List.range 5).foldl (fun t e => let m := t.srcMask e src; if m = 0 then t else t.evOr e m) s

/-- The items of a Lode work queue. -/
def State.wq (s : State) (q : Nat) : List WorkItem := kvGet (fun _ => []) s.lode.queues q

/-- Whether a queue is full: 64 items, those in the reserved head entries (R324) not counted. -/
def wqFull (l : List WorkItem) : Bool := decide (64 ≤ (l.filter (fun x => !x.rerun)).length)

/-- Replace the items of a queue, with `LODE_WQ_STATq.DEPTH` and `FULL`. -/
def State.setWq (s : State) (q : Nat) (l : List WorkItem) : State :=
  let t := { s with lode := { s.lode with queues := kvSet (fun _ => []) s.lode.queues q l } }
  let w := setF (t.rd (Reg.LODE_WQ_STAT q)) Fld.LODE_WQ_STAT_DEPTH l.length
  t.wr (Reg.LODE_WQ_STAT q) (setF w Fld.LODE_WQ_STAT_FULL (b2n (wqFull l)))

/-- Put an item at the end of a queue, before those that rising requester IDs pushed in the same cycle (R308). -/
def wqInsert (it : WorkItem) : List WorkItem → List WorkItem
  | [] => [it]
  | x :: rest => if !x.rerun && x.at_ == it.at_ && decide (it.by_ < x.by_) then it :: x :: rest else x :: wqInsert it rest

/-- Push a work item of requester `req`; a full queue refuses it, counts it and raises event 0x9005 at most once per queue per 10 ms (R308). -/
def State.wqPush (s : State) (q desc arg req : Nat) : Bool × State :=
  if wqFull (s.wq q) then (false, (s.count (Reg.LODE_WQ_FULL_CNT q)).raiseLim 10 0x9005 q)
  else (true, s.setWq q (wqInsert ⟨desc % 2 ^ 24, arg % 2 ^ 64, false, req, s.tick⟩ (s.wq q)))

end Sys2Proof.Machine
end

