-- ==== Sys2Proof/Machine/Mailbox.lean ====
section
/-! DEFINITION. Mailboxes and tally locks (14_dma_mailboxes, R368-R381). Marks and risks: log entry 38. -/
namespace Sys2Proof.Machine

/-- `MBX_STAT.FULL` and `CLAIMED` of a channel. -/
def State.mbxFull (s : State) (c : Nat) : Bool := s.bit (Reg.MBX_STAT c) Fld.MBX_STAT_FULL
def State.mbxClaimed (s : State) (c : Nat) : Bool := s.bit (Reg.MBX_STAT c) Fld.MBX_STAT_CLAIMED

/-- Claimed by somebody other than `req` (R370). -/
def State.mbxTaken (s : State) (c req : Nat) : Bool :=
  s.mbxClaimed c && s.fld (Reg.MBX_STAT c) Fld.MBX_STAT_CLAIMER != req

/-- The 16 words of a channel's message buffer. -/
def State.mbxWords (s : State) (c : Nat) : List Nat := (List.range 16).map (fun k => (s.rd (Reg.MBX_MSG c k)).toNat)

/-- Record the time of the claimer's last write (R370). -/
def State.touchClaim (s : State) (c : Nat) : State :=
  { s with claims := kvSet (fun _ => {}) s.claims c ⟨s.tick, 0⟩ }

/-- Claim a channel for a requester (R370). -/
def State.mbxClaim (s : State) (c req : Nat) : State :=
  let w := setF (s.rd (Reg.MBX_STAT c)) Fld.MBX_STAT_CLAIMED 1
  (s.wr (Reg.MBX_STAT c) (setF w Fld.MBX_STAT_CLAIMER req)).touchClaim c

/-- A write of a message word: it claims a free channel. While the channel is FULL or claimed by another it answers ERR_BUSY (R370), but OK where it
would leave the stored word as it is (R25). -/
def mbxMsgWrite (c k req : Nat) (v : Word) (s : State) : Nat × State :=
  if s.mbxFull c || s.mbxTaken c req then (if v = s.rd (Reg.MBX_MSG c k) then 0 else 7, s)
  else (0, (s.mbxClaim c req).wr (Reg.MBX_MSG c k) v)

/-- A `MSG` copy of a channel to its host (R96, R369, R374): `TAG` is the posting sequence. -/
def State.mbxCopy (s : State) (c p : Nat) : State :=
  s.sendBk p 0x15 5 (c * 2 ^ 24 + s.fld (Reg.MBX_STAT c) Fld.MBX_STAT_SEQ * 256) ([0, 0] ++ s.mbxWords c)

/-- Deliver a posted message by the channel's receiver (R369). -/
def State.mbxDeliver (s : State) (c req : Nat) : State :=
  let cfg := s.rd (Reg.MBX_CFG c)
  let rx := getF cfg Fld.MBX_CFG_RX
  if rx = 1 ∨ rx = 2 then
    if s.linkUp (rx - 1) then s.mbxCopy c (rx - 1) else s
  else if rx = 0x10 then
    let arg := c + s.fld (Reg.MBX_STAT c) Fld.MBX_STAT_SEQ * 256
    let (ok, t) := s.wqPush (getF cfg Fld.MBX_CFG_WQ) (s.fld (Reg.MBX_DESC c) Fld.MBX_DESC_ADDR) arg req
    if ok then t else (t.flag (Reg.MBX_STAT c) Fld.MBX_STAT_NOTIFY_LOST).raise 0x8007 c
  else s

/-- Whether `MBX_CFG.RX` names a receiver (R369). -/
def rxValid (rx : Nat) : Bool := (decide (1 ≤ rx) && decide (rx ≤ 5)) || rx == 0x10

/-- Post the message of a channel: FULL, `SENDER`, `SEQ` + 1, the claim released, delivery (R371). -/
def State.mbxPost (s : State) (c req : Nat) : State :=
  let w := s.rd (Reg.MBX_STAT c)
  let w := setF (setF w Fld.MBX_STAT_FULL 1) Fld.MBX_STAT_CLAIMED 0
  let w := setF (setF w Fld.MBX_STAT_SENDER req) Fld.MBX_STAT_CLAIMER 0
  let w := setF w Fld.MBX_STAT_SEQ ((getF w Fld.MBX_STAT_SEQ + 1) % 256)
  (s.wr (Reg.MBX_STAT c) w).mbxDeliver c req

/-- Whether a doorbell or a whole message of `req` is refused (R369-R371). -/
def State.mbxRefuses (s : State) (c req : Nat) : Bool :=
  s.mbxFull c || s.mbxTaken c req || !rxValid (s.fld (Reg.MBX_CFG c) Fld.MBX_CFG_RX)

/-- A doorbell write (R371). -/
def mbxDoorbell (c req : Nat) (v : Word) (s : State) : Nat × State :=
  if getF v Fld.MBX_DOORBELL_RING = 0 then (0, s)
  else if s.mbxRefuses c req then (7, s)
  else (0, s.mbxPost c req)

/-- Write all 16 words and ring in one operation (R371): a host `MSG`, a Shiftboss `POST`, a firmware message. The requester writes other addresses,
which discards the word it holds (R31). -/
def mbxMessage (c req : Nat) (words : List Nat) (s0 : State) : Nat × State :=
  let s := s0.dropHeld ⟨req, false⟩
  if s.mbxRefuses c req then (7, s)
  else
    (0, (((List.range 16).foldl (fun t k => t.wr (Reg.MBX_MSG c k) (BitVec.ofNat 32 (words.getD k 0))) s)).mbxPost c req)

/-- Whether a requester is the channel's receiver; for the Lode cluster any core counts (R372). -/
def State.mbxIsRx (s : State) (c req : Nat) : Bool :=
  let rx := s.fld (Reg.MBX_CFG c) Fld.MBX_CFG_RX
  rx == req || (rx == 0x10 && decide (16 ≤ req ∧ req ≤ 49))

/-- A read of a message word: the receiver's read of word 15 clears FULL, sets the flags of source 0x40 + channel and may raise event 0x8005 (R372). -/
def mbxMsgRead (c k req : Nat) (s : State) : Nat × Nat × State :=
  let d := (s.rd (Reg.MBX_MSG c k)).toNat
  if k = 15 ∧ s.mbxFull c ∧ s.mbxIsRx c req then
    let t := (s.setFld (Reg.MBX_STAT c) Fld.MBX_STAT_FULL 0).evSource (0x40 + c)
    (0, d, if s.bit (Reg.MBX_CFG c) Fld.MBX_CFG_ACKEV then t.raise 0x8005 c else t)
  else (0, d, s)

/-- The claim of a channel ends without a posting (R370): the buffer is kept; event 0x8006. -/
def State.mbxLapse (s : State) (c : Nat) : State :=
  let w := setF (s.rd (Reg.MBX_STAT c)) Fld.MBX_STAT_CLAIMED 0
  (s.wr (Reg.MBX_STAT c) (setF w Fld.MBX_STAT_CLAIMER 0)).raise 0x8006 c

/-- A flush (R373): by the receiver it clears FULL, the claim (a lapse, R370) and the buffer; by anybody else ERR_BUSY. -/
def mbxFlush (c req : Nat) (v : Word) (s : State) : Nat × State :=
  if getF v Fld.MBX_FLUSH_FLUSH = 0 then (0, s)
  else if !s.mbxIsRx c req then (7, s)
  else
    let s1 := if s.mbxClaimed c then s.mbxLapse c else s
    let s2 := s1.setFld (Reg.MBX_STAT c) Fld.MBX_STAT_FULL 0
    (0, (List.range 16).foldl (fun t k => t.wr (Reg.MBX_MSG c k) 0) s2)

/-- A write of `MBX_CFG` or `MBX_DESC`: refused while FULL or CLAIMED where it would change a field (R369, R25). -/
def mbxCfgWrite (a c : Nat) (v : Word) (s : State) : Nat × State :=
  if s.mbxFull c || s.mbxClaimed c then (if s.plainValue a v = s.rd a then 0 else 7, s)
  else (0, s.plainWrite a v)

/-- `MBX_FULLMAP`: bit c is FULL of channel c; bits 24-31 read 0 for a non-secure requester. -/
def State.fullMap (s : State) (secure : Bool) : Nat :=
  (List.range 32).foldl (fun m c => if s.mbxFull c && (secure || decide (c < 24)) then m + 2 ^ c else m) 0

/-! ## Tally locks -/

/-- The owner of a lock, 0 when free (TALLY_STAT). -/
def State.lockOwner (s : State) (k : Nat) : Nat := s.fld (Reg.TALLY_STAT k) Fld.TALLY_STAT_OWNER

/-- IDs that can own a lock (R375): those that issue register reads. -/
def canOwn (id : Nat) : Bool := decide (1 ≤ id ∧ id ≤ 5) || decide (16 ≤ id ∧ id ≤ 49)

/-- The hold limit a lock takes at acquisition (R378). -/
def State.holdUs (s : State) (k : Nat) : Nat :=
  let us := s.fld (Reg.TALLY_HOLD k) Fld.TALLY_HOLD_US
  if us = 0 then 1 else Nat.min us 1000000

/-- The lock is free again. -/
def State.freeLock (s : State) (k : Nat) : State :=
  let w := setF (setF (s.rd (Reg.TALLY_STAT k)) Fld.TALLY_STAT_HELD 0) Fld.TALLY_STAT_OWNER 0
  { s.wr (Reg.TALLY_STAT k) w with locks := kvSet (fun _ => {}) s.locks k {} }

/-- Break a held lock: `BROKEN`, `BCAUSE`, `BROKEN_ID`, event 0x8003 (R378, R379). -/
def State.breakLock (s : State) (k cause : Nat) : State :=
  let o := s.lockOwner k
  let t := s.freeLock k
  let w := setF (setF (t.rd (Reg.TALLY_STAT k)) Fld.TALLY_STAT_BROKEN 1) Fld.TALLY_STAT_BCAUSE cause
  (t.wr (Reg.TALLY_STAT k) (setF w Fld.TALLY_STAT_BROKEN_ID o)).raise 0x8003 k

/-- The hold limit of a lock, counted from the acquiring read, has passed (R378): a due expiry takes effect before an access (R376). -/
def State.expireLock (s : State) (k : Nat) : State :=
  let l := kvGet (fun _ => ({} : LockSt)) s.locks k
  if s.lockOwner k ≠ 0 ∧ l.at_ + usTicks l.limit ≤ s.tick then s.breakLock k 1 else s

/-- A read of `TALLY_LOCKk` (R375): a free lock goes to the reader, and the read returns 0; a held one returns its owner. -/
def tallyRead (k req : Nat) (s0 : State) : Nat × Nat × State :=
  let s := s0.expireLock k
  let o := s.lockOwner k
  if o = 0 ∧ canOwn req then
    let w := setF (setF (s.rd (Reg.TALLY_STAT k)) Fld.TALLY_STAT_HELD 1) Fld.TALLY_STAT_OWNER req
    (0, 0, { s.wr (Reg.TALLY_STAT k) w with locks := kvSet (fun _ => {}) s.locks k ⟨s.tick, s.holdUs k⟩ })
  else (0, o, s)

/-- A write of `TALLY_LOCKk` (R377): the owner's own ID releases; anything else answers ERR_NOTOWNER. -/
def tallyWrite (k req : Nat) (v : Word) (s0 : State) : Nat × State :=
  let s := s0.expireLock k
  if s.lockOwner k = req ∧ req ≠ 0 ∧ getF v Fld.TALLY_LOCK_OWNER = req then (0, s.freeLock k) else (6, s)

/-- An owner is lost (R379): its locks break, and its mailbox claims lapse (R370). -/
def State.ownerLost (s : State) (id cause : Nat) : State :=
  let t := (List.range 64).foldl (fun t k => if t.lockOwner k = id then t.breakLock k cause else t) s
  (List.range 32).foldl (fun t c =>
    if t.mbxClaimed c && t.fld (Reg.MBX_STAT c) Fld.MBX_STAT_CLAIMER == id then t.mbxLapse c else t) t

/-- MBX_MSG_WRITE (R370). -/
def execMbxMsgWrite (r : Req) (c : Fin 32) (k : Fin 16) (v : Word) (s : State) : Res :=
  finish (s.writeBy r (Reg.MBX_MSG c k) (mbxMsgWrite c k r.id v))

/-- MBX_DOORBELL (R371): a doorbell write. -/
def execMbxDoorbell (r : Req) (c : Fin 32) (v : Word) (s : State) : Res :=
  finish (s.writeBy r (Reg.MBX_DOORBELL c) (mbxDoorbell c r.id v))

/-- MBX_ACK (R372): a read of `MBX_MSG_15`. -/
def execMbxAck (r : Req) (c : Fin 32) (s : State) : Res :=
  finish (s.readBy r (Reg.MBX_MSG c 15) (mbxMsgRead c 15 r.id))

/-- MBX_FLUSH (R373). -/
def execMbxFlush (r : Req) (c : Fin 32) (v : Word) (s : State) : Res :=
  finish (s.writeBy r (Reg.MBX_FLUSH c) (mbxFlush c r.id v))

/-- MBX_CLAIM_LAPSED (R370): the claimer has written nothing for `MBX_CLAIM_TMO`. -/
def execMbxClaimLapsed (c : Fin 32) (s : State) : Res :=
  let us := Nat.max 1 (s.fld Reg.MBX_CLAIM_TMO Fld.MBX_CLAIM_TMO_US)
  let l := kvGet (fun _ => ({} : LockSt)) s.claims c
  finish (if s.mbxClaimed c && decide (l.at_ + usTicks us ≤ s.tick) then s.mbxLapse c else s)

/-- TALLY_ACQUIRE (R375): a read of a lock register. -/
def execTallyAcquire (r : Req) (k : Fin 64) (s : State) : Res :=
  finish (s.readBy r (Reg.TALLY_LOCK k) (tallyRead k r.id))

/-- TALLY_RELEASE (R377): a write of a lock register. -/
def execTallyRelease (r : Req) (k : Fin 64) (v : Word) (s : State) : Res :=
  finish (s.writeBy r (Reg.TALLY_LOCK k) (tallyWrite k r.id v))

/-- TALLY_HOLD_EXPIRY (R378): the limit counted from the acquiring read has passed. -/
def execTallyHoldExpiry (k : Fin 64) (s : State) : Res := finish (s.expireLock k)

/-- PORT_DOWN_LOCK_RELEASE (R379): the port has been down for `LINK_DOWN_TMO`. -/
def execPortDownLockRelease (p : Fin 2) (s : State) : Res :=
  let l := s.link p
  let ms := Nat.max 1 (s.fld (Reg.LINK_DOWN_TMO p) Fld.LINK_DOWN_TMO_MS)
  finish (match l.downAt with
    | some t =>
      if !l.locksFreed && !s.linkUp p && decide (t + msTicks ms ≤ s.tick) then
        (s.setLink p { l with locksFreed := true }).ownerLost (p + 1) 3
      else s
    | none => s)

end Sys2Proof.Machine
end

