-- ==== Sys2Proof/Machine/Dma.lean ====
section
/-! DEFINITION. DMA channels and completion queues (14_dma_mailboxes, R353-R367) and the device's own `MEM_RD` / `MEM_WR` traffic (R91-R95). Marks and risks: log entries 32, 37. -/
namespace Sys2Proof.Machine

/-- The record of a DMA channel. -/
def State.ch (s : State) (c : Nat) : DmaCh := kvGet (fun _ => {}) s.chans c
def State.setCh (s : State) (c : Nat) (x : DmaCh) : State := { s with chans := kvSet (fun _ => {}) s.chans c x }

/-- The dual-homing mode (R100). -/
def State.dhMode (s : State) : Nat := s.fld Reg.LINK_DH_CTL Fld.LINK_DH_CTL_MODE

/-- The port of SINGLE mode: the only port that is up, else the one that alone has `DUALHOME`, else port A (R100). -/
def State.singlePort (s : State) : Nat :=
  let dual := fun p => (s.fld (Reg.LINK_NEG_RES p) Fld.LINK_NEG_RES_FEAT).testBit 4
  if s.linkUp 0 && s.linkUp 1 then (if dual 1 && !dual 0 then 1 else 0) else if s.linkUp 1 then 1 else 0

/-- The port of a serving code: 0 or 1 a port, 2 SINGLE, 4 or 5 MIRROR with that port (minus 4) active, 6 or 7 SINGLE after a failover to that port
(minus 6), which keeps serving until it falls in turn: the device never switches back by itself (R102). -/
def State.codePort (s : State) (v : Nat) : Nat :=
  if v = 2 then s.singlePort
  else if 6 ≤ v ∧ !s.linkUp (v % 2) ∧ s.linkUp (1 - v % 2) then 1 - v % 2
  else v % 2

/-- The port that serves a carrier's RT traffic (R100), from the code in force for the carrier. -/
def State.servePort (s : State) (c : Nat) : Nat := s.codePort (s.dh.serve.getD c 2)

/-- The port that serves the radio for space code 3 (R356, R100). -/
def State.servingPort (s : State) : Nat :=
  if s.dhMode = 2 then s.fld Reg.LINK_DH_CARMAP Fld.LINK_DH_CARMAP_PORT % 2
  else if s.dhMode = 0 then s.servePort 0
  else s.fld Reg.LINK_DH_CTL Fld.LINK_DH_CTL_ACTIVE_B

/-- Resolve a space code to 0 device, 1 port A, 2 port B (R356). -/
def State.resolveSpace (s : State) (code : Nat) : Nat := if code = 3 then 1 + s.servingPort else code

/-- The DMA regions of the device space (R356). -/
def dmaRegions : List (Nat × Nat) :=
  [(0x10000000, 0x11000000), (0x20000000, 0x223FFC00), (0x28000000, 0x29800000), (0x110000, 0x160000), (0x580000, 0x600000),
   (0x980000, 0xA00000)]

/-- The end of the region an address lies in. -/
def regionEnd (a : Nat) : Option Nat := (dmaRegions.find? (fun r => decide (r.1 ≤ a ∧ a < r.2))).map (·.2)

/-- A device range begins inside a region and ends beyond it (R357). -/
def rangeOver (space a len : Nat) : Bool :=
  if space = 0 then (match regionEnd a with | some e => decide (e < a + len) | none => false) else decide (2 ^ 64 < a + len)

/-- A device address with bits [63:32], or a device range that begins outside every region (R357). -/
def badDevice (space a : Nat) : Bool := space == 0 && (decide (2 ^ 32 ≤ a) || (regionEnd a).isNone)

/-- The port of a host space is not up, or lacks `MEMMASTER` (R357, R88). -/
def State.spaceDown (s : State) (space : Nat) : Bool := space != 0 && !s.linkUp (space - 1)
def State.noMaster (s : State) (space : Nat) : Bool :=
  space != 0 && !(s.fld (Reg.LINK_NEG_RES (space - 1)) Fld.LINK_NEG_RES_FEAT).testBit 6

/-- The start checks, in their order; 0 where all pass (R357). -/
def State.dmaCheck (s : State) (x : DmaCh) : Nat :=
  if x.src % 64 ≠ 0 ∨ x.dst % 64 ≠ 0 ∨ x.len % 64 ≠ 0 then 1
  else if x.len = 0 ∨ rangeOver x.sspace x.src x.len ∨ rangeOver x.dspace x.dst x.len then 2
  else if (x.sspace ≠ 0 ∧ x.dspace ≠ 0) ∨ badDevice x.sspace x.src ∨ badDevice x.dspace x.dst then 3
  else if s.spaceDown x.sspace ∨ s.spaceDown x.dspace then 4
  else if s.noMaster x.sspace ∨ s.noMaster x.dspace then 5
  else 0

/-! ## Host memory traffic -/

/-- The tags of `MEM_RD`s in use on a port, or not yet reusable (R91, R95). -/
def State.tagBusy (s : State) (p tag : Nat) : Bool :=
  s.chans.any (fun c => c.2.rds.any (fun m => m.port == p && m.tag == tag)) ||
  s.dma.quarantine.any (fun q => q.1 == p && q.2.1 == tag && decide (s.tick < q.2.2))

/-- The lowest free tag of a port. -/
def State.freeTag (s : State) (p : Nat) : Option Nat := (List.range 256).find? (fun t => !s.tagBusy p t)

/-- The two words of a 64-bit address. -/
def addrWords (a : Nat) : List Nat := [a % 2 ^ 32, a / 2 ^ 32 % 2 ^ 32]

/-- Bytes as little-endian 32-bit words. -/
def wordsOf : List Byte → List Nat
  | a :: b :: c :: d :: rest => leNat [a, b, c, d] :: wordsOf rest
  | [] => []
  | l => [leNat l]

/-- Issue one `MEM_RD` of a channel; a flush carries `FLUSH` (R91, R93) and waits in `flushTo` while the port has no free tag (R95). DESIGN CHOICE (log
entry 37): a flush carries `NBLK` = 1 and the address of the destination or of the record's slot; R93 gives neither. -/
def State.issueRead (s : State) (c p host off len : Nat) (flush : Bool) : State :=
  let x := { s.ch c with flushTo := none }
  match s.freeTag p with
  | none => if flush then s.setCh c { x with flushTo := some (p, host) } else s
  | some tag =>
    (s.setCh c { x with rds := x.rds ++ [⟨p, tag, off, len, 0, s.tick, flush⟩] }).sendBk p 0x11 1
      (tag * 2 ^ 24 + b2n flush * 2 ^ 23 + (if flush then 1 else len / 64)) (addrWords host)

/-- Issue reads while fewer than 16 are outstanding, a tag is free and source bytes remain; none crosses a 4 KiB boundary (R358). -/
def State.issueReads (s : State) (c : Nat) : Nat → State
  | 0 => s
  | n + 1 =>
    let x := s.ch c
    if 16 ≤ x.rds.length ∨ x.len ≤ x.next ∨ (s.freeTag (x.sspace - 1)).isNone then s
    else
      let host := x.src + x.next
      let k := Nat.min (4096 - host % 4096) (x.len - x.next)
      ((s.setCh c { x with next := x.next + k }).issueRead c (x.sspace - 1) host x.next k false).issueReads c n

/-- Issue what channels could not issue for want of a tag, in ascending channel order (R93, R358). -/
def State.retryReads (s : State) : State :=
  (List.range 16).foldl (fun t c =>
    let x := t.ch c
    match x.flushTo with
    | some (p, host) => t.issueRead c p host 0 0 true
    | none => if x.phase = .move ∧ x.sspace ≠ 0 then t.issueReads c 16 else t) s

/-- The completed prefix of a transfer (R359): every block before the first outstanding read has taken effect. -/
def DmaCh.prefix_ (x : DmaCh) : Nat := x.rds.foldl (fun m r => Nat.min m (r.off + r.got)) x.next

/-- Let go of a channel's outstanding reads: their tags stay unused for `LINK_CPL_TMO` once more (R95, R359). -/
def State.dropReads (s : State) (c : Nat) : State :=
  let x := s.ch c
  let q := x.rds.map (fun m => (m.port, m.tag, s.tick + usTicks (Nat.max 1 (s.fld (Reg.LINK_CPL_TMO m.port) Fld.LINK_CPL_TMO_US))))
  { s.setCh c { x with rds := [], flushTo := none } with dma := { s.dma with quarantine := q ++ s.dma.quarantine } }

/-! ## Completion queues -/

def State.cqSize (s : State) (q : Nat) : Nat :=
  2 ^ (Nat.min 12 (Nat.max 4 (s.fld (Reg.DMA_CQ_CFG q) Fld.DMA_CQ_CFG_LOG2SIZE)))
def State.cqHead (s : State) (q : Nat) : Nat := s.fld (Reg.DMA_CQ_HEAD q) Fld.DMA_CQ_HEAD_IDX
def State.cqTail (s : State) (q : Nat) : Nat := s.fld (Reg.DMA_CQ_TAIL q) Fld.DMA_CQ_TAIL_IDX

/-- Where a queue's ring lies: 0 shared memory, 1 or 2 host memory through port A or B (R362, R367). -/
def State.cqPlace (s : State) (q : Nat) : Nat := kvGet (fun _ => 0) s.dma.cqPort q

/-- Whether a queue can take a record now (R365). A queue in host memory behind a port without `MEMMASTER` takes none, since nothing outside the
negotiated result is sent (R88; DESIGN CHOICE, log entry 37: the rules name no status of a record that may not be sent). -/
def State.cqTakes (s : State) (q : Nat) : Bool :=
  s.bit (Reg.DMA_CQ_CFG q) Fld.DMA_CQ_CFG_EN && decide ((s.cqTail q + 65536 - s.cqHead q) % 65536 < s.cqSize q) &&
    (s.cqPlace q == 0 || (s.linkUp (s.cqPlace q - 1) && !s.noMaster (s.cqPlace q)))

/-- The eight words of a completion record (R363). -/
def recWords (x : DmaCh) (c : Nat) (r : CqRec) (phase : Bool) : List Nat :=
  [r.status * 2 ^ 24 + b2n phase * 2 ^ 23 + b2n x.sec * 2 ^ 22 + c * 65536 + x.utag, r.doneBytes] ++ addrWords r.tb ++
    addrWords r.failAddr ++ [r.rsrc * 16 + r.resp, 0]

/-- Write the record of a channel into its queue, slot `TAIL`, with the phase of the pass (R364, R366). -/
def State.writeRecord (s : State) (c : Nat) (r : CqRec) : State :=
  let x := s.ch c
  let q := x.cq
  let tail := s.cqTail q
  let size := s.cqSize q
  let phase := !(tail / size).testBit 0
  let ws := recWords x c r phase ++ List.replicate 8 0
  let base := s.rd64 (Reg.DMA_CQ_BASE q)
  let slot := base - base % 64 + (tail % size) * 64
  let s1 := s.setFld (Reg.DMA_CQ_TAIL q) Fld.DMA_CQ_TAIL_IDX ((tail + 1) % 65536)
  let w := setF (setF (s1.rd (Reg.DMA_STAT c)) Fld.DMA_STAT_LAST_STATUS r.status) Fld.DMA_STAT_CQ_FULL 0
  let s2 := s1.wr (Reg.DMA_STAT c) (setF w Fld.DMA_STAT_STATE 1)
  if s2.cqPlace q = 0 then
    (s2.stBytes (sharedMem + slot % 0x1000000) (ws.flatMap (natLE 4))).setCh c { x with phase := .written, rec_ := some r }
  else
    let p := s2.cqPlace q - 1
    let s3 := (s2.setCh c { x with phase := .flushRec, rec_ := some r }).sendBk p 0x10 5 c (addrWords slot ++ ws)
    s3.issueRead c p slot 0 0 true

/-- A channel's record is ready: it is written, or the channel waits in DONE_PENDING with event 0x8004 at most once per queue per 10 ms (R365). -/
def State.recordReady (s : State) (c : Nat) (r : CqRec) : State :=
  let x := s.ch c
  if s.cqTakes x.cq then s.writeRecord c r
  else
    let w := setF (setF (s.rd (Reg.DMA_STAT c)) Fld.DMA_STAT_STATE 2) Fld.DMA_STAT_CQ_FULL 1
    let s1 := (s.wr (Reg.DMA_STAT c) w).setCh c { x with phase := .pending, rec_ := some r, pendAt := s.dma.pendCount }
    { s1 with dma := { s1.dma with pendCount := s1.dma.pendCount + 1 } }.raiseLim 10 0x8004 x.cq

/-- The oldest channel that waits for a queue (R365). -/
def State.nextWaiting (s : State) (q : Nat) : Option Nat :=
  (List.range 16).foldl (fun best c =>
    let x := s.ch c
    if x.phase = .pending ∧ x.cq = q then
      (match best with
       | some b => if x.pendAt < (s.ch b).pendAt then some c else some b
       | none => some c)
    else best) none

/-- Space has appeared in a queue: waiting channels write their records in order (R365). -/
def State.drainQueue (s : State) (q : Nat) : Nat → State
  | 0 => s
  | n + 1 =>
    if s.cqTakes q then
      (match s.nextWaiting q with
       | some c =>
         (match (s.ch c).rec_ with
          | some r => (s.writeRecord c r).drainQueue q n
          | none => s)
       | none => s)
    else s

/-- A transfer ends: form its record, flush host writes on a port that is up, then write the record (R359, R366). -/
def State.dmaFinish (s : State) (c status done failAddr rsrc resp : Nat) : State :=
  let s1 := s.dropReads c
  let x := s1.ch c
  let r : CqRec := ⟨status, done, s.tb, failAddr, rsrc, resp⟩
  let s2 := (s1.setCh c { x with rec_ := some r }).wr (Reg.DMA_PROG c) (BitVec.ofNat 32 done)
  if x.dspace ≠ 0 ∧ 0 < done ∧ s2.linkUp (x.dspace - 1) then
    (s2.setCh c { x with rec_ := some r, phase := .flushData }).issueRead c (x.dspace - 1) x.dst 0 0 true
  else s2.recordReady c r

/-! ## Starting (R354-R357) -/

/-- Copy the shadow set to the active set and begin, or form the record of the first failing start check (R354, R357). -/
def State.dmaBegin (s : State) (c : Nat) (sec : Bool) : State :=
  let cfg := s.rd (Reg.DMA_CFG c)
  let x : DmaCh :=
    { phase := .move, src := s.rd64 (Reg.DMA_SRC c), dst := s.rd64 (Reg.DMA_DST c), len := (s.rd (Reg.DMA_LEN c)).toNat
      sspace := s.resolveSpace (getF cfg Fld.DMA_CFG_SSPACE), dspace := s.resolveSpace (getF cfg Fld.DMA_CFG_DSPACE)
      cq := getF cfg Fld.DMA_CFG_CQ, notify := getF cfg Fld.DMA_CFG_NOTIFY == 1, utag := getF cfg Fld.DMA_CFG_UTAG, sec := sec, began := s.tick }
  let w := setF (setF (s.rd (Reg.DMA_STAT c)) Fld.DMA_STAT_STATE 1) Fld.DMA_STAT_SEC (b2n sec)
  let s1 := ((s.wr (Reg.DMA_STAT c) w).setCh c x).wr (Reg.DMA_PROG c) 0
  match s1.dmaCheck x with
  | 0 => if x.sspace ≠ 0 then s1.issueReads c 16 else s1
  | st => s1.recordReady c ⟨st, 0, s.tb, 0, 0, 0⟩

/-- A start of channel `c`: whether it is accepted, and the state (R354). -/
def State.dmaStart (s : State) (c : Nat) (sec : Bool) : Bool × State :=
  let x := s.ch c
  if x.phase = .idle then (true, s.dmaBegin c sec)
  else if s.bit (Reg.DMA_STAT c) Fld.DMA_STAT_SHADOW_VALID then (false, s)
  else (true, (s.setFld (Reg.DMA_STAT c) Fld.DMA_STAT_SHADOW_VALID 1).setCh c { x with nextSec := sec })

/-- A write of the shadow set: refused while `SHADOW_VALID` where it would change it (R353, R25). -/
def dmaShadowWrite (a c : Nat) (v : Word) (s : State) : Nat × State :=
  if s.bit (Reg.DMA_STAT c) Fld.DMA_STAT_SHADOW_VALID then (if s.plainValue a v = s.rd a then 0 else 7, s)
  else (0, s.plainWrite a v)

/-! ## Moving data -/

/-- The requester of a channel's device-side accesses: ID 56 + channel, with the secure state of the start (R18). -/
def State.chanReq (s : State) (c : Nat) : Req := ⟨56 + c, (s.ch c).sec⟩

/-- Copy device blocks one by one until one fails: the state, bytes done, and the failing response with its address (R358, R359). -/
def State.copyBlocks (s : State) (r : Req) (src dst done : Nat) : Nat → State × Nat × Option (Nat × Nat)
  | 0 => (s, done, none)
  | n + 1 =>
    match s.blockRead r (src + done) 64 with
    | (0, bs, s1) =>
      (match s1.blockWrite r (dst + done) bs with
       | (0, s2) => ((s2.pmuCount 44 0x01).pmuCount 44 0x02).copyBlocks r src dst (done + 64) n
       | (code, s2) => (s2, done, some (code, dst + done)))
    | (code, _, s1) => (s1, done, some (code, src + done))

/-- Read device blocks until one fails. -/
def State.readBlocks (s : State) (r : Req) (src : Nat) : Nat → List Byte → State × List Byte × Option (Nat × Nat)
  | 0, acc => (s, acc, none)
  | n + 1, acc =>
    match s.blockRead r src 64 with
    | (0, bs, s1) => (s1.pmuCount 44 0x01).readBlocks r (src + 64) n (acc ++ bs)
    | (code, _, s1) => (s1, acc, some (code, src))

/-- Send bytes to host memory in `MEM_WR`s of at most 4 096 bytes that cross no 4 KiB boundary (R358). -/
def State.hostWrites (s : State) (c p dst : Nat) (bs : List Byte) : Nat → State
  | 0 => s
  | n + 1 =>
    if bs.isEmpty then s
    else
      let k := Nat.min (4096 - dst % 4096) bs.length
      ((s.sendBk p 0x10 (1 + k / 16) c (addrWords dst ++ wordsOf (bs.take k))).pmuCount 44 0x02 (k / 64)).hostWrites c p (dst + k) (bs.drop k) n

/-- Blocks that a channel can have moved since it began: one per CCLK cycle, three per four ticks (R358). -/
def State.dmaCould (s : State) (x : DmaCh) : Nat := Nat.min (x.len / 64) ((s.tick - x.began) * 3 / 4)

/-- Blocks a transfer of a device source has moved when it is cut off: the spec gives no progress, so it is a free value within the rate (log entry 32). -/
def State.dmaProgress (s : State) (x : DmaCh) : Nat × State :=
  let (v, t) := s.takeFree
  (v % (s.dmaCould x + 1), t)

/-- The data of the first `n` blocks of a device source moves: the state, the bytes that have taken effect, the failing response with its address (R358, R359). -/
def State.dmaMove (s : State) (c n : Nat) : State × Nat × Option (Nat × Nat) :=
  let x := s.ch c
  if x.dspace = 0 then s.copyBlocks (s.chanReq c) x.src x.dst 0 n
  else
    let (s1, bs, fail) := s.readBlocks (s.chanReq c) x.src n []
    (s1.hostWrites c (x.dspace - 1) x.dst bs (bs.length + 1), bs.length, fail)

/-- An abort (R360): a running transfer ends as ABORTED; a queued shadow set is discarded. A transfer whose data has all moved ends as it would. -/
def State.dmaAbort (s : State) (c : Nat) : State :=
  let s1 := s.setFld (Reg.DMA_STAT c) Fld.DMA_STAT_SHADOW_VALID 0
  let x := s1.ch c
  if x.phase ≠ .move then s1
  else if x.sspace ≠ 0 then s1.dmaFinish c 6 x.prefix_ (x.src + x.prefix_) 0 0
  else
    let (n, s2) := s1.dmaProgress x
    match s2.dmaMove c n with
    | (s3, done, some (code, a)) => s3.dmaFinish c 3 done a 1 code
    | (s3, done, none) => s3.dmaFinish c 6 done (x.dst + done) 0 0

/-- A write of `DMA_GO`: the abort first, then the start (R354, R360). -/
def dmaGoWrite (c : Nat) (sec : Bool) (v : Word) (s : State) : Nat × State :=
  if c = 15 ∧ s.sec.ch15 then (7, s) else
  let s1 := if getF v Fld.DMA_GO_ABORT = 1 then s.dmaAbort c else s
  if getF v Fld.DMA_GO_START = 1 then
    (match s1.dmaStart c sec with
     | (true, t) => (0, t)
     | (false, t) => (7, t))
  else (0, s1)

/-- DMA_START (R354): a write of `DMA_GO.START`. -/
def execDmaStart (r : Req) (c : Fin 16) (v : Word) (s : State) : Res :=
  finish (s.writeBy r (Reg.DMA_GO c) (fun t => dmaGoWrite c (t.secureReq r) (setF v Fld.DMA_GO_START 1) t))

/-- DMA_ABORT (R360): a write of `DMA_GO.ABORT`. -/
def execDmaAbort (r : Req) (c : Fin 16) (s : State) : Res :=
  finish (s.writeBy r (Reg.DMA_GO c) (dmaGoWrite c (s.secureReq r) (setF 0 Fld.DMA_GO_ABORT 1)))

/-- DMA_TRANSFER_END (R359): the last block, or the first failure; `ecc` is the offset of a device source block with an uncorrectable ECC error, if
one occurs. A transfer ends no sooner than its rate lets it (R358); one from host memory once all its data has arrived. -/
def execDmaTransferEnd (c : Fin 16) (ecc : Option Nat) (s : State) : Res :=
  let x := s.ch c
  finish (
    if x.phase ≠ .move then s
    else if x.sspace ≠ 0 then
      (if x.next = x.len ∧ x.rds.isEmpty then s.dmaFinish c 0 x.len 0 0 0 else s)
    else
      let cut := match ecc with | some o => Nat.min (o - o % 64) x.len | none => x.len
      if s.dmaCould x < cut / 64 then s
      else
        match s.dmaMove c (cut / 64) with
        | (s1, done, some (code, a)) => s1.dmaFinish c 3 done a 1 code
        | (s1, done, none) => if cut < x.len then s1.dmaFinish c 7 done (x.src + done) 0 0 else s1.dmaFinish c 0 done 0 0 0)

/-- A port is up again: the host-memory queues on it take records (R365). -/
def State.drainPort (s : State) (p : Nat) : State :=
  (List.range 4).foldl (fun t q => if t.cqPlace q = p + 1 then t.drainQueue q 16 else t) s

/-- DMA_RECORD_WRITTEN (R366): after the record and its flush, the flags of source 0x10 + channel, events 0x8001 and 0x8002, and the queued shadow set. -/
def execDmaRecordWritten (c : Fin 16) (s : State) : Res :=
  let x := s.ch c
  finish (
    if x.phase ≠ .written then s
    else
      let st := match x.rec_ with | some r => r.status | none => 0
      let s1 := (s.evSource (0x10 + c)).setCh c { x with phase := .idle, rec_ := none }
      let s2 := s1.setFld (Reg.DMA_STAT c) Fld.DMA_STAT_STATE 0
      let s3 := if x.notify then s2.raise 0x8001 c else s2
      let s4 := if st ≠ 0 then s3.raise 0x8002 c else s3
      if s4.bit (Reg.DMA_STAT c) Fld.DMA_STAT_SHADOW_VALID then
        (s4.setFld (Reg.DMA_STAT c) Fld.DMA_STAT_SHADOW_VALID 0).dmaBegin c x.nextSec
      else s4)

/-- A write of `DMA_CQ_HEAD` (R364): an impossible index is stored as `TAIL`; waiting channels then write their records (R365). -/
def cqHeadWrite (q : Nat) (v : Word) (s : State) : Nat × State :=
  let h := getF v Fld.DMA_CQ_HEAD_IDX
  let h' := if (s.cqTail q + 65536 - h) % 65536 ≤ s.cqSize q then h else s.cqTail q
  (0, (s.setFld (Reg.DMA_CQ_HEAD q) Fld.DMA_CQ_HEAD_IDX h').drainQueue q 16)

/-- A write of `DMA_CQ_CFG` (R367). -/
def cqCfgWrite (q : Nat) (v : Word) (s : State) : Nat × State :=
  let a := Reg.DMA_CQ_CFG q
  let en := s.bit a Fld.DMA_CQ_CFG_EN
  if en && (s.wouldChange a v Fld.DMA_CQ_CFG_LOC || s.wouldChange a v Fld.DMA_CQ_CFG_LOG2SIZE) && getF v Fld.DMA_CQ_CFG_EN == 1 then (7, s)
  else if en && getF v Fld.DMA_CQ_CFG_EN == 0 then (0, s.setFld a Fld.DMA_CQ_CFG_EN 0)
  else
    let s1 := s.plainWrite a v
    if !en && getF v Fld.DMA_CQ_CFG_EN == 1 then
      let s2 := (s1.setFld (Reg.DMA_CQ_HEAD q) Fld.DMA_CQ_HEAD_IDX 0).setFld (Reg.DMA_CQ_TAIL q) Fld.DMA_CQ_TAIL_IDX 0
      let place := s.resolveSpace (getF v Fld.DMA_CQ_CFG_LOC)
      (0, { s2 with dma := { s2.dma with cqPort := kvSet (fun _ => 0) s2.dma.cqPort q place } }.drainQueue q 16)
    else (0, s1)

/-- A write of `DMA_CQ_BASE`: refused while `EN` = 1 where it would change (R367). -/
def cqBaseWrite (a q : Nat) (v : Word) (s : State) : Nat × State :=
  if s.bit (Reg.DMA_CQ_CFG q) Fld.DMA_CQ_CFG_EN then (if s.plainValue a v = s.rd a then 0 else 7, s) else (0, s.plainWrite a v)

/-- DMA_CQ_HEAD_WRITE (R364). -/
def execDmaCqHeadWrite (r : Req) (q : Fin 4) (v : Word) (s : State) : Res :=
  finish (s.writeBy r (Reg.DMA_CQ_HEAD q) (cqHeadWrite q v))

/-- DMA_CQ_ENABLE (R367): a write of `DMA_CQ_CFG` that sets or clears `EN`. -/
def execDmaCqEnable (r : Req) (q : Fin 4) (v : Word) (s : State) : Res :=
  finish (s.writeBy r (Reg.DMA_CQ_CFG q) (cqCfgWrite q v))

/-! ## Completions from the host (R92-R95) -/

/-- The channel and read that a tag of a port belongs to. -/
def State.findRead (s : State) (p tag : Nat) : Option (Nat × MemRd) :=
  (List.range 16).findSome? (fun c => ((s.ch c).rds.find? (fun m => m.port == p && m.tag == tag)).map (fun m => (c, m)))

/-- Remove a read from its channel. -/
def State.dropRead (s : State) (c p tag : Nat) : State :=
  let x := s.ch c
  s.setCh c { x with rds := x.rds.filter (fun m => !(m.port == p && m.tag == tag)) }

/-- A flush read has completed, or failed: the record is written after the first flush, notified after the second (R93, R366). Where the second fails, the
transfer still ends with REMOTE_ERR (R92, R95): DESIGN CHOICE (log entry 37), the record that is already sent stays and the new status stands in
`DMA_STAT.LAST_STATUS` and in the notification. -/
def State.flushDone (s : State) (c : Nat) (ok : Bool) (status : Nat) : State :=
  let x := s.ch c
  match x.phase, x.rec_ with
  | .flushData, some r =>
    s.recordReady c (if ok then r else { r with status := 5, rsrc := 2, resp := status, failAddr := x.dst })
  | .flushRec, some r =>
    if ok then s.setCh c { x with phase := .written }
    else (s.setFld (Reg.DMA_STAT c) Fld.DMA_STAT_LAST_STATUS 5).setCh c { x with phase := .written, rec_ := some { r with status := 5, rsrc := 2, resp := status } }
  | _, _ => s

/-- Write received blocks to the device destination until one fails (R359). -/
def State.sinkBlocks (s : State) (r : Req) (dst : Nat) : Nat → List Byte → State × Option (Nat × Nat)
  | 0, _ => (s, none)
  | n + 1, bs =>
    match s.blockWrite r dst (bs.take 64) with
    | (0, s1) => ((s1.pmuCount 44 0x01).pmuCount 44 0x02).sinkBlocks r (dst + 64) n (bs.drop 64)
    | (code, s1) => (s1, some (code, dst))

/-- The effect of a completion on the transfer or flush that issued the read (R92, R93). -/
def State.readCompletion (s : State) (p tag status : Nat) (last : Bool) (offs : Nat) (data : List Byte) : State :=
  match s.findRead p tag with
  | none => s
  | some (c, m) =>
    if m.flush then (s.dropRead c p tag).flushDone c (status == 0 && data.isEmpty) status
    else
      let x := s.ch c
      let got := m.got
      let bad := status != 0 || decide (offs * 64 ≠ got) || decide (data.length % 64 ≠ 0) || decide (m.len < got + data.length) ||
        (last && decide (got + data.length ≠ m.len))
      if bad then s.dmaFinish c 5 x.prefix_ (x.src + x.prefix_) 2 status
      else
        match s.sinkBlocks (s.chanReq c) (x.dst + m.off + got) (data.length / 64) data with
        | (s1, some (code, a)) =>
          let d := { x with rds := x.rds.map (fun (k : MemRd) => if k.port = p ∧ k.tag = tag then { m with got := a - x.dst - m.off } else k) }.prefix_
          s1.dmaFinish c 3 d (x.dst + d) 1 code
        | (s1, none) =>
          let m' := { m with got := got + data.length }
          let s2 := s1.setCh c { x with rds := x.rds.map (fun k => if k.port = p ∧ k.tag = tag then m' else k) }
          let s3 := if last then (s2.dropRead c p tag).issueReads c 16 else s2
          s3.wr (Reg.DMA_PROG c) (BitVec.ofNat 32 (s3.ch c).prefix_)

/-- CPL_TIMEOUT (R95): a `MEM_RD` without its last completion after `LINK_CPL_TMO`. -/
def execCplTimeout (p : Fin 2) (tag : BitVec 8) (s : State) : Res :=
  finish (match s.findRead p tag.toNat with
    | none => s
    | some (c, m) =>
      if m.at_ + usTicks (Nat.max 1 (s.fld (Reg.LINK_CPL_TMO p) Fld.LINK_CPL_TMO_US)) ≤ s.tick then
        let s1 := (s.flag (Reg.LINK_ERR p) Fld.LINK_ERR_CPL_TMO).raise 0x3015 p
        let x := s1.ch c
        if m.flush then (s1.dropReads c).flushDone c false 0
        else s1.dmaFinish c 5 x.prefix_ (x.src + x.prefix_) 2 0
      else s)

/-- A port goes down: every transfer whose link traffic uses it ends with LINK_DOWN (R99, R359). -/
def State.dmaLinkDown (s : State) (p : Nat) : State :=
  (List.range 16).foldl (fun t c =>
    let x := t.ch c
    if x.phase = .move ∧ (x.sspace = p + 1 ∨ x.dspace = p + 1) then
      let (n, t) := if x.sspace ≠ 0 then (x.prefix_ / 64, t) else t.dmaProgress x
      t.dmaFinish c 4 (64 * n) ((if x.sspace ≠ 0 then x.src else x.dst) + 64 * n) 2 0
    else if x.phase = .flushData ∧ x.dspace = p + 1 then
      (match x.rec_ with
       | some r => (t.dropReads c).recordReady c { r with status := 4, rsrc := 2 }
       | none => t)
    else if x.phase = .flushRec ∧ t.cqPlace x.cq = p + 1 then
      (match x.rec_ with
       | some r => (t.dropReads c).recordReady c r
       | none => t)
    else t) s

/-- Whether an active transfer is writing into the address range (R361). -/
def State.dmaWriting (s : State) (lo hi : Nat) : Bool :=
  (List.range 16).any (fun c =>
    let x := s.ch c
    decide (x.phase = .move ∧ x.dspace = 0 ∧ x.dst < hi ∧ lo < x.dst + x.len))

end Sys2Proof.Machine
end

