-- ==== Sys2Proof/Machine/LinkDown.lean ====
section
/-! DEFINITION. What a port's fall takes with it (R99), the end of a secure session (R106), and failover triggers (R101). Marks and risks: log entries 31, 32. -/
namespace Sys2Proof.Machine

/-- The code that was in force for a carrier at a past time (R102: the port serving at a symbol's start boundary). -/
def State.serveCodeAt (s : State) (c : Nat) (t : Th) : Nat :=
  match (s.dh.past.filter (fun e => e.1 == c && decide (t < e.2.1))).getLast? with
  | some e => e.2.2
  | none => s.dh.serve.getD c 2

/-- Carriers served by a port, as a mask. -/
def State.carsOf (s : State) (p : Nat) : Nat :=
  (List.range 8).foldl (fun m c => if s.servePort c = p then m + 2 ^ c else m) 0

/-- The serving code of a carrier while its failover to `p` (2: to the other port) is pending: in SINGLE the port that served it, which keeps it until
the boundary (R101); the other modes name their port already. -/
def State.pendingCode (s : State) (cars p c : Nat) : Nat :=
  let v := s.dh.serve.getD c 2
  if cars.testBit c && (v == 2 || decide (6 ≤ v)) then (if p = 2 then s.servePort c else 1 - p) else v

/-- Trigger a failover of carriers to a port (R101): it takes effect at each carrier's first symbol boundary at least 1 µs later. -/
def State.triggerFailover (s : State) (cars p : Nat) : State :=
  if cars = 0 ∨ s.dh.failover.isSome then s
  else { s with dh := { s.dh with failover := some ⟨s.tick, cars, p, false⟩, serve := (List.range 8).map (s.pendingCode cars p) } }

/-- `LINK_STATUS.ROLE` of both ports from the carriers they serve (R100). -/
def State.updateRole (s : State) : State :=
  (List.range 2).foldl (fun t p =>
    let m := t.carsOf p
    let role := if !t.linkUp p then 0
      else if t.dhMode = 2 then (if m = 0 then 2 else 3) else if m = 0 then 2 else 1
    t.setFld (Reg.LINK_STATUS p) Fld.LINK_STATUS_ROLE role) s

/-- An uplink packet that a port no longer has to send (R99, R127). -/
def UlPkt.dropPort (p : Nat) (u : UlPkt) : UlPkt := { u with ports := setBitN u.ports p false }

/-- A port leaves OPERATIONAL or STALLED for the state `st` (R99): replay buffers, credits and queued UL packets are discarded, DMA transfers end,
the session closes, event 0x3011; with `FO_EN` the carriers it served fail over (R101). -/
def State.linkDown (s : State) (p st : Nat) : State :=
  if !s.linkUp p then s.setFld (Reg.LINK_STATUS p) Fld.LINK_STATUS_LSTATE st
  else
    let cars := s.carsOf p
    let s1 := s.setFld (Reg.LINK_STATUS p) Fld.LINK_STATUS_LSTATE st
    let w := setF (setF (s1.rd (Reg.LINK_STATUS p)) Fld.LINK_STATUS_VER 0) Fld.LINK_STATUS_ROLE 0
    let s2 := (s1.wr (Reg.LINK_STATUS p) w).sessionEnd p
    let l := s2.link p
    let s3 := s2.setLink p
      { l with txSeq := 0, unacked := [], waiting := [], replays := 0, rxSeq := 255, nakSent := false, credits := 0, rtRx := [], rtTx := []
               downAt := some s.tick, locksFreed := false, hs := none, exch := none }
    let s4 := { s3 with
      ulq := (s3.ulq.map (UlPkt.dropPort p)).filter (fun u => u.ports != 0)
      ulJobs := (s3.ulJobs.map (fun (j : UlJob) => { j with ports := setBitN j.ports p false })).filter (fun j => j.ports != 0) }
    let s5 := ((s4.setFld (Reg.LINK_SEC_STAT p) Fld.LINK_SEC_STAT_HS_BUSY 0).dmaLinkDown p).raise 0x3011 p
    let s6 := if s5.bit Reg.LINK_DH_CTL Fld.LINK_DH_CTL_FO_EN && s5.linkUp (1 - p) then
        s5.triggerFailover cars (1 - p) else s5
    s6.updateRole

end Sys2Proof.Machine
end

