-- ==== Sys2Proof/Machine/LaneOps.lean ====
section
/-! DEFINITION. Training and relief primitives of the lanes (02_lanes): states and attempts (R49, R50), roles, maps, starting negotiation. Marks and risks: log entries 5, 29. -/
namespace Sys2Proof.Machine

/-- Event `UNIT` of a lane: 16 × port + physical lane (log entry 5). -/
def laneUnit (p k : Nat) : Nat := 16 * p + k

/-- The nine physical lanes. -/
def nine : List Nat := [0, 1, 2, 3, 4, 5, 6, 7, 8]

/-- A lane's state (R49): LANE_LSTAT.LSTATE. -/
def State.lst (s : State) (p k : Nat) : Nat := s.fld (Reg.LANE_LSTAT p k) Fld.LANE_LSTAT_LSTATE

/-- Put a lane in a state, starting that state's timeout. -/
def State.setLst (s : State) (p k st : Nat) : State :=
  (s.setFld (Reg.LANE_LSTAT p k) Fld.LANE_LSTAT_LSTATE st).setLane p k { s.lane p k with stateAt := s.tick }

/-- `LANE_PSTAT.PSTATE`: 0 OFF, 1 TRAINING, 2 UP, 3 STALLED, 4 FAIL. -/
def State.pst (s : State) (p : Nat) : Nat := s.fld (Reg.LANE_PSTAT p) Fld.LANE_PSTAT_PSTATE
def State.setPst (s : State) (p st : Nat) : State := s.setFld (Reg.LANE_PSTAT p) Fld.LANE_PSTAT_PSTATE st

/-- UP or STALLED: the port carries traffic (R60, R98). -/
def State.portUp (s : State) (p : Nat) : Bool := s.pst p == 2 || s.pst p == 3

/-- The physical lane that carries logical lane `k`: nibble k of a PMAP register. -/
def State.pmap (s : State) (a k : Nat) : Nat := bitsAt (s.rd a).toNat (4 * k) 4
def State.setPmap (s : State) (a k ph : Nat) : State := s.setFld a ⟨4 * k, 4⟩ ph

/-- All taps of a lane at preset (R54): the reset value of LANE_FFE. -/
def State.presetTaps (s : State) (p k : Nat) : State := s.wr (Reg.LANE_FFE p k) (resetWord (Reg.LANE_FFE p k))

/-- The logical lane that a physical lane carries in the transmit direction (R46, R51, R69): 0-7, 0xF the relief lane, 0xE retired. -/
def State.txLane (s : State) (p ph : Nat) : Nat :=
  match (List.range 8).find? (fun k => s.pmap (Reg.LANE_PMAP_TX p) k == ph) with
  | some k => k
  | none => if s.fld (Reg.LANE_PSTAT p) Fld.LANE_PSTAT_RELIEF_TX = ph then 0xF else 0xE

/-- The training control word that the device sends on a lane (R52). It drives all its lanes. -/
def State.trainWord (s : State) (p k : Nat) : Nat :=
  let l := s.lane p k
  trainingWord (s.lst p k) (s.txLane p k) l.req l.sts (b2n l.rxRdy) l.reqSeq (l.ackSeq.getD 0) ((s.port p).move.getD 0xF) 8

/-- Whether a lane sends training codewords (R49): DETECT to DESKEW. -/
def State.inTraining (s : State) (p k : Nat) : Bool := decide (1 ≤ s.lst p k) && decide (s.lst p k ≤ 6)

/-- Put out the control words of a port that are not those that `s0` sent (R52). -/
def State.sayWords (s : State) (p : Nat) (s0 : State) : State :=
  nine.foldl (fun (t : State) k =>
    if s.inTraining p k && (!s0.inTraining p k || s.trainWord p k != s0.trainWord p k) then t.emit (.train p k (s.trainWord p k)) else t) s

/-- Send a back-channel command for one superframe, after the ones still being sent and a codeword of NONE (R63). -/
def State.sendBack (s : State) (p cmd arg : Nat) : State :=
  let q := s.port p
  let keep := q.sending.filter (fun x => decide (s.tick < x.2.2 + s.superframeTicks p + s.codewordTicks p))
  let start := match keep.getLast? with
    | some x => x.2.2 + s.superframeTicks p + s.codewordTicks p
    | none => s.tick
  (s.setPort p { q with sending := keep ++ [(cmd, arg, start)] }).emit (.back p cmd arg)

/-- Whether a received back-channel command is accepted (R63): four consecutive correctable codewords of one lane, and a new instance needs a codeword
of NONE before it. -/
def State.backTaken (s : State) (p : Nat) (b : BackObs) : Bool := decide (4 ≤ b.run) && (b.fresh || !(s.port p).backSeen)

/-- The device's next request to the far transmitter (R53, R55): its own search is internal, so the request is a free value (log entry 2). -/
def State.nextReq (s : State) (p k : Nat) : State :=
  let (v, t) := s.takeFree
  let l := t.lane p k
  t.setLane p k { l with req := v % 1024, reqSeq := (l.reqSeq + 1) % 256 }

/-- Every lane of a port in DETECT, ready for an attempt (R49, R50). `MARGIN_LOW` clears on a retrain. -/
def State.toDetect (s : State) (p : Nat) : State :=
  nine.foldl (fun t k =>
    let w := setF (setF (t.rd (Reg.LANE_LSTAT p k)) Fld.LANE_LSTAT_LSTATE 1) Fld.LANE_LSTAT_ALIGNED 0
    let w := setF (setF (setF w Fld.LANE_LSTAT_MARGIN_LOW 0) Fld.LANE_LSTAT_POL_INV 0) Fld.LANE_LSTAT_LLANE_RX 0xF
    (t.wr (Reg.LANE_LSTAT p k) w).setLane p k { stateAt := t.tick }) s

/-- Train a port: all nine lanes in DETECT, no attempt yet, transmit map the identity with lane 8 as relief (R49, R51). -/
def State.trainLanes (s : State) (p : Nat) : State :=
  let s1 := (s.toDetect p).setPst p 1
  let s2 := (s1.wr (Reg.LANE_PMAP_TX p) (resetWord (Reg.LANE_PMAP_TX p))).wr (Reg.LANE_PMAP_RX p) (resetWord (Reg.LANE_PMAP_RX p))
  let w := setF (setF (s2.rd (Reg.LANE_PSTAT p)) Fld.LANE_PSTAT_RELIEF_TX 8) Fld.LANE_PSTAT_RELIEF_RX 0xF
  let w := setF (setF w Fld.LANE_PSTAT_RELIEF_BUSY_TX 0) Fld.LANE_PSTAT_RELIEF_BUSY_RX 0
  let w := setF (setF w Fld.LANE_PSTAT_PERMUTED 0) Fld.LANE_PSTAT_REVERSED 0
  (s2.wr (Reg.LANE_PSTAT p) w).setPort p { s2.port p with attempts := 0, attemptAt := none, readyAt := none, farCap := 8, polSeen := false, rxRelief := none, txRelief := none, emergency := none, beacon := false, move := none, deskew := none, sending := [], backSeen := false }

/-- Training as `EN` starts it: `TRAIN_TRY` counts the attempts from here (R49). -/
def State.startTraining (s : State) (p : Nat) : State :=
  (nine.foldl (fun (t : State) k => t.setFld (Reg.LANE_LSTAT p k) Fld.LANE_LSTAT_TRAIN_TRY 0) s).trainLanes p

/-- The port goes down and retrains (R61, R81, R42, R86); `TRAIN_TRY` counts on. -/
def State.retrain (s : State) (p : Nat) : State := (s.linkDown p 0).trainLanes p

/-- A failed attempt (R50): the lanes return to DETECT for the next of at most three, or the port state is FAIL with event 0x3002. DESIGN CHOICE (log
entry 29): the next attempt keeps the transmit map and `RELIEF_TX` that a `MOVE` of the failed one has changed; R51 speaks of first training only. -/
def State.attemptFails (s : State) (p : Nat) : State :=
  let q := s.port p
  let s1 := s.setPort p { q with attemptAt := none, readyAt := none, move := none }
  if 3 ≤ q.attempts then
    ((nine.foldl (fun t k => t.setLst p k 8) s1).setPst p 4).raise 0x3002 p
  else s1.toDetect p

/-- A retired lane that trains alone fails (R70): it stays retired, its receiver not aligned where that was retired; event 0x3002. -/
def State.aloneFails (s : State) (p k : Nat) : State :=
  let w := setF (s.rd (Reg.LANE_LSTAT p k)) Fld.LANE_LSTAT_LSTATE 9
  let w := if (s.lane p k).rxRetired then setF (setF w Fld.LANE_LSTAT_ALIGNED 0) Fld.LANE_LSTAT_LLANE_RX 0xE else w
  ((s.wr (Reg.LANE_LSTAT p k) w).setLane p k { s.lane p k with alone := false, stateAt := s.tick }).raise 0x3002 (laneUnit p k)

/-- Whether a lane's commas fit the deskew buffer as it was fixed at DESKEW (R59): not later than its depth after the earliest lane of then, and not
earlier than the 128 lane words that the buffer takes; a lane word is 32 symbols. -/
def State.fitsDeskew (s : State) (p k : Nat) : Bool :=
  match (s.port p).deskew with
  | none => true
  | some (base, depth) =>
    let d := ((s.lane p k).commaAt + superframeSymbols - base) % superframeSymbols
    decide (d ≤ 32 * depth) || decide (superframeSymbols - d ≤ 32 * (128 - depth))

/-- A `NEG` packet (R84): operation, payload bytes 8-31. The spec gives `TRY` no value: it is a free value (log entry 2). -/
def State.sendNeg (s : State) (p op : Nat) (payload : List Nat) : State :=
  let (v, s1) := s.takeFree
  s1.sendBk p 0x17 2 (op * 2 ^ 28 + v % 16 * 2 ^ 24) payload

/-- The payload of an OFFER or ACCEPT (R84). -/
def negPayload (vset lanes rates feat comp credit : Nat) : List Nat :=
  [vset + lanes * 256 + rates * 65536, feat, comp, credit, 0, 0]

/-- Send the OFFER of a port from its registers (R84); the device advertises 8 192 credit units (R82). -/
def State.sendOffer (s : State) (p : Nat) : State :=
  let c := s.rd (Reg.LINK_CTL p)
  (s.setLink p { s.link p with offerAt := s.tick }).sendNeg p 1 (negPayload (getF c Fld.LINK_CTL_VSET_OFFER)
    (if getF c Fld.LINK_CTL_LANES8 = 1 then 8 else 4) (getF c Fld.LINK_CTL_RATE_OFFER)
    (s.fld (Reg.LINK_FEAT_OFFER p) Fld.LINK_FEAT_OFFER_FEAT) (getF c Fld.LINK_CTL_COMP_OFFER) 8192)

/-- Negotiation starts on a port that is UP (R84): `LSTATE` NEG and the first OFFER. A result wanted by a rate change is kept (R86). -/
def State.startNeg (s : State) (p : Nat) : State :=
  let l := s.link p
  let s1 := s.setLink p
    { l with negAt := s.tick, peerOffer := none, ownAccept := none, peerAccept := none, rejects := 0, txSeq := 0, unacked := [], waiting := []
             replays := 0, rxSeq := 255, nakSent := false, credits := 0, discardSf := none }
  (s1.setFld (Reg.LINK_STATUS p) Fld.LINK_STATUS_LSTATE 1).sendOffer p

/-- Logical lanes the trained port carries: 8, or 4 when the far end drives four (R56). -/
def State.nLogical (s : State) (p : Nat) : Nat := if (s.port p).farCap = 4 then 4 else 8

/-- The aligned lane in READY or DESKEW that the receiver sees carrying logical lane `k`. -/
def State.rxCarrier (s : State) (p k : Nat) : Option Nat :=
  nine.find? (fun ph => (s.lst p ph == 5 || s.lst p ph == 6) && s.fld (Reg.LANE_LSTAT p ph) Fld.LANE_LSTAT_LLANE_RX == k &&
    s.bit (Reg.LANE_LSTAT p ph) Fld.LANE_LSTAT_ALIGNED)

/-- Whether every logical lane the port needs has a READY lane (R56). -/
def State.lanesSuffice (s : State) (p : Nat) : Bool :=
  (List.range (s.nLogical p)).all (fun k => (s.rxCarrier p k).isSome)

/-- The lane's receiver runs in traffic: it is UP, or only its transmitter has been retired (R67, R70). -/
def State.rxRuns (s : State) (p k : Nat) : Bool := s.lst p k == 7 || (s.lst p k == 9 && !(s.lane p k).rxRetired)

/-- The lanes of a port enter DESKEW (R49). -/
def State.toDeskew (s : State) (p : Nat) : State :=
  nine.foldl (fun t k => if t.lst p k = 5 then t.setLst p k 6 else t) s

/-- A lane enters READY (R49): the first one starts the 2 ms of R49; when all nine (or logical lanes 0-3 of a four-lane far end) are READY the port goes to
DESKEW. A lane that trains alone is deskewed into the buffer depth already set and becomes the relief lane (R70, R59); one that does not fit fails. -/
def State.laneReady (s : State) (p k : Nat) : State :=
  let s1 := s.setLst p k 5
  if (s1.lane p k).alone && (s1.lane p k).rxRetired && !s1.fitsDeskew p k then s1.aloneFails p k
  else if (s1.lane p k).alone then
    let s2 := ((s1.setLst p k 7).setLane p k { stateAt := s.tick, commaAt := (s1.lane p k).commaAt }).setFld (Reg.LANE_LSTAT p k) Fld.LANE_LSTAT_ROLE 1
    let l := s1.lane p k
    let s4 := if l.rxRetired then
        (s2.setFld (Reg.LANE_LSTAT p k) Fld.LANE_LSTAT_LLANE_RX 0xF).setFld (Reg.LANE_PSTAT p) Fld.LANE_PSTAT_RELIEF_RX k
      else s2
    if l.txRetired then s4.setFld (Reg.LANE_PSTAT p) Fld.LANE_PSTAT_RELIEF_TX k else s4
  else
    let q := s1.port p
    let s2 := s1.setPort p { q with readyAt := some (q.readyAt.getD s.tick) }
    if (if q.farCap = 4 then s2.lanesSuffice p else nine.all (fun j => s2.lst p j == 5)) then s2.toDeskew p else s2

/-- Retire a physical lane in one direction and power it down when it carries nothing any more (R67 step 5, R69). -/
def State.retireLane (s : State) (p ph : Nat) (rx : Bool) : State :=
  let l := s.lane p ph
  let s1 := s.setLane p ph { l with rxRetired := l.rxRetired || rx, txRetired := l.txRetired || !rx, stateAt := s.tick }
  let w := setF (setF (s1.rd (Reg.LANE_LSTAT p ph)) Fld.LANE_LSTAT_ROLE 2) Fld.LANE_LSTAT_MARGIN_LOW 0
  let w := if rx then setF (setF (setF w Fld.LANE_LSTAT_LSTATE 9) Fld.LANE_LSTAT_ALIGNED 0) Fld.LANE_LSTAT_LLANE_RX 0xE else setF w Fld.LANE_LSTAT_LSTATE 9
  s1.wr (Reg.LANE_LSTAT p ph) w

/-- The physical relief lane of a direction, if there is one (LANE_PSTAT.RELIEF_RX, RELIEF_TX). -/
def State.reliefLane (s : State) (p : Nat) (rx : Bool) : Option Nat :=
  let r := s.fld (Reg.LANE_PSTAT p) (if rx then Fld.LANE_PSTAT_RELIEF_RX else Fld.LANE_PSTAT_RELIEF_TX)
  if r = 0xF then none else some r

/-- A lane that is in a relief during a host scan aborts its scan (R66). -/
def State.abortScan (s : State) (p ph : Nat) : State :=
  let q := s.port p
  if q.scan.testBit ph then s.setPort p { q with scanAbort := Nat.lor q.scanAbort (2 ^ ph) } else s

/-- The receiver starts hitless relief of logical lane `k` (R67 step 1): RELIEF_REQ, event 0x3006. -/
def State.startRxRelief (s : State) (p k : Nat) : State :=
  let q := s.port p
  let s1 := (s.setPort p { q with rxRelief := some k }).setFld (Reg.LANE_PSTAT p) Fld.LANE_PSTAT_RELIEF_BUSY_RX 1
  let s2 := (s1.abortScan p (s.pmap (Reg.LANE_PMAP_RX p) k)).abortScan p ((s.reliefLane p true).getD 16)
  (s2.sendBack p 1 k).raise 0x3006 p

/-- Whether a relief of logical lane `k` is possible in a direction ("When relief is requested and none is possible"). DESIGN CHOICE (log entry 29): for
the transmit direction a STALLED port, whose receiver alone has lost deskew, counts as UP. -/
def State.reliefPossible (s : State) (p k : Nat) (rx : Bool) : Bool :=
  s.portUp p && (s.reliefLane p rx).isSome && decide (k < 8) &&
    s.pmap (if rx then Reg.LANE_PMAP_RX p else Reg.LANE_PMAP_TX p) k != 0xF &&
    (if rx then (s.port p).rxRelief.isNone && s.pst p == 2 else (s.port p).txRelief.isNone)

/-- The receiver takes logical lane `k` from the relief lane: the map changes, the old lane is retired (R67 step 4, R61). -/
def State.takeRelief (s : State) (p k r : Nat) : State :=
  let old := s.pmap (Reg.LANE_PMAP_RX p) k
  let s1 := (s.setPmap (Reg.LANE_PMAP_RX p) k r).setFld (Reg.LANE_PSTAT p) Fld.LANE_PSTAT_RELIEF_RX 0xF
  let s2 := (s1.setFld (Reg.LANE_LSTAT p r) Fld.LANE_LSTAT_ROLE 0).setFld (Reg.LANE_LSTAT p r) Fld.LANE_LSTAT_LLANE_RX k
  ((s2.abortScan p old).abortScan p r).retireLane p old true

/-- Every logical lane in use has an aligned lane (R60). -/
def State.allAligned (s : State) (p : Nat) : Bool :=
  (List.range 8).all (fun k =>
    let ph := s.pmap (Reg.LANE_PMAP_RX p) k
    ph == 0xF || s.bit (Reg.LANE_LSTAT p ph) Fld.LANE_LSTAT_ALIGNED)

end Sys2Proof.Machine
end

