-- ==== Sys2Proof/Machine/LaneTx.lean ====
section
/-! DEFINITION. What a port's lanes send, from the state (R43-R46, R71, R74-R76): the headers, the blocks of the stream with idle fill, and the scrambled
codewords with their parity down to PAM4 levels. Marks and risks: log entry 56. -/
namespace Sys2Proof.Machine

/-- The packets of a port's present stream with the index of their first block, newest first. -/
def State.streamPkts (s : State) (p : Nat) : List (Nat × Pkt) :=
  (s.out.takeWhile (fun o => match o with | .stream q _ _ => q != p | _ => true)).filterMap (fun o =>
    match o with
    | .pkt q i x => if q = p then some (i, x) else none
    | _ => none)

/-- Block `i` of a port's stream, counted from its start: of the packet that lies there, else `IDLE` (R71, R75, R76). -/
def State.streamBlock (s : State) (p i : Nat) : Nat :=
  match (s.streamPkts p).find? (fun x => decide (x.1 ≤ i ∧ i < x.1 + x.2.len)) with
  | some (a, x) => x.blocks.getD (i - a) 0
  | none => idleBlock

/-- The blocks that a port has sent as `IDLE` in the tick that ends now (R75, R486): those of the stream that no packet covers. -/
def State.idleBlocks (s : State) (p : Nat) : Nat :=
  let a := s.streamIndexAt p (s.tick - 1)
  let n := s.streamIndexAt p s.tick - a
  if (s.link p).streamPos ≤ a then n
  else (List.range n).countP (fun i => !(s.streamPkts p).any (fun x => decide (x.1 ≤ a + i ∧ a + i < x.1 + x.2.len)))

/-- The 40 blocks of codeword `c` of superframe `sf` on a lane that carries `llane` (R74): the stream's on a logical lane in use, idle fill on the relief lane
(R71) and on a retired one. -/
def State.laneBlocks (s : State) (p llane sf c : Nat) : List Nat :=
  let n := (s.link p).streamN
  (List.range 40).map (fun b =>
    if llane < n then s.streamBlock p (sf * superframeBlocks n + streamIndex n c b llane) else idleBlock)

/-- The back-channel command in the headers at a tick (R63). -/
def State.backNow (s : State) (p t : Nat) : Nat × Nat :=
  match (s.port p).sending.find? (fun x => decide (x.2.2 ≤ t ∧ t < x.2.2 + s.superframeTicks p)) with
  | some x => (x.1, x.2.1)
  | none => (0, 0)

/-- The logical lane whose blocks a physical lane sends: the relief lane copies a lane in a transmit relief (R67). -/
def State.sendsLane (s : State) (p k : Nat) : Nat :=
  match s.reliefLane p false, (s.port p).txRelief with
  | some r, some l => if r = k then l else s.txLane p k
  | _, _ => s.txLane p k

/-- The header of codeword `c` on a physical lane at a tick (R46, R63): the comma, a training header, or a traffic header with the back channel. -/
def State.txHeader (s : State) (p k c t : Nat) : Nat :=
  if c = 0 then comma
  else if s.inTraining p k then laneHeader 2 0 0 (s.txLane p k) c
  else
    let mirror := (s.port p).txRelief.isSome && s.reliefLane p false == some k
    let (cmd, arg) := if mirror then (2, (s.port p).txRelief.getD 0) else s.backNow p t
    laneHeader 1 cmd arg (s.sendsLane p k) c

/-- Codeword `c` on a physical lane with the scrambler at `st` (R43, R45, R52): traffic, or training with the control word in block 0 and zeros scrambled. -/
def State.txCodeword (s : State) (p k sf c t st : Nat) : Nat × List Bool :=
  if s.inTraining p k then codeword st (s.txHeader p k c t) (s.trainWord p k :: List.replicate 39 0) 1
  else codeword st (s.txHeader p k c t) (s.laneBlocks p (s.sendsLane p k) sf c) 0

/-- The first `n` codewords of a superframe on a physical lane as PAM4 levels (R44), the scrambler reseeded at its first block bit (R45). -/
def State.txLevels (s : State) (p k sf t : Nat) (n : Nat) : List Nat :=
  ((List.range n).foldl (fun (acc : Nat × List Nat) c =>
    let (st, bits) := s.txCodeword p k sf c t acc.1
    (st, acc.2 ++ pam4Levels bits)) (scrSeed (s.sendsLane p k), [])).2

end Sys2Proof.Machine
end

