-- ==== Sys2Proof/Machine/Lanes.lean ====
section
/-! DEFINITION. The Forlogus lanes (02_lanes, R42-R73): training, alignment, deskew, relief, margin, eye scan, wake beacon. Marks and risks: log entry 29. -/
namespace Sys2Proof.Machine

/-! ## Port control (LANE_PCTL) -/

/-- Power a port's lanes down from any state (R49): the link falls (R99), lanes OFF, roles off. -/
def State.lanesOff (s : State) (p : Nat) : State :=
  let s1 := s.linkDown p 0
  let s2 := nine.foldl (fun t k =>
    let w := setF (setF (setF (t.rd (Reg.LANE_LSTAT p k)) Fld.LANE_LSTAT_LSTATE 0) Fld.LANE_LSTAT_ROLE 3) Fld.LANE_LSTAT_ALIGNED 0
    let w := setF (setF w Fld.LANE_LSTAT_MARGIN_LOW 0) Fld.LANE_LSTAT_LLANE_RX 0xF
    (t.wr (Reg.LANE_LSTAT p k) w).setLane p k { stateAt := t.tick }) s1
  let q := s2.port p
  let w := setF (setF (s2.rd (Reg.LANE_PSTAT p)) Fld.LANE_PSTAT_RELIEF_TX 0xF) Fld.LANE_PSTAT_RELIEF_RX 0xF
  let w := setF (setF w Fld.LANE_PSTAT_RELIEF_BUSY_TX 0) Fld.LANE_PSTAT_RELIEF_BUSY_RX 0
  let s3 := s2.wr (Reg.LANE_PSTAT p) (setF w Fld.LANE_PSTAT_PSTATE 0)
  let s4 := s3.setLink p { s3.link p with wanted := none }
  s4.setPort p { q with attemptAt := none, attempts := 0, rxRelief := none, txRelief := none, emergency := none, readyAt := none, scanAbort := Nat.lor q.scanAbort q.scan, move := none, deskew := none, sending := [], backSeen := false }

/-- A write of `LANE_PCTL` (R42, R49): `EN` 0 to 1 trains, 1 to 0 powers down, a change of `RATE` while `EN` stays 1 retrains;
a written `EN` of 1 stops the beacon (R73). DESIGN CHOICE (log entry 29): a change of `RATE` with `EN` = 1 retrains a port in FAIL too, as the register's
description has it; R50 says that nothing more happens there until `EN` is written 0 and then 1. -/
def lanePctlWrite (p : Nat) (v : Word) (s : State) : Nat × State :=
  let a := Reg.LANE_PCTL p
  let en := s.bit a Fld.LANE_PCTL_EN
  let rate := s.fld a Fld.LANE_PCTL_RATE
  let s1 := s.plainWrite a v
  let en' := s1.bit a Fld.LANE_PCTL_EN
  (0,
    (if !en && en' then s1.startTraining p
    else if en && !en' then s1.lanesOff p
    else
      let s2 := if en' then s1.setPort p { s1.port p with beacon := false } else s1
      if en && rate != s2.fld a Fld.LANE_PCTL_RATE then s2.retrain p else s2).sayWords p s)

/-- TRAINING_START (R49): a write of `LANE_PCTL` with `EN` = 1. -/
def execTrainingStart (r : Req) (p : Fin 2) (v : Word) (s : State) : Res :=
  finish (s.writeBy r (Reg.LANE_PCTL p) (lanePctlWrite p (setF v Fld.LANE_PCTL_EN 1)))

/-- PORT_POWER_DOWN (R49): a write of `LANE_PCTL` with `EN` = 0. -/
def execPortPowerDown (r : Req) (p : Fin 2) (v : Word) (s : State) : Res :=
  finish (s.writeBy r (Reg.LANE_PCTL p) (lanePctlWrite p (setF v Fld.LANE_PCTL_EN 0)))

/-- RATE_CHANGE (R42): a write of `LANE_PCTL.RATE` that leaves the other fields as they are. -/
def execRateChange (r : Req) (p : Fin 2) (rate : Bool) (s : State) : Res :=
  finish (s.writeBy r (Reg.LANE_PCTL p) (fun t => lanePctlWrite p (setF (t.rd (Reg.LANE_PCTL p)) Fld.LANE_PCTL_RATE (b2n rate)) t))

/-! ## Training (R47-R59) -/

/-- SIGNAL_DETECT (R49, R50): a lane in DETECT sees a signal; the first one of the port starts an attempt. -/
def execSignalDetect (p : Fin 2) (k : Fin 9) (s : State) : Res :=
  finish (
    if s.lst p k ≠ 1 then s
    else
      let s1 := s.setLst p k 2
      let q := s1.port p
      (if (s1.lane p k).alone ∨ q.attemptAt.isSome then s1
      else
        let s2 := s1.setPort p { q with attempts := q.attempts + 1, attemptAt := some s.tick }
        nine.foldl (fun t j => t.setFld (Reg.LANE_LSTAT p j) Fld.LANE_LSTAT_TRAIN_TRY (t.fld (Reg.LANE_LSTAT p j) Fld.LANE_LSTAT_TRAIN_TRY + 1)) s2).sayWords p s)

/-- CLOCK_RECOVERED (R49). -/
def execClockRecovered (p : Fin 2) (k : Fin 9) (s : State) : Res :=
  finish (if s.lst p k = 2 then (s.setLst p k 3).sayWords p s else s)

/-- A lane in ALIGN is aligned (R47, R57): it settles its polarity (`inv`: the polarity image was found), reads `LLANE`, and moves to COEF with its taps at
preset (R54) and the device's first request to the far transmitter (R53, R55). -/
def State.alignInTraining (s : State) (p k : Nat) (h : HuntObs) (inv : Bool) : State :=
  let w := setF (setF (s.rd (Reg.LANE_LSTAT p k)) Fld.LANE_LSTAT_ALIGNED 1) Fld.LANE_LSTAT_POL_INV (b2n inv)
  let s1 := ((s.wr (Reg.LANE_LSTAT p k) (setF w Fld.LANE_LSTAT_LLANE_RX (hdrLane h.hdr.toNat))).setLst p k 4).presetTaps p k
  let s2 := (s1.setLane p k { s1.lane p k with rxRdy := false, farRdy := false, ackSeq := none, sts := 0, commaAt := h.pos % superframeSymbols }).nextReq p k
  (if inv && (!(s2.port p).polSeen || (s2.lane p k).alone) then (s2.setPort p { s2.port p with polSeen := true }).raise 0x300B p else s2).sayWords p s

/-- LANE_ALIGNED (R47, R57): three commas, or three polarity images, at exact spacing. In ALIGN the lane goes on to COEF; a lane that had lost alignment
is aligned again (R48), in traffic where its commas fit the deskew buffer (R59). -/
def execLaneAligned (p : Fin 2) (k : Fin 9) (h : HuntObs) (s : State) : Res :=
  finish (match huntAligned h with
    | none => s
    | some inv =>
      if s.lst p k = 3 then s.alignInTraining p k h inv
      else if (4 ≤ s.lst p k ∧ s.lst p k ≤ 6 ∨ s.rxRuns p k) ∧ ¬ s.bit (Reg.LANE_LSTAT p k) Fld.LANE_LSTAT_ALIGNED then
        let t := s.setLane p k { s.lane p k with commaAt := h.pos % superframeSymbols }
        if s.rxRuns p k && !t.fitsDeskew p k then s else t.setFld (Reg.LANE_LSTAT p k) Fld.LANE_LSTAT_ALIGNED 1
      else s)

/-- The five taps of R54 in the order of R52: field, limits, preset. -/
def taps : List (Field × Int × Int × Int) :=
  [(Fld.LANE_FFE_PRE2, -8, 4, 0), (Fld.LANE_FFE_PRE1, -20, 4, -6), (Fld.LANE_FFE_MAIN, 24, 64, 52), (Fld.LANE_FFE_POST1, -20, 4, -6),
   (Fld.LANE_FFE_POST2, -8, 4, 0)]

/-- A tap's value: the main tap is unsigned, the others signed. -/
def tapVal (w : Word) (f : Field) : Int := if f = Fld.LANE_FFE_MAIN then (getF w f : Int) else sext (getF w f) f.width

/-- The sum of the absolute values of the five taps (R54). -/
def tapSum (w : Word) : Nat := taps.foldl (fun n t => n + (tapVal w t.1).natAbs) 0

/-- Apply one tap's request (R53, R54): 0 HOLD, 1 INC, 2 DEC, 3 PRESET; the new word and the status: 0 NOT_UPDATED, 1 UPDATED, 2 AT_MIN, 3 AT_MAX. -/
def tapStep (w : Word) (t : Field × Int × Int × Int) (req : Nat) : Word × Nat :=
  match t with
  | (f, lo, hi, preset) =>
    let x := tapVal w f
    let put := fun y => setF w f (encS f.width y)
    if req = 0 then (w, 0)
    else if req = 3 then (put preset, 1)
    else
      let y := if req = 1 then x + 1 else x - 1
      if y < lo ∨ hi < y ∨ 64 < tapSum (put y) then (w, if req = 1 then 3 else 2) else (put y, 1)

/-- Apply a whole `REQ`, 2 bits per tap with pre2 first (R52): the new taps and `STS`. DESIGN CHOICE (log entry 29): the taps are stepped one after
another, pre2 first, so that the sum tested for a tap holds the new values of the taps before it; R54 gives no order. -/
def applyTaps (w : Word) (req : Nat) : Word × Nat :=
  ((List.range 5).zip taps).foldl (fun (acc : Word × Nat) t =>
    let (w', st) := tapStep acc.1 t.2 (bitsAt req (8 - 2 * t.1) 2)
    (w', acc.2 * 4 + st)) (w, 0)

/-- The requests of a received control word (R53): with a new `REQSEQ` the transmitter of a lane in COEF acts once, sets `ACKSEQ` and reports `STS`. -/
def State.takeReq (s : State) (p k w : Nat) : State :=
  let l := s.lane p k
  if s.lst p k = 4 ∧ l.ackSeq ≠ some (twReqSeq w) then
    let (x, st) := applyTaps (s.rd (Reg.LANE_FFE p k)) (twReq w)
    (s.wr (Reg.LANE_FFE p k) x).setLane p k { l with ackSeq := some (twReqSeq w), sts := st }
  else s

/-- The acknowledgement of a received control word (R53): the device issues its next request once `ACKSEQ` matches, until its receiver has converged. -/
def State.takeAck (s : State) (p k w : Nat) : State :=
  let l := s.lane p k
  if s.lst p k = 4 ∧ ¬l.rxRdy ∧ twAckSeq w = l.reqSeq then s.nextReq p k else s

/-- `RXRDY` and `LANECAP` of a received control word (R49, R52). -/
def State.takeRdy (s : State) (p k w : Nat) : State :=
  if s.lst p k = 4 ∧ twRdy w then
    let s1 := (s.setPort p { s.port p with farCap := if twCap w = 4 then 4 else 8 }).setLane p k { s.lane p k with farRdy := true }
    if (s.lane p k).rxRdy then s1.laneReady p k else s1
  else s

/-- `MOVE` of a received control word (R56): the transmitter carries that logical lane on its relief lane. -/
def State.takeMove (s : State) (p w : Nat) : State :=
  match s.reliefLane p false with
  | some r =>
    if s.pst p = 1 ∧ twMove w < 8 then (s.setPmap (Reg.LANE_PMAP_TX p) (twMove w) r).setFld (Reg.LANE_PSTAT p) Fld.LANE_PSTAT_RELIEF_TX 0xF else s
  | none => s

/-- Take a received training control word of lane `k` (R52-R56): requests, acknowledgement, readiness, `MOVE`. A word of another format version is
none (log entry 29). -/
def State.takeWord (s : State) (p k : Nat) (word : BitVec 128) : State :=
  let w := word.toNat
  if twVer w ≠ 2 then s else ((((s.takeReq p k w).takeAck p k w).takeRdy p k w).takeMove p w).sayWords p s

/-- TAP_REQUEST (R53): a control word with requests arrives. -/
def execTapRequest (p : Fin 2) (k : Fin 9) (word : BitVec 128) (s : State) : Res := finish (s.takeWord p k word)

/-- RECEIVER_CONVERGED (R55): the lane sets `RXRDY`; with the far end's seen it is READY. -/
def execReceiverConverged (p : Fin 2) (k : Fin 9) (s : State) : Res :=
  let l := s.lane p k
  finish (
    if s.lst p k = 4 then
      let s1 := s.setLane p k { l with rxRdy := true }
      (if l.farRdy then s1.laneReady p k else s1).sayWords p s
    else s)

/-- FAR_END_RXRDY (R49, R52): a control word with `RXRDY` and the far end's `LANECAP` arrives. -/
def execFarEndRxrdy (p : Fin 2) (k : Fin 9) (word : BitVec 128) (s : State) : Res := finish (s.takeWord p k word)

/-- MOVE_REQUEST (R56): a control word in which the far receiver asks for a logical lane on the relief lane arrives. -/
def execMoveRequest (p : Fin 2) (k : Fin 9) (word : BitVec 128) (s : State) : Res := finish (s.takeWord p k word)

/-- The receive map of a deskewed port, from the `LLANE` of its lanes (R58). -/
def State.mapReceive (s : State) (p : Nat) : State :=
  let s1 := (List.range 8).foldl (fun t k =>
    t.setPmap (Reg.LANE_PMAP_RX p) k (if k < t.nLogical p then (t.rxCarrier p k).getD 0xF else 0xF)) s
  let relief := (nine.find? (fun ph => s1.lst p ph == 6 && s1.fld (Reg.LANE_LSTAT p ph) Fld.LANE_LSTAT_LLANE_RX == 0xF)).getD 0xF
  s1.setFld (Reg.LANE_PSTAT p) Fld.LANE_PSTAT_RELIEF_RX relief

/-- Set REVERSED or PERMUTED; either raises event 0x300B (R58). -/
def State.orderCheck (s : State) (p : Nat) : State :=
  let carried := fun ph => s.fld (Reg.LANE_LSTAT p ph) Fld.LANE_LSTAT_LLANE_RX
  let rev := (List.range 8).all (fun ph => carried ph == 7 - ph)
  let ident := (List.range (s.nLogical p)).all (fun k => s.pmap (Reg.LANE_PMAP_RX p) k == k)
  let s1 := (s.setFld (Reg.LANE_PSTAT p) Fld.LANE_PSTAT_REVERSED (b2n rev)).setFld (Reg.LANE_PSTAT p) Fld.LANE_PSTAT_PERMUTED (b2n (!rev && !ident))
  if rev || !ident then s1.raise 0x300B p else s1

/-- Lanes of a port that is up: state UP and their role; a lane that takes no part is off. -/
def State.lanesUp (s : State) (p : Nat) : State :=
  nine.foldl (fun t ph =>
    let used := (List.range 8).any (fun k => t.pmap (Reg.LANE_PMAP_RX p) k == ph)
    if t.lst p ph = 6 then
      (t.setLst p ph 7).setFld (Reg.LANE_LSTAT p ph) Fld.LANE_LSTAT_ROLE (if used then 0 else 1)
    else
      let w := setF (setF (t.rd (Reg.LANE_LSTAT p ph)) Fld.LANE_LSTAT_LSTATE 0) Fld.LANE_LSTAT_ROLE 3
      (t.wr (Reg.LANE_LSTAT p ph) (setF (setF w Fld.LANE_LSTAT_ALIGNED 0) Fld.LANE_LSTAT_LLANE_RX 0xF)).setLane p ph { stateAt := t.tick }) s

/-- The symbols from one comma position to another (R59). -/
def commaDist (a b : Nat) : Nat := (b + superframeSymbols - a) % superframeSymbols

/-- The comma positions of the lanes that a port deskews: all in DESKEW, the relief lane included (R59). -/
def State.deskewCommas (s : State) (p : Nat) : List Nat := (nine.filter (fun k => s.lst p k == 6)).map (fun k => (s.lane p k).commaAt)

/-- The lane-to-lane skew of commas, in symbols, and the position of the earliest: the smallest stretch that holds them all (R59). -/
def commaSkew (xs : List Nat) : Nat × Nat :=
  xs.foldl (fun (best : Nat × Nat) a =>
    let w := xs.foldl (fun m b => Nat.max m (commaDist a b)) 0
    if w < best.1 then (w, a) else best) (superframeSymbols, xs.getD 0 0)

/-- The port is deskewed (R58, R59): receive map, order check, the buffer depth fixed, PSTATE UP, event 0x3001, a block stream, negotiation (R84). -/
def State.portTrained (s : State) (p : Nat) (base depth : Nat) : State :=
  let s1 := ((s.mapReceive p).orderCheck p).lanesUp p
  let s2 := if (s1.port p).farCap = 4 then
      let t := (List.range 4).foldl (fun t j => t.setPmap (Reg.LANE_PMAP_TX p) (4 + j) 0xF) s1
      t.setFld (Reg.LANE_PSTAT p) Fld.LANE_PSTAT_RELIEF_TX 0xF
    else s1
  let s3 := (s2.setPort p { s2.port p with attemptAt := none, readyAt := none, autoScanAt := s.tick, move := none, deskew := some (base, depth) }).setPst p 2
  ((s3.startStream p (s3.nLogical p) s3.tick).raise 0x3001 p).startNeg p

/-- DESKEW_DONE (R59): with at most 128 lane words of skew the port is UP; beyond, the attempt fails. -/
def execDeskewDone (p : Fin 2) (s : State) : Res :=
  finish (
    if s.pst p ≠ 1 ∨ ¬ nine.any (fun k => s.lst p k == 6) then s
    else
      let (skew, base) := commaSkew (s.deskewCommas p)
      if 128 * 32 < skew then (s.attemptFails p).sayWords p s else s.portTrained p base ((skew + 31) / 32))

/-- The timeout of a lane state, in ticks (R49); none where the state has none. READY counts from the first lane of the port. -/
def State.lanesDue (s : State) (p k : Nat) : Bool :=
  let since := (s.lane p k).stateAt
  match s.lst p k with
  | 2 => decide (since + usTicks 100 ≤ s.tick)
  | 3 => decide (since + usTicks 200 ≤ s.tick)
  | 4 => decide (since + msTicks 20 ≤ s.tick)
  | 5 => (match (s.port p).readyAt with | some t => decide (t + msTicks 2 ≤ s.tick) | none => false)
  | 6 => decide (since + usTicks 100 ≤ s.tick)
  | _ => false

/-- The READY timeout (R56): the port goes on to DESKEW with the lanes it has when they suffice. With one logical lane missing it sends `MOVE` for it and
takes the lane from the far end's relief lane, which carries it from the next superframe; otherwise the attempt fails. -/
def State.readyTimeout (s : State) (p : Nat) : State :=
  if s.lanesSuffice p then s.toDeskew p
  else
    let missing := (List.range 8).filter (fun k => (s.rxCarrier p k).isNone)
    match missing, s.rxCarrier p 0xF with
    | [k], some r =>
      if (s.port p).farCap = 8 then ((s.setPort p { s.port p with move := some k }).setFld (Reg.LANE_LSTAT p r) Fld.LANE_LSTAT_LLANE_RX k).toDeskew p
      else s.attemptFails p
    | _, _ => s.attemptFails p

/-- TRAINING_TIMEOUT (R49, R50): a lane's state has timed out. -/
def execTrainingTimeout (p : Fin 2) (k : Fin 9) (s : State) : Res :=
  finish (
    if !s.lanesDue p k then s
    else (if (s.lane p k).alone then s.aloneFails p k
      else if s.lst p k = 5 then s.readyTimeout p
      else (s.setLst p k 8).attemptFails p).sayWords p s)

/-- ATTEMPT_TIMEOUT (R50): 25 ms after the attempt started the port is not UP. -/
def execAttemptTimeout (p : Fin 2) (s : State) : Res :=
  finish (match (s.port p).attemptAt with
    | some t => if s.pst p = 1 ∧ t + msTicks 25 ≤ s.tick then (s.attemptFails p).sayWords p s else s
    | none => s)

/-! ## Loss of alignment and stalls (R48, R60, R61) -/

/-- A relief that has not reached its switch is abandoned (R68, "When deskew is lost during relief"). -/
def State.abandonRx (s : State) (p : Nat) : State :=
  let q := s.port p
  if q.rxRelief.isSome then
    ((s.setPort p { q with rxRelief := none }).setFld (Reg.LANE_PSTAT p) Fld.LANE_PSTAT_RELIEF_BUSY_RX 0).raise 0x3008 p
  else s

/-- The logical lane a physical lane carries in the receive direction. -/
def State.carries (s : State) (p ph : Nat) : Option Nat :=
  (List.range 8).find? (fun k => s.pmap (Reg.LANE_PMAP_RX p) k == ph)

/-- ALIGN_LOST (R48, R60): after 8 consecutive uncorrectable codewords or 2 consecutive missing commas the lane hunts again, event 0x3003; where it carries a
logical lane the port stalls, event 0x3004. -/
def execAlignLost (p : Fin 2) (k : Fin 9) (uncorr missing : Nat) (s : State) : Res :=
  finish (
    if !s.bit (Reg.LANE_LSTAT p k) Fld.LANE_LSTAT_ALIGNED || (decide (uncorr < 8) && decide (missing < 2)) then s
    else
      let s1 := (s.setFld (Reg.LANE_LSTAT p k) Fld.LANE_LSTAT_ALIGNED 0).setLane p k { s.lane p k with lostAt := s.tick }
      let s2 := s1.raise 0x3003 (laneUnit p k)
      if s2.pst p = 2 ∧ (s2.carries p k).isSome then
        let s3 := (s2.abandonRx p).setPst p 3
        let s4 := s3.setPort p { s3.port p with stallAt := s.tick }
        let s5 := if s4.lstate p = 2 then s4.setFld (Reg.LINK_STATUS p) Fld.LINK_STATUS_LSTATE 3 else s4
        s5.raise 0x3004 p
      else s2)

/-- REALIGN_WAIT_EXPIRY (R61): 2 superframes without realignment of the lane that carries logical lane `k`: emergency relief is requested, or
without a relief lane the port goes down and retrains. DESIGN CHOICE (log entry 29): a relief lane that is itself not aligned counts as none. -/
def execRealignWaitExpiry (p : Fin 2) (k : Fin 8) (s : State) : Res :=
  let ph := s.pmap (Reg.LANE_PMAP_RX p) k
  let two := if s.fld (Reg.LANE_PCTL p) Fld.LANE_PCTL_RATE = 1 then 25770 else 51540
  finish (
    if s.pst p ≠ 3 ∨ ph = 0xF ∨ s.bit (Reg.LANE_LSTAT p ph) Fld.LANE_LSTAT_ALIGNED ∨ s.tick < (s.lane p ph).lostAt + two ∨
        (s.port p).emergency.isSome then s
    else match s.reliefLane p true with
      | some r =>
        if s.bit (Reg.LANE_LSTAT p r) Fld.LANE_LSTAT_ALIGNED then
          (s.setPort p { s.port p with emergency := some k }).sendBack p 1 k
        else s.retrain p
      | none => s.retrain p)

/-- The stall ends: UP and OPERATIONAL again, event 0x3005 (R60). -/
def State.unstall (s : State) (p : Nat) : State :=
  let s1 := s.setPst p 2
  let s2 := if s1.lstate p = 3 then
      (s1.setFld (Reg.LINK_STATUS p) Fld.LINK_STATUS_LSTATE 2).setLink p
        { s1.link p with progressAt := (s1.link p).progressAt + (s1.tick - Nat.max (s1.link p).progressAt (s1.port p).stallAt) }
    else s1
  s2.raise 0x3005 p

/-- DESKEW_RESTORED (R61): deskew resumes once every logical lane is aligned, after the lane realigned or after the emergency
move, event 0x3009; after that move the receiver says RELIEF_SWITCHED (R63). DESIGN CHOICE (log entry 29): a lane that aligns again after RELIEF_REQ has gone
out cancels the emergency move and keeps its mapping. -/
def execDeskewRestored (p : Fin 2) (s : State) : Res :=
  finish (
    if s.pst p ≠ 3 then s
    else
      let s1 := match (s.port p).emergency, s.reliefLane p true with
        | some k, some r =>
          if s.bit (Reg.LANE_LSTAT p (s.pmap (Reg.LANE_PMAP_RX p) k)) Fld.LANE_LSTAT_ALIGNED then s.setPort p { s.port p with emergency := none }
          else (((s.setPort p { s.port p with emergency := none }).takeRelief p k r).sendBack p 3 k).raise 0x3009 p
        | _, _ => s
      if s1.allAligned p then s1.unstall p else s1)

/-! ## Relief (R67-R70) -/

/-- A back-channel command is taken (R63): the instance is marked, then `f` runs. -/
def State.onBack (s : State) (p : Nat) (b : BackObs) (f : State → State) : State :=
  if s.backTaken p b then f (s.setPort p { s.port p with backSeen := true }) else s

/-- The transmitter starts to copy logical lane `k` onto its relief lane (R67 step 2): MIRROR_ON, event 0x3006. -/
def State.startTxRelief (s : State) (p k : Nat) : State :=
  let s1 := (s.setPort p { s.port p with txRelief := some k }).setFld (Reg.LANE_PSTAT p) Fld.LANE_PSTAT_RELIEF_BUSY_TX 1
  (s1.emit (.back p 2 k)).raise 0x3006 p

/-- RELIEF_REQ (R63, R67): the far receiver asks for relief of logical lane `k`; the transmitter copies it onto its relief lane, event 0x3006, or refuses
with event 0x3008. A request for the lane that it already copies is the far end's emergency move ("When deskew is lost during relief"). -/
def execReliefReq (p : Fin 2) (b : BackObs) (k : Fin 8) (s : State) : Res :=
  finish (s.onBack p b (fun t =>
    if t.reliefPossible p k false then t.startTxRelief p k
    else if t.portUp p && (t.port p).txRelief = some k.val then t
    else (t.sendBack p 4 k).raise 0x3008 p))

/-- RELIEF_COMPARE_DONE (R67, R68): after one superframe of comparison of lane `k` with the relief lane, whose headers `hdr` say MIRROR_ON and `LLANE` = k
(R63); a mismatch of correctable codewords abandons the relief. A copy that the far end started itself (its RELIEVE_TX) is compared in the same way, and
its event 0x3006 stands beside 0x3007 or 0x3008 (R69). -/
def execReliefCompareDone (p : Fin 2) (k : Fin 8) (hdr : BitVec 20) (mismatch : Bool) (s : State) : Res :=
  let q := s.port p
  let h := hdr.toNat
  finish (match s.reliefLane p true with
    | none => s
    | some r =>
      if s.pst p ≠ 2 ∨ s.pmap (Reg.LANE_PMAP_RX p) k = 0xF ∨ ¬ (q.rxRelief = some k.val ∨ q.rxRelief = none) ∨
          ¬ (hdrType h = 1 ∧ hdrCmd h = 2 ∧ hdrArg h = k.val ∧ hdrLane h = k.val) then s
      else
        let s0 := if q.rxRelief.isNone then s.raise 0x3006 p else s
        let s1 := (s0.setPort p { q with rxRelief := none }).setFld (Reg.LANE_PSTAT p) Fld.LANE_PSTAT_RELIEF_BUSY_RX 0
        if mismatch then s1.raise 0x3008 p
        else ((s1.takeRelief p k r).sendBack p 3 k).raise 0x3007 p)

/-- RELIEF_SWITCHED (R63, R67 step 5, R69): the far receiver has switched, event 0x3007; the old transmit lane is retired and powered down. DESIGN CHOICE
(log entry 29): no message tells the transmitter of a relief that the far receiver abandons, so such a relief stays running until the port retrains or powers down. -/
def execReliefSwitched (p : Fin 2) (b : BackObs) (k : Fin 8) (s : State) : Res :=
  finish (s.onBack p b (fun t =>
    match t.reliefLane p false with
    | none => t
    | some r =>
      if (t.port p).txRelief = some k.val then
        let old := t.pmap (Reg.LANE_PMAP_TX p) k
        let s1 := (t.setPmap (Reg.LANE_PMAP_TX p) k r).setFld (Reg.LANE_PSTAT p) Fld.LANE_PSTAT_RELIEF_TX 0xF
        let s2 := (s1.setPort p { t.port p with txRelief := none }).setFld (Reg.LANE_PSTAT p) Fld.LANE_PSTAT_RELIEF_BUSY_TX 0
        ((s2.setFld (Reg.LANE_LSTAT p r) Fld.LANE_LSTAT_ROLE 0).retireLane p old false).raise 0x3007 p
      else t))

/-- RELIEF_REFUSE (R63, R68): the far transmitter refuses; the relief is abandoned, event 0x3008. A refused emergency relief leaves the port without a
relief lane, so it goes down and retrains (R61). -/
def execReliefRefuse (p : Fin 2) (b : BackObs) (k : Fin 8) (s : State) : Res :=
  finish (s.onBack p b (fun t =>
    if (t.port p).emergency = some k.val then ((t.raise 0x3008 p).retrain p).sayWords p t
    else if (t.port p).rxRelief = some k.val then t.abandonRx p
    else t))

/-- A retired lane starts to train alone (R70). -/
def State.trainAlone (s : State) (p k : Nat) : State :=
  let w := setF (s.rd (Reg.LANE_LSTAT p k)) Fld.LANE_LSTAT_MARGIN_LOW 0
  let w := if (s.lane p k).rxRetired then setF w Fld.LANE_LSTAT_ALIGNED 0 else w
  ((s.wr (Reg.LANE_LSTAT p k) w).setLst p k 1).setLane p k { s.lane p k with stateAt := s.tick, alone := true, rxRdy := false, farRdy := false }

/-- A lane that a relief retired (R70). -/
def State.isRetired (s : State) (p k : Nat) : Bool := s.lst p k == 9

/-- RETRAIN_REQ (R63, R70): the far end asks to train a retired physical lane alone. -/
def execRetrainReq (p : Fin 2) (b : BackObs) (k : Fin 9) (s : State) : Res :=
  finish (s.onBack p b (fun t => if t.portUp p && t.isRetired p k then (t.trainAlone p k).sayWords p t else t))

/-- A write of `LANE_CMD` (R68, R70, R73): ERR_BUSY where a relief is asked for and none is possible. DESIGN CHOICE (log entry 29): RESTORE of a lane that is
not retired, or on a port that is not up, answers OK and does nothing. -/
def laneCmdWrite (p : Nat) (v : Word) (s : State) : Nat × State :=
  let k := getF v Fld.LANE_CMD_LANE
  match getF v Fld.LANE_CMD_OP with
  | 1 => if s.reliefPossible p k true then (0, s.startRxRelief p k) else (7, s)
  | 2 =>
    if s.reliefPossible p k false then (0, s.startTxRelief p k) else (7, s)
  | 3 => (0, if s.portUp p && decide (k < 9) && s.isRetired p k then ((s.trainAlone p k).sendBack p 5 k).sayWords p s else s)
  | 4 => (0, s.setPort p { s.port p with beacon := true, beaconAt := none })
  | 5 => (0, s.setPort p { s.port p with beacon := false })
  | _ => (0, s)

/-- `LANE_CMD` with an operation and a lane. -/
def laneCmd (op k : Nat) : Word := setF (setF 0 Fld.LANE_CMD_OP op) Fld.LANE_CMD_LANE k

/-- RELIEVE_RX (R68): hitless relief of receive lane `k` from step 1, or ERR_BUSY. -/
def execRelieveRx (r : Req) (p : Fin 2) (k : Fin 16) (s : State) : Res :=
  finish (s.writeBy r (Reg.LANE_CMD p) (laneCmdWrite p (laneCmd 1 k)))

/-- RELIEVE_TX (R68): hitless relief of transmit lane `k` from step 2, or ERR_BUSY. -/
def execRelieveTx (r : Req) (p : Fin 2) (k : Fin 16) (s : State) : Res :=
  finish (s.writeBy r (Reg.LANE_CMD p) (laneCmdWrite p (laneCmd 2 k)))

/-- RESTORE (R70): a retired physical lane retrains as the relief lane. -/
def execRestore (r : Req) (p : Fin 2) (k : Fin 16) (s : State) : Res :=
  finish (s.writeBy r (Reg.LANE_CMD p) (laneCmdWrite p (laneCmd 3 k)))

/-- BEACON_ON (R73). -/
def execBeaconOn (r : Req) (p : Fin 2) (s : State) : Res :=
  finish (s.writeBy r (Reg.LANE_CMD p) (laneCmdWrite p (laneCmd 4 0)))

/-- BEACON_OFF (R73). -/
def execBeaconOff (r : Req) (p : Fin 2) (s : State) : Res :=
  finish (s.writeBy r (Reg.LANE_CMD p) (laneCmdWrite p (laneCmd 5 0)))

/-- BEACON_BURST (R73): one 8 µs burst on lane 0, one every 1 ms. -/
def execBeaconBurst (p : Fin 2) (s : State) : Res :=
  let q := s.port p
  let due := match q.beaconAt with | some t => decide (t + msTicks 1 ≤ s.tick) | none => true
  finish (if q.beacon && due then (s.setPort p { q with beaconAt := some s.tick }).emit (.beacon p) else s)

/-! ## Margin and eye scans (R64-R66) -/

/-- A lane's margin is low: `MARGIN_LOW`, event 0x300A, and hitless relief with `RELIEF_AUTO` where one is possible (R64). -/
def State.marginLow (s : State) (p k : Nat) : State :=
  let s1 := (s.setFld (Reg.LANE_LSTAT p k) Fld.LANE_LSTAT_MARGIN_LOW 1).raise 0x300A (laneUnit p k)
  match s1.carries p k with
  | some l =>
    if s1.bit (Reg.LANE_PCTL p) Fld.LANE_PCTL_RELIEF_AUTO && s1.reliefPossible p l true then s1.startRxRelief p l else s1
  | none => s1

/-- MARGIN_WINDOW_END (R64): a window of 65 536 codewords ends with `corrected` symbols corrected and `uncorr` codewords uncorrectable. -/
def execMarginWindowEnd (p : Fin 2) (k : Fin 9) (corrected uncorr : Nat) (s : State) : Res :=
  finish (
    if !s.rxRuns p k then s
    else
      let s1 := (s.count64 (Reg.LANE_CW_CNT p k) 65536).count64 (Reg.LANE_CORR_CNT p k) corrected
      let s2 := s1.count (Reg.LANE_UNCORR_CNT p k) uncorr
      if s2.fld (Reg.LANE_THR p) Fld.LANE_THR_SER_LIMIT < corrected then s2.marginLow p k else s2)

/-- Whether a lane takes part in a running receive relief (R66). -/
def State.inRelief (s : State) (p k : Nat) : Bool :=
  match (s.port p).rxRelief with
  | some l => s.pmap (Reg.LANE_PMAP_RX p) l == k || s.reliefLane p true == some k
  | none => false

/-- A scan of the lanes in `m` begins (R66); a lane in a relief now is involved in one during its scan. -/
def State.beginScan (s : State) (p m : Nat) (auto : Bool) : State :=
  let hit := nine.foldl (fun (x : Nat) k => if s.inRelief p k then x + 2 ^ k else x) 0
  (s.setFld (Reg.LANE_ESCAN_CTL p) Fld.LANE_ESCAN_CTL_BUSY 1).setPort p
    { s.port p with scan := m, scanAbort := hit, scanAuto := auto, scanSince := s.tick }

/-- A write of `LANE_ESCAN_CTL` (R66): `START` begins a host scan on the lanes in `LMASK`; it waits for an automatic scan to end, and a host scan already
running goes on. -/
def escanWrite (p : Nat) (v : Word) (s : State) : Nat × State :=
  let a := Reg.LANE_ESCAN_CTL p
  let s1 := s.plainWrite a v
  let m := s1.fld a Fld.LANE_ESCAN_CTL_LMASK
  if getF v Fld.LANE_ESCAN_CTL_START = 0 then (0, s1)
  else if !s1.bit a Fld.LANE_ESCAN_CTL_BUSY then (0, s1.beginScan p m false)
  else if (s1.port p).scanAuto then (0, s1.setPort p { s1.port p with scanNext := some m })
  else (0, s1)

/-- ESCAN_START (R66). -/
def execEscanStart (r : Req) (p : Fin 2) (v : Word) (s : State) : Res :=
  finish (s.writeBy r (Reg.LANE_ESCAN_CTL p) (escanWrite p (setF v Fld.LANE_ESCAN_CTL_START 1)))

/-- The steps of one direction of an eye (R65): disagreements point by point outward, at most `most` points, stopping at the first that exceeds the threshold. -/
def marginSteps (ethr most : Nat) (pts : List Nat) : Nat := ((pts.take most).takeWhile (fun n => decide (n ≤ ethr))).length

/-- Points that the direction took, the failing one included (R65). -/
def pointsTaken (ethr most : Nat) (pts : List Nat) : Nat := Nat.min most (marginSteps ethr most pts + 1)

/-- The most steps of a direction (R65): 32 in phase (0 LEFT, 1 RIGHT), 63 in voltage (2 TOP, 3 BOTTOM). -/
def eyeMost (d : Nat) : Nat := if d < 2 then 32 else 63

/-- The disagreements of direction `d` of eye `e` of a lane among the points of a scan, twelve lists per lane. -/
def eyePts (pts : List (List Nat)) (k e d : Nat) : List Nat := pts.getD (12 * k + 4 * e + d) []

/-- The result word of one eye (R65, LANE_ESCAN_RES0-2). -/
def eyeWord (ethr : Nat) (pts : List (List Nat)) (k e : Nat) : Word :=
  BitVec.ofNat 32 ((List.range 4).foldl (fun w d => 256 * w + marginSteps ethr (eyeMost d) (eyePts pts k e d)) 0)

/-- Ticks that the scan of a lane takes: 2^`DWELL` symbols a point, at least 2^16 (R65, R42). -/
def State.scanTicks (s : State) (p : Nat) (pts : List (List Nat)) (k : Nat) : Nat :=
  let c := s.rd (Reg.LANE_ESCAN_CTL p)
  let n := (List.range 12).foldl (fun x i => x + pointsTaken (getF c Fld.LANE_ESCAN_CTL_ETHR) (eyeMost (i % 4)) (pts.getD (12 * k + i) [])) 0
  n * 2 ^ Nat.max 16 (getF c Fld.LANE_ESCAN_CTL_DWELL) * 98304 / (if s.fld (Reg.LANE_PCTL p) Fld.LANE_PCTL_RATE = 1 then 5312500 else 2656250)

/-- Store one lane's three eyes (R65). -/
def State.putEyes (s : State) (p k : Nat) (pts : List (List Nat)) : State :=
  (List.range 3).foldl (fun t e => t.wr (Reg.LANE_ESCAN_RES p k e) (eyeWord (s.fld (Reg.LANE_ESCAN_CTL p) Fld.LANE_ESCAN_CTL_ETHR) pts k e)) s

/-- A lane whose scan ends ABORTED (R66): powered down, retired, or involved in a relief during it. -/
def State.scanAborted (s : State) (p k : Nat) : Bool :=
  (s.port p).scanAbort.testBit k || !s.rxRuns p k

/-- Whether one eye's margins fall below the thresholds of LANE_THR (R64). -/
def eyeLow (thr w : Word) : Bool :=
  decide (Nat.min (bitsAt w.toNat 24 8) (bitsAt w.toNat 16 8) < getF thr Fld.LANE_THR_MARGIN_PH) ||
  decide (Nat.min (bitsAt w.toNat 8 8) (bitsAt w.toNat 0 8) < getF thr Fld.LANE_THR_MARGIN_V)

/-- One lane's scan ends (R64-R66): results or ABORTED; those of an automatic scan are judged by the thresholds. -/
def State.endScan (s : State) (p k : Nat) (auto : Bool) (pts : List (List Nat)) : State :=
  if s.scanAborted p k then s.setFld (Reg.LANE_ESCAN_STAT p k) Fld.LANE_ESCAN_STAT_RESULT 2
  else
    let t := (s.putEyes p k pts).setFld (Reg.LANE_ESCAN_STAT p k) Fld.LANE_ESCAN_STAT_RESULT 1
    if auto && (List.range 3).any (fun e => eyeLow (s.rd (Reg.LANE_THR p)) (t.rd (Reg.LANE_ESCAN_RES p k e))) then t.marginLow p k else t

/-- Whether every lane that scans on has taken its points by now (R65). -/
def State.scanOver (s : State) (p : Nat) (pts : List (List Nat)) : Bool :=
  nine.all (fun k => !(s.port p).scan.testBit k || s.scanAborted p k || decide ((s.port p).scanSince + s.scanTicks p pts k ≤ s.tick))

/-- ESCAN_DONE (R65, R66): the last selected lane finishes, `pts` being the disagreements it and the others measured; event 0x300C for a host scan. A host scan that has
waited for an automatic one begins. -/
def execEscanDone (p : Fin 2) (pts : List (List Nat)) (s : State) : Res :=
  finish (
    if !s.bit (Reg.LANE_ESCAN_CTL p) Fld.LANE_ESCAN_CTL_BUSY || !s.scanOver p pts then s
    else
      let q := s.port p
      let s1 := nine.foldl (fun (t : State) k => if q.scan.testBit k then t.endScan p k q.scanAuto pts else t) s
      let s2 := (s1.setFld (Reg.LANE_ESCAN_CTL p) Fld.LANE_ESCAN_CTL_BUSY 0).setPort p
        { s1.port p with scan := 0, scanAbort := 0, scanAuto := false, scanNext := none }
      if !q.scanAuto then s2.raise 0x300C p
      else match q.scanNext with
        | some m => s2.beginScan p m false
        | none => s2)

/-- AUTO_ESCAN_PERIOD (R64, R66): once per `MON_PERIOD` the device starts a scan of every lane of the port; one whose time comes during a scan does not run
(log entry 29). -/
def execAutoEscanPeriod (p : Fin 2) (s : State) : Res :=
  let ctl := s.rd (Reg.LANE_PCTL p)
  let period := msTicks (16 * 2 ^ getF ctl Fld.LANE_PCTL_MON_PERIOD)
  let q := s.port p
  finish (
    if getF ctl Fld.LANE_PCTL_ESC_AUTO = 0 ∨ ¬ s.portUp p ∨ s.tick < q.autoScanAt + period then s
    else
      let t := s.setPort p { q with autoScanAt := s.tick }
      if t.bit (Reg.LANE_ESCAN_CTL p) Fld.LANE_ESCAN_CTL_BUSY then t else t.beginScan p 0x1FF true)

end Sys2Proof.Machine
end

