-- ==== Sys2Proof/Machine/Link.lean ====
section
/-! DEFINITION. The link layer (03_link, R74-R106): receiving packets, retry, negotiation, host accesses to memory windows, secure packets. Marks and risks: log entries 30, 6. -/
namespace Sys2Proof.Machine

/-! ## Receiving (R79-R81) -/

/-- Set one bit of `LINK_ERR` (sticky). -/
def State.linkErr (s : State) (p : Nat) (f : Field) : State := s.setFld (Reg.LINK_ERR p) f 1

/-- A bad header: the rest of the superframe is discarded (R79). -/
def State.malformed (s : State) (p sf : Nat) : State :=
  (s.linkErr p Fld.LINK_ERR_MALFORMED).setLink p { s.link p with discardSf := some sf }

/-- What R79 and the port's state leave of a packet: `f` runs on a packet whose header the receiver sees. A port receives while its `LSTATE`
satisfies `st`; a port whose lanes are stalled receives nothing, whatever its `LSTATE` (R60). -/
def State.receive (s : State) (p : Nat) (h : RxHdr) (st : Nat → Bool) (f : State → State) : State :=
  if !st (s.lstate p) || s.fld (Reg.LANE_PSTAT p) Fld.LANE_PSTAT_PSTATE == 3 then s
  else if (s.link p).discardSf = some h.sf then s
  else
    let s1 := s.setLink p { s.link p with discardSf := none }
    if h.mark = .badHeader then s1.malformed p h.sf else f s1

/-- A LINK packet is received on every port that is UP and not stalled (R85, R98). -/
def upStates (st : Nat) : Bool := st == 1 || st == 2 || st == 4

/-- Receive a LINK packet; it is one block long, so a damaged block is its header's. -/
def State.rxLink (s : State) (p : Nat) (h : RxHdr) (f : State → State) : State :=
  s.receive p (if h.mark = .badBody then { h with mark := .badHeader } else h) upStates f

/-- Send a `NAK` with the last accepted `SEQ`, once (R81). -/
def State.sendNak (s : State) (p : Nat) : State :=
  let l := s.link p
  if l.nakSent then s
  else (s.setLink p { l with nakSent := true }).sendLink p 2 (l.rxSeq * 2 ^ 24)

/-- Receive a BK packet of `len` units in the states `st` (R81): in order and undamaged it is accepted and acknowledged, with the credits of a
request (R82); else it is discarded, with one `NAK`. -/
def State.rxBk (s : State) (p : Nat) (h : RxHdr) (st : Nat → Bool) (len : Nat) (request : Bool) (f : State → State) : State :=
  s.receive p h st (fun s1 =>
    let l := s1.link p
    if h.mark = .ok ∧ h.seq.toNat = (l.rxSeq + 1) % 256 then
      let s2 := ((s1.setLink p { l with rxSeq := h.seq.toNat, nakSent := false }).count64 (Reg.LINK_BK_RX_CNT p)).pmuCount (40 + p) 0x04 len
      f (s2.sendLink p 1 (h.seq.toNat * 2 ^ 24 + (if request then len else 0)))
    else s1.sendNak p)

/-- A sticky RT error bit; event 0x3019 when it goes from 0 to 1. -/
def State.rtError (s : State) (p : Nat) (f : Field) : State :=
  let t := s.linkErr p f
  if s.bit (Reg.LINK_ERR p) f then t else t.raise 0x3019 p

/-- Receive an RT packet of a type that needs one of the feature bits of `need` (R80, R88): gaps and marked packets are counted; what is outside the
negotiated result, its format `fmt` included, is malformed. -/
def State.rxRt (s : State) (p : Nat) (h : RxHdr) (type : Nat) (need : Nat) (f : State → State) (fmt : Bool := true) : State :=
  s.receive p h (fun st => st == 2) (fun s1 =>
    let l := s1.link p
    let last := kvGet (fun _ => none) l.rtRx type
    let gap := match last with
      | some q => decide (h.seq.toNat ≠ (q + 1) % 256)
      | none => false
    let s2 := s1.setLink p { l with rtRx := kvSet (fun _ => none) l.rtRx type (some h.seq.toNat) }
    let s3 := if gap then (s2.count64 (Reg.LINK_RT_LOST_CNT p)).rtError p Fld.LINK_ERR_RT_LOST else s2
    let allowed := need = 0 ∨ Nat.land (s3.fld (Reg.LINK_NEG_RES p) Fld.LINK_NEG_RES_FEAT) need ≠ 0
    if h.mark = .badBody then (s3.count64 (Reg.LINK_RT_ERR_CNT p)).rtError p Fld.LINK_ERR_RT_ERRMARK
    else if ¬allowed then s3.linkErr p Fld.LINK_ERR_MALFORMED
    else match fmt with
      | true => f (s3.count64 (Reg.LINK_RT_RX_CNT p))
      | false => s3.linkErr p Fld.LINK_ERR_MALFORMED)

/-! ## Retry (R81) -/

/-- The unacknowledged packets after the acknowledged `SEQ`. -/
def afterSeq (aseq : Nat) : List Pkt → Option (List Pkt)
  | [] => none
  | q :: qs => if q.seq = aseq then some qs else afterSeq aseq qs

/-- Free the packets that an `ASEQ` acknowledges. -/
def State.acknowledge (s : State) (p aseq : Nat) : State :=
  let l := s.link p
  match afterSeq aseq l.unacked with
  | some rest => s.setLink p { l with unacked := rest, replays := 0, progressAt := s.tick }
  | none => s

/-- Resend everything unacknowledged, or take the port down after 16 replays without progress (R81): event 0x3013 and a retrain. -/
def State.replay (s : State) (p : Nat) : State :=
  let l := s.link p
  if l.unacked.isEmpty then s
  else if 16 ≤ l.replays then ((s.linkDown p 0).raise 0x3013 p).trainLanes p
  else
    let s1 := s.setLink p { l with replays := l.replays + 1, progressAt := s.tick }
    let s2 := s1.putPkts p l.unacked
    ((s2.count64 (Reg.LINK_REPLAY_CNT p) l.unacked.length).pmuCount (40 + p) 0x06 l.unacked.length).linkErr p Fld.LINK_ERR_REPLAY

/-- ACK (R81, R82). -/
def execAck (p : Fin 2) (h : RxHdr) (aseq : BitVec 8) (cred : BitVec 16) (s : State) : Res :=
  finish (s.rxLink p h (fun t =>
    let t1 := t.acknowledge p aseq.toNat
    (t1.setLink p { t1.link p with credits := (t1.link p).credits + cred.toNat }).pump p))

/-- NAK (R81). -/
def execNak (p : Fin 2) (h : RxHdr) (aseq : BitVec 8) (s : State) : Res :=
  finish (s.rxLink p h (fun t => ((t.acknowledge p aseq.toNat).replay p).pump p))

/-- BK_REPLAY_TIMEOUT (R81): 8 µs without acknowledged progress; the timer is paused while the port is STALLED. -/
def execBkReplayTimeout (p : Fin 2) (s : State) : Res :=
  let l := s.link p
  finish (if upStates (s.lstate p) && s.pst p != 3 && !l.unacked.isEmpty && decide (l.progressAt + usTicks 8 ≤ s.tick) then s.replay p else s)

/-! ## Negotiation (R84-R88) -/

/-- The result of two OFFERs, or the reason of a REJECT (R85). -/
def negotiate (own peer : NegPay) : NegResult ⊕ Nat :=
  let v := Nat.land own.vset.toNat peer.vset.toNat
  let r := Nat.land own.rates.toNat peer.rates.toNat
  if v = 0 then .inr 1
  else if r = 0 then .inr 2
  else
    let ver := if v.testBit 1 then 2 else 1
    let feat := Nat.land own.feat.toNat peer.feat.toNat
    .inl { ver := ver
           lanes := if ver = 1 then 4 else Nat.min own.lanes peer.lanes
           rate := if r.testBit 1 then 1 else 0
           feat := if ver = 1 then Nat.land feat 2 else feat
           comp := Nat.land own.comp.toNat peer.comp.toNat }

/-- The device's OFFER from its registers (R84). -/
def State.ownOffer (s : State) (p : Nat) : NegPay :=
  let c := s.rd (Reg.LINK_CTL p)
  { vset := BitVec.ofNat 2 (getF c Fld.LINK_CTL_VSET_OFFER), lanes := if getF c Fld.LINK_CTL_LANES8 = 1 then 8 else 4
    rates := BitVec.ofNat 2 (getF c Fld.LINK_CTL_RATE_OFFER)
    feat := BitVec.ofNat 7 (s.fld (Reg.LINK_FEAT_OFFER p) Fld.LINK_FEAT_OFFER_FEAT)
    comp := BitVec.ofNat 7 (getF c Fld.LINK_CTL_COMP_OFFER), credit := 8192 }

/-- The result an ACCEPT names; a field without exactly one bit names none (R84). -/
def acceptResult (a : NegPay) : NegResult :=
  { ver := if a.vset = 1 then 1 else if a.vset = 2 then 2 else 0
    lanes := a.lanes
    rate := if a.rates = 1 then 0 else if a.rates = 2 then 1 else 2
    feat := a.feat.toNat, comp := a.comp.toNat }

/-- A REJECT with its reason; the spec gives its other payload fields no value (free values, log entry 2). -/
def State.sendReject (s : State) (p reason : Nat) : State :=
  let (a, s1) := s.takeFree
  let (b, s2) := s1.takeFree
  let (c, s3) := s2.takeFree
  let (d, s4) := s3.takeFree
  s4.sendNeg p 3 [a % 2 ^ 24 + reason * 2 ^ 24, b % 2 ^ 32, c % 2 ^ 16, d % 2 ^ 32, 0, 0]

/-- Negotiation fails (R85): `LSTATE` NEG_FAIL and event 0x3012; a port that was operational has left that state already. -/
def State.negFail (s : State) (p : Nat) : State :=
  ((s.setFld (Reg.LINK_STATUS p) Fld.LINK_STATUS_LSTATE 4).setLink p { s.link p with wanted := none }).raise 0x3012 p

/-- Whether a map carries one of the logical lanes `ks` on a physical lane. -/
def State.mapHas (s : State) (a ph : Nat) (ks : List Nat) : Bool := ks.any (fun k => s.pmap a k == ph)

/-- A physical lane at the change to four lanes (R87): a direction that carried one of logical lanes 4-7 carries `LLANE` = 0xE and powers down, the lane's
role is off, and its state too unless the other direction goes on. -/
def State.reduceLane (s : State) (p ph : Nat) : State :=
  let rx := Reg.LANE_PMAP_RX p
  let tx := Reg.LANE_PMAP_TX p
  let rxGone := s.mapHas rx ph [4, 5, 6, 7]
  let txGone := s.mapHas tx ph [4, 5, 6, 7]
  let rxStays := s.mapHas rx ph [0, 1, 2, 3] || s.reliefLane p true == some ph
  let txStays := s.mapHas tx ph [0, 1, 2, 3] || s.reliefLane p false == some ph
  if !rxGone && !txGone then s
  else
    let w := setF (s.rd (Reg.LANE_LSTAT p ph)) Fld.LANE_LSTAT_ROLE 3
    let w := if rxGone then setF (setF w Fld.LANE_LSTAT_ALIGNED 0) Fld.LANE_LSTAT_LLANE_RX 0xE else w
    let t := s.wr (Reg.LANE_LSTAT p ph) w
    if rxStays || txStays then t else t.setLst p ph 0

/-- Form the block stream from four lanes (R87), from the first superframe that starts after the matching ACCEPTs: logical lanes 4-7 leave the maps. -/
def State.reduceLanes (s : State) (p : Nat) : State :=
  let t := nine.foldl (fun (u : State) ph => u.reduceLane p ph) s
  let t := [4, 5, 6, 7].foldl (fun (u : State) k => (u.setPmap (Reg.LANE_PMAP_RX p) k 0xF).setPmap (Reg.LANE_PMAP_TX p) k 0xF) t
  let sf := s.superframeTicks p
  let at_ := (s.link p).streamAt
  t.startStream p 4 (at_ + ((s.tick - at_) / sf + 1) * sf)

/-- On entering OPERATIONAL a port sends a copy of every FULL channel whose receiver is its host (R374). -/
def State.repostMailboxes (s : State) (p : Nat) : State :=
  (List.range 32).foldl (fun t c =>
    if t.mbxFull c && t.fld (Reg.MBX_CFG c) Fld.MBX_CFG_RX == p + 1 then t.mbxCopy c p else t) s

/-- The link becomes OPERATIONAL with a result (R85, R87, R365, R374); the first port to return after both have failed takes every carrier. DESIGN CHOICE (log
entry 30): the `SEQ` spaces of the RT types start again, at 0 in the transmit direction and with no last one received; R80 does not say. -/
def State.operational (s : State) (p : Nat) (r : NegResult) (credit : Nat) : State :=
  let w := setF (setF (s.rd (Reg.LINK_STATUS p)) Fld.LINK_STATUS_LSTATE 2) Fld.LINK_STATUS_VER r.ver
  let w := setF (setF w Fld.LINK_STATUS_RATE r.rate) Fld.LINK_STATUS_LANES8 (b2n (r.lanes == 8))
  let s1 := s.wr (Reg.LINK_STATUS p) w
  let s2 := s1.wr (Reg.LINK_NEG_RES p) (setF (setF 0 Fld.LINK_NEG_RES_COMP r.comp) Fld.LINK_NEG_RES_FEAT r.feat)
  let back := (s.link p).downAt.isSome && (s.link (1 - p)).downAt.isSome && !s.linkUp (1 - p)
  let s3 := s2.setLink p { s2.link p with credits := credit, wanted := none, downAt := none, locksFreed := false, rtRx := [], rtTx := [] }
  let s4 := if r.lanes = 4 ∧ s3.pmap (Reg.LANE_PMAP_RX p) 4 ≠ 0xF then s3.reduceLanes p else s3
  let s5 := ((s4.raise 0x3010 p).updateRole.repostMailboxes p).drainPort p
  if back then s5.triggerFailover 0xFF p else s5

/-- Complete a negotiation whose two ACCEPTs are equal, or start the retrain of a rate change (R85, R86). -/
def State.negMatch (s : State) (p : Nat) (r : NegResult) (credit : Nat) : State :=
  if r.rate ≠ s.fld (Reg.LANE_PCTL p) Fld.LANE_PCTL_RATE then
    ((s.setLink p { s.link p with wanted := some r }).setFld (Reg.LANE_PCTL p) Fld.LANE_PCTL_RATE r.rate).retrain p
  else s.operational p r credit

/-- Compare the peer's ACCEPT with the device's (R85). -/
def State.negCompare (s : State) (p credit : Nat) : State :=
  match (s.link p).ownAccept, (s.link p).peerAccept with
  | some a, some b =>
    if a = b then s.negMatch p a credit else (s.setLink p { s.link p with peerAccept := none }).sendReject p 3
  | _, _ => s

/-- Answer the peer's OFFER (R85); a second negotiation must reach the first one's result (R86). -/
def State.answerOffer (s : State) (p : Nat) (pay : NegPay) : State :=
  let s1 := s.setLink p { s.link p with peerOffer := some pay.credit.toNat }
  match negotiate (s.ownOffer p) pay with
  | .inr reason => s1.sendReject p reason
  | .inl r =>
    match (s1.link p).wanted with
    | some w =>
      if w = r then
        ((s1.setLink p { s1.link p with ownAccept := some r }).sendNeg p 2
          (negPayload r.ver r.lanes (2 ^ r.rate) r.feat r.comp 8192)).negCompare p pay.credit.toNat
      else s1.sendReject p 3
    | none =>
      ((s1.setLink p { s1.link p with ownAccept := some r }).sendNeg p 2
        (negPayload r.ver r.lanes (2 ^ r.rate) r.feat r.comp 8192)).negCompare p pay.credit.toNat

/-- Restart negotiation on a port that is UP (LINK_CTL.RENEG): an operational port leaves OPERATIONAL (R99). -/
def State.reneg (s : State) (p : Nat) : State :=
  if s.lstate p = 0 then s
  else
    let t := s.linkDown p 1
    (t.setLink p { t.link p with wanted := none }).startNeg p

/-- States in which `NEG` packets are received. -/
def negStates (st : Nat) : Bool := upStates st

/-- NEG_OFFER (R84, R85). In OPERATIONAL an OFFER is the peer's renegotiation (log entry 6); in NEG_FAIL it has no effect. -/
def execNegOffer (p : Fin 2) (h : RxHdr) (pay : NegPay) (s : State) : Res :=
  finish (s.rxBk p h negStates 2 false (fun t =>
    let t1 := if t.lstate p = 2 then
        let u := t.reneg p
        u.setLink p { u.link p with rxSeq := h.seq.toNat }
      else t
    if t1.lstate p = 1 then t1.answerOffer p pay else t1))

/-- NEG_ACCEPT (R85, R86). -/
def execNegAccept (p : Fin 2) (h : RxHdr) (pay : NegPay) (s : State) : Res :=
  finish (s.rxBk p h negStates 2 false (fun t =>
    if t.lstate p = 1 then
      (t.setLink p { t.link p with peerAccept := some (acceptResult pay) }).negCompare p pay.credit.toNat
    else t))

/-- NEG_REJECT (R85): the third one fails the negotiation. -/
def execNegReject (p : Fin 2) (h : RxHdr) (_reason : BitVec 8) (s : State) : Res :=
  finish (s.rxBk p h negStates 2 false (fun t =>
    if t.lstate p = 1 then
      let t1 := t.setLink p { t.link p with rejects := (t.link p).rejects + 1 }
      if 3 ≤ (t1.link p).rejects then t1.negFail p else t1
    else t))

/-- NEG_OFFER_REPEAT (R84): every 100 µs until the peer's OFFER has been received. -/
def execNegOfferRepeat (p : Fin 2) (s : State) : Res :=
  let l := s.link p
  finish (if s.lstate p = 1 ∧ l.peerOffer.isNone ∧ l.offerAt + usTicks 100 ≤ s.tick then s.sendOffer p else s)

/-- NEG_TIMEOUT (R85): 10 ms without a matching pair of ACCEPTs. -/
def execNegTimeout (p : Fin 2) (s : State) : Res :=
  finish (if s.lstate p = 1 ∧ (s.link p).negAt + msTicks 10 ≤ s.tick then s.negFail p else s)

/-- A write of `LINK_CTL`. -/
def linkCtlWrite (p : Nat) (v : Word) (s : State) : Nat × State :=
  let t := s.plainWrite (Reg.LINK_CTL p) v
  (0, if getF v Fld.LINK_CTL_RENEG = 1 then t.reneg p else t)

/-- RENEG (R85): a write of `LINK_CTL` with `RENEG` = 1. -/
def execReneg (r : Req) (p : Fin 2) (v : Word) (s : State) : Res :=
  finish (s.writeBy r (Reg.LINK_CTL p) (linkCtlWrite p (setF v Fld.LINK_CTL_RENEG 1)))

/-! ## Completions and secure packets (R90, R104-R106) -/

/-- Answer a host request (R90); a secure request gets a secure completion while its session is open (R105). -/
def State.sendCpl (s : State) (p tag status : Nat) (secure : Bool) (len : Nat) (body : List Nat) : State :=
  let tspec := tag * 2 ^ 24 + status * 2 ^ 20 + 2 ^ 19
  if secure && s.bit (Reg.LINK_SEC_STAT p) Fld.LINK_SEC_STAT_OPEN then
    s.sendBk p 0x92 (len + 2) tspec body
  else s.sendBk p 0x12 len tspec body

/-- A BK packet as the sender formed it, up to the tag (R76, R77, R104): `body` is bytes 8 to the trailer. -/
def securePrefix (type len : Nat) (h : RxHdr) (tspec : Nat) (body : List Nat) (ctr : BitVec 64) : List Nat :=
  Pkt.bytes ⟨2, type + 0x80, len + 2, h.seq.toNat, tspec, body ++ [ctr.toNat % 2 ^ 32, ctr.toNat / 2 ^ 32, 0, 0]⟩

/-- Whether the trailer of a secure packet passes (R105): a session is open, the counter rises, the tag is right. -/
def State.trailerOk (s : State) (p : Nat) (t : SecTrailer) (pre : List Nat) : Bool :=
  let l := s.link p
  s.bit (Reg.LINK_SEC_STAT p) Fld.LINK_SEC_STAT_OPEN && decide (l.rxCtr < t.ctr.toNat) && t.tag == kmacTag l.keyH2D pre

/-- Whether `SECURE` is negotiated on a port (R84 `FEAT` bit 3). -/
def State.hasSecure (s : State) (p : Nat) : Bool := (s.fld (Reg.LINK_NEG_RES p) Fld.LINK_NEG_RES_FEAT).testBit 3

/-- A discarded secure packet (R105): event 0x3018 and `LINK_ERR.SEC_REJ`. -/
def State.secReject (s : State) (p : Nat) : State := (s.linkErr p Fld.LINK_ERR_SEC_REJ).raise 0x3018 p

/-- Accept a secure packet's counter; a counter that reaches 2^48 ends the session (R106). -/
def State.takeCtr (s : State) (p : Nat) (t : SecTrailer) : State := s.setLink p { s.link p with rxCtr := t.ctr.toNat }

/-- A host request (R90, R105): `act` runs it for the port's requester, answering status, completion length and body. -/
def State.hostReq (s : State) (p : Nat) (h : RxHdr) (sec : Option SecTrailer) (type len tspec tag : Nat) (body : List Nat) (isReg : Bool)
    (act : Req → State → Nat × Nat × List Nat × State) : State :=
  s.rxBk p h (fun st => st == 2) (if sec.isSome then len + 2 else len) true (fun t =>
    match sec with
    | none =>
      let (code, n, b, u) := act ⟨p + 1, false⟩ t
      u.sendCpl p tag code false n b
    | some tr =>
      if !t.hasSecure p then (t.linkErr p Fld.LINK_ERR_MALFORMED).sendCpl p tag (if isReg then 8 else 2) false 1 [0, 0]
      else if t.trailerOk p tr (securePrefix type len h tspec body tr.ctr) then
        let (code, n, b, u) := act ⟨p + 1, true⟩ (t.takeCtr p tr)
        (if 2 ^ 48 ≤ tr.ctr.toNat then u.sessionEnd p else u).sendCpl p tag code true n b
      else (t.secReject p).sendCpl p tag 2 false 1 [0, 0])

/-! ## Host memory accesses (R91) -/

/-- The cause that refuses a host block access before it reaches a window (R24, R91): a bad address or length, or no window. -/
def State.hostBlockCause (s : State) (addr n : Nat) : Nat :=
  if 2 ^ 32 ≤ addr then 3
  else
    let c := s.winCause addr (Nat.max 1 n)
    if c = 3 then 3 else if addr % 64 ≠ 0 ∨ n % 64 ≠ 0 ∨ n = 0 ∨ 4096 < n then 5 else c

/-- MEM_WR (R91): a host write of 64 to 4 096 bytes. -/
def execMemWr (p : Fin 2) (h : RxHdr) (sec : Option SecTrailer) (tag ch : BitVec 8) (addr : BitVec 64) (data : List Byte) (s : State) : Res :=
  let a := addr.toNat
  finish (s.hostReq p h sec 0x10 (1 + (data.length + 15) / 16) (tag.toNat * 2 ^ 24 + ch.toNat) tag.toNat (addrWords a ++ wordsOf data) false
    (fun r t =>
      match t.hostBlockCause a data.length with
      | 0 => let (c, u) := (t.dropHeld r).winWrite a data; (c, 1, [0, 0], u)
      | 1 => (1, 1, [0, 0], (t.dropHeld r).recordOffline r a)
      | c => (c, 1, [0, 0], t.dropHeld r)))

/-- MEM_RD (R91): a host read of 1 to 64 blocks; the data returns in one completion (R90). -/
def execMemRd (p : Fin 2) (h : RxHdr) (sec : Option SecTrailer) (tag : BitVec 8) (flush : Bool) (nblk : BitVec 7) (addr : BitVec 64) (s : State) :
    Res :=
  let a := addr.toNat
  let n := 64 * nblk.toNat
  finish (s.hostReq p h sec 0x11 1 (tag.toNat * 2 ^ 24 + b2n flush * 2 ^ 23 + nblk.toNat) tag.toNat (addrWords a) false
    (fun r t =>
      match t.hostBlockCause a n with
      | 0 =>
        let (c, bs, u) := t.winRead a n
        if c = 0 then (0, 1 + n / 16, [0, 0] ++ wordsOf bs, u) else (c, 1, [0, 0], u)
      | 1 => (1, 1 + n / 16, [0, 0] ++ List.replicate (n / 4) 0x0FF00FF0, t.recordOffline r a)
      | c => (c, 1, [0, 0], t)))

/-- RD_CPL (R92, R93): a completion for a device `MEM_RD`. -/
def execRdCpl (p : Fin 2) (h : RxHdr) (sec : Option SecTrailer) (tag : BitVec 8) (status : BitVec 4) (last : Bool) (offs : BitVec 7)
    (data : List Byte) (s : State) : Res :=
  let len := 1 + (data.length + 15) / 16
  let tspec := tag.toNat * 2 ^ 24 + status.toNat * 2 ^ 20 + b2n last * 2 ^ 19 + offs.toNat
  let take := fun (t : State) =>
    if !(t.fld (Reg.LINK_NEG_RES p) Fld.LINK_NEG_RES_FEAT).testBit 6 then t.linkErr p Fld.LINK_ERR_MALFORMED
    else t.readCompletion p tag.toNat status.toNat last offs.toNat data
  finish (s.rxBk p h (fun st => st == 2) len false (fun t =>
    match sec with
    | none => take t
    | some tr =>
      if !t.hasSecure p then t.linkErr p Fld.LINK_ERR_MALFORMED
      else if t.trailerOk p tr (securePrefix 0x12 len h tspec ([0, 0] ++ wordsOf data) tr.ctr) then
        let u := take (t.takeCtr p tr)
        if 2 ^ 48 ≤ tr.ctr.toNat then u.sessionEnd p else u
      else t.secReject p))

/-- MSG (R96): a mailbox message from a host; MBX24-MBX31 take secure packets only (R368). -/
def execMsg (p : Fin 2) (h : RxHdr) (sec : Option SecTrailer) (chan : Fin 32) (tag : BitVec 8) (words : List Word) (s : State) : Res :=
  let ws := (List.range 16).map (fun k => (words.getD k 0).toNat)
  finish (s.hostReq p h sec 0x15 5 (chan.val * 2 ^ 24 + tag.toNat * 256) tag.toNat ([0, 0] ++ ws) false
    (fun r t =>
      if 24 ≤ chan.val ∧ !t.secureReq r then (2, 1, [0, 0], t)
      else let (c, u) := mbxMessage chan r.id ws t; (c, 1, [0, 0], u)))

/-! ## Dual-homing writes (R100, R101) -/

/-- Whether both ports have `DUALHOME` negotiated (R100). -/
def State.dualHomed (s : State) : Bool :=
  [0, 1].all (fun p => s.linkUp p && (s.fld (Reg.LINK_NEG_RES p) Fld.LINK_NEG_RES_FEAT).testBit 4)

/-- A write of `LINK_DH_CTL` (R100, R101): ERR_BUSY for `SWITCH` during a pending failover, ERR_VERSION for a mode that needs `DUALHOME`. The new
`MODE` and `ACTIVE_B` take effect per carrier at its next symbol boundary. -/
def linkDhCtlWrite (v : Word) (s : State) : Nat × State :=
  let a := Reg.LINK_DH_CTL
  let sw := getF v Fld.LINK_DH_CTL_SWITCH = 1
  if sw ∧ s.dh.failover.isSome then (7, s)
  else if getF v Fld.LINK_DH_CTL_MODE ≠ 0 ∧ !s.dualHomed ∧ s.wouldChange a v Fld.LINK_DH_CTL_MODE then (8, s)
  else
    let changed := s.wouldChange a v Fld.LINK_DH_CTL_MODE || s.wouldChange a v Fld.LINK_DH_CTL_ACTIVE_B
    let t := s.plainWrite a v
    let t := if changed then { t with dh := { t.dh with applyCars := 0xFF, applyAt := t.tick } } else t
    (0, if sw then t.triggerFailover 0xFF 2 else t)

/-- A write of `LINK_DH_CARMAP` (R100). -/
def linkDhCarmapWrite (v : Word) (s : State) : Nat × State :=
  let t := s.plainWrite Reg.LINK_DH_CARMAP v
  (0, { t with dh := { t.dh with applyCars := 0xFF, applyAt := t.tick } })

/-- SWITCH (R101): a write of `LINK_DH_CTL` with `SWITCH` = 1. -/
def execSwitch (r : Req) (v : Word) (s : State) : Res :=
  finish (s.writeBy r Reg.LINK_DH_CTL (linkDhCtlWrite (setF v Fld.LINK_DH_CTL_SWITCH 1)))

/-- The stall time that triggers a failover, in µs (R101). -/
def State.failoverStallUs (s : State) (p : Nat) : Nat :=
  let f := s.fld Reg.LINK_DH_CTL Fld.LINK_DH_CTL_FO_STALL
  if f ≠ 0 then f else if s.bit (Reg.LINK_STATUS p) Fld.LINK_STATUS_RATE then 64 else 128

/-- FAILOVER_STALL_TIMEOUT (R101): a serving port has been STALLED longer than its failover stall time. -/
def execFailoverStallTimeout (p : Fin 2) (s : State) : Res :=
  finish (
    if s.lstate p = 3 ∧ s.bit Reg.LINK_DH_CTL Fld.LINK_DH_CTL_FO_EN ∧ s.linkUp (1 - p.val) ∧
        (s.port p).stallAt + usTicks (s.failoverStallUs p) < s.tick then s.triggerFailover (s.carsOf p) (1 - p.val)
    else s)

/-- The code in force for a carrier by the registers (R100). -/
def State.dhCode (s : State) (c : Nat) : Nat :=
  let m := s.dhMode
  let act := s.fld Reg.LINK_DH_CTL Fld.LINK_DH_CTL_ACTIVE_B
  if m = 0 then (if 6 ≤ s.dh.serve.getD c 2 then s.dh.serve.getD c 2 else 2)
  else if m = 2 then b2n ((s.fld Reg.LINK_DH_CARMAP Fld.LINK_DH_CARMAP_PORT).testBit c)
  else if m = 3 then 4 + act else act

end Sys2Proof.Machine
end

