-- ==== Sys2Proof/Machine/Time.lean ====
section
/-! DEFINITION. Timebase and time domains (05_timebase, R132-R146): commits, switchover and slew, stamping, pulse per second. Marks and risks: log entry 50. -/
namespace Sys2Proof.Machine

/-- A `TIME_STATUS` field of domain A or B. -/
def validFld (x : Nat) : Field := if x = 0 then Fld.TIME_STATUS_A_VALID else Fld.TIME_STATUS_B_VALID
def clampFld (x : Nat) : Field := if x = 0 then Fld.TIME_STATUS_CLAMP_A else Fld.TIME_STATUS_CLAMP_B

/-- TCLK runs. -/
def State.tclk (s : State) : Bool := s.clkOn Fld.SYS_CLK_STATUS_TCLK

/-- A time value held to 48-bit seconds (R134). -/
def timeMod (t : Int) : Nat := (t % (2 ^ 48 * uPerSec : Nat)).toNat

/-- Put a domain's offset and anchor at the current cycle (R136). -/
def State.reanchor (s : State) (x t : Nat) : State := (s.wrTime (Reg.TD_OFFSET x) t).wr64 (Reg.TD_ANCHOR x) s.tb

/-- A step of the selected domain (R140 ff.): event 0xC006. -/
def State.stepped (s : State) (x : Nat) : State := if x = s.tsel then s.raise 0xC006 0xFF else s

/-- `TIME_NOW`-form words to units u: nanoseconds above 999 999 999 count as that (R134). -/
def wordsTime (w0 w1 w2 w3 : Nat) : Nat :=
  ((w2 + 2 ^ 32 * (w3 % 65536)) * 1000000000 + Nat.min w1 999999999) * 65536 + w0 % 65536

/-- The sum of the steps of a domain committed in this cycle (R136). -/
def State.stepsNow (s : State) (x : Nat) : Int :=
  match s.time.steps.find? (fun e => e.1 == x && e.2.1 == s.tb) with
  | some e => e.2.2
  | none => 0

/-- A committed `TD_X_OFFSET` (R133, R136): `OFFSET` comes before the steps of the same cycle, whichever was sent first. -/
def State.offsetCommit (s : State) (x t : Nat) : State :=
  ((s.reanchor x (timeMod ((t : Int) + s.stepsNow x))).setFld Reg.TIME_STATUS (validFld x) 1).stepped x

/-- A committed `TD_X_STEP` (R136): signed, in units u. -/
def State.stepCommit (s : State) (x v : Nat) : State :=
  let t := { s with time := { s.time with steps := (x, s.tb, s.stepsNow x + sext v 64) :: s.time.steps.filter (fun e => e.1 != x) } }
  (t.reanchor x (timeMod ((s.dom x : Int) + sext v 64))).stepped x

/-- A committed `TD_X_INC` (R136, R137). -/
def State.incCommit (s : State) (x v : Nat) : State :=
  let inc := v % 2 ^ 48
  let t := (s.reanchor x (s.dom x)).wr64 (Reg.TD_INC x) inc
  t.setFld Reg.TIME_STATUS (clampFld x) (b2n (decide (t.incInForce x ≠ inc)))

/-- The selected domain changes (R139): `TIME_TRANS` keeps the output time where it is. -/
def State.setTsel (s : State) (x : Nat) : State :=
  if x = s.tsel then s
  else
    let before := s.outU
    let s1 := (s.setFld Reg.TIME_CTL Fld.TIME_CTL_TSEL x).setFld Reg.TIME_STATUS Fld.TIME_STATUS_TSEL_ACT x
    let trans : Int := (before : Int) - (s1.dom x : Int)
    let s2 := ({ s1 with time := { s1.time with trans := trans * 65536, slewFrac := 0 } }).raise 0xC001 0xFF
    if trans ≠ 0 then s2.setFld Reg.TIME_STATUS Fld.TIME_STATUS_SLEWING 1
    else if s2.bit Reg.TIME_STATUS Fld.TIME_STATUS_SLEWING then
      (s2.setFld Reg.TIME_STATUS Fld.TIME_STATUS_SLEWING 0).raise 0xC002 0xFF
    else s2

/-- `PPS_OUT` takes a level. -/
def State.setPps (s : State) (b : Bool) : State :=
  if s.time.ppsOut = b then s else { s with time := { s.time with ppsOut := b } }.emit (.pps b)

/-- A write of `TIME_CTL` (R139, R145). -/
def timeCtlWrite (v : Word) (s : State) : Nat × State :=
  let en := getF v Fld.TIME_CTL_PPSO_EN
  let s1 := s.setFld Reg.TIME_CTL Fld.TIME_CTL_PPSO_EN en
  let s2 := if en = 0 then { s1 with time := { s1.time with ppsDue := [] } }.setPps false else s1
  (0, s2.setTsel (getF v Fld.TIME_CTL_TSEL))

/-- A write of `TIME_ALIGN_CTL` (R146): `ARM` starts looking for a low sample. -/
def alignCtlWrite (v : Word) (s : State) : Nat × State :=
  let t := s.plainWrite Reg.TIME_ALIGN_CTL v
  (0, if getF v Fld.TIME_ALIGN_CTL_ARM = 1 then { t with time := { t.time with alignLow := false } } else t)

/-- TCLK restarts (R133): every TIME register but `TIME_TB_CNT` and the port compensation holds its reset value. -/
def State.timeRestart (s : State) : State :=
  let keep := fun (c : Nat × Word) => decide (c.1 < 0x30000 ∨ 0x40000 ≤ c.1) || c.1 == Reg.TIME_PORTCOMP 0 || c.1 == Reg.TIME_PORTCOMP 1
  { s.setPps false with regs := s.regs.filter keep, time := {} }

/-- One TCLK cycle of the slew (R140): `TIME_TRANS` falls by RATE × 256/15 units of 2^-32 ns and stops at exactly 0. -/
def State.slewTick (s : State) : State :=
  if s.time.trans = 0 then s
  else
    let rate := Nat.max 1 (s.fld Reg.TIME_TSW_SLEW Fld.TIME_TSW_SLEW_RATE)
    let total := s.time.slewFrac + rate * 256
    let mag := s.time.trans.natAbs - total / 15
    { s with time := { s.time with slewFrac := total % 15, trans := if 0 ≤ s.time.trans then (mag : Int) else -(mag : Int) } }

/-- A TCLK cycle in which the output seconds of `before` have increased by 1: `PPS_OUT` is due after `DELAY`, which is cut to whole cycles (R145). -/
def State.ppsTick (s before : State) : State :=
  if s.bit Reg.TIME_CTL Fld.TIME_CTL_PPSO_EN && s.outU / uPerSec == before.outU / uPerSec + 1 then
    { s with time := { s.time with ppsDue := s.time.ppsDue ++ [s.tick + s.fld Reg.TIME_PPSO_CFG Fld.TIME_PPSO_CFG_DELAY * 98304 / 100000] } }
  else s

/-- One TCLK period of model time (log entry 1): the counter and the slew advance while TCLK runs (R132). -/
def State.timeTick (s : State) : State :=
  let t := { s with tick := s.tick + 1 }
  if t.tclk then ({ t with tb := (t.tb + 1) % 2 ^ 64 }.slewTick).ppsTick s else t

/-! ## Stamping exchanges (R141-R143) -/

/-- A `TIME_PORTCOMP` adjustment in ps as units u, rounded half up (R143). -/
def adjU (raw : Nat) : Int := (sext raw 16 * 131072 + 1000) / 2000

/-- A stamp as seconds, nanoseconds and sub-nanoseconds (R141). -/
def stampBytes (t : Nat) : List Byte := natLE 6 (t / uPerSec) ++ natLE 4 (t / 65536 % 1000000000) ++ natLE 2 (t % 65536)

/-- A stamp in the domain of a port, `adj` included; while TCLK is stopped no domain time exists and it is a free value (log entry 2). -/
def State.stampNow (s : State) (p : Nat) (f : Field) : Nat × State :=
  if s.tclk then (timeMod ((s.dom p : Int) + adjU (s.fld (Reg.TIME_PORTCOMP p) f)), s)
  else let (v, t) := s.takeFree; (timeMod v, t)

/-- `DREQ` of the exchange of a port leaves, stamped as t3, and `REPORT` follows (R142). -/
def State.sendDreq (s : State) (p : Nat) : State :=
  match (s.link p).exch with
  | none => s
  | some (due, tseq, t2) =>
    if s.tick < due then s
    else
      let (t3, u) := s.stampNow p Fld.TIME_PORTCOMP_TX_ADJ
      ((u.setLink p { u.link p with exch := none }).sendRt p 6 1 (2 * 2 ^ 28 + tseq) [0, 0]).sendRt p 6 3 (3 * 2 ^ 28 + tseq)
        ([0, 0] ++ wordsOf (stampBytes t2 ++ stampBytes t3) ++ [0, 0])

/-- The exchanges of both ports in a TCLK period. -/
def State.exchTick (s : State) : State := (s.sendDreq 0).sendDreq 1

/-- SYNC (R141-R143): t2 is the domain time now; `DREQ` leaves 1 to 9 830 cycles later, within 10 µs (the delay is a free value, log entry 2). While
an exchange has not sent its `REPORT`, a further one is discarded. A reserved `TOP` is malformed. -/
def execSync (p : Fin 2) (h : RxHdr) (top : BitVec 4) (tseq : BitVec 16) (s : State) : Res :=
  finish (s.rxRt p h 6 0 (fun t =>
    if top ≠ 1 then t.linkErr p Fld.LINK_ERR_MALFORMED
    else if (t.link p).exch.isSome then t
    else
      let (v, t1) := t.takeFree
      let (t2, u) := t1.stampNow p Fld.TIME_PORTCOMP_RX_ADJ
      u.setLink p { u.link p with exch := some (u.tick + 1 + v % 9830, tseq.toNat, t2) }))

/-! ## Rows -/

/-- TD_OFFSET_COMMIT (R136): the four words of the written value. -/
def execTdOffsetCommit (r : Req) (x : Fin 2) (w0 w1 w2 w3 : Word) (s : State) : Res :=
  finish (s.writeBy r (Reg.TD_OFFSET x) (fun t => (0, t.offsetCommit x (wordsTime w0.toNat w1.toNat w2.toNat w3.toNat))))

/-- TD_STEP_COMMIT (R136). -/
def execTdStepCommit (r : Req) (x : Fin 2) (v : DWord) (s : State) : Res :=
  finish (s.writeBy r (Reg.TD_STEP x) (fun t => (0, t.stepCommit x v.toNat)))

/-- TD_INC_COMMIT (R136, R137). -/
def execTdIncCommit (r : Req) (x : Fin 2) (v : DWord) (s : State) : Res :=
  finish (s.writeBy r (Reg.TD_INC x) (fun t => (0, t.incCommit x v.toNat)))

/-- TSEL_SWITCH (R139): a write of `TIME_CTL`. -/
def execTselSwitch (r : Req) (v : Word) (s : State) : Res :=
  finish (s.writeBy r Reg.TIME_CTL (timeCtlWrite v))

/-- SLEW_DONE (R140): `TIME_TRANS` has reached 0. -/
def execSlewDone (s : State) : Res :=
  finish (if s.time.trans = 0 ∧ s.bit Reg.TIME_STATUS Fld.TIME_STATUS_SLEWING then
    (s.setFld Reg.TIME_STATUS Fld.TIME_STATUS_SLEWING 0).raise 0xC002 0xFF else s)

/-- PPSIN_CAPTURE (R144): a rising edge of `PPS_IN`, unless less than 0.5 s after the last captured one. -/
def execPpsinCapture (s : State) : Res :=
  let early := match s.time.ppsAt with
    | some t => decide ((s.tb + 2 ^ 64 - t) % 2 ^ 64 < 491520000)
    | none => false
  finish (if !s.tclk || early then s
    else
      let s1 := (s.wrTime (Reg.TIME_PPSIN 0) (s.dom 0)).wrTime (Reg.TIME_PPSIN 1) (s.dom 1)
      let s2 := (s1.wr64 Reg.TIME_PPSIN_TB s.tb).setFld Reg.TIME_STATUS Fld.TIME_STATUS_PPSIN_LOST 0
      ({ s2 with time := { s2.time with ppsAt := some s.tb } }.evSource 0x60).raise 0xC003 0xFF)

/-- PPSIN_LOST (R144): 1.1 s without an edge after one has been seen. -/
def execPpsinLost (s : State) : Res :=
  finish (match s.time.ppsAt with
    | some t =>
      if s.tclk && !s.bit Reg.TIME_STATUS Fld.TIME_STATUS_PPSIN_LOST && decide (1081344000 ≤ (s.tb + 2 ^ 64 - t) % 2 ^ 64) then
        (s.setFld Reg.TIME_STATUS Fld.TIME_STATUS_PPSIN_LOST 1).raise 0xC004 0xFF
      else s
    | none => s)

/-- PPS_OUT_RISE (R145): a natural rollover of the output seconds, delayed by `DELAY`. -/
def execPpsOutRise (s : State) : Res :=
  finish (
    if s.tclk && s.bit Reg.TIME_CTL Fld.TIME_CTL_PPSO_EN && s.time.ppsDue.any (fun d => decide (d ≤ s.tick)) then
      let w := Nat.max 1 (s.fld Reg.TIME_PPSO_CFG Fld.TIME_PPSO_CFG_WIDTH)
      { s with time := { s.time with ppsFallAt := s.tick + usTicks w, ppsDue := s.time.ppsDue.filter (fun d => decide (s.tick < d)) } }.setPps true
    else s)

/-- PPS_OUT_FALL (R145): after `WIDTH` µs. -/
def execPpsOutFall (s : State) : Res :=
  finish (if s.time.ppsOut && decide (s.time.ppsFallAt ≤ s.tick) then s.setPps false else s)

end Sys2Proof.Machine
end

