-- ==== Sys2Proof/Machine/Timeline.lean ====
section
/-! DEFINITION. Carrier timelines (R120, R121, R147): frames, slots, symbols and their air times, and the fields that apply per symbol (R180, R207). -/
namespace Sys2Proof.Machine

/-- The output time now (R138). -/
def State.nowTh (s : State) : Th := 3 * (s.outU : Int)

/-- Durations: 1 µs, 1 ns. -/
def thNs (ns : Nat) : Th := 196608 * (ns : Int)
def thUs (us : Nat) : Th := thNs (1000 * us)

/-! ## Carrier configuration (R181) -/

def State.carMu (s : State) (c : Nat) : Nat := s.fld (Reg.CAR_CFG c) Fld.CAR_CFG_MU
def State.carPrbs (s : State) (c : Nat) : Nat := s.fld (Reg.CAR_CFG c) Fld.CAR_CFG_NPRB
def State.carFft (s : State) (c : Nat) : Nat := 2 ^ s.fld (Reg.CAR_CFG c) Fld.CAR_CFG_FFTLOG
def State.carBusy (s : State) (c : Nat) : Bool := s.bit (Reg.CAR_STATUS c) Fld.CAR_STATUS_BUSY
def State.carToff (s : State) (c : Nat) : Bool := s.bit (Reg.CAR_STATUS c) Fld.CAR_STATUS_TOFF

/-- Slots per 10 ms frame. -/
def State.carSlots (s : State) (c : Nat) : Nat := 10 * 2 ^ s.carMu c

/-- The frame offset in Tc (CAR_FRAME_OFS). -/
def State.carOfs (s : State) (c : Nat) : Nat := Nat.min (s.rd64 (Reg.CAR_FRAME_OFS c) % 2 ^ 35) 20132659199

/-- Length of a normal symbol in Tc (R147). -/
def symTc (mu : Nat) : Nat := 2192 * 64 / 2 ^ mu

/-- Start of symbol `n` of the frame (slot × 14 + symbol) in Tc from the frame start; the symbol that opens each 0.5 ms is 1 024 Tc longer. -/
def symStart (mu n : Nat) : Nat :=
  let per := 7 * 2 ^ mu
  let r := n % per
  n / per * 983040 + r * symTc mu + (if r = 0 then 0 else 1024)

/-- The air time of symbol `n` of frame `f` of a carrier (R120, R147). -/
def State.airTime (s : State) (c : Nat) (f : Int) (n : Nat) : Th :=
  (f * 19660800 + (symStart (s.carMu c) n : Int) + (s.carOfs c : Int)) * 100000

/-- The air-time end of a symbol. -/
def State.airEnd (s : State) (c : Nat) (f : Int) (n : Nat) : Th := s.airTime c f (n + 1)

/-- The symbol in progress at an output time: frame and symbol of the frame (R147). -/
def State.symbolAt (s : State) (c : Nat) (t : Th) : Int × Nat :=
  let mu := s.carMu c
  let tc := t / 100000 - (s.carOfs c : Int)
  let f := tc / 19660800
  let inFr := (tc % 19660800).toNat
  let q := inFr % 983040
  let l := symTc mu
  (f, inFr / 983040 * (7 * 2 ^ mu) + (if q < 1024 + l then 0 else (q - 1024) / l))

/-- Samples of a symbol's CP at the carrier rate (R188). -/
def State.cpLen (s : State) (c n : Nat) : Nat :=
  9 * s.carFft c / 128 + (if n % (7 * 2 ^ s.carMu c) = 0 then s.carFft c * 2 ^ s.carMu c / 128 else 0)

/-- The first symbol (`slots` false) or slot boundary of a carrier strictly after a time (R158, R163). -/
def State.nextBoundary (s : State) (c : Nat) (slots : Bool) (t : Th) : Th :=
  let (f, n) := s.symbolAt c t
  if slots then s.airTime c f ((n / 14 + 1) * 14) else s.airTime c f (n + 1)

/-- The first boundary at or after a time. -/
def State.boundaryFrom (s : State) (c : Nat) (slots : Bool) (t : Th) : Th := s.nextBoundary c slots (t - 1)

/-- The frame of the occurrence of symbol `n` whose air time lies in (t − 5 ms, t + 5 ms] (R121). -/
def State.resolveFrame (s : State) (c n : Nat) (t : Th) : Int :=
  (t + thUs 5000 - s.airTime c 0 n) / (19660800 * 100000)

/-- One number for a symbol of a carrier, rising in time. -/
def symIndex (f : Int) (n : Nat) : Int := f * 4480 + (n : Int)

/-- The record of a carrier. -/
def State.car (s : State) (c : Nat) : CarSt := kvGet (fun _ => {}) s.cars c
def State.setCar (s : State) (c : Nat) (x : CarSt) : State := { s with cars := kvSet (fun _ => {}) s.cars c x }

/-! ## Symbol fields (R180, R207) -/

/-- Write a register of symbol, occasion or sample fields: each of its views, kept under a key, changes for what has its air or pin time at or after a
threshold. Changes older than 20 ms go. -/
def State.symWriteAs (s : State) (addr : Nat) (v : Word) (views : List (Nat × Th)) : State :=
  if s.rd addr = v then s
  else
    let keep := s.symHist.filter (fun e => decide (s.nowTh < e.thr + thUs 20000))
    { s.wr addr v with symHist := views.map (fun k => ⟨k.1, k.2, s.rd addr⟩) ++ keep }

/-- The word of a register in one of its views at air or pin time `t`. -/
def State.symView (s : State) (key addr : Nat) (t : Th) : Word :=
  s.symHist.foldl (fun v e => if e.addr = key ∧ t < e.thr then e.old else v) (s.rd addr)

/-- A register of one view. -/
def State.symWrite (s : State) (addr : Nat) (v : Word) (thr : Th) : State := s.symWriteAs addr v [(addr, thr)]
def State.symVal (s : State) (addr : Nat) (air : Th) : Word := s.symView addr addr air

/-- Write `CAR_CTL` or `CAR_STATUS`, which hold an enable for each direction: the transmit view changes at `tw` + 34 µs, the receive view (kept under
the address + 2) at `tw` (R184, R216). -/
def State.symWrite2 (s : State) (addr : Nat) (v : Word) (tw : Th) : State := s.symWriteAs addr v [(addr, tw + thUs 34), (addr + 2, tw)]

/-- The receive view of such a register for a symbol with air time `air`. -/
def State.symRx (s : State) (addr : Nat) (air : Th) : Word := s.symView (addr + 2) addr air

/-- Restart the count of symbol boundaries of every slice relief that synchronizes or connects (R201). -/
def State.restartSync (s : State) : State :=
  { s with slices := s.slices.map (fun x => (x.1, { x.2 with bounds := s.nowTh })) }

/-- The thresholds of a write at output time `tw`: transmit symbol fields, receive symbol fields (R180, R207). -/
def txThr (tw : Th) : Th := tw + thUs 34

/-! ## Events that are raised once per frame -/

/-- Raise an event of Layer Traffic at most once per carrier and 10 ms frame. -/
def State.raiseFrame (s : State) (code c : Nat) : State :=
  let f := ((s.symbolAt c s.nowTh).1 + 2 ^ 40).toNat
  let key := code * 8 + c
  if kvGet (fun _ => 0) s.evFrame key = f then s
  else { s with evFrame := kvSet (fun _ => 0) s.evFrame key f }.raise code c

end Sys2Proof.Machine
end

