-- ==== Sys2Proof/Machine/Layer.lean ====
section
/-! DEFINITION. Layer traffic (04_layer_traffic, R107-R131): SECTION descriptors and downlink data. Marks and risks: log entries 35, 36. -/
namespace Sys2Proof.Machine

/-! ## The SECTION descriptor (R108) -/

namespace SecF
def secid (d : Nat) : Nat := bitsAt d 0 12
def carrier (d : Nat) : Nat := bitsAt d 12 3
def slot (d : Nat) : Nat := bitsAt d 15 10
def symbol (d : Nat) : Nat := bitsAt d 25 4
def sprb (d : Nat) : Nat := bitsAt d 29 11
def nprb (d : Nat) : Nat := bitsAt d 40 11
def layer (d : Nat) : Nat := bitsAt d 51 4
def bsrc (d : Nat) : Nat := bitsAt d 55 2
def bval (d : Nat) : Nat := bitsAt d 57 25
def grp (d : Nat) : Nat := bitsAt d 82 3
def cw (d : Nat) : Nat := bitsAt d 85 4
def dir (d : Nat) : Nat := bitsAt d 89 1
def kind (d : Nat) : Nat := bitsAt d 90 2
def noSend (d : Nat) : Bool := d.testBit 92
def zero (d : Nat) : Bool := d.testBit 93
def nsym (d : Nat) : Nat := Nat.max 1 (bitsAt d 96 4)
def aux (d : Nat) : Nat := bitsAt d 104 8
/-- Reserved bits of the descriptor. -/
def reserved (d : Nat) : Bool := bitsAt d 94 2 != 0 || bitsAt d 100 4 != 0 || bitsAt d 112 16 != 0
/-- A DATA section with no PRBs is a time-IQ section (R119). -/
def tiq (d : Nat) : Bool := kind d == 0 && nprb d == 0
end SecF

/-- First symbol of the frame that a section covers. -/
def Section.first (x : Section) : Nat := SecF.slot x.raw * 14 + SecF.symbol x.raw

/-- Symbols covered; a PRACH section uses only its first (R223). -/
def secSyms (d : Nat) : Nat := if SecF.kind d = 2 then 1 else SecF.nsym d

/-- Whether a section covers symbol `n` of the frame. -/
def Section.covers (x : Section) (n : Nat) : Bool := decide (x.first ≤ n ∧ n < x.first + secSyms x.raw)

/-- The time-IQ setting of a direction (CAR_TRAFFIC). -/
def State.carTiq (s : State) (c dir : Nat) : Bool :=
  s.bit (Reg.CAR_TRAFFIC c) (if dir = 0 then Fld.CAR_TRAFFIC_DL_TIQ else Fld.CAR_TRAFFIC_UL_TIQ)

/-- Window limits of sections in µs: latest and earliest (R122). -/
def State.secWindow (s : State) (c dir : Nat) : Nat × Nat :=
  if dir = 0 then
    (Nat.max 35 (s.fld (Reg.CAR_DL_WIN c) Fld.CAR_DL_WIN_DL_LATE), s.fld (Reg.CAR_DL_WIN c) Fld.CAR_DL_WIN_DL_C_EARLY)
  else (Nat.max 10 (s.fld (Reg.CAR_UL_WIN c) Fld.CAR_UL_WIN_UL_C_LATE), s.fld (Reg.CAR_UL_WIN c) Fld.CAR_UL_WIN_UL_C_EARLY)

/-- Features and formats negotiated on a port (R84). -/
def State.feat (s : State) (p b : Nat) : Bool := (s.fld (Reg.LINK_NEG_RES p) Fld.LINK_NEG_RES_FEAT).testBit b
def State.comp (s : State) (p cw : Nat) : Bool := decide (cw ≤ 6) && (s.fld (Reg.LINK_NEG_RES p) Fld.LINK_NEG_RES_COMP).testBit cw

/-- The air time of a section's first symbol. -/
def State.secAir (s : State) (x : Section) : Th := s.airTime x.car x.frame x.first

/-- Whether a section has locked (R124). -/
def State.secLocked (s : State) (x : Section) : Bool :=
  x.locked || decide (x.lockT ≤ s.nowTh)

/-! ## PRACH timing (R221, R223; TS 38.211 tables 6.3.3.1-1 and -2) -/

/-- CP and sequence length of a PRACH format in units of κTc = 64 Tc, before division by 2^MU for formats 4-10, and its repetitions. -/
def prachFormat (fmt : Nat) : Nat × Nat × Nat :=
  match fmt with
  | 0 => (3168, 24576, 1)
  | 1 => (21024, 24576, 2)
  | 2 => (4688, 24576, 4)
  | 3 => (3168, 6144, 4)
  | 4 => (288, 2048, 2)
  | 5 => (576, 2048, 4)
  | 6 => (864, 2048, 6)
  | 7 => (216, 2048, 2)
  | 8 => (936, 2048, 12)
  | 9 => (1240, 2048, 1)
  | 10 => (2048, 2048, 4)
  | _ => (0, 0, 0)

/-- CP length, length of one repetition and repetitions of an occasion that starts `st` Tc into its frame, in Tc; short formats gain 16κ for each
0.5 ms boundary they meet (R221). No guard follows: TS 38.211 gives none and the worked example of R225 counts none. -/
def prachTiming (fmt mu st : Nat) : Nat × Nat × Nat :=
  let (cp, n, reps) := prachFormat fmt
  if fmt < 4 then (cp * 64, n * 64, reps)
  else
    let base := (cp + n * reps) * 64 / 2 ^ mu
    let first := (st + 983039) / 983040
    let hits := (st + base + 983039) / 983040 - first
    (cp * 64 / 2 ^ mu + hits * 1024, n * 64 / 2 ^ mu, reps)

/-- Start and end of the occasion of a PRACH section (R223). -/
def State.occasionSpan (s : State) (x : Section) : Th × Th :=
  let w := s.rd (Reg.RXDP_PRACH_CTL (SecF.aux x.raw % 4))
  let (cp, n, reps) := prachTiming (getF w Fld.RXDP_PRACH_CTL_FMT) (getF w Fld.RXDP_PRACH_CTL_MU) (symStart (s.carMu x.car) x.first)
  let a := s.secAir x
  (a, a + ((cp + n * reps : Nat) : Int) * 100000)

/-! ## Checks of R126 -/

/-- Reason 6: traffic mode (R119). A version 1.2 port carries only time-IQ traffic; PRACH sections fit either mode (R223). -/
def State.secMode (s : State) (p d : Nat) : Bool :=
  let c := SecF.carrier d
  let t := s.carTiq c (SecF.dir d)
  let v12 := s.fld (Reg.LINK_STATUS p) Fld.LINK_STATUS_VER = 1
  if SecF.kind d = 0 then (SecF.tiq d != t) || (!SecF.tiq d && v12)
  else if SecF.kind d = 1 then t || v12
  else false

/-- Which bits of `BVAL` must be 0 (R109). -/
def bvalOk (d : Nat) : Bool :=
  match SecF.bsrc d with
  | 0 => decide (SecF.bval d < 64)
  | 1 => decide (SecF.bval d < 8192)
  | 2 => true
  | _ => decide (SecF.bval d < 4096)

/-- Reason 2: a field is reserved, out of range or not negotiated (R108, R109, R119, R223). -/
def State.secBad (s : State) (p d : Nat) : Bool :=
  let c := SecF.carrier d
  let k := SecF.kind d
  let ul := SecF.dir d == 1
  SecF.reserved d || decide (s.carSlots c ≤ SecF.slot d) || decide (14 < SecF.symbol d + secSyms d) || k == 3 || decide (4 < SecF.grp d) ||
  !s.comp p (SecF.cw d) ||
  (!ul && (SecF.noSend d || k != 0)) || (ul && SecF.zero d) ||
  (k == 0 && SecF.aux d != 0) || (k == 2 && decide (4 ≤ SecF.aux d)) ||
  (k != 2 && !bvalOk d) ||
  (if SecF.tiq d then SecF.bsrc d != 0 || SecF.sprb d != 0 || SecF.nsym d != 1 || !s.feat p 1
   else SecF.nprb d == 0 || decide (s.carPrbs c < SecF.sprb d + SecF.nprb d) || (k != 2 && !s.feat p 0)) ||
  (k != 2 && SecF.bsrc d == 3 && !s.feat p 2) ||
  (k == 2 && (!s.bit (Reg.RXDP_PRACH_CTL (SecF.aux d % 4)) Fld.RXDP_PRACH_CTL_EN ||
    s.fld (Reg.RXDP_PRACH_CTL (SecF.aux d % 4)) Fld.RXDP_PRACH_CTL_CARRIER != c))

/-- Two ranges share an element. -/
def share (a n b m : Nat) : Bool := decide (a < b + m ∧ b < a + n)

/-- Whether two sections of one carrier and direction overlap ("When sections overlap", R119, R223): PRACH sections of
one configuration where they share the slot or their occasions meet. -/
def State.secOverlap (s : State) (x y : Section) : Bool :=
  let d := x.raw
  let e := y.raw
  let syms := x.frame == y.frame && SecF.slot d == SecF.slot e && share (SecF.symbol d) (secSyms d) (SecF.symbol e) (secSyms e)
  let prbs := share (SecF.sprb d) (SecF.nprb d) (SecF.sprb e) (SecF.nprb e)
  SecF.dir d == SecF.dir e && SecF.kind d == SecF.kind e &&
  (if SecF.kind d = 2 then
     SecF.aux d % 4 == SecF.aux e % 4 &&
       ((x.car == y.car && x.frame == y.frame && SecF.slot d == SecF.slot e) ||
        (let (a, b) := s.occasionSpan x
         let (a', b') := s.occasionSpan y
         decide (a < b' ∧ a' < b)))
   else if x.car ≠ y.car then false
   else if SecF.kind d = 1 then SecF.aux d == SecF.aux e && syms && prbs
   else if SecF.tiq d || SecF.tiq e then SecF.tiq d && SecF.tiq e && syms && SecF.bval d == SecF.bval e
   else SecF.layer d == SecF.layer e && syms && prbs)

/-- Whether a stored section still occupies the store: its last symbol is not over (R126). -/
def State.secLive (s : State) (y : Section) : Bool :=
  decide (s.nowTh < s.airEnd y.car y.frame (y.first + secSyms y.raw - 1))

/-- The same section ID (R126): carrier, slot occurrence, direction, `SECID`, and which set of copies it belongs to (R100). -/
def sameId (x y : Section) : Bool :=
  x.car == y.car && x.frame == y.frame && SecF.slot x.raw == SecF.slot y.raw && SecF.dir x.raw == SecF.dir y.raw &&
    SecF.secid x.raw == SecF.secid y.raw && x.standby == y.standby && (!x.standby || x.port == y.port)

/-- A stored section of the same ID that has not been freed: the store frees a section after its last symbol (R126). -/
def State.namesake (s : State) (x y : Section) : Bool := sameId x y && s.secLive y

/-- Reason 7: more than 256 sections named for one carrier, direction and symbol. -/
def tooMany (x : Section) (others : List Section) : Bool :=
  (List.range (secSyms x.raw)).any (fun i =>
    decide (256 ≤ (others.filter (fun y =>
      y.car == x.car && y.frame == x.frame && SecF.dir y.raw == SecF.dir x.raw && y.standby == x.standby && y.covers (x.first + i))).length))

/-! ## Downlink data of a section (R113, R116) -/

/-- Bytes of a unit of a compression code (R113). -/
def unitBytes (cw : Nat) : Nat :=
  if cw = 6 then 48 else 1 + 3 * ([8, 9, 10, 12, 14, 16].getD cw 8)

/-- Units of one symbol of a section: PRBs, or blocks of 12 samples of a time-IQ symbol (R119). -/
def State.secUnits (s : State) (x : Section) (n : Nat) : Nat :=
  if SecF.tiq x.raw then (s.cpLen x.car n + s.carFft x.car + 11) / 12 else SecF.nprb x.raw

/-- Data of the same section ID as a section. -/
def Section.owns (x : Section) (d : DlData) : Bool :=
  SecF.dir x.raw == 0 && d.car == x.car && d.frame == x.frame && d.slot == SecF.slot x.raw && d.secid == SecF.secid x.raw &&
    d.standby == x.standby && (!d.standby || d.port == x.port)

/-- Whether a downlink packet keeps the rules of R116 against its section. -/
def State.dataFits (s : State) (x : Section) (d : DlData) : Bool :=
  let n := d.slot * 14 + d.sym
  x.covers n && decide (d.poff + d.pcnt ≤ s.secUnits x n) && d.cw == SecF.cw x.raw && !SecF.zero x.raw &&
  (if SecF.bsrc x.raw = 0 then d.ant && d.stream == SecF.bval x.raw % 64 else !d.ant && d.stream == SecF.layer x.raw) &&
  decide (d.data.length = (d.pcnt * unitBytes d.cw + 15) / 16 * 16)

/-- Two packets of one section symbol carry a common unit ("When the same units arrive twice"). -/
def dataDup (d e : DlData) : Bool :=
  d.car == e.car && d.frame == e.frame && d.slot == e.slot && d.sym == e.sym && d.secid == e.secid && d.standby == e.standby &&
    (!d.standby || d.port == e.port) && share d.poff d.pcnt e.poff e.pcnt

/-- Bytes in the DL buffer (R127). -/
def State.dlBytes (s : State) : Nat := s.dl.foldl (fun n d => n + d.data.length) 0

/-- Judge the held data of a section that has just been accepted (R126): what breaks R116 is dropped. -/
def State.matchHeld (s : State) (x : Section) : State :=
  let bad := s.dl.filter (fun d => d.held && x.owns d && !s.dataFits x d)
  let keep := s.dl.filter (fun d => !(d.held && x.owns d && !s.dataFits x d))
  let t := { s with dl := keep.map (fun d => if d.held && x.owns d then { d with held := false } else d) }
  if bad.isEmpty then t else t.count (Reg.CAR_DL_DROP_CNT x.car) bad.length

/-- A refusal (R126): recorded, counted, event 0x4005; a standby section's refusal leaves no trace (R100). -/
def State.refuseSection (s : State) (reason : Nat) (x : Section) : State :=
  if x.standby then s
  else
    let a := Reg.CAR_SEC_ERR x.car
    let s1 := if s.bit a Fld.CAR_SEC_ERR_VALID then s
      else
        let w := setF (setF (setF 0 Fld.CAR_SEC_ERR_VALID 1) Fld.CAR_SEC_ERR_REASON reason) Fld.CAR_SEC_ERR_SYMBOL (SecF.symbol x.raw)
        s.wr a (setF (setF w Fld.CAR_SEC_ERR_SECID (SecF.secid x.raw)) Fld.CAR_SEC_ERR_SLOT (SecF.slot x.raw))
    (s1.count (Reg.CAR_SEC_REF_CNT x.car)).raiseFrame 0x4005 x.car

/-- The section that a descriptor names now (R121, R122). -/
def State.sectionOf (s : State) (p d : Nat) (standby : Bool) : Section :=
  let c := SecF.carrier d
  let n := SecF.slot d * 14 + SecF.symbol d
  let f := s.resolveFrame c n s.nowTh
  ⟨d, c, f, p, standby, false, s.airTime c f n - thUs (s.secWindow c (SecF.dir d)).1⟩

/-- Take one descriptor from port `p` (R126): refused by the first reason that applies in the order 6, 2, 3, 4, 1, 7, 5; a duplicate is discarded,
a differing section of the same ID replaces the accepted one. -/
def State.takeSection (s : State) (p d : Nat) (standby : Bool) : State :=
  let c := SecF.carrier d
  let x : Section := s.sectionOf p d standby
  if s.secMode p d then s.refuseSection 6 x
  else if s.secBad p d then s.refuseSection 2 x
  else
    let ahead := s.secAir x - s.nowTh
    let (late, early) := s.secWindow c (SecF.dir d)
    let old := s.sections.find? (s.namesake x)
    let oldLocked : Bool := match old with | some y => s.secLocked y | none => false
    if ahead < thUs late ∨ oldLocked then s.refuseSection 3 x
    else if thUs early < ahead then s.refuseSection 4 x
    else if old.map (·.raw) = some d then (s.count (Reg.CAR_DL_DUP_CNT c)).raiseFrame 0x4004 c
    else
      let others := s.sections.filter (fun y => !s.namesake x y)
      let peers := others.filter (fun y => y.standby == standby && (!standby || y.port == p))
      if peers.any (s.secOverlap x) then s.refuseSection 1 x
      else if tooMany x peers then s.refuseSection 7 x
      else if 16384 ≤ (others.filter s.secLive).length then s.refuseSection 5 x
      else
        let s1 := match old with
          | some y =>
            ({ s with dl := s.dl.filter (fun e => !(y.owns e)) }.count (Reg.CAR_SEC_REPL_CNT c)).raiseFrame 0x4008 c
          | none => s
        ({ s1 with sections := others ++ [x] }).matchHeld x

/-- CPLANE (R107): the descriptors in order, each judged on its own; those for carriers that the port does not serve are standby copies under `HOT`,
else counted and discarded (R100). -/
def execCplane (p : Fin 2) (h : RxHdr) (descs : List (BitVec 128)) (s : State) : Res :=
  finish (s.rxRt p h 5 3 (fun u =>
    let t0 := u.pmuCount (40 + p) 0x02 (1 + descs.length)
    descs.foldl (fun t d =>
      let c := SecF.carrier d.toNat
      if t.servePort c = p then t.takeSection p d.toNat false
      else if t.bit Reg.LINK_DH_CTL Fld.LINK_DH_CTL_HOT then t.takeSection p d.toNat true
      else t.count64 (Reg.LINK_RT_IGN_CNT p)) t0))

/-- Buffer one downlink packet, or drop and count it (R116, R123, R126, R128). -/
def State.takeData (s : State) (d : DlData) : State :=
  let n := d.slot * 14 + d.sym
  let ahead := s.airTime d.car d.frame n - s.nowTh
  let win := s.rd (Reg.CAR_DL_WIN d.car)
  let drop := fun (t : State) => t.count (Reg.CAR_DL_DROP_CNT d.car)
  if s.carSlots d.car ≤ d.slot ∨ 14 ≤ d.sym then drop s
  else if ahead < thUs (Nat.max 35 (getF win Fld.CAR_DL_WIN_DL_LATE)) then (s.count (Reg.CAR_DL_LATE_CNT d.car)).raiseFrame 0x4001 d.car
  else if thUs (getF win Fld.CAR_DL_WIN_DL_EARLY) < ahead then (s.count (Reg.CAR_DL_EARLY_CNT d.car)).raiseFrame 0x4002 d.car
  else
    let sec := s.sections.find? (fun x => x.owns d)
    let fits : Bool := match sec with | some x => s.dataFits x d | none => true
    if !fits then drop s
    else if s.dl.any (dataDup d) then (s.count (Reg.CAR_DL_DUP_CNT d.car)).raiseFrame 0x4004 d.car
    else if 16777216 < s.dlBytes + d.data.length then (drop s).raiseFrame 0x4006 d.car
    else { s with dl := s.dl ++ [{ d with held := sec.isNone }] }

/-- The feature bit that downlink data needs (R84, R88): `TIMEIQ` for a path's samples of a time-IQ carrier, `LAYER` otherwise. DESIGN CHOICE (log entry
30): R88 does not say which feature a packet with `ANT` = 1 belongs to; the carrier's `DL_TIQ` decides. -/
def State.dlNeed (s : State) (car : Nat) (ant : Bool) : Nat :=
  if ant && s.bit (Reg.CAR_TRAFFIC car) Fld.CAR_TRAFFIC_DL_TIQ then 2 else 1

/-- The output time at which the window of a data packet that arrives now closes (R122). -/
def State.dataLate (s : State) (c slot sym : Nat) : Th :=
  s.airTime c (s.resolveFrame c (slot * 14 + sym) s.nowTh) (slot * 14 + sym) - thUs (Nat.max 35 (s.fld (Reg.CAR_DL_WIN c) Fld.CAR_DL_WIN_DL_LATE))

/-- LAYER_DL (R113, R116): one downlink data packet; `data` is bytes 16 on. -/
def execLayerDl (p : Fin 2) (h : RxHdr) (car : Fin 8) (sym : BitVec 4) (slot : BitVec 10) (secid : BitVec 12) (poff : BitVec 11)
    (pcnt : BitVec 11) (cw : BitVec 4) (ant : Bool) (stream : BitVec 7) (data : List Byte) (s : State) : Res :=
  finish (s.rxRt p h 1 (s.dlNeed car ant) (fun u =>
    let t := u.pmuCount (40 + p) 0x02 (1 + data.length / 16)
    let served := decide (t.servePort car = p)
    if !served && !t.bit Reg.LINK_DH_CTL Fld.LINK_DH_CTL_HOT then t.count64 (Reg.LINK_RT_IGN_CNT p)
    else t.takeData
        { car := car, frame := t.resolveFrame car (slot.toNat * 14 + sym.toNat) t.nowTh, slot := slot.toNat, sym := sym.toNat
          secid := secid.toNat, poff := poff.toNat, pcnt := pcnt.toNat, cw := cw.toNat, ant := ant, stream := stream.toNat
          port := p, standby := !served, held := true, data := data.map (·.toNat)
          lateT := t.dataLate car slot.toNat sym.toNat }) (s.comp p cw.toNat))

/-- SECTION_LOCK (R124): a section whose window has passed is locked. -/
def execSectionLock (c : Fin 8) (dir : Bool) (slot : BitVec 10) (secid : BitVec 12) (s : State) : Res :=
  finish { s with sections := s.sections.map (fun x =>
    if x.car = c.val ∧ SecF.dir x.raw = b2n dir ∧ SecF.slot x.raw = slot.toNat ∧ SecF.secid x.raw = secid.toNat ∧ s.secLocked x then
      { x with locked := true } else x) }

/-- ORPHAN_DISCARD (R126): held data of a carrier whose own window has closed is discarded, counted, event 0x4003. -/
def execOrphanDiscard (c : Fin 8) (s : State) : Res :=
  let gone := fun (d : DlData) => d.held && d.car == c.val && decide (d.lateT ≤ s.nowTh)
  let k := (s.dl.filter gone).length
  finish (if k = 0 then s
    else (({ s with dl := s.dl.filter (fun d => !gone d) }).count (Reg.CAR_DL_ORPHAN_CNT c) k).raiseFrame 0x4003 c)

end Sys2Proof.Machine
end

