-- ==== Sys2Proof/Machine/Weights.lean ====
section
/-! DEFINITION. Weights (09_beams, R226-R238): exact cosine and sine, synthesized, explicit and computed beams. Marks and risks: log entries 44, 36. -/
namespace Sys2Proof.Machine

/-! ## Exact arithmetic -/

/-- The floor of the square root, bit by bit from `2^(k-1)` down. -/
def isqrtFrom (n : Nat) : Nat → Nat → Nat
  | 0, r => r
  | k + 1, r => if (r + 2 ^ k) * (r + 2 ^ k) ≤ n then isqrtFrom n k (r + 2 ^ k) else isqrtFrom n k r

/-- The floor of the square root of a number below 2^80. -/
def isqrt (n : Nat) : Nat := isqrtFrom n 40 0

/-- π × 2^128, cut. -/
def piQ : Int := 1069028584064966747859680373161870783300

/-- Terms of the power series of cosine (`k0` = 0) or sine (`k0` = 1) in units of 2^-128: each is the last × −x² / ((k+1)(k+2)). -/
def taylor (x2 : Int) : Nat → Nat → Int → Int
  | 0, _, _ => 0
  | fuel + 1, k, term => term + taylor x2 fuel (k + 2) (-(term * x2 / 2 ^ 128) / (((k + 1) * (k + 2) : Nat) : Int))

/-- Cosine and sine of `r` / `q` of a quarter turn, below one, in units of 2^-128; exact at 0. -/
def quarter (r q : Nat) : Int × Int :=
  if r = 0 then (2 ^ 128, 0)
  else
    let x := piQ * (r : Int) / (2 * q : Nat)
    let x2 := x * x / 2 ^ 128
    (taylor x2 22 0 (2 ^ 128), taylor x2 22 1 x)

/-- Cosine and sine of `p` / `q` turns, in units of 2^-128; exact at multiples of a quarter turn, elsewhere to better than 2^-100. -/
def cosSinOf (p q : Nat) : Int × Int :=
  let (c, s) := quarter (4 * p % q) q
  match 4 * p / q % 4 with
  | 0 => (c, s)
  | 1 => (-s, c)
  | 2 => (-c, -s)
  | _ => (s, -c)

/-- Cosine and sine of the phase `ph` / 2^24 turns (R233). -/
def cosSin (ph : Nat) : Int × Int := cosSinOf ph (2 ^ 24)

/-- A product in units of 2^-128, rounded half up to an integer. -/
def round128 (x : Int) : Int := (x + 2 ^ 127) / 2 ^ 128

/-- 16-bit saturation. -/
def sat16 (x : Int) : Int := clampI (-32768) 32767 x

/-- A complex Q1.14 weight word (R226): real part in [31:16], imaginary part in [15:0]. -/
def wordCplx (w : Nat) : Int × Int := (sext (w / 65536) 16, sext w 16)

/-! ## Banks by air time (R163, R525) -/

/-- The bank of a resource for a symbol with air time `air`: an old bank while its boundary lies after the symbol, else the current one. -/
def State.bankAt (s : State) (res idx cur : Nat) (air : Th) : Nat :=
  match s.olds.find? (fun o => o.res == res && o.idx == idx && decide (air < o.bound)) with
  | some o => o.bank
  | none => cur

def State.taperBank (s : State) (air : Th) : Nat := s.bankAt 5 0 (s.fld Reg.BEAM_BANK_STAT Fld.BEAM_BANK_STAT_TAPER_ABANK) air
def State.geomBank (s : State) (air : Th) : Nat := s.bankAt 6 0 (s.fld Reg.BEAM_BANK_STAT Fld.BEAM_BANK_STAT_GEOM_ABANK) air

/-- Whether explicit half `h` serves a symbol (R234): its code is 1 SERVING, 0 LOADING. -/
def State.expServes (s : State) (h : Nat) (air : Th) : Bool :=
  s.bankAt 4 h (b2n ((s.fld Reg.BEAM_BANK_STAT Fld.BEAM_BANK_STAT_EXP_SERVE).testBit h)) air == 1

/-- The record of a handle in a direction. -/
def State.cw (s : State) (dir h : Nat) : CwSt := kvGet (fun _ => {}) s.cws (256 * dir + h)
def State.setCw (s : State) (dir h : Nat) (x : CwSt) : State := { s with cws := kvSet (fun _ => {}) s.cws (256 * dir + h) x }

/-- The bank of a handle that a symbol uses (R241, R246): before the boundary of a flip the one it left. -/
def State.cwBank (s : State) (dir h : Nat) (air : Th) : Nat :=
  (s.cw dir h).past.foldl (fun v f => if air < f.bound then f.bank else v) (s.fld (Reg.BEAM_CW_STAT dir h) Fld.BEAM_CW_STAT_A)

/-- Whether a symbol that uses a handle is stale: from the boundary missed to the next flip (R242, R244). -/
def State.cwStale (s : State) (dir h : Nat) (air : Th) : Bool :=
  let x := s.cw dir h
  (s.bit (Reg.BEAM_CW_STAT dir h) Fld.BEAM_CW_STAT_STALE && decide (x.staleB ≤ air)) ||
    x.past.any (fun f => match f.stale with | some b => decide (b ≤ air ∧ air < f.bound) | none => false)

/-! ## Frequency (R228) -/

/-- PRBs in a group (R108, R111). -/
def groupSize (grp : Nat) : Nat := 2 ^ grp

/-- The direction's absolute centre in 5 kHz units and its spectrum sign, for a symbol (R228, R229). -/
def State.beamFc (s : State) (dir : Nat) (air : Th) : Int × Int :=
  let w := s.symVal (Reg.BEAM_FC dir) air
  ((Nat.min (getF w Fld.BEAM_FC_FC5K) 3100000 : Nat), if getF w Fld.BEAM_FC_INV = 1 then -1 else 1)

/-- `df25` of a PRB group of a carrier (R228). -/
def State.df25 (s : State) (dir c grp g : Nat) (air : Th) : Int :=
  let size := groupSize grp
  let nprb := s.carPrbs c
  let p0 := g * size
  let p1 := Nat.min (p0 + size) nprb - 1
  let f5k := sext (s.fld (Reg.CAR_FREQ c) Fld.CAR_FREQ_F5K) 18
  (s.beamFc dir air).2 * (2 * f5k + ((12 * p0 + 12 * p1 + 11 : Nat) - (12 * nprb : Nat) : Int) * (3 * 2 ^ s.carMu c : Nat))

/-! ## Synthesized and explicit weights (R230-R235) -/

/-- Geometry of a path: x, y, z in 1/64 mm (R231). -/
def State.geometry (s : State) (bank a : Nat) : Int × Int × Int :=
  let w := fun k => sext (s.ldN (0x21210800 + bank * 0x400 + a * 16 + 4 * k) 4) 20
  (w 0, w 1, w 2)

/-- Taper amplitude of a path (R232). -/
def State.taper (s : State) (bank p a : Nat) : Nat := Nat.min 0x8000 (s.ldN (0x21210000 + bank * 0x400 + p * 128 + a * 2) 2)

/-- The path length `d` of R233 for the direction indices `IE`, `IA`. -/
def State.pathLen (s : State) (bank a ie ia : Nat) : Int :=
  let uu : Int := ((ia : Int) - 2048) * 256
  let vv : Int := ((ie : Int) - 512) * 1024
  let ww : Int := (isqrt (2 ^ 38 - uu * uu - vv * vv).toNat : Nat)
  let (x, y, z) := s.geometry bank a
  x * uu + y * vv + z * ww

/-- The phase of R233: floor(−f × d × 5 / 1 199 169 832 + 0.5) modulo 2^24. -/
def beamPhase (f d : Int) : Nat := ((((-f * d * 10) + 1199169832) / 2398339664) % 2 ^ 24).toNat

/-- The SYNTH weight of path `a` (R233). -/
def State.synthWeight (s : State) (id a : Nat) (f25 : Int) (air : Th) : Int × Int :=
  let amp : Int := (s.taper (s.taperBank air) (id / 2 ^ 22 % 8) a : Nat)
  let d := s.pathLen (s.geomBank air) a (id / 2 ^ 12 % 1024) (id % 4096)
  let (c, n) := cosSin (beamPhase f25 d)
  ((amp * c + 2 ^ 128) / 2 ^ 129, (amp * n + 2 ^ 128) / 2 ^ 129)

/-- The EXPLICIT weight of path `a` of beam `i` (R234, R235). -/
def State.explicitWeight (s : State) (i a : Nat) (df : Int) (air : Th) : Int × Int :=
  let h := i / 4096 % 2
  let (er, ei) := wordCplx (s.ldN (0x21000000 + h * 0x100000 + i % 4096 * 256 + a * 4) 4)
  let slope := s.ldN (0x21200000 + h * 0x4000 + i % 4096 * 4) 4
  if !slope.testBit 31 then (er, ei)
  else
    let (c, n) := cosSin (beamPhase df (s.pathLen (s.geomBank air) a (bitsAt slope 12 10) (slope % 4096)))
    (sat16 (round128 (er * c - ei * n)), sat16 (round128 (er * n + ei * c)))

/-! ## Weights of a section (R109, R236-R238) -/

/-- PRB groups that a section touches: first and one past the last. -/
def secGroups (d : Nat) : Nat × Nat :=
  let g := groupSize (SecF.grp d)
  (SecF.sprb d / g, (SecF.sprb d + SecF.nprb d - 1) / g + 1)

/-- Whether a section symbol receives zero weights (R234, R238). -/
def State.beamRefErr (s : State) (dir : Nat) (x : Section) (air : Th) : Bool :=
  let d := x.raw
  match SecF.bsrc d with
  | 1 => !s.expServes (SecF.bval d / 4096 % 2) air
  | 3 =>
    let h := SecF.bval d % 256
    let e := s.dirEntry dir (s.cwBank dir h air) h
    let (g0, g1) := secGroups d
    !(e.valid && e.carrier == x.car && e.grp == SecF.grp d && decide (SecF.bval d / 256 % 16 ≤ e.ncol) &&
      decide (e.g0 ≤ g0 ∧ g1 ≤ e.g0 + e.ng) && decide (e.base + e.ng * (e.ncol + 1) ≤ 13920) && decide (e.grp ≤ 4))
  | _ => false

/-- The weight of a section for PRB group `g` and path `a` (R109, R110). -/
def State.secWeight (s : State) (dir : Nat) (x : Section) (air : Th) (g a : Nat) : Int × Int :=
  let d := x.raw
  let df := s.df25 dir x.car (SecF.grp d) g air
  match SecF.bsrc d with
  | 0 => if a = SecF.bval d % 64 then (16384, 0) else (0, 0)
  | 1 => s.explicitWeight (SecF.bval d % 8192) a df air
  | 2 => s.synthWeight (SecF.bval d) a (2 * (s.beamFc dir air).1 + df) air
  | _ =>
    let h := SecF.bval d % 256
    let b := s.cwBank dir h air
    let e := s.dirEntry dir b h
    wordCplx (s.ldN (weightBank dir b + 0x4000 + (e.base + (g - e.g0) * (e.ncol + 1) + SecF.bval d / 256 % 16) * 256 + a * 4) 4)

/-- Count the section symbol's weight errors and staleness (R238, R242): the state and whether the weights are zero and whether they are stale. -/
def State.weightChecks (s : State) (dir : Nat) (x : Section) (air : Th) : State × Bool × Bool :=
  let err := s.beamRefErr dir x air
  let stale := SecF.bsrc x.raw == 3 && s.cwStale dir (SecF.bval x.raw % 256) air
  let s1 := if err then (s.count Reg.BEAM_REF_ERR_CNT).raiseLim 10 0x4032 x.car else s
  (if stale then s1.count Reg.BEAM_STALE_CNT else s1, err, stale)

end Sys2Proof.Machine
end

