-- ==== Sys2Proof/Machine/Nco.lean ====
section
/-! DEFINITION. What the sample stages of both directions share: sample grids, values that are known to within a bound, complex arithmetic, zones and the phases of
the path and carrier NCOs (R189, R190, R284-R289). Marks and risks: log entries 7, 57, 58. -/
namespace Sys2Proof.Machine

/-! ## Samples -/

/-- The sample of an index; one that is not listed is zero. -/
def sigAt (l : Sig) (n : Int) : Int × Int := match l.find? (fun e => e.1 == n) with | some e => e.2 | none => (0, 0)

/-- Put a sample; zeros are not listed. -/
def sigPut (l : Sig) (n : Int) (z : Int × Int) : Sig :=
  let rest := l.filter (fun e => e.1 != n)
  if z = (0, 0) then rest else rest ++ [(n, z)]

/-- Samples `n - k` to `n + k`. -/
def window (val : Int → Int × Int) (n : Int) (k : Nat) : List (Int × Int) := (List.range (2 * k + 1)).map (fun (i : Nat) => val (n - (k : Int) + (i : Int)))

/-- The reach of the interpolating, decimating and alignment filters, in samples of their input on each side. DESIGN CHOICE (log entry 7): the spec bounds
ripple, rejection and delay only. -/
def reach : Nat := 32

/-- A filter's output on its window; zeros give zero. -/
def filtered (f : List (Int × Int) → Int × Int) (w : List (Int × Int)) : Int × Int := if w.all (fun z => z == (0, 0)) then (0, 0) else f w

/-- A complex product. -/
def cmulI (x y : Int × Int) : Int × Int := (x.1 * y.1 - x.2 * y.2, x.1 * y.2 + x.2 * y.1)

/-- The complex conjugate. -/
def conjI (z : Int × Int) : Int × Int := (z.1, -z.2)

/-- Round half up by `k` bits. -/
def roundBits (k : Nat) (x : Int) : Int := (x + 2 ^ (k - 1)) / 2 ^ k

/-- Round half up by `k` bits, both parts. -/
def round2 (k : Nat) (z : Int × Int) : Int × Int := (roundBits k z.1, roundBits k z.2)

/-- Saturate both parts at 16 bits. -/
def satI (z : Int × Int) : Int × Int := (sat16 z.1, sat16 z.2)

/-- Whether a part saturates at 16 bits. -/
def saturates (x : Int) : Bool := decide (x < -32768 ∨ 32767 < x)

/-- Whether a sample saturates. -/
def satSample (z : Int × Int) : Bool := saturates z.1 || saturates z.2

/-- An integer within `k` of `x` / 2^`e`, which one is open: the free value `v` chooses (R187, R211, R281). -/
def near (k e : Nat) (x : Int) (v : Nat) : Int :=
  let lo := -((k * 2 ^ e - x) / 2 ^ e)
  let hi := (x + k * 2 ^ e) / 2 ^ e
  lo + ((v % (hi - lo + 1).toNat : Nat) : Int)

/-- floor(sqrt(I² + Q²)) (R193). -/
def magOf (z : Int × Int) : Nat := isqrt (z.1 * z.1 + z.2 * z.2).toNat

/-- The key of an Assay instance: item, unit, element (R382). -/
def assayKey (item unit elem : Nat) : Nat := item * 2 ^ 14 + unit * 2 ^ 7 + elem

/-- A complex Q2.14 gain word, real part high (R192, R209). -/
def gainOf (w : Word) : Int × Int := wordCplx w.toNat

/-! ## Sample grids (R17, R276, R292)

Grid time counts 200 000 units per TCLK period since the last converter alignment, so that at the nominal rate one unit is one `Th`. Sample `n` of a
stream of 1 474.56 × `k` MS/s lies at 400 000 n / (3 k). -/

/-- Grid time now. -/
def State.grid (s : State) : Int := 200000 * ((s.tick : Int) - (s.align.resetAt : Int))

/-- Grid time of an output time, at the nominal rate from now (log entry 57). -/
def State.gridOf (s : State) (t : Th) : Int := s.grid + (t - s.nowTh)

/-- Output time of sample `n` of a stream of 1 474.56 × `k` MS/s, at the nominal rate from now (log entry 57). -/
def State.sampleTh (s : State) (k : Nat) (n : Int) : Th := s.nowTh + (400000 * n / (3 * k : Nat) - s.grid)

/-- The first sample of a stream of 1 474.56 × `k` MS/s at or after a grid time. -/
def firstIdx (k : Nat) (g : Int) : Int := -((-(3 * (k : Int) * g)) / 400000)

/-- The samples of a stream of 1 474.56 × `k` MS/s whose air time lies `lead` (as a grid time) after the TCLK period that has just ended. -/
def State.newSamples (s : State) (k : Nat) (lead : Int) : List Int :=
  let a := firstIdx k (s.grid - 200000 + lead)
  let b := firstIdx k (s.grid + lead)
  (List.range (b - a).toNat).map (fun (i : Nat) => a + (i : Int))

/-! ## Zones and path NCOs (R284-R289) -/

/-- An RF centre in units of 5 kHz / 65 536 (R288). -/
def State.ncoCentre (s : State) (a f : Nat) : Int :=
  (Nat.min (s.fld a Fld.CONV_NCO_TX_FC5K) 3100000 * 65536 : Nat) + sext (s.fld f Fld.CONV_NCO_TXF_FINE) 16

/-- RF centre of TX profile `k`, of RX profile `k`. -/
def State.txCentre (s : State) (k : Nat) : Int := s.ncoCentre (Reg.CONV_NCO_TX k) (Reg.CONV_NCO_TXF k)
def State.rxCentre (s : State) (k : Nat) : Int := s.ncoCentre (Reg.CONV_NCO_RX k) (Reg.CONV_NCO_RXF k)

/-- The DAC output mode (R284): mix-mode in the second Nyquist zone, spectrum inverted, or NRZ in the first. -/
def State.mixMode (s : State) : Bool := s.bit Reg.CONV_TX_MODE Fld.CONV_TX_MODE_MIX

/-- First-zone frequency of a TX profile (R284), in units of 5 kHz / 65 536; the fine part takes the opposite sign where the relation is inverted (R288). -/
def State.txF1 (s : State) (k : Nat) : Int := if s.mixMode then 3538944 * 65536 - s.txCentre k else s.txCentre k

/-- Whether an RX zone inverts the spectrum (R285). -/
def zoneInverted (zone : Nat) : Bool := zone == 1 || zone == 3

/-- First-zone frequency of an RF frequency by its `ZONE` (R285), in units of 5 kHz / 65 536. -/
def zoneF1 (zone : Nat) (f : Int) : Int :=
  match zone with
  | 0 => f
  | 1 => 1769472 * 65536 - f
  | 2 => f - 1769472 * 65536
  | _ => 3538944 * 65536 - f

/-- The zone of an RX profile. -/
def State.rxZone (s : State) (k : Nat) : Nat := s.fld (Reg.CONV_NCO_RX k) Fld.CONV_NCO_RX_ZONE

/-- Whether the stage 8 input is conjugated (R286). -/
def State.txConj (s : State) : Bool := s.mixMode && s.bit Reg.CONV_TX_MODE Fld.CONV_TX_MODE_UPRIGHT

/-- Whether the U2 output of an RX profile is conjugated (R286). -/
def State.rxConj (s : State) (k : Nat) : Bool := zoneInverted (s.rxZone k) && s.bit Reg.CONV_RX_MODE Fld.CONV_RX_MODE_UPRIGHT

/-- The phase of a path NCO at converter sample `n` since the last alignment, out of `fs5k` × 65 536 (R288). -/
def pathPhase (fs5k : Nat) (f1 n : Int) : Nat := (n * f1 % (fs5k * 65536 : Nat)).toNat

/-- The TX profile in use for a sample with air time `t`, the RX profile for one with pin time `t` (R289). -/
def State.txProfile (s : State) (t : Th) : Nat := getF (s.symVal Reg.CONV_NCO_SEL t) Fld.CONV_NCO_SEL_TXP
def State.rxProfile (s : State) (t : Th) : Nat := getF (s.symRx Reg.CONV_NCO_SEL t) Fld.CONV_NCO_SEL_RXP

/-! ## The carrier NCO (R189, R190) -/

/-- The modulus of the carrier NCO's phase. -/
def ncoMod : Nat := 294912

/-- The phase p at the start of a symbol with `PHCOMP` = 1 (R190): the phase term −f0 (t_start + N_CP) of TS 38.211 clause 5.4 and the carrier's own F t_start, for
path NCO frequency `fc` (5 kHz / 65 536), carrier offset `f5k`, symbol start `tc` in its subframe and CP `ncp` in Tc, to the nearest step, halves up. DEDUCED (log entry 58). -/
def phcompPhase (fc f5k : Int) (tc ncp : Nat) : Nat :=
  let turns := -(fc * (tc : Int) + (fc + f5k * 65536) * (ncp : Int)) * 3
  ((turns + 131072) / 262144 % (ncoMod : Int)).toNat

/-- The phase p of a symbol's sample `m` (R189, R190): from the symbol's start with `PHCOMP` = 1, from the frame's start with `PHCOMP` = 0. -/
def State.carrierPhase (s : State) (y : TxSym) (m : Int) : Nat :=
  let (p0, m0) : Nat × Int :=
    if y.phcomp then (phcompPhase (s.txCentre (s.txProfile y.air)) y.f5k y.tc y.ncp, firstIdx 1 y.start) else (0, y.frame0)
  (((p0 : Int) + (m - m0) * y.f5k) % (ncoMod : Int)).toNat

/-! ## Symbols on the grid -/

/-- What the sample stages keep of symbol `n` of frame `f` of a carrier, without its samples (R187-R190). -/
def State.symRecord (s : State) (c : Nat) (f : Int) (n : Nat) (gain win : Nat) (tiq phcomp : Bool) (x : List (Nat × List (Int × Int))) : TxSym :=
  let air := s.airTime c f n
  let st := symStart (s.carMu c) n
  let frame0 := match (s.car c).frame0 with
    | some (g, m) => if g = f then m else firstIdx 1 (s.gridOf (s.airTime c f 0))
    | none => firstIdx 1 (s.gridOf (s.airTime c f 0))
  { car := c, air := air, start := s.gridOf air, log := s.fld (Reg.CAR_CFG c) Fld.CAR_CFG_FFTLOG, mu := s.carMu c, cp := s.cpLen c n, win := win, gain := gain
    f5k := sext (s.fld (Reg.CAR_FREQ c) Fld.CAR_FREQ_F5K) 18, phcomp := phcomp, tc := st % 1966080
    ncp := s.cpLen c n * 131072 / (s.carFft c * 2 ^ s.carMu c), frame0 := frame0, tiq := tiq, x := x }

/-- Samples at the carrier rate that fit into 39 321 600 000 thirds of a grid unit: N × 2^MU (R189). -/
def TxSym.rate (y : TxSym) : Nat := 2 ^ (y.log + y.mu)

/-- Where 1 474.56 MS/s sample `m` lies in a symbol: whole carrier samples from its first CP sample, and the rest of 39 321 600 000. -/
def TxSym.place (y : TxSym) (m : Int) : Int × Nat :=
  let num := (400000 * m - 3 * y.start) * (y.rate : Int)
  (num / 39321600000, (num % 39321600000).toNat)

end Sys2Proof.Machine
end

