-- ==== Sys2Proof/Machine/RxPath.lean ====
section
/-! DEFINITION. The receive path sample by sample, stages U1 to U5 and the PRACH branch (R203-R211, R224), and the spells in which a path delivers zeros.
Marks and risks: log entries 7, 57, 58. -/
namespace Sys2Proof.Machine

/-! ## Zero samples (R165, R209, R212, R219)

Causes: 0 blanked (U3), 1 asleep, 2 converters without power (U1), 3 slice fault (U2), 4 die treated as off (U1). -/

/-- A cause of zeros starts or ends on a path, for samples with pin time from `t` on. -/
def State.setZero (s : State) (path cause : Nat) (on : Bool) (t : Th) : State :=
  let key := 8 * path + cause
  match s.rxZero.find? (fun e => e.1 == key) with
  | none => if on then { s with rxZero := s.rxZero ++ [(key, t)] } else s
  | some e =>
    if on then s
    else
      let keep := s.rxZeroPast.filter (fun x => decide (s.nowTh - thUs 20000 < x.2.2))
      { s with rxZero := s.rxZero.filter (fun x => x.1 != key), rxZeroPast := keep ++ [(key, e.2, t)] }

/-- The spells of zeros of a path for which `causes` holds, as pin times from and to (none: still on). -/
def State.zeroSpells (s : State) (path : Nat) (causes : Nat → Bool) : List (Th × Option Th) :=
  (s.rxZeroPast.filter (fun e => e.1 / 8 == path && causes (e.1 % 8))).map (fun e => (e.2.1, some e.2.2)) ++
    (s.rxZero.filter (fun e => e.1 / 8 == path && causes (e.1 % 8))).map (fun e => (e.2, none))

/-- Whether a path delivers zeros for a cause at a pin time. -/
def State.zeroAt (s : State) (path cause : Nat) (t : Th) : Bool :=
  (s.zeroSpells path (fun k => k == cause)).any (fun e => decide (e.1 ≤ t) && (match e.2 with | some b => decide (t < b) | none => true))

/-- Whether the ADC of a path is asleep at a pin time (R265): 200 ns of the zeros of a sleep lie after the wake (R165). -/
def State.asleepAt (s : State) (path : Nat) (t : Th) : Bool := s.zeroAt path 1 t && (!s.rxZeroPast.any (fun e => e.1 == 8 * path + 1 && decide (e.2.2 - thNs 200 ≤ t ∧ t < e.2.2)))

/-- Whether spells that meet cover a span from `a` to `b`, at most `fuel` of them. -/
def covers (l : List (Th × Option Th)) (b : Th) : Nat → Th → Bool
  | 0, a => decide (b ≤ a)
  | fuel + 1, a =>
    decide (b ≤ a) ||
      (match l.find? (fun e => decide (e.1 ≤ a) && (match e.2 with | some t => decide (a < t) | none => true)) with
       | some (_, some t) => covers l b fuel t
       | some (_, none) => true
       | none => false)

/-- Whether a path delivered zeros for one of some causes all through a span (R212). -/
def State.zeroOver (s : State) (path : Nat) (causes : Nat → Bool) (a b : Th) : Bool :=
  let l := s.zeroSpells path causes
  covers l b (l.length + 1) a

/-- Whether a cause of zeros held at some time in a span. -/
def State.zeroMeets (s : State) (path cause : Nat) (a b : Th) : Bool :=
  (s.zeroSpells path (fun k => k == cause)).any (fun e => decide (e.1 ≤ b) && (match e.2 with | some t => decide (a < t) | none => true))

/-! ## Received values and saturations -/

/-- An RE or sample after U4 or U5: index, path, I, Q. -/
abbrev UlRe := Nat × Nat × Int × Int

/-- The value of index `k` on a path; what is not listed is zero. -/
def ulVal (res : List UlRe) (k path : Nat) : Int × Int :=
  match res.find? (fun e => e.1 == k && e.2.1 == path) with
  | some e => (sat16 e.2.2.1, sat16 e.2.2.2)
  | none => (0, 0)

/-- Saturated samples of a path in U3 (0), U4 (1) or U5 (2): counted, with the stage's bit (`RXDP_CLIP`) and event 0x4021. -/
def State.rxClip (s : State) (path stage n : Nat) : State :=
  if n = 0 then s
  else
    ((s.wr (Reg.RXDP_CLIP path) (s.rd (Reg.RXDP_CLIP path) ||| BitVec.ofNat 32 (2 ^ stage))).count (Reg.RXDP_CLIP_CNT path) n).raiseLim 10 0x4021 path

/-! ## U1 to U3 (R208, R209) -/

/-- The ADC sample `n` of a path since the last alignment: its code, zero where the path's converter delivers zeros (R165, R212). -/
def State.u1 (s : State) (codes : List (Fin 64 × Nat × BitVec 12)) (p : Nat) (n : Int) : Int :=
  let t := s.sampleTh 6 n
  if s.zeroAt p 1 t || s.zeroAt p 2 t || s.zeroAt p 4 t then 0
  else match codes.find? (fun e => e.1.val == p && (e.2.1 : Int) == n) with | some e => e.2.2.toInt | none => 0

/-- An ADC sample rotated by the path NCO of the RX profile in use, in units of 2^-128 (R208, R288). -/
def State.u2In (s : State) (codes : List (Fin 64 × Nat × BitVec 12)) (p : Nat) (n : Int) : Int × Int :=
  let x := s.u1 codes p n
  let k := s.rxProfile (s.sampleTh 6 n)
  let (c, q) := cosSinOf (pathPhase 1769472 (zoneF1 (s.rxZone k) (s.rxCentre k)) n) (1769472 * 65536)
  (x * c, -(x * q))

/-- Sample `m` of a path after U2 (R208), conjugated by R286, zero on a faulted slice (R219). -/
def State.u2 (s : State) (codes : List (Fin 64 × Nat × BitVec 12)) (p : Nat) (m : Int) : Int × Int :=
  let t := s.sampleTh 1 m
  if s.zeroAt p 3 t then (0, 0)
  else
    let z := filtered Config.rxDecimate (window (s.u2In codes p) (6 * m) (6 * reach))
    if s.rxConj (s.rxProfile t) then conjI z else z

/-- Assay's value of an instance for a sample that enters its stage at `t` (R386). -/
def State.assayVal (s : State) (key : Nat) (t : Th) : Nat :=
  s.assay.past.foldl (fun v e => if e.1 = key ∧ t < e.2.1 then e.2.2 else v) (kvGet (fun _ => 0) s.assay.values key)

/-- Assay's hidden values for a path: of its alignment in `item` 3 or 4, and of its die's phase (R192, R209, R382). -/
def State.alignVals (s : State) (item p : Nat) (t : Th) : List Nat := [s.assayVal (assayKey item p 0) t, s.assayVal (assayKey 5 (p / 16) 0) t]

/-- Sample `m` of a path in U3 before saturation (R209). -/
def State.u3Raw (s : State) (u2 : Int → Int × Int) (p : Nat) (m : Int) : Int × Int :=
  let z := filtered (Config.rxAlign (s.alignVals 4 p (s.sampleTh 1 m + thNs 1700))) (window u2 m reach)
  round2 30 (cmulI z (gainOf (s.symVal (Reg.RXDP_GAIN p) (s.sampleTh 1 m))))

/-- Sample `m` of a path after U3: zero while it is blanked (R209). -/
def State.u3 (s : State) (u2 : Int → Int × Int) (p : Nat) (m : Int) : Int × Int :=
  if s.zeroAt p 0 (s.sampleTh 1 m) then (0, 0) else satI (s.u3Raw u2 p m)

/-- Samples `a` to `b` − 1 of a stream, as a list. -/
def tabulate (f : Int → Int × Int) (a b : Int) : Sig :=
  (List.range (b - a).toNat).foldl (fun l (i : Nat) => sigPut l (a + (i : Int)) (f (a + (i : Int)))) []

/-- A path after U3 for samples `a` to `b` − 1. -/
def State.u3List (s : State) (codes : List (Fin 64 × Nat × BitVec 12)) (p : Nat) (a b : Int) : Sig :=
  let u2 := sigAt (tabulate (s.u2 codes p) (a - reach) (b + reach))
  tabulate (s.u3 u2 p) a b

/-- Count the saturations of U3 in samples `a` to `b` − 1, each sample once (R196). -/
def State.u3Count (s : State) (codes : List (Fin 64 × Nat × BitVec 12)) (p : Nat) (a b : Int) : State :=
  let from_ := match s.u3Upto.find? (fun e => e.1 == p) with | some e => if a < e.2 then e.2 else a | none => a
  let u2 := sigAt (tabulate (s.u2 codes p) (from_ - reach) (b + reach))
  let n := ((List.range (b - from_).toNat).filter (fun (i : Nat) =>
    let m := from_ + (i : Int)
    !s.zeroAt p 0 (s.sampleTh 1 m) && satSample (s.u3Raw u2 p m))).length
  let t := s.rxClip p 0 n
  { t with u3Upto := t.u3Upto.filter (fun e => e.1 != p) ++ [(p, if from_ < b then b else from_)] }

/-! ## U4 and U5 (R210, R211) -/

/-- Carrier sample `j` of a symbol before saturation (R210): the path signal rotated back by the carrier NCO, filtered, converted and multiplied by `GAIN`. -/
def State.u4Raw (s : State) (y : TxSym) (u3 : Int → Int × Int) (j : Int) : Int × Int :=
  let num := 3 * (y.start * (y.rate : Int) + j * 13107200000)
  let den : Int := 400000 * (y.rate : Int)
  let rot := fun m =>
    let (c, q) := cosSinOf (s.carrierPhase y m) ncoMod
    cmulI (u3 m) (c, -q)
  let z := filtered (Config.rxConvert y.rate (num % den).toNat) (window rot (num / den) (8 * reach))
  (roundBits 30 (z.1 * (y.gain : Int)), roundBits 30 (z.2 * (y.gain : Int)))

/-- Bin `b` of a symbol before saturation (R211): N samples from `adv` before the end of the CP, the phase of the advance removed; within 2 of the exact value, which
one is open (`v`). -/
def u5Bin (y : TxSym) (sh adv : Nat) (x : Int → Int × Int) (b : Nat) (v : Nat → Nat) : Int × Int :=
  let n := 2 ^ y.log
  let acc := (List.range n).foldl (fun (acc : Int × Int) (i : Nat) =>
    let (c, q) := cosSinOf (((b : Int) * ((adv : Int) - (i : Int)) % (n : Int)).toNat) n
    let z := cmulI (x ((y.cp : Int) - (adv : Int) + (i : Int))) (c, q)
    (acc.1 + z.1, acc.2 + z.2)) (0, 0)
  if acc = (0, 0) then (0, 0) else (near 2 (128 + sh) acc.1 (v (2 * b)), near 2 (128 + sh) acc.2 (v (2 * b + 1)))

/-- The 1 474.56 MS/s samples of a symbol: first, and first of the next. -/
def TxSym.span (y : TxSym) : Int × Int :=
  (firstIdx 1 y.start, firstIdx 1 (y.start + ((y.cp + 2 ^ y.log : Nat) : Int) * 13107200000 / (y.rate : Int)))

/-- U1 to U5 of a path for one symbol (U4 for a time-IQ carrier): its REs or samples, saturations counted (R196). RE k is bin (k − 6 NPRB) mod N (R211). -/
def State.ulPath (s : State) (y : TxSym) (prbs sh adv : Nat) (codes : List (Fin 64 × Nat × BitVec 12)) (p : Nat) : List UlRe × State :=
  let (a, b) := y.span
  let n := 2 ^ y.log
  let u3 := sigAt (s.u3List codes p (a - 8 * reach) (b + 8 * reach))
  let raw := (List.range (y.cp + n)).map (fun (j : Nat) => s.u4Raw y u3 (j : Int))
  let x := fun (j : Int) => if j < 0 then (0, 0) else satI (raw.getD j.toNat (0, 0))
  let s1 := (s.u3Count codes p a b).rxClip p 1 (raw.filter satSample).length
  if y.tiq then ((List.range (y.cp + n)).map (fun j => (j, p, x j)), s1)
  else
    let use := s1.free
    let bin := fun b => u5Bin y sh adv x b (Config.freeAt use)
    let s2 := { s1 with free := use + 1 }.rxClip p 2 ((List.range n).filter (fun b => satSample (bin b))).length
    ((List.range (12 * prbs)).map (fun k => (k, p, satI (bin ((k + n - 6 * prbs) % n)))), s2)

/-- The paths that ADC samples are given for, ascending; the others have had a zero input. -/
def adcPaths (codes : List (Fin 64 × Nat × BitVec 12)) : List Nat := (List.range 64).filter (fun p => codes.any (fun e => e.1.val == p))

/-! ## PRACH extraction (R224) -/

/-- Sample `i` of a repetition that starts at output time `t0`, of `n` samples at PRACH SCS `k` × 1.25 kHz, mixed by `f` × 1.25 kHz with phase 0 at `m0` (log entry 58). -/
def prachSample (g0 : Int) (n k : Nat) (f m0 : Int) (u3 : Int → Int × Int) (i : Nat) : Int × Int :=
  let num := 3 * (g0 * ((n * k : Nat) : Int) + (i : Int) * 157286400000)
  let den : Int := 400000 * ((n * k : Nat) : Int)
  let rot := fun m =>
    let (c, q) := cosSinOf (((m - m0) * f % 1179648).toNat) 1179648
    cmulI (u3 m) (c, -q)
  satI (filtered (Config.prachDecimate n k (num % den).toNat) (window rot (num / den) (32 * reach)))

end Sys2Proof.Machine
end

