-- ==== Sys2Proof/Machine/Datapath.lean ====
section
/-! DEFINITION. The datapaths symbol by symbol (04, 07, 08, 09): compression, beamforming, combining, uplink packets, the sounding accumulator. Marks and risks: log entries 36, 7. -/
namespace Sys2Proof.Machine

/-! ## Compression (R113-R115) -/

/-- Mantissa width of a BFP code. -/
def bfpWidth (cw : Nat) : Nat := [8, 9, 10, 12, 14, 16].getD cw 16

/-- A number from byte values, least significant first. -/
def leVal : List Nat → Nat
  | [] => 0
  | b :: bs => b + 256 * leVal bs

/-- The byte values of a number, least significant first. -/
def leBytes : Nat → Nat → List Nat
  | 0, _ => []
  | n + 1, x => x % 256 :: leBytes n (x / 256)

/-- The 24 parts I0, Q0, I1, … of one unit; none where its exponent is too large (R114). -/
def unitVals (cw : Nat) (bytes : List Nat) : Option (List Int) :=
  if cw = 6 then some ((List.range 24).map (fun k => sext (leVal ((bytes.drop (2 * k)).take 2)) 16))
  else
    let w := bfpWidth cw
    let e := bytes.headD 0 % 16
    let n := leVal ((bytes.drop 1).take (3 * w))
    if 16 - w < e then none else some ((List.range 24).map (fun k => sext (bitsAt n (k * w) w) w * 2 ^ e))

/-- One part at exponent `e` (R115). -/
def bfpPart (e : Nat) (x : Int) : Int := if e = 0 then x else (x + 2 ^ (e - 1)) / 2 ^ e

/-- The exponent of R115: the first at which all parts fit, at most 16 − w. -/
def bfpExp (w : Nat) (xs : List Int) : Nat :=
  ((List.range (17 - w)).find? (fun e => xs.all (fun x => decide (-(2 ^ (w - 1) : Int) ≤ bfpPart e x ∧ bfpPart e x ≤ 2 ^ (w - 1) - 1)))).getD (16 - w)

/-- Pack parts of `w` bits, first part lowest (R114). -/
def packParts (w : Nat) : List Int → Nat
  | [] => 0
  | m :: ms => encS w m + 2 ^ w * packParts w ms

/-- The bytes of a compressed unit of 24 parts (R114, R115). -/
def compressUnit (cw : Nat) (xs : List Int) : List Nat :=
  if cw = 6 then leBytes 48 (packParts 16 xs)
  else
    let w := bfpWidth cw
    let e := bfpExp w xs
    e :: leBytes (3 * w) (packParts w (xs.map (fun x => clampI (-(2 ^ (w - 1))) (2 ^ (w - 1) - 1) (bfpPart e x))))

/-! ## Downlink (R177, R184, R185) -/

/-- The data bytes of unit `u` of a packet. -/
def DlData.unit (d : DlData) (u : Nat) : List Nat := (d.data.drop ((u - d.poff) * unitBytes d.cw)).take (unitBytes d.cw)

/-- Whether a packet holds unit `u` of symbol `n` of a section. -/
def holds (x : Section) (n u : Nat) (d : DlData) : Bool :=
  !d.held && x.owns d && d.slot * 14 + d.sym == n && decide (d.poff ≤ u ∧ u < d.poff + d.pcnt)

/-- The parts of PRB `prb` of a section symbol: zero where no data was accepted or the exponent is bad (R114, R124). -/
def State.dlParts (s : State) (x : Section) (n prb : Nat) : List Int :=
  match s.dl.find? (holds x n (prb - SecF.sprb x.raw)) with
  | some d => (unitVals d.cw (d.unit (prb - SecF.sprb x.raw))).getD []
  | none => []

/-- Whether the column of antenna `a` in direction `dir` (0 TX, 1 RX) is disabled (R467). -/
def State.bfOff (s : State) (dir a : Nat) : Bool := (s.rd64 (Reg.REPAIR_BFFAIL dir)).testBit a

/-- Whether the result of antenna `a` for RE `k` of a carrier is replaced with zero by a residue error (R466), or its column is disabled (R467). -/
def State.bfZero (s : State) (dir car a k : Nat) : Bool := s.bfOff dir a || s.bfErr.contains (dir, a, car, k)

/-- A symbol of a carrier and direction has been processed: the residue errors in it are past (R466). -/
def State.bfErrPast (s : State) (dir car : Nat) : State := { s with bfErr := s.bfErr.filter (fun e => !(e.1 == dir && e.2.2.1 == car)) }

/-- The beamformed RE `k` of antenna `a` before saturation (R185): the sum over the sections that cover its PRB, with their weights; zero after a
residue error and for a disabled column (R466, R467). -/
def State.beamform (s : State) (secs : List Section) (air : Th) (n bfs car a k : Nat) : Int × Int :=
  if s.bfZero 0 car a k then (0, 0) else
  let prb := k / 12
  let acc := secs.foldl (fun (acc : Int × Int) x =>
    if SecF.sprb x.raw ≤ prb ∧ prb < SecF.sprb x.raw + SecF.nprb x.raw then
      let parts := s.dlParts x n prb
      let xi := parts.getD (2 * (k % 12)) 0
      let xq := parts.getD (2 * (k % 12) + 1) 0
      let (wr, wi) := s.secWeight 0 x air (prb / groupSize (SecF.grp x.raw)) a
      (acc.1 + xi * wr - xq * wi, acc.2 + xi * wi + xq * wr)
    else acc) (0, 0)
  ((acc.1 + 2 ^ (13 + bfs)) / 2 ^ (14 + bfs), (acc.2 + 2 ^ (13 + bfs)) / 2 ^ (14 + bfs))

/-- Saturated samples of antenna `a` in stage 1 (R185, R196). -/
def State.bfClips (s : State) (secs : List Section) (air : Th) (n bfs nre car a : Nat) : Nat :=
  ((List.range nre).filter (fun k => let y := s.beamform secs air n bfs car a k; saturates y.1 || saturates y.2)).length

/-- Saturations of a stage on a path (R196): counted, the stage's bit, event 0x4011 at most once per path per 10 ms. -/
def State.txClip (s : State) (path stage n : Nat) : State :=
  if n = 0 then s
  else
    let a := Reg.TXDP_CLIP path
    (((s.wr a (s.rd a ||| BitVec.ofNat 32 (2 ^ stage))).count (Reg.TXDP_CLIP_CNT path) n).pmuCount 42 0x03 n).raiseLim 10 0x4011 path

/-- Saturated output parts of the predistorter (R253): counted, event 0x4044 at most once per path per 10 ms. -/
def State.dpdClip (s : State) (path n : Nat) : State :=
  if n = 0 then s else (s.count (Reg.DPD_SAT_CNT path) n).raiseLim 10 0x4044 path

/-! ## Uplink (R212-R217) -/

/-- Length of a 64-sample ADC block (64 samples at 8 847.36 MS/s, R217). -/
def ovrBlock : Th := 1422222

/-- Whether a symbol or repetition from `a` to `b` is marked over-range on a path (R14, R217, R219): a flagged block in its span, its die treated as off or its slice faulted in it. -/
def State.ovrMarked (s : State) (path : Nat) (a b : Th) : Bool :=
  s.ovrs.any (fun e => e.1 == path && decide (e.2 ≤ b + thNs 8 ∧ a < e.2 + ovrBlock)) || s.zeroMeets path 4 a (b + thNs 8) || s.zeroMeets path 3 a (b + thNs 8)

/-- Whether a path is blanked for a symbol or repetition (R217): all through it (log entry 36). -/
def State.blankedIn (s : State) (path : Nat) (a b : Th) : Bool := s.zeroOver path (fun k => k == 0) a b

/-- The combined RE `k` of a section before saturation (R212), without the antennas of a residue error or a disabled column (R466, R467). The stored word
is the transmit multiplier w; the combiner's own conjugation applies to conj(w), so the sum is Σ w × x (R226). -/
def State.combine (s : State) (x : Section) (air : Th) (bfs : Nat) (res : List UlRe) (k : Nat) : Int × Int :=
  let g := k / 12 / groupSize (SecF.grp x.raw)
  let acc := (List.range 64).foldl (fun (acc : Int × Int) a =>
    let (xi, xq) := if s.bfZero 1 x.car a k then ((0, 0) : Int × Int) else ulVal res k a
    let (wr, wi) := s.secWeight 1 x air g a
    (acc.1 + xi * wr - xq * wi, acc.2 + xi * wi + xq * wr)) (0, 0)
  ((acc.1 + 2 ^ (13 + bfs)) / 2 ^ (14 + bfs), (acc.2 + 2 ^ (13 + bfs)) / 2 ^ (14 + bfs))

/-- The ports that uplink packets of a carrier's symbol go to (R100, R102): as a mask, by the code in force at the symbol's start `air`; only ports that
are up and have negotiated what the packet needs (R88). -/
def State.ulPorts (s : State) (c : Nat) (air : Th) (need cw : Nat) : Nat :=
  let v := s.serveCodeAt c air
  [0, 1].foldl (fun m p =>
    let goes := (decide (4 ≤ v) || s.codePort v == p) && s.linkUp p && s.feat p need && s.comp p cw
    if goes then m + 2 ^ p else m) 0

/-- The `TSPEC` of an uplink packet (R113). -/
def ulTspec (c n secid : Nat) : Nat := c * 2 ^ 29 + n % 14 * 2 ^ 25 + n / 14 * 2 ^ 15 + secid

/-- Form one packet of whole units (R113, R116). -/
def ulPacket (ports c type tspec poff cw qual stream rep : Nat) (units : List (List Nat)) : UlPkt :=
  let bytes := units.flatten
  let pad := (bytes.length + 15) / 16 * 16 - bytes.length
  let all := bytes ++ List.replicate pad 0
  { ports := ports, car := c, type := type, len := 1 + all.length / 16, tspec := tspec
    body := [poff + units.length * 65536, cw + qual * 256 + stream * 65536 + rep * 2 ^ 24] ++ wordsOf (all.map (BitVec.ofNat 8)) }

/-- Buffer space of a packet with these units: header, units and padding (R113, R127); nothing before its first unit. -/
def packSize (units : List (List Nat)) : Nat := if units.isEmpty then 0 else 16 + (units.flatten.length + 15) / 16 * 16

/-- Free bytes of the UL buffer (R127): packets that wait, and those being formed. -/
def State.ulRoom (s : State) : Nat :=
  8388608 - s.ulq.foldl (fun n u => n + 16 * u.len) 0 - s.ulJobs.foldl (fun n j => n + packSize j.cur) 0

/-- Close the packet being formed; `PARTIAL` marks one that follows a gap (R130). -/
def UlJob.close (j : UlJob) : List UlPkt × UlJob :=
  if j.cur.isEmpty then ([], j)
  else ([ulPacket j.ports j.car j.type j.tspec j.poff j.cw (j.qual + (if j.gap then 4 else 0)) j.stream j.rep j.cur], { j with cur := [], gap := false })

/-- Deliver one unit with `room` bytes free (R130): the packets that close, what is left, and whether the unit is lost. -/
def UlJob.deliver (j : UlJob) (room : Nat) : List UlPkt × UlJob × Bool :=
  match j.units with
  | [] => let (p, k) := j.close; (p, k, false)
  | u :: us =>
    let rest := { j with units := us, next := j.next + 1 }
    if room < packSize (j.cur ++ [u]) - packSize j.cur then
      let (p, k) := rest.close
      (p, { k with gap := true }, true)
    else
      let more := { rest with cur := j.cur ++ [u], poff := if j.cur.isEmpty then j.next else j.poff }
      if more.per ≤ more.cur.length ∨ us.isEmpty then let (p, k) := more.close; (p, k, false) else ([], more, false)

/-- Deliver one unit of job `i`: a lost one is counted, event 0x4007; a job without units left goes (R130). -/
def State.deliverAt (s : State) (i : Nat) : State :=
  match s.ulJobs[i]? with
  | none => s
  | some j =>
    let (pkts, k, lost) := j.deliver s.ulRoom
    let t := { s with ulq := s.ulq ++ pkts, ulJobs := if k.units.isEmpty then s.ulJobs.eraseIdx i else s.ulJobs.set i k }
    if lost then (t.count (Reg.CAR_UL_DROP_CNT j.car)).raiseFrame 0x4007 j.car else t

/-- Deliver units while a job satisfies `ready`, oldest job first, at most `n` units. -/
def State.deliverUnits (s : State) (ready : UlJob → Bool) : Nat → State
  | 0 => s
  | n + 1 =>
    match s.ulJobs.findIdx? ready with
    | none => s
    | some i => (s.deliverAt i).deliverUnits ready n

/-- Units that U7 delivers in a TCLK period: 16 stream slots of 8 carriers of 275 PRBs within its allotment of 2 µs (R204). DESIGN CHOICE (log entry 8). -/
def unitsPerTick : Nat := 18

/-- U7 and U8 in a TCLK period: jobs whose U7 entry has passed (R204, R215). -/
def State.ulTick (s : State) : State := s.deliverUnits (fun j => decide (j.due ≤ s.nowTh)) unitsPerTick

/-- Queue the units of one section symbol for packets of at most `UL_PKT_MAX`, each as full as it can be (log entry 8), a PRACH repetition as one packet
(R225). U7 delivers them from `due` on. -/
def State.queueUnits (s : State) (due : Th) (ports c type tspec cw qual stream rep : Nat) (units : List (List Nat)) : State :=
  if ports = 0 ∨ units.isEmpty then s
  else
    let mx := Nat.max 64 (s.fld (Reg.CAR_TRAFFIC c) Fld.CAR_TRAFFIC_UL_PKT_MAX)
    let per := if type = 3 then units.length else Nat.max 1 ((mx - 1) * 16 / unitBytes cw)
    { s with ulJobs := s.ulJobs ++
        [{ due := due, ports := ports, car := c, type := type, tspec := tspec, cw := cw, qual := qual, stream := stream, rep := rep, per := per, units := units }] }

/-- The parts of unit `u` from a function of the RE or sample index; indices at or above `total` are zero. -/
def unitFrom (val : Nat → Int × Int) (first total u : Nat) : List Int :=
  (List.range 12).flatMap (fun i =>
    let k := 12 * u + i
    if k < total then let v := val (first + k); [sat16 v.1, sat16 v.2] else [0, 0])

/-- Process one uplink DATA section of a symbol: combine or pass, compress, queue (R212, R215, R117). -/
def State.ulSection (s : State) (c : Nat) (f : Int) (n : Nat) (res : List UlRe) (x : Section) : State :=
  let d := x.raw
  let air := s.airTime c f n
  let fin := s.airEnd c f n
  let cw := SecF.cw d
  let bfs := Nat.min 4 (getF (s.symVal (Reg.CAR_RXGAIN c) air) Fld.CAR_RXGAIN_BFSHIFT)
  let none_ := SecF.bsrc d = 0
  let path := SecF.bval d % 64
  let (s1, err, stale) := s.weightChecks 1 x air
  let first := 12 * SecF.sprb d
  let total := if SecF.tiq d then s.cpLen c n + s.carFft c else 12 * SecF.nprb d
  let comb := fun k => if err then ((0, 0) : Int × Int) else s.combine x air bfs res k
  let val := fun k => if none_ then ulVal res k path else comb k
  let clips := if none_ ∨ err then 0
    else (List.range total).foldl (fun m k => let y := comb (first + k); m + b2n (saturates y.1) + b2n (saturates y.2)) 0
  let s2 := if clips = 0 then s1 else s1.count (Reg.CAR_UL_CLIP_CNT c) clips
  let (g0, g1) := secGroups d
  let uses := fun a =>
    if none_ then a == path
    else !err && !s.bfOff 1 a && !s.blankedIn a air fin && (List.range (g1 - g0)).any (fun i => s.secWeight 1 x air (g0 + i) a != (0, 0))
  let ovr := (List.range 64).any (fun a => s.ovrMarked a air fin && uses a)
  let qual := b2n ovr + 2 * b2n stale
  let units := (List.range (s.secUnits x n)).map (fun u => compressUnit cw (unitFrom val (if SecF.tiq d then 0 else first) total u))
  let ports := if SecF.noSend d then 0 else s2.ulPorts c air (if SecF.tiq d then 1 else 0) cw
  let s2 := (s2.pmuCount 43 0x01 (if none_ then 0 else total)).pmuCount 43 0x02 units.length
  s2.queueUnits (fin + thNs 32200) ports c 2 (ulTspec c n (SecF.secid d)) cw qual (if none_ then path + 128 else SecF.layer d) 0 units

/-- Queue the `SRS_RAW` packets of one path for an SRS section (R118, R220). -/
def State.srsRaw (s : State) (c : Nat) (f : Int) (n : Nat) (res : List UlRe) (path : Nat) (x : Section) : State :=
  let d := x.raw
  let qual := b2n (s.ovrMarked path (s.airTime c f n) (s.airEnd c f n))
  let units := (List.range (SecF.nprb d)).map (fun u =>
    compressUnit (SecF.cw d) (unitFrom (fun k => ulVal res k path) (12 * SecF.sprb d) (12 * SecF.nprb d) u))
  s.queueUnits (s.airEnd c f n + thNs 32200) (if SecF.noSend d then 0 else s.ulPorts c (s.airTime c f n) 5 (SecF.cw d)) c 4 (ulTspec c n (SecF.secid d)) (SecF.cw d) qual (path + 128) 0 units

/-- Order of `LAYER_UL` packets (R215): ascending `LAYER`, then ascending `SPRB`. -/
def ulOrder (x y : Section) : Bool :=
  decide (SecF.layer x.raw < SecF.layer y.raw) || (SecF.layer x.raw == SecF.layer y.raw && decide (SecF.sprb x.raw ≤ SecF.sprb y.raw))

/-- Insert into an ordered list. -/
def insertBy {α : Type} (le : α → α → Bool) (x : α) : List α → List α
  | [] => [x]
  | y :: ys => if le x y then x :: y :: ys else y :: insertBy le x ys

/-- Order a list. -/
def sortBy {α : Type} (le : α → α → Bool) (l : List α) : List α := l.foldr (insertBy le) []

/-- What the paths bring to U6 for symbol `n` of frame `f` of a carrier (R208-R212): stages U1 to U5 of the ADC codes; or given values, of which a path that delivered zeros all
through the FFT window (the whole symbol of a time-IQ carrier) has none. -/
def State.ulInput (s : State) (c : Nat) (f : Int) (n : Nat) (inp : RxIn) : List UlRe × State :=
  let air := s.airTime c f n
  let gain := s.symVal (Reg.CAR_RXGAIN c) air
  let tiq := s.carTiq c 1
  let adv := Nat.min (9 * s.carFft c / 256) (getF (s.symVal (Reg.CAR_RXFFT c) air) Fld.CAR_RXFFT_ADV)
  match inp with
  | .adc codes =>
    let y := s.symRecord c f n (getF gain Fld.CAR_RXGAIN_GAIN) 0 tiq (s.bit (Reg.CAR_CTL c) Fld.CAR_CTL_PHCOMP) []
    let sh := Nat.min 13 (getF gain Fld.CAR_RXGAIN_SHIFT)
    (adcPaths codes).foldl (fun (acc : List UlRe × State) p =>
      let (l, t) := acc.2.ulPath y (s.carPrbs c) sh adv codes p
      (acc.1 ++ l, t)) ([], s)
  | .res vals clips =>
    let from_ : Th := if tiq then air else air + ((s.cpLen c n - adv) * 13107200000 / (s.carFft c * 2 ^ s.carMu c) : Nat)
    let upto : Th := if tiq then s.airEnd c f n else from_ + (13107200000 / 2 ^ s.carMu c : Nat)
    ((vals.filter (fun e => !s.zeroOver e.2.1 (fun _ => true) from_ upto)).map (fun e => (e.1, e.2.1.val, e.2.2.1.toInt, e.2.2.2.toInt)),
      clips.foldl (fun u e => u.rxClip e.1 e.2.1 e.2.2) s)

/-- The SRS symbols that a symbol's SRS sections feed: one for each set that they name, in ascending set (R248, "When two sounding sets share a slot"). -/
def srsSymbols (srs : List Section) (c : Nat) (fin : Th) (vals : List UlRe) : List SrsPend :=
  ((List.range 256).filter (fun k => srs.any (fun x => SecF.aux x.raw == k))).map (fun k =>
    { set := k, car := c, prbs := (srs.filter (fun x => SecF.aux x.raw == k)).map (fun x => (SecF.sprb x.raw, SecF.nprb x.raw)), endT := fin, res := vals })

/-- UL_SYMBOL (R203-R216): the last symbol whose U5 entry has passed (air-time end + 4.2 µs), with what its paths have received. Locked sections are served; finished sections
are freed. -/
def execUlSymbol (c : Fin 8) (inp : RxIn) (s : State) : Res :=
  let (fc, nc) := s.symbolAt c (s.nowTh - thNs 4200)
  let (f, n) := if nc = 0 then (fc - 1, 140 * 2 ^ s.carMu c - 1) else (fc, nc - 1)
  let idx := symIndex f n
  let air := s.airTime c f n
  let done := match (s.car c).ulDone with | some d => decide (idx ≤ d) | none => false
  finish (
    if done || !s.clkOn Fld.SYS_CLK_STATUS_FCLK then s
    else
      let on := getF (s.symRx (Reg.CAR_CTL c) air) Fld.CAR_CTL_UL_EN = 1 ∧ getF (s.symRx (Reg.CAR_STATUS c) air) Fld.CAR_STATUS_TOFF = 0
      let here := s.sections.filter (fun x =>
        x.car == c.val && x.frame == f && SecF.dir x.raw == 1 && !x.standby && x.covers n && s.secLocked x)
      let s1 :=
        if ¬on then s
        else
          let (vals, t) := s.ulInput c f n inp
          let t := (sortBy ulOrder (here.filter (fun x => SecF.kind x.raw == 0))).foldl (fun u x => u.ulSection c f n vals x) t
          let srs := here.filter (fun x => SecF.kind x.raw == 1)
          let t := (List.range 64).foldl (fun u path => srs.foldl (fun v x => v.srsRaw c f n vals path x) u) t
          { t with srs := t.srs ++ srsSymbols srs c (s.airEnd c f n) vals }
      { (s1.bfErrPast 1 c).setCar c { s1.car c with ulDone := some idx } with
        sections := s1.sections.filter (fun x =>
          !(x.car == c.val && SecF.dir x.raw == 1 && SecF.kind x.raw != 2 && decide (symIndex x.frame (x.first + secSyms x.raw - 1) ≤ idx))) })

/-- Whether a packet carries `QUAL.OVR`. -/
def UlPkt.hasOvr (u : UlPkt) : Bool := u.type != 1 && (u.body.getD 1 0).testBit 8

/-- The packets of a port: where none is formed yet, U8 forms the next one (R215). -/
def State.formNext (s : State) (p : Nat) : State :=
  if s.ulq.any (fun u => u.ports.testBit p) then s
  else
    match s.ulJobs.find? (fun j => j.ports.testBit p) with
    | none => s
    | some j => s.deliverUnits (fun k => k.ports.testBit p) (Nat.min j.per j.units.length)

/-- UL_PACKET_SEND (R127, R215): the oldest uplink packet that a port has to send leaves; its buffer space is free once every port has sent it. -/
def execUlPacketSend (p : Fin 2) (s : State) : Res :=
  let s := s.formNext p
  finish (match s.ulq.find? (fun u => u.ports.testBit p) with
    | none => s
    | some u =>
      if !s.linkUp p then s
      else
        let s1 := s.sendRt p u.type u.len u.tspec u.body
        let u' := u.dropPort p
        let s2 := { s1 with ulq := (s1.ulq.map (fun v => if v = u then u' else v)).filter (fun v => v.ports != 0) }
        let s3 := s2.count (Reg.CAR_UL_PKT_CNT u.car)
        (if u.hasOvr then s3.count (Reg.CAR_UL_OVR_CNT u.car) else s3).pump p)

/-- OVR_BLOCK (R217): a 64-sample ADC block of a path, ending now at the pins, has its OVR flag set; a path whose ADC is powered down, or
woke less than 200 ns ago (R165), flags nothing. -/
def execOvrBlock (path : Fin 64) (s : State) : Res :=
  finish (
    if s.rxZero.any (fun e => [1, 2, 4].any (fun k => e.1 == 8 * path.val + k)) || decide (s.tick < kvGet (fun _ => 0) s.sb.wokeRx path) then s
    else
      let keep := s.ovrs.filter (fun e => decide (s.nowTh < e.2 + thUs 20000))
      let t := { s with ovrs := keep ++ [(path.val, s.nowTh - ovrBlock)] }
      (((t.flag (Reg.RXDP_OVR path) Fld.RXDP_OVR_OVR).count (Reg.RXDP_OVR_CNT path)).pmuCount 43 0x03).raiseLim 10 0x4020 path)

/-! ## Sounding accumulator (R247-R250) -/

/-- Address of entry `e` of an accumulator slot (R248, R252). -/
def ssEntry (slot e : Nat) : Nat := 0x22000000 + slot * 0x4100 + e * 8

/-- The (i, j) pairs of the upper triangle in index order (R248). -/
def ssPairs : List (Nat × Nat) := (List.range 64).flatMap (fun i => (List.range (64 - i)).map (fun d => (i, i + d)))

/-- A shift with rounding half up (R248). -/
def shiftRound (x : Int) (n : Nat) : Int := if n = 0 then x else (x + 2 ^ (n - 1)) / 2 ^ n

/-- Update one entry of a slot from the REs of its subband: the state and how many parts saturated (R248). -/
def State.ssUpdate (s : State) (slot psh fsh : Nat) (ks : List Nat) (res : List UlRe) (e i j : Nat) : State × Nat :=
  let a := ssEntry slot e
  let r0 := sext (s.ldN a 4) 32
  let i0 := sext (s.ldN (a + 4) 4) 32
  let r1 := if fsh = 0 then r0 else r0 - shiftRound r0 fsh
  let i1 := if fsh = 0 then i0 else i0 - shiftRound i0 fsh
  let (ar, ai) := ks.foldl (fun (acc : Int × Int) k =>
    let (xi, xq) := ulVal res k i
    let (yi, yq) := ulVal res k j
    (acc.1 + shiftRound (xi * yi + xq * yq) psh, acc.2 + shiftRound (xq * yi - xi * yq) psh)) (0, 0)
  let lo : Int := -(2 ^ 31)
  let hi : Int := 2 ^ 31 - 1
  let r2 := clampI lo hi (r1 + ar)
  let i2 := clampI lo hi (i1 + ai)
  ((s.stN a 4 (encS 32 r2)).stN (a + 4) 4 (encS 32 i2), b2n (decide (r2 ≠ r1 + ar)) + b2n (decide (i2 ≠ i1 + ai)))

/-- Update a slot (R248). -/
def State.ssSlot (s : State) (slot psh fsh : Nat) (ks : List Nat) (res : List UlRe) : State × Nat :=
  let (t, n, _) := ssPairs.foldl (fun (acc : State × Nat × Nat) ij =>
    let (u, k) := acc.1.ssUpdate slot psh fsh ks res acc.2.2 ij.1 ij.2
    (u, acc.2.1 + k, acc.2.2 + 1)) (s, 0, 0)
  (t, n)

/-- Accumulate one SRS symbol of a set (R247-R249). -/
def State.accumulate (s : State) (x : SrsPend) : State :=
  let cfg := s.rd (Reg.BEAM_SS_CFG x.set)
  if getF cfg Fld.BEAM_SS_CFG_EN = 0 then s
  else
    let sl := s.rd (Reg.BEAM_SS_SLOT x.set)
    let k := 2 ^ getF cfg Fld.BEAM_SS_CFG_COMB
    let sb := Nat.max 1 (getF cfg Fld.BEAM_SS_CFG_SBPRB)
    let off := getF cfg Fld.BEAM_SS_CFG_COFF % k
    let all := x.prbs.flatMap (fun r => (List.range (12 * r.2)).map (fun i => 12 * r.1 + i))
    let used := all.filter (fun i => i % k == off)
    let (t, sat) := (List.range (getF sl Fld.BEAM_SS_SLOT_NSLOT)).foldl (fun (acc : State × Nat) j =>
      let slot := getF sl Fld.BEAM_SS_SLOT_SLOT0 + j
      let ks := used.filter (fun i => i / 12 / sb == j)
      if 251 < slot ∨ ks.isEmpty then acc
      else
        let (u, n) := acc.1.ssSlot slot (getF cfg Fld.BEAM_SS_CFG_PSH) (getF cfg Fld.BEAM_SS_CFG_FSH) ks x.res
        (u, acc.2 + n)) (s, 0)
    let t1 := if sat = 0 then t else (t.count Reg.BEAM_SS_SAT_CNT sat).raiseLim 10 0x4033 x.set
    t1.wr (Reg.BEAM_SS_CNT x.set) (t1.rd (Reg.BEAM_SS_CNT x.set) + 1)

/-- Zero a set's slots and its count (R250). -/
def State.ssZero (s : State) (set : Nat) : State :=
  let sl := s.rd (Reg.BEAM_SS_SLOT set)
  let a := getF sl Fld.BEAM_SS_SLOT_SLOT0
  let b := Nat.min 252 (a + getF sl Fld.BEAM_SS_SLOT_NSLOT)
  (s.clearMem (ssEntry a 0) (ssEntry b 0)).wr (Reg.BEAM_SS_CNT set) 0

/-- Whether an accumulation of a set is in progress: its U6 entry, air-time end + 12.2 µs, has passed (R204, R250). -/
def State.ssBusy (s : State) (set : Nat) : Bool := s.srs.any (fun x => x.set == set && decide (x.endT + thNs 12200 ≤ s.nowTh))

/-- A write of `BEAM_SS_CLR` (R250): at once, or right after the last accumulation of the set that is in progress. -/
def ssClrWrite (v : Word) (s : State) : Nat × State :=
  let set := getF v Fld.BEAM_SS_CLR_SET
  (0, if s.ssBusy set then
      let busy := fun (x : SrsPend) => x.set == set && decide (x.endT + thNs 12200 ≤ s.nowTh)
      { s with srs := s.srs.mapIdx (fun i x => if busy x && !(s.srs.drop (i + 1)).any busy then { x with clear := true } else x) }
    else s.ssZero set)

/-- BEAM_SS_CLR (R250). -/
def execBeamSsClr (r : Req) (v : Word) (s : State) : Res :=
  finish (s.writeBy r Reg.BEAM_SS_CLR (ssClrWrite v))

/-- SS_ACCUMULATE (R248, R249): the oldest SRS symbol whose accumulation is complete, 32.2 µs after its air-time end. -/
def execSsAccumulate (s : State) : Res :=
  finish (match s.srs with
    | [] => s
    | x :: rest =>
      if s.nowTh < x.endT + thNs 32200 then s
      else
        let t := { s with srs := rest }.accumulate x
        if x.clear then t.ssZero x.set else t)

end Sys2Proof.Machine
end

