-- ==== Sys2Proof/Machine/Swaps.lean ====
section
/-! DEFINITION. Double-banked resources (R151-R153, R163, R164, R525, R234-R246, R257-R263): swap requests, role changes, computed-set arms and commits. Marks and risks: log entry 44. -/
namespace Sys2Proof.Machine

/-- The lead of a resource (R163). -/
def swapLead (res : Nat) : Th := if res = 1 ∨ res = 4 ∨ res = 5 ∨ res = 6 then thUs 36 else if res = 3 then thUs 3 else 0

/-- How long before its boundary a resource changes roles (R525). -/
def roleLead (res : Nat) : Th := if res = 1 ∨ res = 4 ∨ res = 5 ∨ res = 6 then thUs 36 else if res = 3 then thNs 1800 else 0

/-- The air-time end of the last symbol of a busy carrier that starts before `b`, `b` itself where none reaches beyond it. -/
def State.lastEnd (s : State) (b : Th) : Th :=
  ((List.range 8).filter s.carBusy).foldl (fun m c => max m (s.boundaryFrom c false b)) b

/-- When the old bank of a swap at `b` is no longer in use (R525): where U6 reads it, 32.2 µs after the end of the last symbol before `b` (log entry 44). -/
def State.oldUntil (s : State) (res : Nat) (b : Th) : Th :=
  if res = 1 then b - thUs 14 else if res = 3 then b - thNs 1400 else s.lastEnd b + thNs 32200

/-- The engine field of an event: the requesting physical engine, or 0xFF for a host (R153). -/
def engUnit (eng : Option Nat) : Nat := eng.getD 0xFF

/-- The condition bit of an engine. -/
def State.setC (s : State) (e : Nat) (b : Bool) : State := s.setFld (Reg.SB_STATUS e) Fld.SB_STATUS_C (b2n b)

/-- A refused swap (R163, R164): event 0xA007; an engine gets C = 0 and `SWAP_REFUSED`. -/
def State.swapRefused (s : State) (eng : Option Nat) : State :=
  match eng with
  | some e => ((s.setC e false).flag (Reg.SB_ERR e) Fld.SB_ERR_SWAP_REFUSED).raise 0xA007 e
  | none => s.raise 0xA007 0xFF

/-- Show whether a swap of a resource is pending. -/
def State.showPending (s : State) (res idx : Nat) (on : Bool) : State :=
  let b := b2n on
  if res = 0 then s.setFld (Reg.SB_SWAPREQ idx) Fld.SB_SWAPREQ_PENDING b
  else if res = 1 then s.setFld Reg.BEAM_BANK_STAT Fld.BEAM_BANK_STAT_TXALL_PEND b
  else if res = 2 then s.setFld Reg.BEAM_BANK_STAT Fld.BEAM_BANK_STAT_RXALL_PEND b
  else if res = 3 then
    (if idx = 0x7F then (List.range 64).foldl (fun t p => t.setFld (Reg.DPD_STATUS p) Fld.DPD_STATUS_PEND b) s
     else s.setFld (Reg.DPD_STATUS idx) Fld.DPD_STATUS_PEND b)
  else if res = 4 then
    s.setFld Reg.BEAM_BANK_STAT Fld.BEAM_BANK_STAT_EXP_PEND (setBitN (s.fld Reg.BEAM_BANK_STAT Fld.BEAM_BANK_STAT_EXP_PEND) idx on)
  else if res = 5 then s.setFld Reg.BEAM_BANK_STAT Fld.BEAM_BANK_STAT_TAPER_PEND b
  else s.setFld Reg.BEAM_BANK_STAT Fld.BEAM_BANK_STAT_GEOM_PEND b

/-- Whether a resource has a pending swap (R164); all paths of the LUT banks and one path exclude each other. -/
def State.swapPending (s : State) (res idx : Nat) : Bool :=
  s.swaps.any (fun w => w.res == res && (w.idx == idx || (res == 3 && (w.idx == 0x7F || idx == 0x7F))))

/-- Whether some handle of a direction is armed or has a waiting commit (R245). -/
def State.cwWaiting (s : State) (dir : Nat) : Bool :=
  (List.range 256).any (fun h =>
    let w := s.rd (Reg.BEAM_CW_STAT dir h)
    getF w Fld.BEAM_CW_STAT_ARMED == 1 || getF w Fld.BEAM_CW_STAT_COMMITTED == 1)

/-! ## Program banks (R151-R153) -/

/-- The inactive program bank of an engine. -/
def State.idleBank (s : State) (e : Nat) : Nat := 1 - s.fld (Reg.SB_STATUS e) Fld.SB_STATUS_ABANK

/-- Whether a program bank's header is accepted (R151). -/
def State.bankOk (s : State) (e b : Nat) : Bool :=
  let w := s.ldN (sbBank e b) 8
  let entry := bitsAt w 16 12
  bitsAt w 48 16 == 0x5342 && bitsAt w 40 8 == 1 && entry != 0 && decide (entry < bitsAt w 0 12)

/-- The `ENTRY` of a program bank. -/
def State.bankEntry (s : State) (e b : Nat) : Nat := bitsAt (s.ldN (sbBank e b) 8) 16 12

/-- Put an engine at the entry of its active bank with empty stacks (R153, R171). -/
def State.toEntry (s : State) (e : Nat) : State :=
  let w := setF (s.rd (Reg.SB_STATUS e)) Fld.SB_STATUS_PC (s.bankEntry e (s.fld (Reg.SB_STATUS e) Fld.SB_STATUS_ABANK))
  let w := setF (setF w Fld.SB_STATUS_LDEPTH 0) Fld.SB_STATUS_CDEPTH 0
  (s.wr (Reg.SB_STATUS e) w).setEng e { s.eng e with loops := [], calls := [], wait := .none }

/-- The boundary of a program swap (R153): the other bank becomes active, a wait is abandoned, stacks are cleared; what is staged stays staged. The
next instruction issues a cycle later. -/
def State.programSwap (s : State) (e : Nat) : State :=
  let t := (s.setFld (Reg.SB_STATUS e) Fld.SB_STATUS_ABANK (s.idleBank e)).toEntry e
  let u := t.setEng e { t.eng e with cyc := Nat.max t.fcyc (t.eng e).cyc }
  let st := u.fld (Reg.SB_STATUS e) Fld.SB_STATUS_STATE
  if 2 ≤ st ∧ st ≤ 4 then u.setFld (Reg.SB_STATUS e) Fld.SB_STATUS_STATE 1 else u

/-- Whether an engine is halted or faulted. -/
def State.engIdle (s : State) (e : Nat) : Bool :=
  let st := s.fld (Reg.SB_STATUS e) Fld.SB_STATUS_STATE
  st == 0 || st == 5

/-! ## Requests (R163, R164) -/

/-- Request a swap whose effect cycle has output time `te`; `t` is the 64-bit ST of a TIME request. Answers 0, 7 (refused) or 8 (R151), and the state. -/
def State.requestSwap (s : State) (res idx bnd car t : Nat) (te : Th) (eng : Option Nat) : Nat × State :=
  let role := bitsAt (s.rd Reg.SB_RELIEF).toNat (4 * (idx % 4)) 4
  let (res, idx) := if res = 7 then (if idx < 4 then (0, role) else (8, idx)) else (res, idx)
  let badIdx := (res == 4 && decide (1 < idx)) || (res == 3 && idx != 0x7F && decide (63 < idx)) || (res == 0 && decide (4 < idx))
  let idx := if res = 1 ∨ res = 2 ∨ res = 5 ∨ res = 6 then 0 else idx
  let refuse := (7, s.swapRefused eng)
  if 8 ≤ res ∨ badIdx then refuse
  else if bnd = 3 then refuse
  else if s.swapPending res idx then refuse
  else if (res = 1 ∧ s.cwWaiting 0) ∨ (res = 2 ∧ s.cwWaiting 1) then refuse
  else if bnd = 2 ∧ thNs t - te < swapLead res then refuse
  else if res = 0 ∧ ¬ s.bankOk idx (s.idleBank idx) then (8, s.swapRefused eng)
  else if res = 0 ∧ eng.isNone ∧ s.engIdle idx then (0, s.programSwap idx)
  else
    let lead := swapLead res
    let b0 := s.nextBoundary car (bnd == 1) te
    let late := bnd ≠ 2 ∧ b0 - te < lead
    let b : Th := if bnd = 2 then thNs t else if b0 - te < lead then s.boundaryFrom car (bnd == 1) (te + lead) else b0
    let s1 := { s with swaps := s.swaps ++ [(⟨res, idx, bnd, car, b, eng, false⟩ : SwapPend)] }.showPending res idx true
    let s2 := if late then
        (match eng with
         | some e => s1.count (Reg.SB_DEFER_CNT e)
         | none => s1).raise 0xA006 (engUnit eng)
      else s1
    (0, match eng with | some e => s2.setC e true | none => s2)

/-! ## Role changes (R244-R246, R525) -/

/-- Whether a DMA transfer is writing the window range of a path's LUT bank (R361). -/
def State.dpdDma (s : State) (p b : Nat) : Bool :=
  (List.range 16).any (fun k =>
    let w := s.rd (Reg.DPD_WIN k)
    getF w Fld.DPD_WIN_EN == 1 && getF w Fld.DPD_WIN_PATH == p && getF w Fld.DPD_WIN_BANK == b &&
      s.dmaWriting (0x580000 + k * 0x8000) (0x588000 + k * 0x8000))

/-- Whether a DMA transfer is writing the directory entry or the records of a handle's copy (R244). -/
def State.copyDma (s : State) (dir bank h : Nat) : Bool :=
  let a := weightBank dir bank
  let e := s.dirEntry dir bank h
  s.dmaWriting (a + h * 64) (a + h * 64 + 64) ||
    s.dmaWriting (a + 0x4000 + e.base * 256) (a + 0x4000 + (e.base + e.ng * (e.ncol + 1)) * 256)

/-- Whether a DMA transfer is writing the inactive bank of a resource. -/
def State.swapDma (s : State) (res idx : Nat) : Bool :=
  if res = 0 then s.dmaWriting (sbBank idx (s.idleBank idx)) (sbBank idx (s.idleBank idx) + 0x8000)
  else if res = 1 ∨ res = 2 then
    (List.range 256).any (fun h => s.copyDma (res - 1) (1 - s.fld (Reg.BEAM_CW_STAT (res - 1) h) Fld.BEAM_CW_STAT_A) h)
  else if res = 3 then
    (if idx = 0x7F then List.range 64 else [idx]).any (fun p => s.dpdDma p (1 - s.fld (Reg.DPD_STATUS p) Fld.DPD_STATUS_ABANK))
  else if res = 4 then
    !(s.fld Reg.BEAM_BANK_STAT Fld.BEAM_BANK_STAT_EXP_SERVE).testBit idx &&
      (s.dmaWriting (0x21000000 + idx * 0x100000) (0x21100000 + idx * 0x100000) || s.dmaWriting (0x21200000 + idx * 0x4000) (0x21204000 + idx * 0x4000))
  else if res = 5 then
    let b := 1 - s.fld Reg.BEAM_BANK_STAT Fld.BEAM_BANK_STAT_TAPER_ABANK
    s.dmaWriting (0x21210000 + b * 0x400) (0x21210400 + b * 0x400)
  else
    let b := 1 - s.fld Reg.BEAM_BANK_STAT Fld.BEAM_BANK_STAT_GEOM_ABANK
    s.dmaWriting (0x21210800 + b * 0x400) (0x21210C00 + b * 0x400)

/-- Flip a handle's active bank for boundary `b` (R241, R246); a stale handle recovers with event 0x4031 (R242). -/
def State.flipHandle (s : State) (dir h : Nat) (b : Th) : State :=
  let a := Reg.BEAM_CW_STAT dir h
  let w := s.rd a
  let stale := getF w Fld.BEAM_CW_STAT_STALE = 1
  let w := setF (setF w Fld.BEAM_CW_STAT_A (1 - getF w Fld.BEAM_CW_STAT_A)) Fld.BEAM_CW_STAT_OLD_BUSY 1
  let w := setF (setF (setF w Fld.BEAM_CW_STAT_ARMED 0) Fld.BEAM_CW_STAT_COMMITTED 0) Fld.BEAM_CW_STAT_STALE 0
  let x := s.cw dir h
  let t := (s.wr a w).setCw dir h
    { x with
      flipB := none
      oldUntil := s.oldUntil (dir + 1) b
      past := ⟨b, getF (s.rd a) Fld.BEAM_CW_STAT_A, if stale then some x.staleB else none⟩ ::
        x.past.filter (fun f => decide (s.nowTh < f.bound + thUs 20000)) }
  if stale then t.raise 0x4031 h else t

/-- Word `k` of the header of a LUT bank (R256). -/
def State.dpdHdr (s : State) (p b k : Nat) : Nat := s.ldN (dpdMem p b + 4 * k) 4

/-- The partners of a LUT bank (R256, R257). -/
def State.dpdPartners (s : State) (p b : Nat) : List Nat :=
  let n := Nat.min 4 (bitsAt (s.dpdHdr p b 0) 0 3)
  (List.range n).map (fun q => bitsAt (s.dpdHdr p b 1) (8 * q) 6)

/-- The generation of a path (R259). -/
def State.dpdGen (s : State) (p : Nat) : Nat := s.fld (Reg.DPD_STATUS p) Fld.DPD_STATUS_GEN

/-- The LUT bank and the generation of a path for samples with air time `air` (R259, R260). -/
def State.dpdAt (s : State) (p : Nat) (air : Th) : Nat × Nat :=
  s.dpdPast.foldl (fun v e => if e.1 = p ∧ air < e.2.1 then e.2.2 else v) (s.fld (Reg.DPD_STATUS p) Fld.DPD_STATUS_ABANK, s.dpdGen p)

/-- Words 7-10 of a capture record of a path whose sample 0 has air time `air` (R271): its generation, the partners' generations, the partner list. -/
def State.genWords (s : State) (p : Nat) (air : Th) : List Nat :=
  let ps := s.dpdPartners p (s.dpdAt p air).1
  let g := fun q => match ps[q]? with | some n => (s.dpdAt n air).2 | none => 0
  [(s.dpdAt p air).2, g 0 + 65536 * g 1, g 2 + 65536 * g 3, ps.foldr (fun n m => n + 256 * m) 0]

/-- Whether a LUT swap of a path or of a partner fell between two air times (R271). -/
def State.swappedIn (s : State) (p : Nat) (a b : Th) : Bool :=
  let ps := p :: s.dpdPartners p (s.dpdAt p a).1
  s.dpdPast.any (fun e => ps.contains e.1 && decide (a < e.2.1 ∧ e.2.1 ≤ b))

/-- Why a path's inactive bank does not swap in, 0 where it does (R257, R259, R262, R263). -/
def State.dpdSwapErr (s : State) (p : Nat) : Nat :=
  let b := 1 - s.fld (Reg.DPD_STATUS p) Fld.DPD_STATUS_ABANK
  let w := s.dpdHdr p b 0
  let ps := s.dpdPartners p b
  let distinct := (List.range ps.length).all (fun i => (List.range i).all (fun j => ps.getD i 0 != ps.getD j 0))
  let adapt := bitAt w 7
  let pgen := fun q => bitsAt (s.dpdHdr p b (3 + q / 2)) (16 * (q % 2)) 16
  if bitsAt w 16 16 ≠ 0x4450 ∨ bitsAt w 8 8 ≠ 1 then 1
  else if 4 < bitsAt w 0 3 ∨ ps.contains p ∨ !distinct then 2
  else if bitAt w 6 ∧ (bitsAt (s.dpdHdr p b 2) 0 16 ≠ s.dpdGen p ∨ !(List.range ps.length).all (fun q => pgen q == s.dpdGen (ps.getD q 0))) then 3
  else if adapt ∧ s.bit (Reg.DPD_STATUS p) Fld.DPD_STATUS_FROZEN then 4
  else if adapt ∧ 2 ≤ s.fld Reg.PWR_CLASS Fld.PWR_CLASS_CLASS then 5
  else 0

/-- Swap one path's LUT bank for boundary `b`, or record why not (R260). -/
def State.dpdSwap (s : State) (p : Nat) (b : Th) : State :=
  let a := Reg.DPD_STATUS p
  match s.dpdSwapErr p with
  | 0 =>
    let w := s.rd a
    let old := getF w Fld.DPD_STATUS_ABANK
    let w := setF (setF w Fld.DPD_STATUS_ABANK (1 - old)) Fld.DPD_STATUS_OLD_BUSY 1
    let w := setF w Fld.DPD_STATUS_GEN ((getF w Fld.DPD_STATUS_GEN + 1) % 65536)
    let keep := s.dpdPast.filter (fun e => decide (s.nowTh < e.2.1 + thUs 1000))
    { s.wr a w with olds := s.olds ++ [(⟨3, p, old, b, s.oldUntil 3 b⟩ : OldBank)], dpdPast := (p, b, old, s.dpdGen p) :: keep }
  | e => ((s.flag a Fld.DPD_STATUS_SWAPFAIL).setFld a Fld.DPD_STATUS_SWAPERR e).raiseLim 10 0x4041 p

/-- Perform a swap's role change (R525). Every LUT bank swap of one boundary is performed with it, in ascending path order (R259). -/
def State.roleChange (s : State) (w : SwapPend) : State :=
  let t := ({ s with swaps := s.swaps.filter (fun x => x != w) }.showPending w.res w.idx false).restartSync
  let st := t.rd Reg.BEAM_BANK_STAT
  if w.res = 0 then t.programSwap w.idx
  else if w.res = 1 ∨ w.res = 2 then (List.range 256).foldl (fun u h => u.flipHandle (w.res - 1) h w.bound) t
  else if w.res = 3 then
    let due := fun (x : SwapPend) => x.res == 3 && !x.deferred && x.bound == w.bound && (x == w || !t.swapDma 3 x.idx)
    let ws := w :: t.swaps.filter due
    let t := ws.foldl (fun (u : State) x => u.showPending 3 x.idx false) { t with swaps := t.swaps.filter (fun x => !due x) }
    ((List.range 64).filter (fun p => ws.any (fun x => x.idx == 0x7F || x.idx == p))).foldl (fun u p => u.dpdSwap p w.bound) t
  else if w.res = 4 then
    let on := (getF st Fld.BEAM_BANK_STAT_EXP_SERVE).testBit w.idx
    let st := setF st Fld.BEAM_BANK_STAT_EXP_SERVE (setBitN (getF st Fld.BEAM_BANK_STAT_EXP_SERVE) w.idx !on)
    let st := setF st Fld.BEAM_BANK_STAT_EXP_OLD (setBitN (getF st Fld.BEAM_BANK_STAT_EXP_OLD) w.idx on)
    { t.wr Reg.BEAM_BANK_STAT st with olds := t.olds ++ [⟨4, w.idx, b2n on, w.bound, s.oldUntil 4 w.bound⟩] }
  else if w.res = 5 then
    let b := getF st Fld.BEAM_BANK_STAT_TAPER_ABANK
    let st := setF (setF st Fld.BEAM_BANK_STAT_TAPER_ABANK (1 - b)) Fld.BEAM_BANK_STAT_TAPER_OLD 1
    { t.wr Reg.BEAM_BANK_STAT st with olds := t.olds ++ [⟨5, 0, b, w.bound, s.oldUntil 5 w.bound⟩] }
  else
    let b := getF st Fld.BEAM_BANK_STAT_GEOM_ABANK
    let st := setF (setF st Fld.BEAM_BANK_STAT_GEOM_ABANK (1 - b)) Fld.BEAM_BANK_STAT_GEOM_OLD 1
    { t.wr Reg.BEAM_BANK_STAT st with olds := t.olds ++ [⟨6, 0, b, w.bound, s.oldUntil 6 w.bound⟩] }

/-- Replace a pending swap. -/
def State.moveSwap (s : State) (w w' : SwapPend) : State := { s with swaps := s.swaps.map (fun x => if x = w then w' else x) }

/-- A DMA transfer defers a swap (R153): to the next boundary of its kind that meets the lead, or by 1 µs for a TIME swap; event 0xA006. -/
def State.deferSwap (s : State) (w : SwapPend) : State :=
  let b := if w.bnd = 2 then w.bound + thUs 1
    else s.boundaryFrom w.car (w.bnd == 1) (if s.nowTh + swapLead w.res ≤ w.bound then w.bound + 1 else s.nowTh + swapLead w.res)
  let t := s.moveSwap w { w with bound := b, deferred := w.bnd == 2 }
  (match w.eng with
   | some e => t.count (Reg.SB_DEFER_CNT e)
   | none => t).raise 0xA006 (engUnit w.eng)

/-- The pending swap of a resource. -/
def State.findSwap (s : State) (res idx : Nat) : Option SwapPend := s.swaps.find? (fun w => w.res == res && w.idx == idx)

/-- BANK_SWAP (R163, R525): the role change of a pending swap is due. -/
def execBankSwap (res : Fin 7) (idx : Fin 128) (s : State) : Res :=
  finish (match s.findSwap res idx with
    | none => s
    | some w =>
      if w.deferred || decide (s.nowTh < w.bound - roleLead w.res) then s
      else if s.swapDma w.res w.idx then s.deferSwap w
      else s.roleChange w)

/-- SWAP_DEFER_RETRY (R153): a deferred TIME swap is tried again every 1 µs of output time until the transfer has ended. -/
def execSwapDeferRetry (res : Fin 7) (idx : Fin 128) (s : State) : Res :=
  finish (match s.findSwap res idx with
    | none => s
    | some w =>
      if !w.deferred || decide (s.nowTh < w.bound - roleLead w.res) then s
      else if s.swapDma w.res w.idx then s.moveSwap w { w with bound := w.bound + thUs 1 }
      else s.roleChange w)

/-- The status bit of an old bank of a resource. -/
def State.showOld (s : State) (res idx : Nat) (on : Bool) : State :=
  let b := b2n on
  if res = 3 then s.setFld (Reg.DPD_STATUS idx) Fld.DPD_STATUS_OLD_BUSY b
  else if res = 4 then
    s.setFld Reg.BEAM_BANK_STAT Fld.BEAM_BANK_STAT_EXP_OLD (setBitN (s.fld Reg.BEAM_BANK_STAT Fld.BEAM_BANK_STAT_EXP_OLD) idx on)
  else if res = 5 then s.setFld Reg.BEAM_BANK_STAT Fld.BEAM_BANK_STAT_TAPER_OLD b
  else if res = 6 then s.setFld Reg.BEAM_BANK_STAT Fld.BEAM_BANK_STAT_GEOM_OLD b
  else s

/-- OLD_BANK_RELEASE (R246, R525): the last user of an old bank is done. For `res` 1 and 2 `idx` is a handle. -/
def execOldBankRelease (res : Fin 7) (idx : Fin 256) (s : State) : Res :=
  finish (
    if res.val = 1 ∨ res.val = 2 then
      let a := Reg.BEAM_CW_STAT (res.val - 1) idx
      if s.bit a Fld.BEAM_CW_STAT_OLD_BUSY && decide ((s.cw (res.val - 1) idx).oldUntil ≤ s.nowTh) then s.setFld a Fld.BEAM_CW_STAT_OLD_BUSY 0 else s
    else
      let mine := fun (o : OldBank) => o.res == res.val && o.idx == idx.val
      let t := { s with olds := s.olds.filter (fun o => !(mine o && decide (o.until_ ≤ s.nowTh))) }
      if s.olds.any mine && !t.olds.any mine then t.showOld res idx false else t)

/-! ## Swap request registers -/

/-- A write of `BEAM_SWAPREQ` (R163): the fields are stored, then `REQ` requests. -/
def beamSwapreqWrite (v : Word) (s : State) : Nat × State :=
  let t := s.plainWrite Reg.BEAM_SWAPREQ v
  let res := getF v Fld.BEAM_SWAPREQ_RES
  if getF v Fld.BEAM_SWAPREQ_REQ = 0 ∨ ¬(res = 1 ∨ res = 2 ∨ res = 4 ∨ res = 5 ∨ res = 6) then (0, t)
  else
    match t.requestSwap res (getF v Fld.BEAM_SWAPREQ_IDX) (getF v Fld.BEAM_SWAPREQ_BND) (getF v Fld.BEAM_SWAPREQ_CARRIER) (t.rd64 Reg.BEAM_SWAPT)
        t.nowTh none with
    | (0, u) => (0, u)
    | (c, _) => (c, s.swapRefused none)

/-- BEAM_SWAPREQ (R245). -/
def execBeamSwapreq (r : Req) (v : Word) (s : State) : Res :=
  finish (s.writeBy r Reg.BEAM_SWAPREQ (beamSwapreqWrite v))

/-- A write of `DPD_SWAPREQ` (R260). -/
def dpdSwapreqWrite (v : Word) (s : State) : Nat × State :=
  let t := s.plainWrite Reg.DPD_SWAPREQ v
  if getF v Fld.DPD_SWAPREQ_REQ = 0 then (0, t)
  else
    match t.requestSwap 3 (getF v Fld.DPD_SWAPREQ_IDX) (getF v Fld.DPD_SWAPREQ_BND) (getF v Fld.DPD_SWAPREQ_CARRIER) (t.rd64 Reg.DPD_SWAPT)
        t.nowTh none with
    | (0, u) => (0, u)
    | (c, _) => (c, s.swapRefused none)

/-- DPD_SWAPREQ (R260). -/
def execDpdSwapreq (r : Req) (v : Word) (s : State) : Res :=
  finish (s.writeBy r Reg.DPD_SWAPREQ (dpdSwapreqWrite v))

/-- A write of `SB_SWAPREQ` of engine `e` (R151, R163). -/
def sbSwapreqWrite (e : Nat) (v : Word) (s : State) : Nat × State :=
  let t := s.plainWrite (Reg.SB_SWAPREQ e) v
  if getF v Fld.SB_SWAPREQ_REQ = 0 then (0, t)
  else
    match t.requestSwap 0 e (getF v Fld.SB_SWAPREQ_BND) (getF v Fld.SB_SWAPREQ_CARRIER) (t.rd64 (Reg.SB_SWAPT e)) t.nowTh none with
    | (0, u) => (0, u)
    | (c, _) => (c, s.swapRefused none)

/-- SB_SWAPREQ (R163): a write of `SB_SWAPREQ`. -/
def execSbSwapreq (r : Req) (e : Fin 5) (v : Word) (s : State) : Res :=
  finish (s.writeBy r (Reg.SB_SWAPREQ e) (fun t => t.sbPageWrite e (sbSwapreqWrite e v)))

/-! ## Computed sets: arm, commit, flip, miss (R240-R244) -/

/-- The lead of a direction (R240). -/
def cwLead (dir : Nat) : Th := if dir = 0 then thUs 36 else 0

/-- A handle's deadline has passed without a commit (R242): a miss. -/
def State.cwMiss (s : State) (dir h : Nat) (now : Th) : State :=
  let a := Reg.BEAM_CW_STAT dir h
  let w := s.rd a
  let x := s.cw dir h
  if getF w Fld.BEAM_CW_STAT_ARMED = 0 ∨ getF w Fld.BEAM_CW_STAT_COMMITTED = 1 ∨ now ≤ x.armB - cwLead dir then s
  else
    let was := getF w Fld.BEAM_CW_STAT_STALE = 1
    let s1 := (s.wr a (setF (setF w Fld.BEAM_CW_STAT_ARMED 0) Fld.BEAM_CW_STAT_STALE 1)).setCw dir h
      { x with staleB := if was then x.staleB else x.armB }
    (s1.count Reg.BEAM_CW_MISS_CNT).raiseLim 10 0x4030 h

/-- A refused ARM or COMMIT: recorded, event 0x4034, ERR_BUSY (BEAM_CW_ERR). -/
def State.cwRefuse (s : State) (reason dir h : Nat) : Nat × State :=
  let s1 := if s.bit Reg.BEAM_CW_ERR Fld.BEAM_CW_ERR_VALID then s
    else
      let w := setF (setF 0 Fld.BEAM_CW_ERR_VALID 1) Fld.BEAM_CW_ERR_REASON reason
      s.wr Reg.BEAM_CW_ERR (setF (setF w Fld.BEAM_CW_ERR_DIR dir) Fld.BEAM_CW_ERR_HANDLE h)
  (7, s1.raise 0x4034 h)

/-- A write of `BEAM_CW_ARM` at reference time `tw` (R240, R243, R245). -/
def cwArmWrite (v : Word) (tw : Th) (s0 : State) : Nat × State :=
  let dir := getF v Fld.BEAM_CW_ARM_DIR
  let h := getF v Fld.BEAM_CW_ARM_HANDLE
  let c := getF v Fld.BEAM_CW_ARM_CARRIER
  let slot := getF v Fld.BEAM_CW_ARM_SLOT
  let sym := getF v Fld.BEAM_CW_ARM_SYMBOL
  let a := Reg.BEAM_CW_STAT dir h
  let s := s0.cwMiss dir h tw
  if getF v Fld.BEAM_CW_ARM_CANCEL = 1 then
    (0, (s.wr a (setF (setF (s.rd a) Fld.BEAM_CW_STAT_ARMED 0) Fld.BEAM_CW_STAT_COMMITTED 0)).setCw dir h { s.cw dir h with flipB := none })
  else if s.swapPending (dir + 1) 0 then s.cwRefuse 2 dir h
  else if s.carSlots c ≤ slot ∨ 13 < sym then s.cwRefuse 3 dir h
  else
    let n := slot * 14 + sym
    let f := (tw + cwLead dir + 19660800 * 100000 - s.airTime c 0 n) / (19660800 * 100000)
    let w := setF (setF (s.rd a) Fld.BEAM_CW_STAT_ARMED 1) Fld.BEAM_CW_STAT_ACAR c
    (0, (s.wr a (setF (setF w Fld.BEAM_CW_STAT_ASLOT slot) Fld.BEAM_CW_STAT_ASYM sym)).setCw dir h { s.cw dir h with armB := s.airTime c f n })

/-- A write of `BEAM_CW_COMMIT` at reference time `tc` (R241, R245). -/
def cwCommitWrite (v : Word) (tc : Th) (s0 : State) : Nat × State :=
  let dir := getF v Fld.BEAM_CW_COMMIT_DIR
  let h := getF v Fld.BEAM_CW_COMMIT_HANDLE
  let a := Reg.BEAM_CW_STAT dir h
  let s := s0.cwMiss dir h tc
  let w := s.rd a
  if getF w Fld.BEAM_CW_STAT_COMMITTED = 1 then s.cwRefuse 1 dir h
  else if s.swapPending (dir + 1) 0 then s.cwRefuse 2 dir h
  else
    let x := s.cw dir h
    let e := s.dirEntry dir (1 - getF w Fld.BEAM_CW_STAT_A) h
    let (b, c) := if getF w Fld.BEAM_CW_STAT_ARMED = 1 then (x.armB, getF w Fld.BEAM_CW_STAT_ACAR)
      else (s.boundaryFrom e.carrier false (tc + cwLead dir), e.carrier)
    (0, (s.wr a (setF w Fld.BEAM_CW_STAT_COMMITTED 1)).setCw dir h { x with flipB := some b, flipCar := c })

/-- BEAM_CW_ARM (R240): a host write with `CANCEL` = 0. -/
def execBeamCwArm (r : Req) (v : Word) (s : State) : Res :=
  finish (s.writeBy r Reg.BEAM_CW_ARM (fun t => cwArmWrite (setF v Fld.BEAM_CW_ARM_CANCEL 0) t.nowTh t))

/-- BEAM_CW_CANCEL (R243): a host write of `BEAM_CW_ARM` with `CANCEL` = 1. -/
def execBeamCwCancel (r : Req) (v : Word) (s : State) : Res :=
  finish (s.writeBy r Reg.BEAM_CW_ARM (fun t => cwArmWrite (setF v Fld.BEAM_CW_ARM_CANCEL 1) t.nowTh t))

/-- BEAM_CW_COMMIT (R241). -/
def execBeamCwCommit (r : Req) (v : Word) (s : State) : Res :=
  finish (s.writeBy r Reg.BEAM_CW_COMMIT (fun t => cwCommitWrite v t.nowTh t))

/-- CW_FLIP (R241, R244, R246): the role change of a committed copy; a DMA transfer that still writes the copy defers it to the next boundary of the planned one's
carrier, event 0x4035. The pending flip's change restarts slice synchronization (R201). -/
def execCwFlip (dir : Fin 2) (h : Fin 256) (s : State) : Res :=
  let x := s.cw dir h
  let a := Reg.BEAM_CW_STAT dir h
  finish (match x.flipB with
    | none => s
    | some b =>
      if s.nowTh < b - cwLead dir then s
      else if s.copyDma dir (1 - s.fld a Fld.BEAM_CW_STAT_A) h then
        let stale := s.bit a Fld.BEAM_CW_STAT_STALE
        let b' := s.nextBoundary x.flipCar false (if s.nowTh + cwLead dir ≤ b then b else s.nowTh + cwLead dir - 1)
        let t := (s.setFld a Fld.BEAM_CW_STAT_STALE 1).setCw dir h { x with flipB := some b', staleB := if stale then x.staleB else b }
        (t.count Reg.BEAM_CW_DEFER_CNT).raise 0x4035 h
      else (s.flipHandle dir h b).restartSync)

/-- CW_MISS (R242): B − lead has passed while the handle is armed and not committed. -/
def execCwMiss (dir : Fin 2) (h : Fin 256) (s : State) : Res := finish (s.cwMiss dir h s.nowTh)

end Sys2Proof.Machine
end

