-- ==== Sys2Proof/Machine/Carrier.lean ====
section
/-! DEFINITION. Carriers, mutes and path slices (R181-R184, R194, R197-R202, R209, R219). Marks and risks: log entries 41, 9. -/
namespace Sys2Proof.Machine

/-! ## Mutes (R197) -/

/-- The host ramp of a path. -/
def State.ramp (s : State) (p : Nat) : Option Ramp := (s.ramps.find? (fun x => x.1 == p)).map (·.2)

/-- Record how a path was muted until stage 8 entry time `t` (R197). -/
def State.mutedUntil (s : State) (p : Nat) (t : Th) : State :=
  let keep := s.mutePast.filter (fun e => decide (s.nowTh < e.until_ + thUs 20))
  { s with mutePast := ⟨p, t, s.bit (Reg.TXDP_MUTE p) Fld.TXDP_MUTE_MUTED, s.ramp p⟩ :: keep }

/-- Set or clear `TXDP_MUTE.MUTED` and end a host ramp. -/
def State.setMuted (s : State) (p : Nat) (on : Bool) : State :=
  let t := ((s.mutedUntil p s.nowTh).setFld (Reg.TXDP_MUTE p) Fld.TXDP_MUTE_MUTED (b2n on)).setSpell (128 + p) on
  { t with ramps := s.ramps.filter (fun x => x.1 != p) }

/-- Whether a source other than `HOST` mutes a path. -/
def State.hwMuted (s : State) (p : Nat) : Bool := bitsAt (s.rd (Reg.TXDP_MUTE p)).toNat 1 5 != 0

/-- Whether any source mutes a path (R197). -/
def State.muteActive (s : State) (p : Nat) : Bool := bitsAt (s.rd (Reg.TXDP_MUTE p)).toNat 0 6 != 0

/-- Mark the captures of a path in progress: a mute source became active (R271). -/
def State.markMuted (s : State) (p : Nat) : State :=
  { s with cages := s.cages.map (fun (c : Nat × CageArb) =>
      match c.2.cur with
      | some q => if q.path == p && !c.2.done then (c.1, { c.2 with muted := true }) else c
      | none => c) }

/-- A hardware source becomes active: the path is muted without a ramp, event 0x4010 (R197). -/
def State.hwMute (s : State) (p : Nat) (f : Field) : State :=
  if s.bit (Reg.TXDP_MUTE p) f then s
  else
    let t := (s.setFld (Reg.TXDP_MUTE p) f 1).setMuted p true
    (t.markMuted p).raise 0x4010 p

/-- A source clears: the path unmutes, without a ramp, when no source is left. -/
def State.hwUnmute (s : State) (p : Nat) (f : Field) : State :=
  if s.bit (Reg.TXDP_MUTE p) f then
    let t := s.setFld (Reg.TXDP_MUTE p) f 0
    if t.hwMuted p || t.bit (Reg.TXDP_MUTE p) Fld.TXDP_MUTE_HOST then t else t.setMuted p false
  else s

/-- Samples at 4 423.68 MS/s in a span of time. -/
def rampSamples (d : Th) : Nat := (d * 9 / 400000).toNat

/-- The level of a ramp at stage 8 entry time `t`, in samples out of its length. -/
def rampLevel (r : Ramp) (t : Th) : Nat :=
  let d := rampSamples (t - r.at_)
  if r.falling then r.from_ - d else Nat.min r.len (r.from_ + d)

/-- The host mute of a path changes at stage 8 entry time `tw` (R180, R197): a ramp of `TXDP_RAMP.LEN` samples; one that lands in a ramp still in progress goes on from its level and with its length. -/
def State.hostMute (s : State) (p : Nat) (on : Bool) (tw : Th) : State :=
  let t := (if on then s.markMuted p else s).setFld (Reg.TXDP_MUTE p) Fld.TXDP_MUTE_HOST (b2n on)
  if t.hwMuted p then t
  else
    let run := (s.ramp p).filter (fun r => !(!r.falling && rampLevel r tw == r.len))
    let len := match run with | some r => r.len | none => s.fld Reg.TXDP_RAMP Fld.TXDP_RAMP_LEN
    let level := match run with
      | some r => rampLevel r tw
      | none => if on then len else 0
    if len = 0 then t.setMuted p on
    else
      let u := (t.mutedUntil p tw).setFld (Reg.TXDP_MUTE p) Fld.TXDP_MUTE_MUTED (if on then getF (t.rd (Reg.TXDP_MUTE p)) Fld.TXDP_MUTE_MUTED else 0)
      let u := if on then u else u.setSpell (128 + p) false
      { u with ramps := (u.ramps.filter (fun x => x.1 != p)) ++ [(p, ⟨on, tw, level, len⟩)] }

/-- HOST_MUTE_RAMP_END (R197): the host falling ramp of a path is over. -/
def execHostMuteRampEnd (path : Fin 64) (s : State) : Res :=
  finish (match s.ramp path with
    | some r => if r.falling && rampLevel r s.nowTh == 0 then s.setMuted path true else s
    | none => s)

/-- A write of `TXDP_PATH_CTL` (R193, R197). -/
def txPathCtlWrite (p : Nat) (v : Word) (tw : Th) (s : State) : Nat × State :=
  let was := s.bit (Reg.TXDP_PATH_CTL p) Fld.TXDP_PATH_CTL_MUTE
  let on := getF v Fld.TXDP_PATH_CTL_MUTE = 1
  let a := Reg.TXDP_PATH_CTL p
  let t := s.symWrite a (s.plainValue a v) (tw + thNs 3500)
  (0, if on = was then t else t.hostMute p on tw)

/-- A write of a register of sample fields (R180, R207): it applies to samples with air or pin time from `tw` + `d` on. -/
def sampleWrite (a : Nat) (d : Th) (v : Word) (tw : Th) (s : State) : Nat × State := (0, s.symWrite a (s.plainValue a v) (tw + d))

/-! ## Slices (R198-R202) -/

/-- The slice of a path. -/
def State.sliceOf (s : State) (p : Nat) : Nat := bitsAt (s.rd (Reg.TXDP_SLICE_MAP (p / 4))).toNat (8 * (p % 4)) 7

/-- Connect a path to a slice. -/
def State.setSlice (s : State) (p sl : Nat) : State := s.setFld (Reg.TXDP_SLICE_MAP (p / 4)) ⟨8 * (p % 4), 7⟩ sl

/-- Mark a slice retired or faulted. -/
def State.markSlice (s : State) (sl : Nat) : State := s.setFld (Reg.TXDP_SLICE_FAULT (sl / 32)) ⟨sl % 32, 1⟩ 1

/-- Whether a slice is marked. -/
def State.sliceBad (s : State) (sl : Nat) : Bool := s.bit (Reg.TXDP_SLICE_FAULT (sl / 32)) ⟨sl % 32, 1⟩

/-- The synchronization record of a slice relief unit. -/
def State.sliceSync (s : State) (u : Nat) : Option SliceSync := (s.slices.find? (fun x => x.1 == u)).map (·.2)

/-- Replace it. -/
def State.setSliceSync (s : State) (u : Nat) (x : Option SliceSync) : State :=
  { s with slices := s.slices.filter (fun y => y.1 != u) ++ (match x with | some y => [(u, y)] | none => []) }

/-- Whether the cause of a hardware mute is still present (R7, R197, R274). -/
def State.muteCause (s : State) (p : Nat) (f : Field) : Bool :=
  if f = Fld.TXDP_MUTE_DIE then s.power.dieLost.testBit (p / 16)
  else if f = Fld.TXDP_MUTE_SAFE then s.bit Reg.PWR_STATUS Fld.PWR_STATUS_SAFE
  else if f = Fld.TXDP_MUTE_SLICE then s.bit (Reg.RXDP_OVR p) Fld.RXDP_OVR_SLICE
  else false

/-- A write of `TXDP_MUTE`: W1C of the hardware sources whose cause is gone (R7, R197). -/
def txMuteWrite (p : Nat) (v : Word) (s : State) : Nat × State :=
  (0, [Fld.TXDP_MUTE_VSWR, Fld.TXDP_MUTE_DIE, Fld.TXDP_MUTE_SAFE, Fld.TXDP_MUTE_SLICE].foldl (fun t f =>
    if getF v f = 1 ∧ !t.muteCause p f then t.hwUnmute p f else t) s)

/-- MUTE_SOURCE_CLEAR (R197): a write of `TXDP_MUTE`. -/
def execMuteSourceClear (r : Req) (path : Fin 64) (v : Word) (s : State) : Res :=
  finish (s.writeBy r (Reg.TXDP_MUTE path) (txMuteWrite path v))

/-- The spare takes over a path (R200, R202): the crossbar entry, the retired slice's bit, `TAKEN`, event 0x4015. -/
def State.takeOver (s : State) (u p spare : Nat) : State :=
  let a := Reg.TXDP_SLICE_RELIEF u
  let w := setF (setF (setF (s.rd a) Fld.TXDP_SLICE_RELIEF_TAKEN 1) Fld.TXDP_SLICE_RELIEF_SYNCED 0) Fld.TXDP_SLICE_RELIEF_BUSY 0
  let t := ((s.markSlice (s.sliceOf p)).setSlice p spare).wr a (setF w Fld.TXDP_SLICE_RELIEF_SPARE 0x7F)
  (t.setSliceSync u none).raise 0x4015 p

/-- A write of `TXDP_SLICE_RELIEF` of unit `u` (R199-R202). A target between its connection after a fault and `TAKEN` cannot change either (log entry 9). -/
def sliceReliefWrite (u : Nat) (v : Word) (s : State) : Nat × State :=
  let a := Reg.TXDP_SLICE_RELIEF u
  let w := s.rd a
  let old := getF w Fld.TXDP_SLICE_RELIEF_TARGET
  let new := getF v Fld.TXDP_SLICE_RELIEF_TARGET
  let used : Bool := getF w Fld.TXDP_SLICE_RELIEF_TAKEN == 1 || (match s.sliceSync u with | some x => x.faulted | none => false)
  if getF v Fld.TXDP_SLICE_RELIEF_RETIRE = 1 then
    (if getF w Fld.TXDP_SLICE_RELIEF_SYNCED = 0 ∨ new ≠ old then (7, s)
     else (0, (s.plainWrite a v).takeOver u old (getF w Fld.TXDP_SLICE_RELIEF_SPARE)))
  else if used then (if new ≠ old then (7, s) else (0, s.plainWrite a v))
  else
    let t := s.plainWrite a v
    let spare := getF w Fld.TXDP_SLICE_RELIEF_SPARE
    let running := getF w Fld.TXDP_SLICE_RELIEF_SYNCED = 1 ∨ getF w Fld.TXDP_SLICE_RELIEF_BUSY = 1
    let fresh := setF (t.rd a) Fld.TXDP_SLICE_RELIEF_SYNCED 0
    if 64 ≤ new then (0, (t.wr a (setF fresh Fld.TXDP_SLICE_RELIEF_BUSY 0)).setSliceSync u none)
    else if s.sliceBad (s.sliceOf new) then
      (0, ((t.wr a (setF fresh Fld.TXDP_SLICE_RELIEF_BUSY 1)).setSlice new spare).setSliceSync u (some ⟨s.nowTh, s.nowTh, true⟩))
    else if new = old ∧ running then (0, t)
    else (0, (t.wr a (setF fresh Fld.TXDP_SLICE_RELIEF_BUSY 1)).setSliceSync u (some ⟨s.nowTh, s.nowTh, false⟩))

/-- SLICE_RELIEF_TARGET (R199, R202): a write of `TXDP_SLICE_RELIEF` with `RETIRE` = 0. -/
def execSliceReliefTarget (r : Req) (u : Fin 2) (v : Word) (s : State) : Res :=
  finish (s.writeBy r (Reg.TXDP_SLICE_RELIEF u) (sliceReliefWrite u (setF v Fld.TXDP_SLICE_RELIEF_RETIRE 0)))

/-- SLICE_RETIRE (R200): a write of `TXDP_SLICE_RELIEF` with `RETIRE` = 1. -/
def execSliceRetire (r : Req) (u : Fin 2) (v : Word) (s : State) : Res :=
  finish (s.writeBy r (Reg.TXDP_SLICE_RELIEF u) (sliceReliefWrite u (setF v Fld.TXDP_SLICE_RELIEF_RETIRE 1)))

/-- Whether an enable bit of a carrier is set. -/
def State.carBits (s : State) (c : Nat) : Bool := s.bit (Reg.CAR_CTL c) Fld.CAR_CTL_DL_EN || s.bit (Reg.CAR_CTL c) Fld.CAR_CTL_UL_EN

/-- Whether a carrier is enabled in either direction: one with `TOFF` = 1 is handled as if both bits were 0 (R184). -/
def State.carEnabled (s : State) (c : Nat) : Bool := s.carBits c && !s.carToff c

/-- Whether every enabled carrier has passed two symbol boundaries since a time (R199, R202). -/
def State.twoBoundaries (s : State) (t : Th) : Bool :=
  (List.range 8).all (fun c => !s.carEnabled c || decide (s.nextBoundary c false (s.nextBoundary c false t) ≤ s.nowTh))

/-- The time of 65 536 samples at 4 423.68 MS/s. -/
def syncRun : Th := 2912711112

/-- SLICE_SYNCED (R199): the shadow has run two boundaries of every enabled carrier and 65 536 matching samples. `mismatch` says that a sample has differed: before
`SYNCED` the run of matching samples starts again, after it the spare stops shadowing with `MISMATCH` and event 0x4016. -/
def execSliceSynced (u : Fin 2) (mismatch : Bool) (s : State) : Res :=
  let a := Reg.TXDP_SLICE_RELIEF u
  let w := s.rd a
  let p := getF w Fld.TXDP_SLICE_RELIEF_TARGET
  let synced := getF w Fld.TXDP_SLICE_RELIEF_SYNCED = 1
  finish (match s.sliceSync u with
    | none => s
    | some x =>
      if x.faulted then s
      else if mismatch ∧ ¬synced then s.setSliceSync u (some { x with at_ := s.nowTh })
      else if mismatch then
        let w := setF (setF (setF w Fld.TXDP_SLICE_RELIEF_SYNCED 0) Fld.TXDP_SLICE_RELIEF_BUSY 0) Fld.TXDP_SLICE_RELIEF_MISMATCH 1
        ((s.wr a w).setSliceSync u none).raise 0x4016 p
      else if synced ∨ !(List.range 8).any s.carEnabled ∨ !s.twoBoundaries x.bounds ∨ s.nowTh < x.at_ + syncRun then s
      else (s.wr a (setF (setF w Fld.TXDP_SLICE_RELIEF_SYNCED 1) Fld.TXDP_SLICE_RELIEF_BUSY 0)).raise 0x4014 p)

/-- The path a slice serves. -/
def State.pathOf (s : State) (sl : Nat) : Option Nat := (List.range 64).find? (fun p => s.sliceOf p == sl)

/-- SLICE_FAULT (R200, R202, R219): an uncorrectable fault of a slice. A synchronized spare takes over; else the path is muted with source `SLICE`, its
receive side delivers zeros, event 0x4013. A spare that is itself hit stops shadowing. -/
def execSliceFault (slice : Fin 66) (s : State) : Res :=
  finish (
    if s.sliceBad slice || !s.clkOn Fld.SYS_CLK_STATUS_FCLK then s
    else
      match s.pathOf slice with
      | none =>
        let u := slice.val - 64
        let a := Reg.TXDP_SLICE_RELIEF u
        let w := setF (setF (s.rd a) Fld.TXDP_SLICE_RELIEF_SYNCED 0) Fld.TXDP_SLICE_RELIEF_BUSY 0
        if 64 ≤ slice.val then ((s.markSlice slice).wr a w).setSliceSync u none |>.raise 0x4013 0xFF else s.markSlice slice
      | some p =>
        match [0, 1].find? (fun u => s.bit (Reg.TXDP_SLICE_RELIEF u) Fld.TXDP_SLICE_RELIEF_SYNCED &&
            s.fld (Reg.TXDP_SLICE_RELIEF u) Fld.TXDP_SLICE_RELIEF_TARGET == p) with
        | some u => s.takeOver u p (s.fld (Reg.TXDP_SLICE_RELIEF u) Fld.TXDP_SLICE_RELIEF_SPARE)
        | none =>
          let t := ((s.markSlice slice).setFld (Reg.RXDP_OVR p) Fld.RXDP_OVR_SLICE 1).setZero p 3 true (s.nowTh - thNs 1100)
          let t := [0, 1].foldl (fun (x : State) u =>
            if x.fld (Reg.TXDP_SLICE_RELIEF u) Fld.TXDP_SLICE_RELIEF_TARGET = p ∧ !x.bit (Reg.TXDP_SLICE_RELIEF u) Fld.TXDP_SLICE_RELIEF_TAKEN then
              (x.setFld (Reg.TXDP_SLICE_RELIEF u) Fld.TXDP_SLICE_RELIEF_BUSY 0).setSliceSync u none else x) t
          (t.hwMute p Fld.TXDP_MUTE_SLICE).raise 0x4013 p)

/-- SLICE_TAKEN (R202, R219): two boundaries of every enabled carrier after a faulted path was connected to the spare. -/
def execSliceTaken (u : Fin 2) (s : State) : Res :=
  let a := Reg.TXDP_SLICE_RELIEF u
  let p := s.fld a Fld.TXDP_SLICE_RELIEF_TARGET
  finish (match s.sliceSync u with
    | some x =>
      if x.faulted && s.twoBoundaries x.at_ then
        let w := setF (setF (setF (s.rd a) Fld.TXDP_SLICE_RELIEF_TAKEN 1) Fld.TXDP_SLICE_RELIEF_BUSY 0) Fld.TXDP_SLICE_RELIEF_SPARE 0x7F
        let t := (((s.wr a w).setSliceSync u none).setFld (Reg.RXDP_OVR p) Fld.RXDP_OVR_SLICE 0).setZero p 3 false (s.nowTh - thNs 1100)
        t.raise 0x4015 p
      else s
    | none => s)

/-! ## Carriers (R181-R184, R194) -/

/-- Twice the band edges of a carrier in Hz (R182). -/
def State.carBand (s : State) (c : Nat) : Int × Int :=
  let f := 2 * sext (s.rd (Reg.CAR_FREQ c)).toNat 18 * 5000
  let b : Int := 12 * s.carPrbs c * 15000 * 2 ^ s.carMu c
  (f - b, f + b)

/-- Whether a carrier's description is valid (R181, R182). -/
def State.carValid (s : State) (c : Nat) : Bool :=
  let mu := s.carMu c
  let log := s.fld (Reg.CAR_CFG c) Fld.CAR_CFG_FFTLOG
  let n := s.carFft c
  let prb := s.carPrbs c
  let (lo, hi) := s.carBand c
  decide (mu ≤ 5 ∧ 8 ≤ log ∧ log ≤ 13) && decide (256 ≤ n * 2 ^ mu ∧ n * 2 ^ mu ≤ 65536) &&
  decide (1 ≤ prb ∧ prb ≤ 275 ∧ 120 * prb ≤ 8 * n) && decide (12 * prb * 15000 * 2 ^ mu ≤ 400000000) &&
  decide (256 * s.fld (Reg.CAR_TXWIN c) Fld.CAR_TXWIN_LEN ≤ 9 * n) &&
  decide (-1200000000 ≤ lo ∧ hi ≤ 1200000000) &&
  (List.range 8).all (fun d => d == c || !s.carBusy d ||
    (let (lo', hi') := s.carBand d
     decide (hi ≤ lo' ∨ hi' ≤ lo)))

/-- The windowing tail of a carrier (R188): W samples at the carrier rate; none on a time-IQ downlink (R176). -/
def State.carTail (s : State) (c : Nat) : Th :=
  if s.carTiq c 0 then 0 else ((s.fld (Reg.CAR_TXWIN c) Fld.CAR_TXWIN_LEN * 131072 * 100000 / (s.carFft c * 2 ^ s.carMu c) : Nat) : Int)

/-- The carriers that PC3 turns off (R429): the first `NOFF` enabled ones in ascending `TPRIO`, ties in ascending number. -/
def State.toffSet (s : State) : List Nat :=
  let noff := Nat.min 8 (Nat.max 1 (s.fld Reg.PWR_CLASS Fld.PWR_CLASS_NOFF))
  if s.fld Reg.PWR_CLASS Fld.PWR_CLASS_CLASS = 3 then
    (((List.range 8).flatMap (fun p => (List.range 8).filter (fun c => s.carBits c && s.fld (Reg.CAR_CTL c) Fld.CAR_CTL_TPRIO == p)))).take noff
  else []

/-- A direction of a carrier is off from reference time `tw` on: the end of its last enabled symbol (R183), with the windowing tail of a downlink one. -/
def State.carDown (s : State) (c dir : Nat) (tw : Th) : State :=
  let a := Reg.CAR_CTL c
  let x := s.car c
  if dir = 0 then
    let (f, n) := s.symbolAt c (tw + thUs 34 - 1)
    if getF (s.symVal a (s.airTime c f n)) Fld.CAR_CTL_DL_EN = 1 then s.setCar c { x with dlEnd := s.airEnd c f n + s.carTail c } else s
  else
    let (f, n) := s.symbolAt c (tw - 1)
    if getF (s.symRx a (s.airTime c f n)) Fld.CAR_CTL_UL_EN = 1 then s.setCar c { x with ulEnd := s.airEnd c f n + thNs 34200 } else s

/-- `BUSY` rises for a carrier that is enabled (R183); the slice reliefs count their boundaries anew (R201). -/
def State.carRise (s : State) (c : Nat) : State :=
  if s.carEnabled c && !s.carBusy c then (s.setFld (Reg.CAR_STATUS c) Fld.CAR_STATUS_BUSY 1).restartSync else s

/-- `CAR_STATUS.TOFF` of every carrier follows the set, for symbols by R180 and R207 with reference time `tw` (R429); a carrier whose `TOFF` changes is handled as if its enable
bits did (R184): both directions end, or `BUSY` rises again (log entry 41). -/
def State.toffApply (s : State) (tw : Th) : State :=
  let set := s.toffSet
  (List.range 8).foldl (fun (t : State) c =>
    let on := set.contains c
    let u := if on && !t.carToff c then (t.carDown c 0 tw).carDown c 1 tw else t
    (u.symWrite2 (Reg.CAR_STATUS c) (setF (u.rd (Reg.CAR_STATUS c)) Fld.CAR_STATUS_TOFF (b2n on)) tw).carRise c) s

/-- A write of `CAR_CTL` at reference time `tw` (R25, R181-R184, R216). -/
def carCtlWrite (c : Nat) (v : Word) (tw : Th) (s : State) : Nat × State :=
  let a := Reg.CAR_CTL c
  let old := s.rd a
  let new := s.plainValue a v
  let rose := Nat.land (new.toNat % 4) (3 - old.toNat % 4)
  if s.carBusy c && s.wouldChange a v Fld.CAR_CTL_PHCOMP then (7, s)
  else if rose ≠ 0 ∧ !s.carValid c then
    let t := (s.symWrite2 a (new &&& ~~~ BitVec.ofNat 32 rose) tw).flag (Reg.CAR_STATUS c) Fld.CAR_STATUS_CFG_ERR
    (0, t.raise 0x4012 c)
  else
    let down := fun (f : Field) => getF old f = 1 ∧ getF new f = 0
    let t := if down Fld.CAR_CTL_DL_EN then s.carDown c 0 tw else s
    let t := if down Fld.CAR_CTL_UL_EN then t.carDown c 1 tw else t
    (0, (t.symWrite2 a new tw).toffApply tw)

/-- CARRIER_ENABLE (R183): a write of `CAR_CTL`. -/
def execCarrierEnable (r : Req) (c : Fin 8) (v : Word) (s : State) : Res :=
  finish (s.writeBy r (Reg.CAR_CTL c) (fun t => carCtlWrite c v t.nowTh t))

/-- CARRIER_DRAINED (R183): both enable bits 0 and both directions drained. -/
def execCarrierDrained (c : Fin 8) (s : State) : Res :=
  let x := s.car c
  finish (
    if s.carBusy c && !s.carEnabled c && decide (x.dlEnd ≤ s.nowTh) && decide (x.ulEnd ≤ s.nowTh) &&
        !s.ulq.any (fun u => u.car == c.val && (u.type == 2 || u.type == 4)) &&
        !s.ulJobs.any (fun j => j.car == c.val && (j.type == 2 || j.type == 4)) then
      (s.setFld (Reg.CAR_STATUS c) Fld.CAR_STATUS_BUSY 0).restartSync
    else s)

/-- A write of a carrier register that refuses changes while `BUSY` (R183, R25). -/
def carLockedWrite (c a : Nat) (v : Word) (s : State) : Nat × State :=
  if s.carBusy c then (if s.plainValue a v = s.rd a then 0 else 7, s) else (0, s.plainWrite a v)

/-- A write of a carrier register of transmit or receive symbol fields (R180, R207). -/
def carTxWrite (a : Nat) (v : Word) (tw : Th) (s : State) : Nat × State := (0, s.symWrite a (s.plainValue a v) (txThr tw))
def carRxWrite (a : Nat) (v : Word) (tw : Th) (s : State) : Nat × State := (0, s.symWrite a (s.plainValue a v) tw)

/-- A write of `TXDP_CFR_PULSE` (R194). -/
def cfrPulseWrite (a : Nat) (v : Word) (s : State) : Nat × State :=
  if (List.range 8).any s.carBusy then (if s.plainValue a v = s.rd a then 0 else 7, s) else (0, s.plainWrite a v)

/-- A write of `RXDP_PATH_CTL` (R209): a blanked path delivers zeros. -/
def rxPathCtlWrite (p : Nat) (v : Word) (tw : Th) (s : State) : Nat × State :=
  (0, (s.plainWrite (Reg.RXDP_PATH_CTL p) v).setZero p 0 (getF v Fld.RXDP_PATH_CTL_BLANK == 1) (tw - thNs 1700))

end Sys2Proof.Machine
end

