-- ==== Sys2Proof/Machine/Prach.lean ====
section
/-! DEFINITION. PRACH extraction (R221-R225). Marks and risks: log entry 35. -/
namespace Sys2Proof.Machine

/-- L_RA of an `LRA` code (R221). -/
def lraOf (code : Nat) : Nat := [139, 571, 839, 1151].getD code 0

/-- FFT size of an `LRA` code (R221). -/
def prachFft (code : Nat) : Nat := [256, 1024, 1024, 2048].getD code 0

/-- PRACH subcarrier spacing in units of 1.25 kHz (R221). -/
def prachScs (fmt mu : Nat) : Nat := if fmt < 3 then 1 else if fmt = 3 then 4 else 12 * 2 ^ mu

/-- Whether a configuration is valid (R221, R222). -/
def State.prachValid (s : State) (j : Nat) (w : Word) : Bool :=
  let fmt := getF w Fld.RXDP_PRACH_CTL_FMT
  let mu := getF w Fld.RXDP_PRACH_CTL_MU
  let lra := getF w Fld.RXDP_PRACH_CTL_LRA
  let c := getF w Fld.RXDP_PRACH_CTL_CARRIER
  let combo := if fmt < 4 then lra == 2
    else decide (fmt ≤ 10) && ((lra == 0 && decide (mu ≤ 5)) || (lra == 1 && mu == 1) || (lra == 3 && mu == 0))
  let fs := s.fld (Reg.RXDP_PRACH_FSTART j) Fld.RXDP_PRACH_FSTART_FSTART
  combo && decide ((fs + lraOf lra) * prachScs fmt mu ≤ 12 * s.carPrbs c * (12 * 2 ^ s.carMu c)) &&
  (getF w Fld.RXDP_PRACH_CTL_MODE == 0 || s.rd64 (Reg.RXDP_PRACH_PMASK j) != 0)

/-- PRACH sections of a configuration. -/
def prachOf (j : Nat) (x : Section) : Bool := SecF.dir x.raw == 1 && SecF.kind x.raw == 2 && SecF.aux x.raw % 4 == j

/-- Whether an occasion of a configuration has started and is not complete (R222). -/
def State.prachLive (s : State) (j : Nat) : Bool :=
  s.sections.any (fun x => prachOf j x && !x.standby && decide (s.secAir x ≤ s.nowTh)) ||
  s.occasions.any (fun o => o.cfg == j &&
    (s.ulq.any (fun u => u.type == 3 && u.tspec == o.tspec) || s.ulJobs.any (fun k => k.type == 3 && k.tspec == o.tspec)))

/-- A write of `RXDP_PRACH_CTL` (R222, R25): every write of `EN` = 1 is checked; one that fails leaves `EN` as it was (log entry 35). -/
def prachCtlWrite (j : Nat) (v : Word) (s : State) : Nat × State :=
  let a := Reg.RXDP_PRACH_CTL j
  let busy := s.bit a Fld.RXDP_PRACH_CTL_BUSY
  let locked := (bitsAt (s.plainValue a v).toNat 10 19) != bitsAt (s.rd a).toNat 10 19
  if busy && locked then (7, s)
  else
    let was := s.bit a Fld.RXDP_PRACH_CTL_EN
    let on := getF v Fld.RXDP_PRACH_CTL_EN == 1
    let t := s.plainWrite a v
    if on && !t.prachValid j (t.rd a) then
      (0, ((t.setFld a Fld.RXDP_PRACH_CTL_EN (b2n was)).flag a Fld.RXDP_PRACH_CTL_CFG_ERR).raise 0x4022 j)
    else if on then (0, t.setFld a Fld.RXDP_PRACH_CTL_BUSY 1)
    else if was then
      let u := { t with sections := t.sections.filter (fun x => !(prachOf j x && decide (t.nowTh < t.secAir x))) }
      (0, if u.prachLive j then u else u.setFld a Fld.RXDP_PRACH_CTL_BUSY 0)
    else (0, t)

/-- PRACH_ENABLE (R222): a write of `RXDP_PRACH_CTL` with `EN` = 1. -/
def execPrachEnable (r : Req) (j : Fin 4) (v : Word) (s : State) : Res :=
  finish (s.writeBy r (Reg.RXDP_PRACH_CTL j) (prachCtlWrite j (setF v Fld.RXDP_PRACH_CTL_EN 1)))

/-- A write of `RXDP_PRACH_FSTART` (R222). -/
def prachFstartWrite (j : Nat) (v : Word) (s : State) : Nat × State :=
  let a := Reg.RXDP_PRACH_FSTART j
  if s.bit (Reg.RXDP_PRACH_CTL j) Fld.RXDP_PRACH_CTL_BUSY then (if s.plainValue a v = s.rd a then 0 else 7, s) else (0, s.plainWrite a v)

/-- `df25` of the PRACH band (R224, R228): its centre's offset, rounded toward minus infinity to 2.5 kHz. -/
def State.prachDf25 (s : State) (j : Nat) (w : Word) (air : Th) : Int :=
  let c := getF w Fld.RXDP_PRACH_CTL_CARRIER
  let k := prachScs (getF w Fld.RXDP_PRACH_CTL_FMT) (getF w Fld.RXDP_PRACH_CTL_MU)
  let fs := s.fld (Reg.RXDP_PRACH_FSTART j) Fld.RXDP_PRACH_FSTART_FSTART
  let f5k := sext (s.fld (Reg.CAR_FREQ c) Fld.CAR_FREQ_F5K) 18
  let off : Int := 8 * f5k - (144 * s.carPrbs c * 2 ^ s.carMu c : Nat) + ((2 * fs + lraOf (getF w Fld.RXDP_PRACH_CTL_LRA) - 1) * k : Nat)
  (s.beamFc 1 air).2 * off / 4

/-- The weight of path `a` for beam `b` of a configuration (R224). -/
def State.prachWeight (s : State) (j b : Nat) (w : Word) (air : Th) (a : Nat) : Int × Int :=
  let bw := s.symVal (Reg.RXDP_PRACH_BEAM j b) air
  let v := getF bw Fld.RXDP_PRACH_BEAM_BVAL
  let df := s.prachDf25 j w air
  match getF bw Fld.RXDP_PRACH_BEAM_BSRC with
  | 1 => if s.expServes (v / 4096 % 2) air then s.explicitWeight (v % 8192) a df air else (0, 0)
  | 2 => s.synthWeight v a (2 * (s.beamFc 1 air).1 + df) air
  | _ => (0, 0)

/-- One beam sample before saturation (R224: the arithmetic of R212 with bfs 0, on the conjugate of the stored word, R226). -/
def prachCombine (ws : List (Int × Int)) (res : List UlRe) (n : Nat) : Int × Int :=
  let acc := (List.range 64).foldl (fun (acc : Int × Int) a =>
    let (xi, xq) := ulVal res n a
    let (wr, wi) := ws.getD a (0, 0)
    (acc.1 + xi * wr - xq * wi, acc.2 + xi * wi + xq * wr)) (0, 0)
  ((acc.1 + 2 ^ 13) / 2 ^ 14, (acc.2 + 2 ^ 13) / 2 ^ 14)

/-- Bin `k` of the transform of `n` samples (R224): scaled by 2^-sh, rounded half up, saturated. -/
def dftBin (val : Nat → Int × Int) (n sh k : Nat) : Int × Int :=
  let acc := (List.range n).foldl (fun (acc : Int × Int) i =>
    let (c, q) := cosSin (2 ^ 24 / n * ((n - k * i % n) % n))
    let (xi, xq) := val i
    (acc.1 + xi * c - xq * q, acc.2 + xi * q + xq * c)) (0, 0)
  (sat16 ((acc.1 + 2 ^ (127 + sh)) / 2 ^ (128 + sh)), sat16 ((acc.2 + 2 ^ (127 + sh)) / 2 ^ (128 + sh)))

/-- The streams of an occasion (R224): beams, or the paths of `PMASK`, each with its paths that count for over-range. -/
def State.prachStreams (s : State) (j : Nat) (w : Word) (air : Th) : List (Nat × Bool × List (Int × Int)) :=
  if getF w Fld.RXDP_PRACH_CTL_MODE = 0 then
    (List.range (getF w Fld.RXDP_PRACH_CTL_NBEAM + 1)).map (fun b => (b, false, (List.range 64).map (s.prachWeight j b w air)))
  else
    let m := (s.symVal (Reg.RXDP_PRACH_PMASK j) air).toNat + 2 ^ 32 * (s.symVal (Reg.RXDP_PRACH_PMASK j + 4) air).toNat
    (maskList 64 m).map (fun p => (p, true, []))

/-- The section of a configuration whose occasion starts first. -/
def State.firstOccasion (s : State) (j : Nat) : Option Section :=
  (s.sections.filter (fun x => prachOf j x && !x.standby)).foldl (fun (m : Option Section) x =>
    match m with
    | some y => if s.secAir x < s.secAir y then some x else m
    | none => some x) none

/-- What a repetition brings to the transforms (R224): the samples of each path at the PRACH rate, from `a` to `b`, counted from the repetition's start; U1 to U3 and the mixer and decimator of the
ADC codes, or given ones (counted from the end of the CP), of which a path that delivered zeros all through the repetition has none. -/
def State.prachInput (s : State) (j : Nat) (w : Word) (air a b : Th) (rep n : Nat) (inp : RxIn) : List UlRe × State :=
  match inp with
  | .adc codes =>
    let k := prachScs (getF w Fld.RXDP_PRACH_CTL_FMT) (getF w Fld.RXDP_PRACH_CTL_MU)
    let c := getF w Fld.RXDP_PRACH_CTL_CARRIER
    let first := s.fld (Reg.RXDP_PRACH_FSTART j) Fld.RXDP_PRACH_FSTART_FSTART + lraOf (getF w Fld.RXDP_PRACH_CTL_LRA) / 2
    let f : Int := 4 * sext (s.fld (Reg.CAR_FREQ c) Fld.CAR_FREQ_F5K) 18 - (72 * s.carPrbs c * 2 ^ s.carMu c : Nat) + (first * k : Nat)
    let m0 := firstIdx 1 (s.gridOf air)
    let (lo, hi) := (firstIdx 1 (s.gridOf a), firstIdx 1 (s.gridOf b))
    (adcPaths codes).foldl (fun (acc : List UlRe × State) p =>
      let u3 := sigAt (acc.2.u3List codes p (lo - 32 * reach) (hi + 32 * reach))
      (acc.1 ++ (List.range n).map (fun i => (i, p, prachSample (s.gridOf a) n k f m0 u3 i)), acc.2.u3Count codes p lo hi)) ([], s)
  | .res vals clips =>
    (((vals.filter (fun e => decide (rep * n ≤ e.1 ∧ e.1 < (rep + 1) * n) && !s.zeroOver e.2.1 (fun _ => true) a b))).map
      (fun e => (e.1 - rep * n, e.2.1.val, e.2.2.1.toInt, e.2.2.2.toInt)), clips.foldl (fun u e => u.rxClip e.1 e.2.1 e.2.2) s)

/-- Transform and queue one stream of a repetition as one packet (R224, R225). -/
def State.prachStream (s : State) (c : Nat) (w : Word) (ports tspec cw : Nat) (a b : Th) (rep : Nat) (vals : List UlRe) (st : Nat × Bool × List (Int × Int)) : State :=
  let n := prachFft (getF w Fld.RXDP_PRACH_CTL_LRA)
  let l := lraOf (getF w Fld.RXDP_PRACH_CTL_LRA)
  let sh := Nat.min 11 (getF w Fld.RXDP_PRACH_CTL_PSHIFT)
  let raw := fun i => if st.2.1 then ulVal vals i st.1 else prachCombine st.2.2 vals i
  let clips := (List.range n).foldl (fun k i => k + b2n (saturates (raw i).1) + b2n (saturates (raw i).2)) 0
  let v := if clips = 0 then s else s.count (Reg.CAR_UL_CLIP_CNT c) clips
  let bins := fun i => dftBin (fun k => satI (raw k)) n sh ((i + n - l / 2) % n)
  let ovr := (List.range 64).any (fun p => s.ovrMarked p a b && (if st.2.1 then p == st.1 else st.2.2.getD p (0, 0) != (0, 0) && !s.blankedIn p a b))
  let units := (List.range ((l + 11) / 12)).map (fun k => compressUnit cw (unitFrom bins 0 l k))
  v.queueUnits s.nowTh ports c 3 tspec cw (b2n ovr) (if st.2.1 then st.1 + 128 else st.1) rep units

/-- PRACH_OCCASION (R224, R225): the next repetition, now over, of the oldest occasion of a configuration: its packets are queued in ascending stream. After the last one the occasion's section is freed.
Standby copies whose occasion is over are freed. -/
def execPrachOccasion (j : Fin 4) (inp : RxIn) (s : State) : Res :=
  let s := { s with sections := s.sections.filter (fun y => !(y.standby && prachOf j y && decide ((s.occasionSpan y).2 ≤ s.nowTh))) }
  let rep := kvGet (fun _ => 0) s.prachReps j
  finish (match s.firstOccasion j with
    | none => s
    | some x =>
      let d := x.raw
      let c := SecF.carrier d
      let w := s.rd (Reg.RXDP_PRACH_CTL j)
      let air := s.secAir x
      let (cp, len, reps) := prachTiming (getF w Fld.RXDP_PRACH_CTL_FMT) (getF w Fld.RXDP_PRACH_CTL_MU) (symStart (s.carMu c) x.first)
      let a : Th := air + ((cp + rep * len : Nat) : Int) * 100000
      let b : Th := air + ((cp + (rep + 1) * len : Nat) : Int) * 100000
      if s.nowTh < b then s
      else
        let on := getF (s.symRx (Reg.CAR_CTL c) air) Fld.CAR_CTL_UL_EN = 1 ∧ getF (s.symRx (Reg.CAR_STATUS c) air) Fld.CAR_STATUS_TOFF = 0
        let cw := SecF.cw d
        let tspec := ulTspec c x.first (SecF.secid d)
        let last := reps ≤ rep + 1
        let free := fun (t : State) => if last then { t with sections := t.sections.filter (fun y => y != x), prachReps := kvSet (fun _ => 0) t.prachReps j 0 }
          else { t with prachReps := kvSet (fun _ => 0) t.prachReps j (rep + 1) }
        if ¬on then free s
        else
          let ports := if SecF.noSend d then 0 else Nat.lor (s.ulPorts c air 0 cw) (s.ulPorts c air 1 cw)
          let (vals, t) := s.prachInput j w air a b rep (prachFft (getF w Fld.RXDP_PRACH_CTL_LRA)) inp
          let t := (s.prachStreams j w air).foldl (fun u st => u.prachStream c w ports tspec cw a b rep vals st) t
          { free t with occasions := t.occasions.filter (fun o => o != ⟨j, tspec⟩) ++ [⟨j, tspec⟩] })

/-- PRACH_DRAINED (R222): `EN` = 0 and the last packet of a started occasion has gone. -/
def execPrachDrained (j : Fin 4) (s : State) : Res :=
  let a := Reg.RXDP_PRACH_CTL j
  finish (
    if s.bit a Fld.RXDP_PRACH_CTL_BUSY && !s.bit a Fld.RXDP_PRACH_CTL_EN && !s.prachLive j then
      { s.setFld a Fld.RXDP_PRACH_CTL_BUSY 0 with occasions := s.occasions.filter (fun o => o.cfg != j.val) }
    else s)

end Sys2Proof.Machine
end

