-- ==== Sys2Proof/Machine/DualHome.lean ====
section
/-! DEFINITION. The failover of a carrier from one port to the other (R100-R102). Marks and risks: log entry 31. -/
namespace Sys2Proof.Machine

/-- The output time of a past tick. -/
def State.thAt (s : State) (tick : Nat) : Th := s.nowTh - 200000 * ((s.tick - tick : Nat) : Int)

/-- The switch boundary of a carrier: its first symbol boundary at least 1 µs after the trigger (R101). -/
def State.switchBoundary (s : State) (f : Failover) (c : Nat) : Th := s.boundaryFrom c false (s.thAt f.at_ + thUs 1)

/-- A carrier's code changes at a boundary; changes older than 20 ms no longer matter to any symbol. -/
def State.setServe (s : State) (c code : Nat) (b : Th) : State :=
  let keep := s.dh.past.filter (fun e => decide (b - thUs 20000 < e.2.1))
  { s with dh := { s.dh with serve := s.dh.serve.set c code, past := (c, b, s.dh.serve.getD c 2) :: keep } }

/-- How many symbols of a section begin before a time. -/
def State.symsBefore (s : State) (x : Section) (b : Th) : Nat :=
  ((List.range (secSyms x.raw)).filter (fun i => decide (s.airTime x.car x.frame (x.first + i) < b))).length

/-- A section descriptor with its first symbol moved by `k` and `n` symbols. -/
def secTrim (d k n : Nat) : Nat :=
  d + k * 2 ^ 25 - bitsAt d 96 4 * 2 ^ 96 + n * 2 ^ 96

/-- A section at the switch boundary (R100): an old one keeps its symbols before the boundary, a standby copy from the new port its symbols from
the boundary on; what has no symbol left is freed. -/
def State.failSection (s : State) (c new : Nat) (b : Th) (x : Section) : List Section :=
  if x.car ≠ c then [x]
  else
    let k := s.symsBefore x b
    let n := secSyms x.raw
    if !x.standby then (if k = 0 then [] else if k = n then [x] else [{ x with raw := secTrim x.raw 0 k }])
    else if x.port ≠ new then [x]
    else if k = n then []
    else [{ x with raw := if k = 0 then x.raw else secTrim x.raw k (n - k), standby := false }]

/-- Buffered data at the switch boundary (R100, R102). -/
def State.failData (s : State) (c new : Nat) (b : Th) (d : DlData) : List DlData :=
  if d.car ≠ c then [d]
  else
    let before := decide (s.airTime c d.frame (d.slot * 14 + d.sym) < b)
    if !d.standby then (if before then [d] else [])
    else if d.port ≠ new then [d]
    else if before then [] else [{ d with standby := false }]

/-- FAILOVER (R101, R102): the switch boundary of a carrier of a pending failover. -/
def execFailover (c : Fin 8) (s : State) : Res :=
  finish (match s.dh.failover with
    | none => s
    | some f =>
      let b := s.switchBoundary f c
      if !f.cars.testBit c || decide (s.nowTh < b) then s
      else
        let old := s.servePort c
        let v := s.dh.serve.getD c 2
        let new := if f.to_ = 2 then 1 - old else f.to_
        let code := if v = 4 ∨ v = 5 then 4 + new else if s.dhMode = 0 then 6 + new else new
        let cars := setBitN f.cars c false
        let s0 := s.setServe c code b
        let s1 := { s0 with
          dh := { s0.dh with failover := if cars = 0 then none else some { f with cars := cars, raised := true } }
          sections := s.sections.flatMap (s.failSection c new b)
          dl := s.dl.flatMap (s.failData c new b) }
        let s2 := if s.dhMode = 2 then s1.setFld Reg.LINK_DH_CARMAP ⟨c.val, 1⟩ new
          else s1.setFld Reg.LINK_DH_CTL Fld.LINK_DH_CTL_ACTIVE_B new
        let follow := s.bit Reg.LINK_DH_CTL Fld.LINK_DH_CTL_TSEL_FOLLOW && s.tsel != new && (s.dhMode != 2 || (s.tsel == old && f.to_ != 2))
        let s3 := if follow then s2.setTsel new else s2
        (if f.raised then s3 else s3.raise 0x3014 new).updateRole)

/-- DH_MODE_APPLY (R100): a carrier's next symbol boundary after a write of `MODE`, `ACTIVE_B` or `LINK_DH_CARMAP`. -/
def execDhModeApply (c : Fin 8) (s : State) : Res :=
  let b := s.nextBoundary c false (s.thAt s.dh.applyAt)
  finish (
    if s.dh.applyCars.testBit c ∧ b ≤ s.nowTh then
      let t := s.setServe c (s.dhCode c) b
      { t with dh := { t.dh with applyCars := setBitN t.dh.applyCars c false } }.updateRole
    else s)

end Sys2Proof.Machine
end

