-- ==== Sys2Proof/Machine/Obs.lean ====
section
/-! DEFINITION. Observation: the Cage arbiters, capture records, the predistorter's arithmetic, VSWR detection (R253-R274). Arbiter `a` is receiver 0-7 or
8 + path for the mirror captures of a path. Marks and risks: log entry 42. -/
namespace Sys2Proof.Machine

/-! ## The predistorter (R253) -/

/-- A 16-bit I/Q pair from a word: I low, Q high. -/
def iq (w : BitVec 32) : Int × Int := (sext w.toNat 16, sext (w.toNat / 65536) 16)

/-- A coefficient of a LUT bank: complex Q2.14 (R255). -/
def State.dpdCoef (s : State) (p b off : Nat) : Int × Int := wordCplx (s.ldN (dpdMem p b + off) 4)

/-- One output sample of the predistorter of a path from its bank, before saturation (R253). `u k` and `v q k` are the samples `k` before this one
(`u` from −1). -/
def State.dpdSample (s : State) (p b : Nat) (u : Int → Int × Int) (v : Nat → Nat → Int × Int) : Int × Int :=
  let branches := (List.range 5).flatMap (fun m => [(-1 : Int), 0, 1].map (fun l => (m, l)))
  let a1 := branches.foldl (fun (acc : Int × Int) ml =>
    let (m, l) := ml
    let off := 0x800 + (3 * m + (l + 1).toNat) * 0x800
    let r := Nat.min (magOf (u ((m : Int) + l))) 32767
    let i := r / 64
    let f : Int := (r % 64 : Nat)
    let e0 := s.dpdCoef p b (off + 4 * i)
    let e1 := s.dpdCoef p b (off + 4 * Nat.min (i + 1) 511)
    let g := (e0.1 + ((e1.1 - e0.1) * f + 32) / 64, e0.2 + ((e1.2 - e0.2) * f + 32) / 64)
    let y := cmulI (u m) g
    (acc.1 + y.1, acc.2 + y.2)) (0, 0)
  let n := (s.dpdPartners p b).length
  let a2 := (List.range n).foldl (fun (acc : Int × Int) q => [0, 1, 2].foldl (fun (acc : Int × Int) m =>
    let x := u (m : Nat)
    let pw := Nat.min ((x.1 * x.1 + x.2 * x.2).toNat / 32768) 65535
    let y1 := cmulI (v q m) (s.dpdCoef p b (0x40 + (3 * q + m) * 4))
    let t := cmulI (v q m) (s.dpdCoef p b (0x70 + (3 * q + m) * 4))
    let y2 := ((t.1 * pw + 2 ^ 14) / 2 ^ 15, (t.2 * pw + 2 ^ 14) / 2 ^ 15)
    (acc.1 + y1.1 + y2.1, acc.2 + y1.2 + y2.2)) acc) a1
  ((a2.1 + 2 ^ 13) / 2 ^ 14, (a2.2 + 2 ^ 13) / 2 ^ 14)

/-! ## The Cage arbiters (R266-R270) -/

/-- The record of an arbiter. -/
def State.cage (s : State) (a : Nat) : CageArb := kvGet (fun _ => {}) s.cages a

/-- The receiver whose registers govern an arbiter. -/
def cageRx (a : Nat) : Nat := if a < 8 then a else (a - 8) / 8

/-- Replace an arbiter's record, with the receiver's status registers. -/
def State.setCage (s : State) (a : Nat) (x : CageArb) : State :=
  let t := { s with cages := kvSet (fun _ => {}) s.cages a x }
  if 8 ≤ a then t
  else
    let w := setF (setF (setF 0 Fld.OBS_CAGE_STAT_GRANTED (b2n x.cur.isSome)) Fld.OBS_CAGE_STAT_QDEPTH x.queue.length) Fld.OBS_CAGE_STAT_OWNER x.owner
    (t.wr (Reg.OBS_CAGE_STAT a) w).wr64 (Reg.OBS_CAGE_END a) x.end_

/-- SLOT and SETTLE of an arbiter (R267). -/
def State.cageSlot (s : State) (a : Nat) : Nat := Nat.max 1024 (s.fld (Reg.OBS_CAGE_CFG (cageRx a)) Fld.OBS_CAGE_CFG_SLOT)
def State.cageSettle (s : State) (a : Nat) : Nat := s.fld (Reg.OBS_CAGE_CFG (cageRx a)) Fld.OBS_CAGE_CFG_SETTLE

/-- Whole slots of a request (R267). -/
def State.cageSlots (s : State) (a nblk : Nat) : Nat :=
  (s.cageSettle a + (nblk * 128 + 8) / 9 + s.cageSlot a - 1) / s.cageSlot a

/-- Planes that a record holds, in bytes per block. -/
def planeBytes (streams : Nat) : Nat := 256 * (popcount 3 streams + (if streams.testBit 3 then 4 else 0))

/-- Whether a record's destination is accepted (R271). -/
def capDestOk (q : CapReq) (streams : Nat) : Bool := q.dest % 64 == 0 && decide (q.dest + 64 + q.nblk * planeBytes streams ≤ 2 ^ 24)

/-- Show whether a path's request is queued, whether one is granted (R266). -/
def State.showPend (s : State) (q : CapReq) (on : Bool) : State :=
  if q.assay then s else s.setFld (Reg.OBS_CAP_STAT q.path) (if q.mirror then Fld.OBS_CAP_STAT_M_PEND else Fld.OBS_CAP_STAT_PEND) (b2n on)
def State.showGrant (s : State) (q : CapReq) (on : Bool) : State :=
  if q.assay then s else s.setFld (Reg.OBS_CAP_STAT q.path) (if q.mirror then Fld.OBS_CAP_STAT_M_GRANT else Fld.OBS_CAP_STAT_GRANT) (b2n on)

/-- Output time of a capture's sample 0: as it was, or, before it, at the nominal rate from now (R271). -/
def State.capAir (s : State) (x : CageArb) : Th := x.air0.getD (s.nowTh + 200000 * ((x.sampleAt : Int) - (s.tb : Int)))

/-- Air time of sample `i` of a capture (R264). -/
def State.capAirOf (s : State) (x : CageArb) (i : Nat) : Th := s.capAir x + 400000 * (i : Int) / 9

/-- The samples that a capture has taken by now (R271). -/
def State.capTaken (s : State) (x : CageArb) (q : CapReq) : Nat := Nat.min (64 * q.nblk) ((s.tb - x.sampleAt) * 9 / 2)

/-- Write the header of a record (R271) of a capture that has taken `n` samples. -/
def State.capHeader (s : State) (x : CageArb) (q : CapReq) (status p n : Nat) (low ovr : Bool) : State :=
  let slept := q.mirror && (List.range n).any (fun i => s.asleepAt q.path (s.capAirOf x i))
  let swapped := s.swappedIn q.path (s.capAir x) (s.capAirOf x (n - 1))
  let flags := b2n low * 16 + b2n slept * 8 + b2n ovr * 4 + b2n swapped * 2 + b2n x.muted
  let st := (s.capAir x / 196608 % (2 ^ 64 : Nat)).toNat
  let words := [0x4F42 * 65536 + status * 256 + b2n q.mirror * 64 + q.path, flags * 2 ^ 27 + x.streams * 65536 + q.nblk % 65536,
    x.sampleAt % 2 ^ 32, x.sampleAt / 2 ^ 32, st % 2 ^ 32, st / 2 ^ 32, p] ++ s.genWords q.path (s.capAir x) ++ [0, 0, 0, 0, 0]
  s.stBytes (sharedMem + q.dest) (words.flatMap (natLE 4))

/-- A capture completes (R272): `DONE` and `STATUS`, the flags of source 0x70 + r, event 0x4043 unless DONE. -/
def State.capComplete (s : State) (q : CapReq) (status : Nat) : State :=
  let a := Reg.OBS_CAP_STAT q.path
  let s2 := if q.assay then { s with assay := { s.assay with caps := kvSet (fun _ => 0) s.assay.caps (q.path / 8) (status + 1) } }
    else if q.mirror then (s.flag a Fld.OBS_CAP_STAT_M_DONE).setFld a Fld.OBS_CAP_STAT_M_STATUS status
    else (s.flag a Fld.OBS_CAP_STAT_DONE).setFld a Fld.OBS_CAP_STAT_STATUS status
  let s3 := if q.assay then s2 else s2.evSource (0x70 + q.path / 8)
  if status = 0 then s3 else s3.raiseLim 10 0x4043 (q.path / 8)

/-- Grant a request (R267, R268). In PC2 and PC3 it completes PAUSED at once (R263), its P a free value (log entry 2), with a bad destination ADDRESS (R271). -/
def State.capGrant (s : State) (a : Nat) (q : CapReq) (rest : List CapReq) (parked : Bool) : State :=
  let own := if q.assay then 8 else q.path % 8
  let streams := if q.assay then 0xF else s.fld (Reg.OBS_CAP_CFG q.path) Fld.OBS_CAP_CFG_STREAMS
  let prev := (s.cage a).owner
  let now := parked && prev == own
  let x : CageArb :=
    { queue := rest, cur := some q, at_ := s.tb, sampleAt := s.tb + (if now then 0 else s.cageSettle a)
      end_ := s.tb + s.cageSlots a q.nblk * s.cageSlot a, owner := own, prev := prev, done := false
      muted := now && s.muteActive q.path, air0 := if now then some s.nowTh else none, streams := streams }
  let ok := q.assay || capDestOk q streams
  let paused := decide (2 ≤ s.fld Reg.PWR_CLASS Fld.PWR_CLASS_CLASS)
  let t := (s.showPend q (rest.any (fun r => r.path == q.path && !r.assay))).showGrant q true
  if paused then
    let (v, t1) := t.takeFree
    let t2 := (t1.setCage a { x with done := true }).showGrant q false
    (if ok && !q.assay then t2.capHeader x q 2 (v % 2 ^ 32) 0 false false else t2).capComplete q 2
  else if !ok then ((t.setCage a { x with done := true }).showGrant q false).capComplete q 3
  else t.setCage a x

/-- The arbiter of a request. -/
def capArb (path : Nat) (mirror : Bool) : Nat := if mirror then 8 + path else path / 8

/-- Two requests of one path and kind, or of Assay. -/
def sameCap (q r : CapReq) : Bool := r.assay == q.assay && (q.assay || r.path == q.path)

/-- The order of requests that arrive in one TCLK cycle: ascending path, Assay last (R268). -/
def capOrder (q : CapReq) : Nat := if q.assay then 64 else q.path

/-- Put a request into the queue: behind those of earlier cycles, by path among those of its own (R268). -/
def capInsert (q : CapReq) : List CapReq → List CapReq
  | [] => [q]
  | r :: rest => if r.at_ = q.at_ ∧ capOrder q < capOrder r then q :: r :: rest else r :: capInsert q rest

/-- Give a path its ticket (R269). -/
def State.giveTicket (s : State) (q : CapReq) (t : Nat) : State :=
  if q.assay then s else s.wr64 (if q.mirror then Reg.OBS_CAP_MTICKET q.path else Reg.OBS_CAP_TICKET q.path) t

/-- The ticket of a request queued behind `ahead` (R269). -/
def State.ticketAfter (s : State) (a : Nat) (ahead : List CapReq) : Nat :=
  let x := s.cage a
  (if x.cur.isSome then x.end_ else s.tb) + s.cageSlot a * ahead.foldl (fun n r => n + s.cageSlots a r.nblk) 0

/-- Queue a request; those of its cycle behind it get new tickets. -/
def State.capEnqueue (s : State) (a : Nat) (q : CapReq) : State :=
  let x := s.cage a
  let t := (s.setCage a { x with queue := capInsert q x.queue }).showPend q true
  (t.cage a).queue.foldl (fun (u : State) r =>
    if r.at_ = q.at_ then u.giveTicket r (u.ticketAfter a ((u.cage a).queue.takeWhile (fun y => !sameCap r y))) else u) t

/-- Request a capture (R266, R268, R269): the ticket (0 when granted at once), or none when refused because one of the same path and kind is queued. A
request granted earlier in the same cycle gives way to one that goes before it. -/
def State.capRequest (s : State) (q0 : CapReq) : Option Nat × State :=
  let q := { q0 with nblk := Nat.max 1 (Nat.min 4096 q0.nblk), at_ := s.tick }
  let a := capArb q.path q.mirror
  let x := s.cage a
  if x.queue.any (sameCap q) then (none, s)
  else
    match x.cur with
    | none =>
      if x.queue.isEmpty then (some 0, (s.capGrant a q [] true).giveTicket q 0)
      else
        let t := s.capEnqueue a q
        (some (t.ticketAfter a ((t.cage a).queue.takeWhile (fun y => !sameCap q y))), t)
    | some r =>
      if !x.done ∧ r.at_ = s.tick ∧ x.at_ = s.tb ∧ capOrder q < capOrder r then
        let t := (s.setCage a { x with cur := none, owner := x.prev }).showGrant r false
        (some 0, ((t.capGrant a q x.queue true).giveTicket q 0).capEnqueue a r)
      else
        let t := s.capEnqueue a q
        (some (t.ticketAfter a ((t.cage a).queue.takeWhile (fun y => !sameCap q y))), t)

/-- A write of `OBS_CAP_REQ` (R266). -/
def capReqWrite (path : Nat) (v : Word) (s : State) : Nat × State :=
  if getF v Fld.OBS_CAP_REQ_GO = 0 then (0, s)
  else
    match s.capRequest ⟨path, getF v Fld.OBS_CAP_REQ_MIRROR == 1, getF v Fld.OBS_CAP_REQ_NBLK, s.fld (Reg.OBS_CAP_DEST path) Fld.OBS_CAP_DEST_ADDR, false, 0⟩ with
    | (some _, t) => (0, t)
    | (none, _) => (7, s)

/-- OBS_CAP_REQ (R266). -/
def execObsCapReq (r : Req) (path : Fin 64) (v : Word) (s : State) : Res :=
  finish (s.writeBy r (Reg.OBS_CAP_REQ path) (capReqWrite path v))

/-- CAPTURE_GRANT (R268): the arbiter is free and grants its oldest request. -/
def execCaptureGrant (a : Fin 72) (s : State) : Res :=
  let x := s.cage a
  finish (match x.cur, x.queue with
    | none, q :: rest => s.capGrant a q rest false
    | _, _ => s)

/-- CAPTURE_GRANT_END (R267): the slots of the grant are over; its capture has completed by then. -/
def execCaptureGrantEnd (a : Fin 72) (s : State) : Res :=
  let x := s.cage a
  finish (if x.cur.isSome && x.done && decide (x.end_ ≤ s.tb) then s.setCage a { x with cur := none } else s)

/-- The bytes of one plane of a block. -/
def planeOf (val : Nat → Int × Int) (blk : Nat) : List Byte :=
  (List.range 64).flatMap (fun i => let z := val (64 * blk + i); natLE 2 (encS 16 z.1) ++ natLE 2 (encS 16 z.2))

/-- The sample of a path's stage 7 at place `i` of a capture; what is not kept is zero (R271). -/
def State.capRec (s : State) (x : CageArb) (path i : Nat) : DpdRec :=
  let n := firstIdx 3 (s.grid - 200000 * ((s.tb : Int) - (x.sampleAt : Int))) + (i : Int)
  ((kvGet (fun _ => {}) s.tx path).recs.find? (fun r => r.n == n)).getD ⟨n, (0, 0), (0, 0), []⟩

/-- The blocks of a record whose observed samples are `y` (R271). -/
def State.capBlocks (s : State) (x : CageArb) (q : CapReq) (nblk : Nat) (y : Nat → Int × Int) : List Byte :=
  (List.range nblk).flatMap (fun b =>
    (if x.streams.testBit 0 then planeOf y b else []) ++ (if x.streams.testBit 1 then planeOf (fun i => (s.capRec x q.path i).u) b else []) ++
    (if x.streams.testBit 2 then planeOf (fun i => (s.capRec x q.path i).x) b else []) ++
    (if x.streams.testBit 3 then (List.range 4).flatMap (fun k => planeOf (fun i => (s.capRec x q.path i).v.getD k (0, 0)) b) else []))

/-- The observed sample `i` of a capture: zero in a mirror capture where the path delivers zeros for its sleep (R265). -/
def State.capSeen (s : State) (x : CageArb) (q : CapReq) (y : Nat → Int × Int) (i : Nat) : Int × Int :=
  if q.mirror && s.zeroAt q.path 1 (s.capAirOf x i) then (0, 0) else y i

/-- P of R262 over `n` samples. -/
def capPower (y : Nat → Int × Int) (n : Nat) : Nat :=
  (((List.range n).foldl (fun (m : Int) i => let z := y i; m + z.1 * z.1 + z.2 * z.2) 0) / (n : Int) / 32768).toNat

/-- A capture of a path found its power low: `FROZEN` rises with event 0x4042 (R262). -/
def State.capLow (s : State) (path : Nat) : State :=
  if s.bit (Reg.DPD_STATUS path) Fld.DPD_STATUS_FROZEN then s else (s.setFld (Reg.DPD_STATUS path) Fld.DPD_STATUS_FROZEN 1).raise 0x4042 path

/-- Abort the granted capture of an arbiter (R270): whole blocks sampled so far have been written, and the header; what the receiver has seen is open (free
values, log entry 2), and with it P, `LOWPWR` and `FROZEN` (R262) where it has sampled, and `OVR`. The grant ends with the slot in progress, counted as dead. -/
def State.capAbort (s : State) (a : Nat) (q : CapReq) : State :=
  let x := s.cage a
  let n := s.capTaken x q
  let k := s.free
  let y := s.capSeen x q (fun i => (sext (Config.freeAt k (2 * i)) 16, sext (Config.freeAt k (2 * i + 1)) 16))
  let slot := s.cageSlot a
  let x' := { x with done := true, end_ := Nat.min x.end_ (x.at_ + slot * ((s.tb - x.at_) / slot + 1)) }
  let s1 := ({ s with free := k + 1 }.setCage a x').count (Reg.OBS_CAGE_DEAD_CNT (cageRx a))
  let s2 := s1.showGrant q false
  if q.assay then s2.capComplete q 1
  else
    let pw := capPower y n
    let low := decide (0 < n) && decide (pw < s.fld (Reg.DPD_PMIN q.path) Fld.DPD_PMIN_PMIN)
    let s3 := s2.stBytes (sharedMem + q.dest + 64) (s.capBlocks x q (n / 64) y)
    let s4 := (s3.capHeader x q 1 pw n low (decide (0 < n) && (Config.freeAt k (2 * n)).testBit 0)).capComplete q 1
    if low then s4.capLow q.path else s4

/-- Withdraw the request of a path (R270): the queued one, else the granted one (log entry 42). -/
def State.capCancel (s : State) (path : Nat) (mirror : Bool) : State :=
  let a := capArb path mirror
  let x := s.cage a
  let mine := fun (r : CapReq) => !r.assay && r.path == path
  match x.queue.find? mine with
  | some q => (s.setCage a { x with queue := x.queue.filter (fun r => !mine r) }).showPend q false
  | none =>
    match x.cur with
    | some q => if mine q && !x.done then s.capAbort a q else s
    | none => s

/-- A write of `OBS_CAP_CANCEL` (R270). -/
def capCancelWrite (path : Nat) (v : Word) (s : State) : Nat × State :=
  (0, if getF v Fld.OBS_CAP_CANCEL_CANCEL = 1 then s.capCancel path (getF v Fld.OBS_CAP_CANCEL_MIRROR == 1) else s)

/-- OBS_CAP_CANCEL (R270). -/
def execObsCapCancel (r : Req) (path : Fin 64) (v : Word) (s : State) : Res :=
  finish (s.writeBy r (Reg.OBS_CAP_CANCEL path) (capCancelWrite path v))

/-- CAPTURE_DONE (R262, R265, R271, R272): the last sample of a granted capture. `y` are the observed samples, `ovr` says that the receiver clipped; the other
planes are what the path's stage 7 had. -/
def execCaptureDone (a : Fin 72) (y : List (BitVec 32)) (ovr : Bool) (s : State) : Res :=
  let x := s.cage a
  finish (match x.cur with
    | none => s
    | some q =>
      let n := 64 * q.nblk
      if x.done || decide (s.tb < x.sampleAt + (n * 2 + 8) / 9) then s
      else
        let s0 := (s.setCage a { x with done := true }).showGrant q false
        if q.assay then s0.capComplete q 0
        else
          let yv := s.capSeen x q (fun i => iq (y.getD i 0))
          let pw := capPower yv n
          let low := decide (pw < s.fld (Reg.DPD_PMIN q.path) Fld.DPD_PMIN_PMIN)
          let s1 := s0.stBytes (sharedMem + q.dest + 64) (s.capBlocks x q q.nblk yv)
          let s2 := (s1.capHeader x q 0 pw n low ovr).capComplete q 0
          if low then s2.capLow q.path else s2.setFld (Reg.DPD_STATUS q.path) Fld.DPD_STATUS_FROZEN 0)

/-- The captures whose sample 0 is taken in this TCLK period (R271): its output time, and whether a mute source is active. -/
def State.capTick (s : State) : State :=
  { s with cages := s.cages.map (fun (c : Nat × CageArb) =>
      match c.2.cur with
      | some q =>
        if !c.2.done && c.2.air0.isNone && decide (c.2.sampleAt ≤ s.tb) then (c.1, { c.2 with air0 := some s.nowTh, muted := s.muteActive q.path }) else c
      | none => c) }

/-- A converter die goes off ("When a converter die goes off during a capture"): captures of its receivers and RX ADCs end ABORTED, their queues empty. -/
def State.cageDieOff (s : State) (die : Nat) : State :=
  ([2 * die, 2 * die + 1] ++ (List.range 16).map (fun i => 8 + 16 * die + i)).foldl (fun (t : State) a =>
    let x := t.cage a
    let t1 := match x.cur with
      | some q => if x.done then t else t.capAbort a q
      | none => t
    let t2 := t1.setCage a { t1.cage a with queue := [] }
    x.queue.foldl (fun (w : State) q => (w.showPend q false).capComplete q 1) t2) s

/-- Whether an arbiter has a request or a grant. -/
def State.cageUsed (s : State) (a : Nat) : Bool := let x := s.cage a; x.cur.isSome || !x.queue.isEmpty

/-- A write of `OBS_CAGE_CFG` (R267). -/
def cageCfgWrite (g : Nat) (v : Word) (s : State) : Nat × State :=
  let a := Reg.OBS_CAGE_CFG g
  if s.cageUsed g || (List.range 8).any (fun i => s.cageUsed (8 + 8 * g + i)) then (if s.plainValue a v = s.rd a then 0 else 7, s)
  else (0, s.plainWrite a v)

/-! ## VSWR (R273, R274) -/

/-- TCLK periods of a window of the VSWR detector (R273). -/
def vswrTicks : Nat := 256

/-- VSWR_WINDOW (R273): the last window of 256 TCLK periods of a path is over; `seen` is the coupled power that its detector found in it, in units of R262. The predicted power is
that of the stage 8 input after muting; the ratio in Q4.12 is cut and saturates (log entry 42). Each window is evaluated once. -/
def execVswrWindow (path : Fin 64) (seen : Nat) (s : State) : Res :=
  let cfg := s.rd (Reg.OBS_VSWR_CFG path)
  let a := Reg.OBS_VSWR_STAT path
  let setRun := fun (t : State) (n : Nat) => { t with vswrRun := kvSet (fun _ => 0) t.vswrRun path n }
  let ended := s.tick / vswrTicks * vswrTicks
  let pred := (kvGet (fun _ => {}) s.tx path).winPow
  finish (
    if !s.power.convOn || s.power.dieLost.testBit (path.val / 16) || decide (ended ≤ kvGet (fun _ => 0) s.vswrAt path) then s
    else
      let s := { s with vswrAt := kvSet (fun _ => 0) s.vswrAt path ended }
      if pred = 0 ∨ pred < s.fld Reg.OBS_VSWR_PMIN Fld.OBS_VSWR_PMIN_PMIN then setRun s 0
      else
        let ratio := Nat.min 65535 (seen * 4096 / pred)
        let t := s.setFld a Fld.OBS_VSWR_STAT_RATIO ratio
        let ref := s.fld (Reg.OBS_VSWR_REF path) Fld.OBS_VSWR_REF_REF
        let out := decide (ratio * 64 < ref * getF cfg Fld.OBS_VSWR_CFG_LO ∨ ref * getF cfg Fld.OBS_VSWR_CFG_HI < ratio * 64)
        let run := kvGet (fun _ => 0) s.vswrRun path + 1
        if !out || getF cfg Fld.OBS_VSWR_CFG_EN == 0 then setRun t 0
        else if run < Nat.max 1 (Nat.min 4 (getF cfg Fld.OBS_VSWR_CFG_NWIN)) then setRun t run
        else (((setRun t 0).flag a Fld.OBS_VSWR_STAT_ALARM).hwMute path Fld.TXDP_MUTE_VSWR).raise 0x4040 path)

end Sys2Proof.Machine
end

