-- ==== Sys2Proof/Machine/Conv.lean ====
section
/-! DEFINITION. RF converters: rotation and relief of sub-ADCs and DAC cells, NCO profiles, converter alignment, loss of a die (R14, R275-R296, R473).
Interleaved converter `u` is RX path 0-63 or 64 + observation receiver. Marks and risks: log entries 43, 10. -/
namespace Sys2Proof.Machine

/-- The device state code (R415). -/
def State.pstate (s : State) : Nat := s.fld Reg.PWR_STATUS Fld.PWR_STATUS_STATE

/-- The die of an interleaved converter. -/
def adcDie (u : Nat) : Nat := if u < 64 then u / 16 else (u - 64) / 2

/-- Whether a converter die runs (R524, R14). -/
def State.dieOn (s : State) (d : Nat) : Bool := s.power.convOn && !s.power.dieLost.testBit d

/-! ## Interleaved ADCs (R276-R280) -/

/-- Serving slots of a converter (R275). -/
def adcSlots (u : Nat) : Nat := if u < 64 then 8 else 12

/-- Samples of a converter in a period of 1 474.56 MS/s (R275): 8 847.36 and 13 271.04 MS/s. -/
def adcRate (u : Nat) : Nat := if u < 64 then 6 else 9

/-- The sample that a converter takes next, counted from the last converter alignment (R276, R292). -/
def State.adcSample (s : State) (u : Nat) : Int := firstIdx (adcRate u) s.grid

/-- The status register of a converter; RX and observation share its layout. -/
def adcStat (u : Nat) : Nat := if u < 64 then Reg.CONV_RXADC_STAT u else Reg.CONV_OBS_STAT (u - 64)

/-- The register and field of the sub-ADC that serves a slot. -/
def adcMapAt (u k : Nat) : Nat × Field :=
  if u < 64 then (Reg.CONV_RXADC_MAP u, ⟨4 * k, 4⟩)
  else if k < 8 then (Reg.CONV_OBS_MAP (u - 64), ⟨4 * k, 4⟩) else (Reg.CONV_OBS_MAP2 (u - 64), ⟨4 * (k - 8), 4⟩)

def State.adcMap (s : State) (u k : Nat) : Nat := s.fld (adcMapAt u k).1 (adcMapAt u k).2

/-- The sub-ADC that takes sample `n` of a converter (R276). -/
def State.subAdc (s : State) (u : Nat) (n : Int) : Nat := s.adcMap u (n % (adcSlots u : Int)).toNat

def State.adc (s : State) (u : Nat) : ConvAdc := kvGet (fun _ => {}) s.adcs u
def State.setAdc (s : State) (u : Nat) (x : ConvAdc) : State := { s with adcs := kvSet (fun _ => {}) s.adcs u x }

/-- Serving sub-ADCs, longest in service first; at power-up in slot order (log entry 10). -/
def State.adcOrder (s : State) (u : Nat) : List Nat :=
  let o := (s.adc u).order
  if o.isEmpty then (List.range (adcSlots u)).map (s.adcMap u) else o

/-- Put a sub-ADC into the slot of another. -/
def State.adcReplace (s : State) (u out_ in_ : Nat) : State :=
  match (List.range (adcSlots u)).find? (fun k => s.adcMap u k == out_) with
  | some k => s.setFld (adcMapAt u k).1 (adcMapAt u k).2 in_
  | none => s

def State.adcUsed (s : State) (u : Nat) : Bool := s.bit (adcStat u) Fld.CONV_RXADC_STAT_USED

/-- Word 0 of a repair record (R475), as class 6 events carry it. -/
def repairWord (kind unit elem : Nat) : Nat := kind * 2 ^ 28 + unit * 2 ^ 20 + elem * 256

/-- Retire a sub-ADC (R279); with the relief used already, it stays and `FAIL` is set (R280). -/
def State.adcRetire (s : State) (u sub : Nat) : State :=
  let a := adcStat u
  if s.adcUsed u then (s.setFld a Fld.CONV_RXADC_STAT_FAIL 1).raise 0x6021 u (repairWord 6 u sub)
  else
    let cal := s.fld a Fld.CONV_RXADC_STAT_CAL
    let t := if sub = cal then s else s.adcReplace u sub cal
    let w := setF (setF (t.rd a) Fld.CONV_RXADC_STAT_RETIRED sub) Fld.CONV_RXADC_STAT_USED 1
    ((t.wr a (setF w Fld.CONV_RXADC_STAT_CAL 0xF)).setAdc u { s.adc u with order := [], rotAt := none, strikes := 0 }).raise 0x6020 u (repairWord 6 u sub)

/-- The dwell in ticks (CONV_ROT). -/
def State.dwell (s : State) : Nat := usTicks (Nat.max 100 (s.fld Reg.CONV_ROT Fld.CONV_ROT_DWELL))

/-- Ticks of 4 096 samples of a sub-ADC at 1 105.92 MS/s (R277). -/
def rotRun : Nat := 3641

/-- Whether Assay rotates the sub-ADCs of a converter: its die is on; on a sleeping path Assay pauses (R165, log entry 39). -/
def State.adcRotates (s : State) (u : Nat) : Bool := s.dieOn (adcDie u) && !(decide (u < 64) && s.sb.asleepRx.testBit u)

/-- ADC_ROTATION_START (R277): step 1 of a replacement, the last 4 096 samples of a dwell. -/
def execAdcRotationStart (u : Fin 72) (s : State) : Res :=
  let x := s.adc u
  finish (
    if s.adcRotates u && !s.adcUsed u && x.rotAt.isNone && decide (x.since + s.dwell ≤ s.tick + rotRun) then
      s.setAdc u { x with rotAt := some s.tick }
    else s)

/-- ADC_ROTATION_SWAP (R277-R279): the comparison of the incoming sub-ADC ends, `agree` says how. It takes the slot, or waits for the next dwell; a
second failure in a row retires it. -/
def execAdcRotationSwap (u : Fin 72) (agree : Bool) (s : State) : Res :=
  let x := s.adc u
  finish (match x.rotAt with
    | none => s
    | some t0 =>
      if s.tick < t0 + rotRun || s.tick < x.since + s.dwell || !s.adcRotates u then s
      else
        let a := adcStat u
        let in_ := s.fld a Fld.CONV_RXADC_STAT_CAL
        if agree then
          (match s.adcOrder u with
           | out_ :: rest =>
             ((s.adcReplace u out_ in_).setFld a Fld.CONV_RXADC_STAT_CAL out_).setAdc u ⟨rest ++ [in_], s.tick, none, 0⟩
           | [] => s)
        else if x.strikes = 0 then s.setAdc u { x with rotAt := none, since := s.tick, strikes := 1 }
        else s.adcRetire u in_)

/-- A write of `CONV_RXADC_CMD` or `CONV_OBS_CMD` (R279). The retirement of the outgoing sub-ADC of a rotation completes the swap at once. -/
def adcCmdWrite (u : Nat) (v : Word) (s : State) : Nat × State :=
  let sub := getF v Fld.CONV_RXADC_CMD_SUB
  if getF v Fld.CONV_RXADC_CMD_RETIRE = 0 then (0, s)
  else if adcSlots u < sub ∨ s.adcUsed u then (7, s)
  else (0, s.adcRetire u sub)

/-- The command register of a converter. -/
def adcCmd (u : Nat) : Nat := if u < 64 then Reg.CONV_RXADC_CMD u else Reg.CONV_OBS_CMD (u - 64)

/-- SUBADC_RETIRE (R279): a write of the command register of a converter. -/
def execSubadcRetire (r : Req) (u : Fin 72) (v : Word) (s : State) : Res :=
  finish (s.writeBy r (adcCmd u) (adcCmdWrite u v))

/-! ## DACs (R282, R283) -/

def State.dac (s : State) (p : Nat) : ConvDac := kvGet (fun _ => {}) s.dacs p
def State.setDac (s : State) (p : Nat) (x : ConvDac) : State := { s with dacs := kvSet (fun _ => {}) s.dacs p x }

/-- The cell of each position, the positions in order of service, the idle spares: as at power-up where nothing has changed. -/
def ConvDac.cells (x : ConvDac) : List Nat := if x.map.isEmpty then List.range 63 else x.map
def ConvDac.ages (x : ConvDac) : List Nat := if x.order.isEmpty then List.range 63 else x.order
def ConvDac.spares (x : ConvDac) : List Nat := x.idle.getD [64, 65, 66]

/-- Whether a cell of a DAC is retired. -/
def State.cellRetired (s : State) (p k : Nat) : Bool := s.bit (Reg.CONV_DAC_RET p (k / 32)) ⟨k % 32, 1⟩

/-- Retire a cell (R283); without a spare, or for the binary segment (no cell), `FAIL` is set and the element stays. -/
def State.cellRetire (s : State) (p : Nat) (cell : Option Nat) : State :=
  let a := Reg.CONV_DAC_STAT p
  let spares := s.fld a Fld.CONV_DAC_STAT_SPARES
  let x := s.dac p
  match cell with
  | none => (s.setFld a Fld.CONV_DAC_STAT_FAIL 1).raise 0x6023 p (repairWord 7 p 0)
  | some k =>
    if spares = 0 then (s.setFld a Fld.CONV_DAC_STAT_FAIL 1).raise 0x6023 p (repairWord 7 p k)
    else
      let cal := s.fld a Fld.CONV_DAC_STAT_CAL
      let serving := x.cells.contains k
      let next := x.spares.headD 0x7F
      let (x', cal') :=
        if serving then
          let pos := x.cells.idxOf k
          ({ x with map := x.cells.set pos cal, order := x.ages.filter (fun q => q != pos) ++ [pos], idle := some (x.spares.drop 1) }, next)
        else if k = cal then ({ x with idle := some (x.spares.drop 1) }, next)
        else ({ x with idle := some (x.spares.filter (fun c => c != k)) }, cal)
      let w := setF (setF (s.rd a) Fld.CONV_DAC_STAT_SPARES (spares - 1)) Fld.CONV_DAC_STAT_CAL cal'
      (((s.wr a w).setFld (Reg.CONV_DAC_RET p (k / 32)) ⟨k % 32, 1⟩ 1).setDac p x').raise 0x6022 p (repairWord 7 p k)

/-- DAC_CELL_ROTATION (R282): on a path that is awake (R165), after a dwell the measured cell replaces the serving cell that has been longest in service. -/
def execDacCellRotation (path : Fin 64) (s : State) : Res :=
  let x := s.dac path
  let a := Reg.CONV_DAC_STAT path
  finish (
    if !s.dieOn (path.val / 16) ∨ s.sb.asleepTx.testBit path ∨ s.fld a Fld.CONV_DAC_STAT_SPARES = 0 ∨ s.tick < x.since + s.dwell then s
    else
      match x.ages with
      | pos :: rest =>
        let out_ := x.cells.getD pos 0
        let cal := s.fld a Fld.CONV_DAC_STAT_CAL
        (s.setFld a Fld.CONV_DAC_STAT_CAL out_).setDac path { x with map := x.cells.set pos cal, order := rest ++ [pos], since := s.tick }
      | [] => s)

/-- A write of `CONV_DAC_CMD` (R283). -/
def dacCmdWrite (p : Nat) (v : Word) (s : State) : Nat × State :=
  let k := getF v Fld.CONV_DAC_CMD_CELL
  if getF v Fld.CONV_DAC_CMD_RETIRE = 0 then (0, s)
  else if 66 < k ∨ s.cellRetired p k then (7, s)
  else (0, s.cellRetire p (some k))

/-- DAC_CELL_RETIRE (R283): a write of `CONV_DAC_CMD`. -/
def execDacCellRetire (r : Req) (path : Fin 64) (v : Word) (s : State) : Res :=
  finish (s.writeBy r (Reg.CONV_DAC_CMD path) (dacCmdWrite path v))

/-! ## NCO profiles and modes (R284-R290) -/

/-- Whether any carrier is `BUSY`. -/
def State.anyBusy (s : State) : Bool := (List.range 8).any s.carBusy

/-- `CONV_OBS_ALIAS` of an RF centre (R287): edges of the alias-free band in MHz from the centre, rounded inward. -/
def aliasWord (fc : Int) : Word :=
  let unit : Int := 200 * 65536
  let half : Int := 442368 * 65536
  let edge := fun (lo hi : Int) (b : Int) =>
    if fc - half < b ∧ b < fc + half then
      (let h := if b - (fc - half) < fc + half - b then b - (fc - half) else fc + half - b
       if b - h ≤ fc - half then (b + h - fc, hi) else (lo, b - h - fc))
    else (lo, hi)
  let (l1, h1) := edge (-half) half (1327104 * 65536)
  let (l2, h2) := edge l1 h1 (2654208 * 65536)
  let lo : Int := -((-l2) / unit)
  let hi : Int := h2 / unit
  BitVec.ofNat 32 (encS 16 lo * 65536 + encS 16 hi)

/-- Refresh `CONV_OBS_ALIAS` of every receiver from the TX profile in use. -/
def State.refreshAlias (s : State) : State :=
  let w := aliasWord (s.txCentre (s.fld Reg.CONV_NCO_SEL Fld.CONV_NCO_SEL_TXP))
  (List.range 8).foldl (fun t g => t.wr (Reg.CONV_OBS_ALIAS g) w) s

/-- A write of a word of an NCO profile (R290): refused for the selected profile of its direction while a carrier is `BUSY`. -/
def ncoWrite (a : Nat) (tx : Bool) (k : Nat) (v : Word) (s : State) : Nat × State :=
  let sel := s.fld Reg.CONV_NCO_SEL (if tx then Fld.CONV_NCO_SEL_TXP else Fld.CONV_NCO_SEL_RXP)
  if sel = k ∧ s.anyBusy then (if s.plainValue a v = s.rd a then 0 else 7, s)
  else
    let t := s.plainWrite a v
    (0, if tx ∧ sel = k then t.refreshAlias else t)

/-- A write of `CONV_NCO_SEL` (R289): `TXP` is a sample field of stage 8, `RXP` one of U2. -/
def ncoSelWrite (v : Word) (tw : Th) (s : State) : Nat × State :=
  let a := Reg.CONV_NCO_SEL
  (0, (s.symWriteAs a (s.plainValue a v) [(a, tw + thNs 1400), (a + 2, tw - thNs 1100)]).refreshAlias)

/-- A write of `CONV_TX_MODE` or `CONV_RX_MODE` (R290). -/
def convModeWrite (a : Nat) (v : Word) (s : State) : Nat × State :=
  if s.anyBusy && (s.wouldChange a v Fld.CONV_TX_MODE_UPRIGHT || s.wouldChange a v Fld.CONV_TX_MODE_MIX) then (7, s) else (0, s.plainWrite a v)

/-! ## Alignment (R146, R292, R293) -/

/-- Start an alignment (R292), or let it wait for the one in progress ("When ALIGN_IN arrives during an alignment"). -/
def State.startAlign (s : State) : State :=
  if s.align.at_.isSome then s.setFld Reg.CONV_ALIGN_STAT Fld.CONV_ALIGN_STAT_PEND 1
  else { s with align := { s.align with at_ := some s.tick } }

/-- A write of `CONV_ALIGN_CTL` (R292, R293). -/
def alignSoftWrite (v : Word) (s : State) : Nat × State :=
  if getF v Fld.CONV_ALIGN_CTL_SOFT = 0 then (0, s)
  else if s.pstate = 5 ∨ s.pstate = 6 then (0, s.startAlign)
  else (1, s)

/-- SOFT_ALIGN (R292): a write of `CONV_ALIGN_CTL`. -/
def execSoftAlign (r : Req) (v : Word) (s : State) : Res :=
  finish (s.writeBy r Reg.CONV_ALIGN_CTL (alignSoftWrite v))

/-- ALIGN_CAPTURE (R146): a rising edge of REFCLK samples `ALIGN_IN` as `level` while capture is armed. -/
def execAlignCapture (level : Bool) (s : State) : Res :=
  finish (
    if !s.bit Reg.TIME_ALIGN_CTL Fld.TIME_ALIGN_CTL_ARM || !s.tclk then s
    else if !level then { s with time := { s.time with alignLow := true } }
    else if !s.time.alignLow then s
    else
      let w := setF (setF (s.rd Reg.TIME_ALIGN_CTL) Fld.TIME_ALIGN_CTL_ARM 0) Fld.TIME_ALIGN_CTL_CAPTURED 1
      let t := ((s.wr Reg.TIME_ALIGN_CTL w).wr64 Reg.TIME_ALIGN_CAP s.tb)
      let t := (({ t with time := { t.time with alignLow := false } }).evSource 0x61).raise 0xC005 0xFF
      if s.pstate = 5 ∨ s.pstate = 6 then t.startAlign else t)

/-- The converters reset at the reset edge (R292): `DONE`, event 0x4050. -/
def State.alignReset (s : State) : State :=
  ({ s with align := { s.align with resetAt := s.tick }, tx := [], txSyms := [] }.flag Reg.CONV_ALIGN_STAT Fld.CONV_ALIGN_STAT_DONE).raise 0x4050 0xFF

/-- CONVERTER_ALIGNMENT (R292, R293): the 256th REFCLK edge (1 024 ticks) after the start. A waiting alignment starts one REFCLK edge (4 ticks) after the
reset edge. In READY the converters reset; in ACTIVE `err` is the divider
difference in DCLK cycles (−72 to +71) that the check finds. -/
def execConverterAlignment (err : BitVec 8) (s : State) : Res :=
  finish (match s.align.at_ with
    | none => s
    | some t0 =>
      if s.tick < t0 + 1024 then s
      else
        let pend := s.bit Reg.CONV_ALIGN_STAT Fld.CONV_ALIGN_STAT_PEND
        let s1 := { s with align := { s.align with at_ := if pend then some (s.tick + 4) else none } }
        let s2 := s1.setFld Reg.CONV_ALIGN_STAT Fld.CONV_ALIGN_STAT_PEND 0
        if s.pstate = 5 then s2.alignReset
        else if s.pstate = 6 then
          let w := setF (setF (s2.rd Reg.CONV_ALIGN_STAT) Fld.CONV_ALIGN_STAT_CHECK 1) Fld.CONV_ALIGN_STAT_ERR err.toNat
          let t := s2.wr Reg.CONV_ALIGN_STAT w
          if err = 0 then t else t.raise 0x4051 0xFF
        else s2)

/-- DIE_LINK_LOST (R14, R473): the die counts as off: TX paths muted with source `DIE`, RX paths deliver zeros with `RXDP_OVR.DIE`, captures
abort, event 0x6001. -/
def execDieLinkLost (die : Fin 4) (s : State) : Res :=
  finish (
    if !s.dieOn die then s
    else
      let s1 := { s with power := { s.power with dieLost := setBitN s.power.dieLost die true } }
      let s2 := (List.range 16).foldl (fun (t : State) i =>
        let p := 16 * die.val + i
        ((t.hwMute p Fld.TXDP_MUTE_DIE).flag (Reg.RXDP_OVR p) Fld.RXDP_OVR_DIE).setZero p 4 true t.nowTh) s1
      (s2.cageDieOff die).raise 0x6001 die)

end Sys2Proof.Machine
end

