-- ==== Sys2Proof/Machine/AuxDac.lean ====
section
/-! DEFINITION. Auxiliary DACs (R408-R414): outputs, holds, clears and faults. Marks and risks: log entries 15, 40. -/
namespace Sys2Proof.Machine

def State.auxCh (s : State) (n : Nat) : AuxCh := kvGet (fun _ => {}) s.aux n
def State.setAux (s : State) (n : Nat) (x : AuxCh) : State := { s with aux := kvSet (fun _ => {}) s.aux n x }

/-- The die of a channel (R408). -/
def auxDie (n : Nat) : Nat := if n < 64 then n / 16 else (n - 64) / 2

/-- The code driven for a code written: gain-corrected by Assay once it has a value for the channel (R408). -/
def State.auxDrive (s : State) (n code : Nat) : Nat :=
  let tok := kvGet (fun _ => 0) s.assay.values (assayKey 8 n 0)
  if tok = 0 then code else Nat.min 4095 (Config.auxCorrect tok code)

/-- The unary elements that a code turns on, of 15, and the ladder's part of it (R408). -/
def auxUnary (d : Nat) : Nat := d / 256
def auxLadder (d : Nat) : Nat := d % 256

def State.auxCleared (s : State) (n : Nat) : Bool := s.bit (Reg.AUX_STAT n) Fld.AUX_STAT_CLEARED
def State.auxClrCode (s : State) (n : Nat) : Nat := s.fld (Reg.AUX_CLRCODE n) Fld.AUX_CLRCODE_CODE
def State.setHold (s : State) (n : Nat) (b : Bool) : State := s.setFld (Reg.AUX_STAT n) Fld.AUX_STAT_HOLD (b2n b)

/-- Move an output to a code by the code-write rows of R410: at once, or after a 200 ns hold when bits [11:8] change. -/
def State.auxMove (s : State) (n code : Nat) : State :=
  let x := s.auxCh n
  let d := s.auxDrive n code
  if x.rangeAt.isSome then s.setAux n { x with next := d }
  else if auxUnary d ≠ auxUnary x.out then (s.setAux n { x with next := d, holdAt := some s.tick }).setHold n true
  else if x.holdAt.isSome then s.setAux n { x with next := d }
  else s.setAux n { x with out := d, next := d }

/-- A write of `AUX_DACn` (R410, R413). -/
def auxDacWrite (n : Nat) (v : Word) (s : State) : Nat × State :=
  let t := s.plainWrite (Reg.AUX_DAC n) v
  let code := getF v Fld.AUX_DAC_CODE
  let rng := getF v Fld.AUX_DAC_RANGE
  let x := t.auxCh n
  if t.bit Reg.AUX_CTL Fld.AUX_CTL_PINCLR then (0, t)
  else
    let t1 := t.setFld (Reg.AUX_STAT n) Fld.AUX_STAT_CLEARED 0
    let x := if t.auxCleared n then { x with openAt := t.tick } else x
    let t1 := t1.setAux n x
    if rng ≠ x.rng then
      (0, (t1.setAux n { x with out := t1.auxDrive n (t1.auxClrCode n), rng := rng, next := t1.auxDrive n code, holdAt := none, rangeAt := some t1.tick }).setHold n true)
    else (0, t1.auxMove n code)

/-- AUX_DAC_WRITE (R410). -/
def execAuxDacWrite (r : Req) (n : Fin 72) (v : Word) (s : State) : Res := finish (s.writeBy r (Reg.AUX_DAC n) (auxDacWrite n v))

/-- AUX_HOLD_END (R410): 200 ns. -/
def execAuxHoldEnd (n : Fin 72) (s : State) : Res :=
  let x := s.auxCh n
  finish (match x.holdAt with
    | some t => if t + 197 ≤ s.tick then (s.setAux n { x with out := x.next, holdAt := none }).setHold n false else s
    | none => s)

/-- AUX_RANGE_CHANGE_END (R410): 5 µs; no deglitch hold applies. -/
def execAuxRangeChangeEnd (n : Fin 72) (s : State) : Res :=
  let x := s.auxCh n
  finish (match x.rangeAt with
    | some t => if t + usTicks 5 ≤ s.tick then (s.setAux n { x with out := x.next, rangeAt := none }).setHold n false else s
    | none => s)

/-- A write of `AUX_CLRCODEn` (R411). -/
def auxClrCodeWrite (n : Nat) (v : Word) (s : State) : Nat × State :=
  let t := s.plainWrite (Reg.AUX_CLRCODE n) v
  (0, if t.auxCleared n then t.auxMove n (t.auxClrCode n) else t)

/-- AUX_CLRCODE_WRITE (R411). -/
def execAuxClrcodeWrite (r : Req) (n : Fin 72) (v : Word) (s : State) : Res :=
  finish (s.writeBy r (Reg.AUX_CLRCODE n) (auxClrCodeWrite n v))

/-- A channel goes to its clear code (R409, R413): holds and range changes are abandoned, `RANGE` is kept. -/
def State.auxClear (s : State) (n : Nat) : State :=
  let c := s.auxDrive n (s.auxClrCode n)
  ((s.setAux n { s.auxCh n with out := c, next := c, holdAt := none, rangeAt := none }).setFld (Reg.AUX_STAT n) Fld.AUX_STAT_CLEARED 1).setHold n false

/-- Every powered channel is cleared (R413). -/
def State.auxClearAll (s : State) : State :=
  (List.range 72).foldl (fun (t : State) n => if t.dieOn (auxDie n) then t.auxClear n else t) s

/-- AUX_CLR_N_FALL (R413). -/
def execAuxClrNFall (s : State) : Res :=
  finish (if s.bit Reg.AUX_CTL Fld.AUX_CTL_PINCLR then s
    else
      let t := (s.setFld Reg.AUX_CTL Fld.AUX_CTL_PINCLR 1).auxClearAll
      if s.held then s else t.raise 0xB012 0xFF)

/-- AUX_CLR_N_RISE (R413): outputs stay at their clear codes. -/
def execAuxClrNRise (s : State) : Res := finish (s.setFld Reg.AUX_CTL Fld.AUX_CTL_PINCLR 0)

/-- A write of `AUX_CTL` (R413). -/
def auxCtlWrite (v : Word) (s : State) : Nat × State := (0, if getF v Fld.AUX_CTL_CLRALL = 1 then s.auxClearAll else s)

/-- CLRALL (R413). -/
def execClrall (r : Req) (v : Word) (s : State) : Res := finish (s.writeBy r Reg.AUX_CTL (auxCtlWrite v))

/-- Whether a channel is tested for an open output: its load current is compared with `OPENMIN`, and it is not cleared (R414). -/
def State.auxTestsOpen (s : State) (n : Nat) : Bool :=
  s.dieOn (auxDie n) && s.fld (Reg.AUX_LOAD n) Fld.AUX_LOAD_OPENMIN != 0 && !s.auxCleared n

/-- AUX_SHORT (R414): 10 µs at the current limit; the next detection interval starts. -/
def execAuxShort (n : Fin 72) (s : State) : Res :=
  let x := s.auxCh n
  finish (if s.dieOn (auxDie n) && decide (x.shortAt + usTicks 10 ≤ s.tick) then
    ((s.setAux n { x with shortAt := s.tick }).flag (Reg.AUX_FAULT n) Fld.AUX_FAULT_SHORT).raiseLim 10 0xB010 n else s)

/-- AUX_OPEN (R414): 100 µs below `OPENMIN` × 10 µA, since the channel was last cleared or found open. -/
def execAuxOpen (n : Fin 72) (s : State) : Res :=
  let x := s.auxCh n
  finish (if s.auxTestsOpen n && decide (x.openAt + usTicks 100 ≤ s.tick) then
    ((s.setAux n { x with openAt := s.tick }).flag (Reg.AUX_FAULT n) Fld.AUX_FAULT_OPEN).raiseLim 10 0xB011 n else s)

/-- `AUX_FAULTMAPm`: channels with a fault bit; those of a die that is off read 0. -/
def State.auxFaultMap (s : State) (m : Nat) : Nat :=
  (List.range 32).foldl (fun v j =>
    let n := 32 * m + j
    if n < 72 ∧ s.dieOn (auxDie n) ∧ s.rd (Reg.AUX_FAULT n) ≠ 0 then v + 2 ^ j else v) 0

/-- An `AUXGAIN` correction acts as a code write (R411). -/
def State.auxCorrected (s : State) (n : Nat) : State :=
  s.auxMove n (if s.auxCleared n then s.auxClrCode n else s.fld (Reg.AUX_DAC n) Fld.AUX_DAC_CODE)

end Sys2Proof.Machine
end

