-- ==== Sys2Proof/Machine/Assay.lean ====
section
/-! DEFINITION. Assay background calibration (R382-R396): results, failures and convergence, saved state. Marks and risks: log entries 39, 13, 14. -/
namespace Sys2Proof.Machine

/-! ## Instances (R382) -/

/-- Instances of an item as (units, elements per unit). -/
def assayUnits (item : Nat) : Nat × Nat :=
  match item with
  | 0 => (64, 9)
  | 1 => (8, 13)
  | 2 => (64, 67)
  | 3 => (64, 1)
  | 4 => (64, 1)
  | 5 => (4, 1)
  | 6 => (8, 1)
  | 7 => (1, 1)
  | _ => (72, 1)

/-- The plausibility limits of an item's measured quantities (R382): ADCs offset in LSB, gain in ppm, skew in fs; cells in ppm; alignment gain step in
thousandths of a dB and delay in fs; phase in fs; ripple in thousandths of a dB; monitor gain in ppm and offset in LSB; aux gain in ppm. -/
def assayLimits (item : Nat) : List Nat :=
  match item with
  | 0 | 1 => [64, 30000, 10000]
  | 2 => [20000]
  | 3 | 4 => [3000, 10000000]
  | 5 => [30000]
  | 6 => [3000]
  | 7 => [20000, 16]
  | _ => [30000]

/-- A result outside a limit fails plausibility. -/
def assayPlausible (item : Nat) (q : List Int) : Bool :=
  (List.zipWith (fun (l : Nat) (x : Int) => decide (-(l : Int) ≤ x ∧ x ≤ (l : Int))) (assayLimits item) q).all id

/-- The converter of an instance of items 0 and 1. -/
def assayConverter (item unit : Nat) : Nat := if item = 0 then unit else 64 + unit

/-- Whether an element of a unit has a result: of items 0-2 the one under measurement in the rotation (R277, R282); once a converter's relief is used, its
serving sub-ADCs (R280); once a DAC has no spare, the cells that serve; of a DAC at any time the binary segment, as element 127 (R283). -/
def State.assayElem (s : State) (item unit elem : Nat) : Bool :=
  if item = 0 ∨ item = 1 then
    let u := assayConverter item unit
    if s.adcUsed u then (List.range (adcSlots u)).any (fun k => s.adcMap u k == elem) else s.fld (adcStat u) Fld.CONV_RXADC_STAT_CAL == elem
  else if item = 2 then
    let c := s.fld (Reg.CONV_DAC_STAT unit) Fld.CONV_DAC_STAT_CAL
    elem == 127 || (if c = 0x7F then (s.dac unit).cells.contains elem else c == elem)
  else elem == 0

/-- Whether an item runs (R383). -/
def State.assayRuns (s : State) (item : Nat) : Bool :=
  (s.pstate == 5 || s.pstate == 6) && s.bit Reg.ASSAY_CTL Fld.ASSAY_CTL_EN && (s.fld Reg.ASSAY_CTL Fld.ASSAY_CTL_ITEMS).testBit item &&
    (decide (item < 3) || !s.bit Reg.ASSAY_STAT Fld.ASSAY_STAT_FWPAUSE) && !(item == 6 && decide (2 ≤ s.fld Reg.PWR_CLASS Fld.PWR_CLASS_CLASS))

/-! ## Failures and convergence (R385, R392) -/

/-- The FAIL bit of an instance's unit. -/
def State.assayFail (s : State) (item unit : Nat) : Bool := s.bit (Reg.ASSAY_FAIL item (unit / 32)) ⟨unit % 32, 1⟩

/-- `FAIL_ANY` as the maps have it. -/
def State.assayAny (s : State) : State :=
  (List.range 9).foldl (fun (t : State) i =>
    t.setFld Reg.ASSAY_STAT ⟨i, 1⟩ (b2n ((List.range 4).any (fun w => (s.rd (Reg.ASSAY_FAIL i w)).toNat != 0)))) s

/-- Whether an instance is in FAIL: it has reached the count and its bit still stands, or it has been retired. -/
def State.assayOut (s : State) (item unit elem : Nat) : Bool :=
  let u := assayConverter item unit
  let retired := if item < 2 then s.adcUsed u && s.fld (adcStat u) Fld.CONV_RXADC_STAT_RETIRED == elem
    else item == 2 && s.cellRetired unit elem
  retired || (s.assayFail item unit && kvGet (fun _ => 0) s.assay.counts (assayKey item unit elem) == 2 ^ 32)

/-- Whether every enabled item has passed on every instance that is not in FAIL (R392). -/
def State.assayAll (s : State) : Bool :=
  (maskList 9 (s.fld Reg.ASSAY_CTL Fld.ASSAY_CTL_ITEMS)).all (fun i =>
    (List.range (assayUnits i).1).all (fun u => (List.range (assayUnits i).2).all (fun e =>
      s.assayOut i u e || kvGet (fun _ => 0) s.assay.passed (assayKey i u e) == 1)))

/-- Set `CONV` with event 0x5002 once the items have converged (R392). -/
def State.assayConv (s : State) : State :=
  if (s.pstate == 5 || s.pstate == 6) && s.bit Reg.ASSAY_CTL Fld.ASSAY_CTL_EN && !s.bit Reg.ASSAY_STAT Fld.ASSAY_STAT_CONV && s.assayAll then
    (s.setFld Reg.ASSAY_STAT Fld.ASSAY_STAT_CONV 1).raise 0x5002 0xFF
  else s

/-- The count of passing results starts again: entry to READY, the end of a restore (R392). -/
def State.assayRestart (s : State) : State :=
  { s with assay := { s.assay with passed := [] } }.setFld Reg.ASSAY_STAT Fld.ASSAY_STAT_CONV 0

/-- What follows when an instance reaches FAIL (R385). -/
def State.assayConsequence (s : State) (item unit elem : Nat) : State :=
  if item = 0 then s.adcRetire unit elem
  else if item = 1 then s.adcRetire (64 + unit) elem
  else if item = 2 then s.cellRetire unit (some elem)
  else s

/-- One more failure of an instance (R385). -/
def State.assayFailed (s : State) (item unit elem : Nat) : State :=
  let key := assayKey item unit elem
  let n := kvGet (fun _ => 0) s.assay.counts key
  let limit := Nat.max 1 (s.fld Reg.ASSAY_NFAIL Fld.ASSAY_NFAIL_N)
  let setN := fun (v : Nat) => { s with assay := { s.assay with counts := kvSet (fun _ => 0) s.assay.counts key v } }
  if n = 2 ^ 32 then s
  else if n + 1 < limit then setN (n + 1)
  else
    let t := ((setN (2 ^ 32)).setFld (Reg.ASSAY_FAIL item (unit / 32)) ⟨unit % 32, 1⟩ 1).assayAny
    ((t.raise 0x5001 unit).assayConsequence item unit elem).assayConv

/-- Put a correction value into use; what a path correction was stays known for samples before (R386). -/
def State.assayPut (s : State) (key val : Nat) : State :=
  let a := s.assay
  let keep := a.past.filter (fun e => decide (s.nowTh < e.2.1 + thUs 20000))
  let item := key / 2 ^ 14
  { s with assay := { a with
      values := kvSet (fun _ => 0) a.values key val
      past := if 3 ≤ item ∧ item ≤ 5 then (key, s.nowTh, kvGet (fun _ => 0) a.values key) :: keep else a.past } }

/-- Whether an element's passing result changes no value: a DAC without a spare keeps its last mismatch values (R283). -/
def State.assayKeeps (s : State) (item unit : Nat) : Bool := item == 2 && s.fld (Reg.CONV_DAC_STAT unit) Fld.CONV_DAC_STAT_CAL == 0x7F

/-- A passing result is applied (R385). -/
def State.assayPassed (s : State) (item unit elem val : Nat) : State :=
  let key := assayKey item unit elem
  let t := { s with assay := { s.assay with counts := kvSet (fun _ => 0) s.assay.counts key 0, passed := kvSet (fun _ => 0) s.assay.passed key 1 } }
  let t := if s.assayKeeps item unit then t else t.assayPut key val
  (if item = 8 then t.auxCorrected unit else t).assayConv

/-! ## Periods (R382-R384, R390) -/

/-- An item's period in ticks: the dwell, or `ASSAY_PERIOD` (R382). -/
def State.assayPeriod (s : State) (item : Nat) : Nat :=
  if item < 3 then s.dwell else msTicks (Nat.max 10 (s.fld (Reg.ASSAY_PERIOD (item - 3)) Fld.ASSAY_PERIOD_MS))

/-- The unit whose periods an instance follows: `AUXGAIN` takes one channel per period (R382, R407; log entry 39). -/
def assayUnit (item unit : Nat) : Nat := if item = 8 then 0 else unit

/-- The start of an instance's period: its last result, or when its item began to run. -/
def State.assayFrom (s : State) (item unit : Nat) : Nat :=
  Nat.max (kvGet (fun _ => 0) s.assay.lastAt (assayKey item (assayUnit item unit) 0)) (kvGet (fun _ => 0) s.assay.begun item)

/-- The channels whose conversions an item needs (R407). -/
def assayChannels (item : Nat) : List Nat := if item = 7 then [40, 41, 42] else if item = 8 then [43] else []

/-- The level of `CAL_IO` while it is driven (R390): the first 10 ms of each `RXALIGN` period. -/
def State.calIo (s : State) : Option Nat :=
  if s.assayRuns 4 && s.bit Reg.ASSAY_CTL Fld.ASSAY_CTL_RXINJ && decide (s.tick < s.assayFrom 4 0 + msTicks 10) then
    some (s.fld Reg.ASSAY_CALIO Fld.ASSAY_CALIO_LEVEL)
  else none

/-- Every item that does not run begins its period anew. -/
def State.assayTick (s : State) : State :=
  let off := (List.range 9).filter (fun i => !s.assayRuns i)
  { s with assay := { s.assay with begun := off.foldl (fun m i => kvSet (fun _ => 0) m i s.tick) s.assay.begun } }

/-- The key of `spells` that says when the path of an item's instance sleeps (R384). -/
def assaySleep (item unit : Nat) : Option Nat :=
  if item = 0 ∨ item = 4 then some (64 + unit) else if item = 2 ∨ item = 3 then some unit else none

/-- What the path of an instance had slept and been muted by now. -/
def State.assayIdle (s : State) (item unit : Nat) : Nat × Nat :=
  (match assaySleep item unit with | some k => s.spellTicks k | none => 0, s.spellTicks (128 + unit))

/-- Whether a result is NOTRUN (R384, R280): the path was awake for less than a tenth of the period; it was muted for all of it, or its mean stage 7 output was below
−40 dBFS (TXALIGN); `RXINJ` = 0; the capture did not end DONE (`cap` 1 is DONE); the monitor sequence gave no usable conversion of a channel that the item needs; a converter whose relief is used had an input below −40 dBFS (`power`, in 10^-6
of full scale). -/
def State.assayNotRun (s : State) (item unit power cap : Nat) : Bool :=
  let was : Nat × Nat := kvGet (fun _ => (0, 0)) s.assay.idle (assayKey item unit 0)
  let now := s.assayIdle item unit
  let period := s.tick - s.assayFrom item unit
  let awake := period - (now.1 - was.1)
  let lane : TxLane := kvGet (fun _ => {}) s.tx unit
  (decide (item = 0 ∨ 2 ≤ item ∧ item ≤ 4) && decide (10 * awake < period)) ||
    (item == 3 && (decide (period ≤ now.2 - was.2) || decide (lane.avgSum * 10000 * 2 < 2 ^ 30 * 9 * awake))) ||
    (item == 4 && !s.bit Reg.ASSAY_CTL Fld.ASSAY_CTL_RXINJ) || (item == 6 && cap != 1) ||
    (assayChannels item).any (fun ch => decide (kvGet (fun _ => 0) s.assay.monAt ch ≤ s.assayFrom item unit)) ||
    (decide (item < 2) && s.adcUsed (assayConverter item unit) && decide (power < 100))

/-- The end of an instance's period: the next one starts. -/
def State.assayEnds (s : State) (item unit : Nat) : State :=
  let key := assayKey item (assayUnit item unit) 0
  let a := s.assay
  let lane : TxLane := kvGet (fun _ => {}) s.tx unit
  { s with
    assay := { a with
      lastAt := kvSet (fun _ => 0) a.lastAt key s.tick
      idle := kvSet (fun _ => (0, 0)) a.idle key (s.assayIdle item unit)
      caps := if item = 6 then kvSet (fun _ => 0) a.caps unit 0 else a.caps }
    tx := if item = 3 then kvSet (fun _ => {}) s.tx unit { lane with avgSum := 0 } else s.tx }

/-- ASSAY_RESULT (R382-R385): the end of a period of an instance. `meas` holds the measured quantities (none when nothing could be measured, R384), `power` the mean
input power of a converter, `val` the correction value they give. Item 6 first asks the Cage arbiter for a capture of `nblk` blocks (R266) and has its result when
that completes. A fault of a DAC's binary segment, which has no spare, is reported at once (R283). A result that completes during a restore is discarded. -/
def execAssayResult (item : Fin 9) (unit : Fin 72) (elem : Fin 128) (meas : Option (List Int)) (power val nblk : Nat) (s : State) : Res :=
  let cap := kvGet (fun _ => 0) s.assay.caps unit
  let restoring : Bool := match s.assay.op with | some (true, _) => true | _ => false
  finish (
    if !s.assayRuns item || decide ((assayUnits item).1 ≤ unit.val) || !s.assayElem item unit elem || decide (s.tick < s.assayFrom item unit + s.assayPeriod item) then s
    else if item.val = 6 ∧ cap = 0 then (s.capRequest ⟨8 * unit, false, nblk, 0, true, 0⟩).2
    else
      let s1 := s.assayEnds item unit
      match meas with
      | none => s1
      | some q =>
        if restoring || s.assayNotRun item unit power cap then s1
        else if assayPlausible item q then (if elem.val = 127 then s1 else s1.assayPassed item unit elem val)
        else if elem.val = 127 then s1.cellRetire unit none
        else s1.assayFailed item unit elem)

/-! ## Saved state (R393-R396) -/

/-- Bytes of the calibration state (ASSAY_STATE_LEN). -/
def assayLen : Nat := 64 * (Config.assayUnits % 3073)

/-- The running firmware image's payload version. -/
def State.assayPver (s : State) : Nat := (Config.assayPver (s.rd (Reg.SEC_BOOTREC 0)).toNat).toNat

/-- A word of the state window (R393). -/
def State.assayWord (s : State) (k : Nat) : Nat :=
  leNat ((List.range 4).map (fun i => if 4 * k + i < assayLen then Config.assayByte s.assay.values (4 * k + i) else 0))

def words32 (l : List Nat) : List Byte := l.flatMap (natLE 4)

/-- Whether a blob address is 64-byte aligned and a blob of the device ends inside the shared memory (R394). -/
def blobFits (addr : Nat) : Bool := addr % 64 == 0 && decide (addr + 64 + assayLen ≤ 2 ^ 24)

/-- The blob of a snapshot (R395). -/
def State.blob (s : State) : List Byte :=
  let pay := (List.range assayLen).map (Config.assayByte s.assay.snap)
  let w := [0x4153 * 65536 + 256 + s.assayPver, assayLen, s.otp.serial % 2 ^ 32, s.otp.serial / 2 ^ 32,
    s.fld Reg.SYS_STEP Fld.SYS_STEP_STEP, 0x1FF, s.assay.snapTb % 2 ^ 32, s.assay.snapTb / 2 ^ 32, 0, 0, 0, 0, 0, 0, crc32c pay]
  words32 (w ++ [crc32c (words32 w)]) ++ pay

/-- A save or restore ends with a result (R394, R396). -/
def State.blobEnd (s : State) (restore : Bool) (result : Nat) : State :=
  let w := setF (setF (setF (s.rd Reg.ASSAY_BLOB_STAT) Fld.ASSAY_BLOB_STAT_DONE 1) Fld.ASSAY_BLOB_STAT_OP (b2n restore)) Fld.ASSAY_BLOB_STAT_RESULT result
  let t := ({ s with assay := { s.assay with op := none, snap := [] } }.wr Reg.ASSAY_BLOB_STAT w).setFld Reg.ASSAY_STAT Fld.ASSAY_STAT_BUSY 0
  if result = 1 then t.raise 0x5003 0xFF else if restore then t.raise 0x5004 0xFF else t

/-- A write of `ASSAY_SAVE` (R394): ERR_BUSY while one runs; outside READY and ACTIVE also (log entry 13). The snapshot is taken now. -/
def assaySaveWrite (v : Word) (s : State) : Nat × State :=
  if getF v Fld.ASSAY_SAVE_GO = 0 then (0, s)
  else if s.assay.op.isSome ∨ ¬(s.pstate = 5 ∨ s.pstate = 6) then (7, s)
  else
    (0, { s with assay := { s.assay with op := some (false, getF v Fld.ASSAY_SAVE_ADDR), snap := s.assay.values, snapTb := s.tb } }.setFld
      Reg.ASSAY_STAT Fld.ASSAY_STAT_BUSY 1)

/-- ASSAY_SAVE (R394). -/
def execAssaySave (r : Req) (v : Word) (s : State) : Res := finish (s.writeBy r Reg.ASSAY_SAVE (assaySaveWrite v))

/-- ASSAY_SAVE_DONE (R394): the copy is complete; a bad address writes nothing and gives result 6. -/
def execAssaySaveDone (s : State) : Res :=
  finish (match s.assay.op with
    | some (false, addr) =>
      if blobFits addr then (s.stBytes (sharedMem + addr) s.blob).blobEnd false 1 else s.blobEnd false 6
    | _ => s)

/-- A word of a blob's header. -/
def State.blobWord (s : State) (addr k : Nat) : Nat := s.ldN (sharedMem + addr + 4 * k) 4

/-- A write of `ASSAY_RESTORE` (R396): ERR_BUSY outside READY or while one runs; ERR_VERSION for a wrong `MAGIC` or `FMTVER`. -/
def assayRestoreWrite (v : Word) (s : State) : Nat × State :=
  let addr := getF v Fld.ASSAY_RESTORE_ADDR
  if getF v Fld.ASSAY_RESTORE_GO = 0 then (0, s)
  else if s.assay.op.isSome ∨ s.pstate ≠ 5 then (7, s)
  else if s.blobWord addr 0 / 256 ≠ 0x4153 * 256 + 1 then (8, s)
  else (0, { s with assay := { s.assay with op := some (true, addr) } }.setFld Reg.ASSAY_STAT Fld.ASSAY_STAT_BUSY 1)

/-- ASSAY_RESTORE (R396). -/
def execAssayRestore (r : Req) (v : Word) (s : State) : Res := finish (s.writeBy r Reg.ASSAY_RESTORE (assayRestoreWrite v))

/-- The result of a blob's checks, in their order (R396): 1 when all pass. -/
def State.blobCheck (s : State) (addr : Nat) : Nat :=
  let w := s.blobWord addr
  let hdr := s.ldBytes (sharedMem + addr) 60
  if !blobFits addr then 6
  else if w 2 + 2 ^ 32 * w 3 ≠ s.otp.serial then 2
  else if w 4 % 256 ≠ s.fld Reg.SYS_STEP Fld.SYS_STEP_STEP then 3
  else if w 1 ≠ assayLen then 4
  else if w 15 ≠ crc32c hdr ∨ w 14 ≠ crc32c (s.ldBytes (sharedMem + addr + 64) assayLen) then 5
  else if w 0 % 256 ≠ s.assayPver then 7
  else 1

/-- ASSAY_RESTORE_DONE (R396): values of items both in `ITEMS` and enabled are replaced at once and every count is cleared, or nothing changes. -/
def execAssayRestoreDone (s : State) : Res :=
  finish (match s.assay.op with
    | some (true, addr) =>
      let res := s.blobCheck addr
      if res ≠ 1 then s.blobEnd true res
      else
        let items := Nat.land (s.blobWord addr 5 % 512) (s.fld Reg.ASSAY_CTL Fld.ASSAY_CTL_ITEMS)
        let new := (Config.assayValues (s.ldBytes (sharedMem + addr + 64) assayLen)).filter (fun (e : Nat × Nat) => items.testBit (e.1 / 2 ^ 14))
        let vals := new.foldl (fun (m : List (Nat × Nat)) e => kvSet (fun _ => 0) m e.1 e.2)
          (s.assay.values.filter (fun (e : Nat × Nat) => !items.testBit (e.1 / 2 ^ 14)))
        let keys := (s.assay.values ++ new).filter (fun (e : Nat × Nat) => items.testBit (e.1 / 2 ^ 14))
        let past := keys.map (fun (e : Nat × Nat) => (e.1, s.nowTh, kvGet (fun _ => 0) s.assay.values e.1)) ++ s.assay.past
        (({ s with assay := { s.assay with values := vals, past := past, counts := [] } }.blobEnd true 1).assayRestart).assayConv
    | _ => s)

/-! ## Register writes -/

/-- A write of `ASSAY_CTL` (R392): a write that enables an item clears `CONV`, and that item's earlier results no longer count (log entry 14). -/
def assayCtlWrite (v : Word) (s : State) : Nat × State :=
  let t := s.plainWrite Reg.ASSAY_CTL v
  let old := if s.bit Reg.ASSAY_CTL Fld.ASSAY_CTL_EN then s.fld Reg.ASSAY_CTL Fld.ASSAY_CTL_ITEMS else 0
  let new := if t.bit Reg.ASSAY_CTL Fld.ASSAY_CTL_EN then t.fld Reg.ASSAY_CTL Fld.ASSAY_CTL_ITEMS else 0
  let rise := new - Nat.land new old
  if rise = 0 then (0, t.assayConv)
  else
    (0, ({ t with assay := { t.assay with passed := t.assay.passed.filter (fun (e : Nat × Nat) => !rise.testBit (e.1 / 2 ^ 14)) } }.setFld
      Reg.ASSAY_STAT Fld.ASSAY_STAT_CONV 0).assayConv)

/-- A write of a FAIL map (W1C). -/
def assayFailWrite (a : Nat) (v : Word) (s : State) : Nat × State := (0, ((s.plainWrite a v).assayAny).assayConv)

/-- A write of a network table (R389): ERR_BUSY while the direction's item runs, where it would change the word (R25); bits [31:24] of word 0 are reserved. -/
def assayNetWrite (a item : Nat) (v : Word) (s : State) : Nat × State :=
  let new := if a % 8 = 0 then v &&& 0xFFFFFF else v
  if s.assayRuns item then (if new = s.rd a then 0 else 7, s) else (0, s.wr a new)

end Sys2Proof.Machine
end

