-- ==== Sys2Proof/Machine/Monitor.lean ====
section
/-! DEFINITION. Monitor ADC (R397-R407). A sample slot is one MCLK cycle, 16 periods of TCLK. Marks and risks: log entry 40. -/
namespace Sys2Proof.Machine

/-! ## The sequencer (R400-R402) -/

/-- The slot in progress. -/
def State.monSlot (s : State) : Nat := s.tick / 16

/-- Settle slots, conversions and slots of a setting in the layout of `MON_SEQk` and `MON_URG` (R400). -/
def monSettle (cfg : Nat) : Nat := Nat.max 1 (bitsAt cfg 12 4)
def monConvs (cfg : Nat) : Nat := 2 ^ Nat.min 6 (bitsAt cfg 8 3)
def monCh (cfg : Nat) : Nat := bitsAt cfg 0 6

/-- Twice the full scale of a channel at a reference of `vref` (R397). -/
def monFull (ch rng vref : Nat) : Nat :=
  if ch < 32 then (if rng = 1 then 4 else 2) * vref else if ch < 40 then 4 * vref else if ch < 43 then 2 * vref else 5 * vref

/-- The ideal code of an input, before it is clamped (R397): microvolts, with the reference in microvolts, or millidegrees Celsius of a diode. -/
def monIdeal (ch rng vref : Nat) (v : Int) : Int :=
  if 44 ≤ ch then (16 * (v + 273150) + 1000) / 2000 else 8192 * v / (monFull ch rng vref : Nat)

/-- The raw codes of a run's conversions: the ideal codes of its inputs with the converter's deviations. -/
def monSamples (cfg vref : Nat) (inputs dev : List Int) : List Int :=
  (List.range (monConvs cfg)).map (fun i => monIdeal (monCh cfg) (bitsAt cfg 16 1) vref (inputs.getD i 0) + dev.getD i 0)

/-- The slot after the last conversion of a run. -/
def MonRun.stop (x : MonRun) : Nat := x.start + monSettle x.cfg + monConvs x.cfg

/-- Show what runs (MON_STAT). -/
def State.monShow (s : State) : State :=
  let m := s.mon
  let w := setF (s.rd Reg.MON_STAT) Fld.MON_STAT_RUN (b2n m.run.isSome)
  let urg : Bool := match m.run with | some x => x.entry.isNone | none => false
  let e : Option Nat := match m.run with | some x => x.entry.or m.resume | none => m.resume
  let w1 := setF (setF w Fld.MON_STAT_URGBUSY (b2n urg)) Fld.MON_STAT_UQDEPTH m.queue.length
  s.wr Reg.MON_STAT (match e with | some k => setF w1 Fld.MON_STAT_ENTRY k | none => w1)

def State.setMon (s : State) (m : MonSt) : State := { s with mon := m }.monShow

/-- The first entry from `k` on, up to `last`, that takes slots (R400). -/
def State.monNext (s : State) (k last : Nat) : Option Nat :=
  ((List.range (last + 1)).drop k).find? (fun j => decide (monCh (s.rd (Reg.MON_SEQ j)).toNat < 48))

/-- Start a run in a slot, after the inserted settle slot where the phase before clipped (R402). -/
def State.monStart (s : State) (entry urg : Option Nat) (cfg slot tick : Nat) : State :=
  let m := s.mon
  s.setMon { m with run := some ⟨entry, urg, cfg, slot + b2n m.insert, tick⟩, insert := false, resume := if entry.isSome then none else m.resume }

/-- Start entry `k` or the next one that takes slots; after `LAST` the pass is counted and, unless `ONESHOT` ends the sequence, a new pass begins with the
`LAST` now in force. A sequence all of whose entries are skipped runs nothing. -/
def State.monEntry (s : State) (k slot : Nat) : State :=
  match s.monNext k s.mon.last with
  | some j => s.monStart (some j) none (s.rd (Reg.MON_SEQ j)).toNat slot s.tick
  | none =>
    let s1 := s.wr Reg.MON_SEQ_CNT (s.rd Reg.MON_SEQ_CNT + 1)
    if s1.bit Reg.MON_CTL Fld.MON_CTL_ONESHOT then
      (s1.setFld Reg.MON_CTL Fld.MON_CTL_EN 0).setMon { s1.mon with run := none, resume := none }
    else
      let last := s1.fld Reg.MON_CTL Fld.MON_CTL_LAST
      let s2 := { s1 with mon := { s1.mon with last := last } }
      match s2.monNext 0 last with
      | some j => s2.monStart (some j) none (s2.rd (Reg.MON_SEQ j)).toNat slot s.tick
      | none => s2.setMon { s2.mon with run := none, resume := some 0 }

/-- The waiting request to serve: Canary's, else the oldest (R404). -/
def MonSt.pick (m : MonSt) : Option MonReq := (m.queue.find? (fun (r : MonReq) => r.req.isNone)).or m.queue.head?

/-- What runs from a slot on: a waiting request, else the abandoned or next entry (R405). -/
def State.monGo (s : State) (slot : Nat) : State :=
  let m := s.mon
  match m.pick with
  | some r =>
    let t := { s with mon := { m with queue := m.queue.erase r } }
    t.monStart none (some (r.req.getD 0)) r.cfg (Nat.max slot (r.at_ + 1)) r.tick
  | none =>
    match m.resume with
    | some k => if s.bit Reg.MON_CTL Fld.MON_CTL_EN then s.monEntry k slot else s.setMon { m with run := none, resume := none }
    | none => s.setMon { m with run := none }

/-- The code of conversions, and whether it is over range (R400, R402): raw inputs beyond [0, 4095] clip; else the mean, rounded half up, corrected. -/
def State.monCode (s : State) (samples : List Int) : Nat × Bool :=
  let n := samples.length
  if samples.any (fun x => decide (4095 < x)) then (0xFFF, true)
  else if samples.any (fun x => decide (x < 0)) then (0, true)
  else
    let mean := (2 * samples.foldl (· + ·) 0 + (n : Int)) / (2 * (n : Int))
    let tok := kvGet (fun _ => 0) s.assay.values (assayKey 7 0 0)
    ((clampI 0 4095 (if tok = 0 then mean else Config.monCorrect tok mean)).toNat, false)

/-- Whether the last conversion clipped. -/
def lastClips (samples : List Int) : Bool :=
  match samples.getLast? with
  | some x => decide (x < 0 ∨ 4095 < x)
  | none => false

/-- The conversions of the run have ended: its result enters the pipeline and the next phase begins in the slot after (R400, R402). -/
def State.monDone (s : State) (x : MonRun) (samples : List Int) : State :=
  let (code, or_) := s.monCode samples
  let stop := x.stop
  let m := s.mon
  let t := { s with mon := { m with
    run := none, insert := lastClips samples, pipe := m.pipe ++ [(⟨stop + 8, x.entry, x.urg, monCh x.cfg, code, or_⟩ : MonPipe)]
    resume := (x.entry.map (· + 1)).or m.resume } }
  t.monGo stop

/-- MON_ENTRY_DONE (R397, R400-R403): the conversions of the entry in progress have ended, with their inputs, the reference and the converter's deviations. -/
def execMonEntryDone (inputs : List Int) (vref : Nat) (dev : List Int) (s : State) : Res :=
  finish (match s.mon.run with
    | some x => if x.entry.isSome ∧ x.stop ≤ s.monSlot ∧ s.dieOn 0 then s.monDone x (monSamples x.cfg vref inputs dev) else s
    | none => s)

/-- MON_URG_DONE (R405, R406). -/
def execMonUrgDone (inputs : List Int) (vref : Nat) (dev : List Int) (s : State) : Res :=
  finish (match s.mon.run with
    | some x => if x.entry.isNone ∧ x.stop ≤ s.monSlot ∧ s.dieOn 0 then s.monDone x (monSamples x.cfg vref inputs dev) else s
    | none => s)

/-! ## Results (R403, R406) -/

/-- Nominal millivolts of the rails on channels 32-39 (R397, R500; `VREF_EXT` at its nominal 1.200 V). -/
def railMv (ch : Nat) : Nat := [750, 850, 800, 1200, 1000, 1000, 1800, 1800].getD (ch - 32) 0

/-- Whether a code of a rail, full scale 2.4 V, is more than 5 % from nominal (R438). -/
def railBad (ch code : Nat) : Bool :=
  let v := code * 2400 * 20
  let n := railMv ch * 4096 * 20
  decide (v + railMv ch * 4096 < n ∨ n + railMv ch * 4096 < v)

/-- Comparator k takes a result (R403). -/
def State.monCompare (s : State) (k code : Nat) : State :=
  let w := s.rd (Reg.MON_WIN k)
  let lo := getF w Fld.MON_WIN_LO
  let hi := getF w Fld.MON_WIN_HI
  let hys := getF w Fld.MON_WIN_HYS
  let out := s.bit (Reg.MON_RES k) Fld.MON_RES_OUT
  if getF w Fld.MON_WIN_EN = 0 then s
  else if !out ∧ (code < lo ∨ hi < code) then
    ((s.setFld (Reg.MON_RES k) Fld.MON_RES_OUT 1).setFld (Reg.MON_WIN_STAT (k / 32)) ⟨k % 32, 1⟩ 1).raise 0xB001 k
  else if out ∧ lo + hys ≤ code ∧ code + hys ≤ hi then s.setFld (Reg.MON_RES k) Fld.MON_RES_OUT 0
  else s

/-- A result is written (R400, R402, R406); one of Canary's supply check is compared (R438). -/
def State.monWrite (s : State) (p : MonPipe) : State :=
  let s1 := if p.or_ then (s.count Reg.MON_OVR_CNT).raiseLim 10 0xB002 (p.entry.getD 0xFF) else s
  match p.entry, p.urg with
  | some k, _ =>
    let w := setF (setF (setF (setF (s1.rd (Reg.MON_RES k)) Fld.MON_RES_NEW 1) Fld.MON_RES_OR (b2n p.or_)) Fld.MON_RES_CH p.ch) Fld.MON_RES_CODE p.code
    let s1 := if 40 ≤ p.ch ∧ p.ch ≤ 43 ∧ !p.or_ then { s1 with assay := { s1.assay with monAt := kvSet (fun _ => 0) s1.assay.monAt p.ch (s1.tick + 1) } } else s1
    (s1.wr (Reg.MON_RES k) w).monCompare k p.code
  | none, some 0 => if railBad p.ch p.code then s1.raiseLim 10 0x2008 p.ch else s1
  | none, id =>
    let w := setF (setF 0 Fld.MON_URG_RES_NEW 1) Fld.MON_URG_RES_OR (b2n p.or_)
    s1.wr Reg.MON_URG_RES (setF (setF (setF w Fld.MON_URG_RES_REQID (id.getD 0)) Fld.MON_URG_RES_CH p.ch) Fld.MON_URG_RES_CODE p.code)

/-- Results whose slot has come are written, with the passing of time. -/
def State.monTick (s : State) : State :=
  let due := s.mon.pipe.filter (fun (p : MonPipe) => decide (p.slot ≤ s.monSlot))
  if due.isEmpty then s
  else due.foldl State.monWrite { s with mon := { s.mon with pipe := s.mon.pipe.filter (fun (p : MonPipe) => decide (s.monSlot < p.slot)) } }

/-! ## Monitor registers -/

/-- A write of `MON_CTL` (R401). -/
def monCtlWrite (v : Word) (s : State) : Nat × State :=
  let was := s.bit Reg.MON_CTL Fld.MON_CTL_EN
  let t := s.plainWrite Reg.MON_CTL v
  let on := t.bit Reg.MON_CTL Fld.MON_CTL_EN
  let entry : Bool := match t.mon.run with | some x => x.entry.isSome | none => false
  if on ∧ !was then
    let t1 := { t with mon := { t.mon with last := t.fld Reg.MON_CTL Fld.MON_CTL_LAST, resume := some 0 } }
    (0, if t1.mon.run.isSome then t1.monShow else t1.monGo (t1.monSlot + 1))
  else if was ∧ !on then (0, t.setMon { t.mon with run := if entry then none else t.mon.run, resume := none })
  else (0, t)

/-- MON_ENABLE (R401): a write of `MON_CTL`. -/
def execMonEnable (r : Req) (v : Word) (s : State) : Res := finish (s.writeBy r Reg.MON_CTL (monCtlWrite v))

/-- A request waits behind the others, before those of one cycle with higher requester IDs (R404). -/
def monInsert (r : MonReq) : List MonReq → List MonReq
  | [] => [r]
  | x :: rest => if x.tick = r.tick ∧ r.req.getD 0 < x.req.getD 0 then r :: x :: rest else x :: monInsert r rest

/-- An accepted request preempts an entry in its settle or conversion phase (R405). A request of the same cycle with a lower ID goes before one that was to start in the
next slot (R404). -/
def State.monAccept (s : State) (req : Option Nat) (cfg : Nat) : State :=
  let m0 := s.mon
  let c := s.monSlot
  let (m, old) := match m0.run with
    | some x =>
      (match x.urg with
       | some id => if x.tick = s.tick ∧ c < x.start ∧ req.getD 0 < id then ({ m0 with run := none, insert := decide (c + 1 < x.start) }, [(⟨some id, x.cfg, c, x.tick⟩ : MonReq)]) else (m0, [])
       | none => (m0, []))
    | none => (m0, [])
  let t := { s with mon := { m with queue := monInsert ⟨req, cfg, c, s.tick⟩ (old ++ m.queue) } }
  match m.run with
  | none => t.monGo (c + 1)
  | some x =>
    match x.entry with
    | some k => if x.stop ≤ c + 1 then t.monShow else { t with mon := { t.mon with resume := some k } }.monGo (c + 1)
    | none => t.monShow

/-- A write of `MON_URG` by requester `req` (R404). -/
def monUrgWrite (req : Nat) (v : Word) (s : State) : Nat × State :=
  if getF v Fld.MON_URG_GO = 0 then (0, s)
  else if 47 < getF v Fld.MON_URG_CH ∨ 3 ≤ (s.mon.queue.filter (fun (r : MonReq) => r.req.isSome)).length then (7, s.raise 0xB004 req)
  else (0, s.monAccept (some req) v.toNat)

/-- MON_URG (R404). -/
def execMonUrg (r : Req) (v : Word) (s : State) : Res := finish (s.writeBy r Reg.MON_URG (monUrgWrite r.id v))

/-- A write of `MON_WINk`: the comparator is IN (R403). -/
def monWinWrite (k : Nat) (v : Word) (s : State) : Nat × State := (0, (s.plainWrite (Reg.MON_WIN k) v).setFld (Reg.MON_RES k) Fld.MON_RES_OUT 0)

end Sys2Proof.Machine
end

