-- ==== Sys2Proof/Machine/LodeIsa.lean ====
section
/-! DEFINITION. The Lode instruction set (R327-R352): legality of words and bundles, and what each instruction of a bundle does, given as the writes
it asks for. Fabric accesses and the end of an item are in `LodeRun`. -/
namespace Sys2Proof.Machine

/-! ## Numbers (R314-R318) -/

/-- A part held to 16 bits, with whether it saturated. -/
def sat16L (v : Int) : Int × Bool := if 32767 < v then (32767, true) else if v < -32768 then (-32768, true) else (v, false)

/-- Conversion of an exact result by a right shift (R317): rounding half up, or floor under truncation; no rounding for shift 0. -/
def conv16 (w : Int) (sh : Nat) (t : Bool) : Int × Bool :=
  sat16L (if sh = 0 then w else if t then asr w sh else asr (w + (2 ^ (sh - 1) : Nat)) sh)

/-- Headroom of a 16-bit part (R318). -/
def headroom (v : Int) : Nat :=
  let m := (if v < 0 then -v - 1 else v).toNat
  if m = 0 then 15 else 14 - Nat.log2 m

/-- Parts I0, Q0, I1, Q1, … as lanes, and back. -/
def lanesOf : List Int → List (Int × Int)
  | i :: q :: r => (i, q) :: lanesOf r
  | _ => []
def partsOf (l : List (Int × Int)) : List Int := l.flatMap (fun z => [z.1, z.2])

/-- One bit per lane for which a part is flagged. -/
def laneMask (fs : List Bool) : Nat :=
  (List.range 16).foldl (fun m l => if fs.getD (2 * l) false || fs.getD (2 * l + 1) false then m + 2 ^ l else m) 0

/-- Convert parts with one shift: values and lane mask of saturation. -/
def convParts (ws : List Int) (sh : Nat) (t : Bool) : List Int × Nat :=
  let r := ws.map (fun w => conv16 w sh t)
  (r.map (·.1), laneMask (r.map (·.2)))

/-- The 64 bytes of a vector as parts: I first in each lane, or Q first with `SW` (R335). -/
def vecOfBytes (sw : Bool) : List Byte → List Int
  | a :: b :: c :: d :: r =>
    let x := sext (leNat [a, b]) 16
    let y := sext (leNat [c, d]) 16
    (if sw then [y, x] else [x, y]) ++ vecOfBytes sw r
  | _ => []

/-- The bytes of a vector (R335). -/
def vecBytes (sw : Bool) (v : List Int) : List Byte :=
  (lanesOf v).flatMap (fun z => let (x, y) := if sw then (z.2, z.1) else z; natLE 2 (encS 16 x) ++ natLE 2 (encS 16 y))

/-! ## Core registers (R298) -/

def zeroVec : List Int := List.replicate 32 0

def LodeCore.rV (k : LodeCore) (n : Nat) : List Int := kvGet (fun _ => zeroVec) k.v n
def LodeCore.rA (k : LodeCore) (n : Nat) : List Int := kvGet (fun _ => zeroVec) k.a n
def LodeCore.rS (k : LodeCore) (n : Nat) : Nat := kvGet (fun _ => 0) k.s n
def LodeCore.rP (k : LodeCore) (n : Nat) : Nat := kvGet (fun _ => 0) k.p n
def LodeCore.rB (k : LodeCore) (n : Nat) : Nat := kvGet (fun _ => 0) k.b n
def LodeCore.rL (k : LodeCore) (n : Nat) : Nat := kvGet (fun _ => 0) k.l n
def LodeCore.rM (k : LodeCore) (n : Nat) : Int := sext (kvGet (fun _ => 0) k.m n) 24
def LodeCore.rX (k : LodeCore) (n : Nat) : Nat := kvGet (fun _ => 15) k.x n
def LodeCore.rLc (k : LodeCore) (n : Nat) : Nat := kvGet (fun _ => 0) k.lc n

/-- A scalar as a signed number. -/
def LodeCore.rSs (k : LodeCore) (n : Nat) : Int := sext (k.rS n) 32

/-- Register classes of `MOVI` and `MOVR` (R334): count and width. -/
def clsCount (c : Nat) : Nat := if c < 2 then 16 else if c < 5 then 8 else if c = 5 then 4 else 0
def clsWidth (c : Nat) : Nat := if c = 0 ∨ c = 5 then 32 else 24

/-- A register of a class, widened to 32 bits: M sign-extended, the others zero-extended (R334). -/
def LodeCore.rCls (k : LodeCore) (c n : Nat) : Nat :=
  match c with
  | 0 => k.rS n
  | 1 => k.rP n
  | 2 => k.rB n
  | 3 => k.rL n
  | 4 => encS 32 (k.rM n)
  | _ => k.rLc n

/-- What a bundle asks to write. Register classes: 0 S, 1 P, 2 B, 3 L, 4 M, 5 LC. `xmin` are BEXP updates, `st` memory bytes by key, `fab` a fabric access
(load, address, 64-bit, register, data). -/
structure LodeDelta where
  v : List (Nat × List Int) := []
  a : List (Nat × List Int) := []
  r : List (Nat × Nat × Nat) := []
  x : List (Nat × Nat) := []
  xmin : List (Nat × Nat) := []
  aov : Nat := 0
  sat : Nat := 0
  trunc : Option Bool := none
  st : List (Nat × List Byte) := []
  fab : Option (Bool × Nat × Bool × Nat × Nat) := none
  jump : Option Nat := none
  loop : Option (Nat × Nat) := none
  fin : Bool := false
  shr : Nat := 0
  cmac : Nat := 0
  deriving DecidableEq, Repr

/-- A trap code (0: none) and the writes. -/
abbrev LodeRes := Nat × LodeDelta

/-- Put together what the slots of a bundle ask for (R329). -/
def LodeDelta.join (x y : LodeDelta) : LodeDelta :=
  { v := x.v ++ y.v, a := x.a ++ y.a, r := x.r ++ y.r, x := x.x ++ y.x, xmin := x.xmin ++ y.xmin, aov := Nat.lor x.aov y.aov, sat := Nat.lor x.sat y.sat,
    trunc := y.trunc.or x.trunc, st := x.st ++ y.st, fab := y.fab.or x.fab, jump := y.jump.or x.jump, loop := y.loop.or x.loop,
    fin := x.fin || y.fin, shr := x.shr + y.shr, cmac := x.cmac + y.cmac }

/-! ## Words and bundles (R327-R333) -/

def lwE (w : Nat) : Bool := bitAt w 31
def lwOp (w : Nat) : Nat := bitsAt w 25 6

/-- The slot of an `OP` (R332): 1 M, 2 A, 3 L, 0 reserved, 4 reserved for later versions. -/
def lwSlot (op : Nat) : Nat :=
  if op = 0x01 ∨ op = 0x02 then 1
  else if 0x08 ≤ op ∧ op ≤ 0x17 then 2
  else if op = 0 ∨ (0x20 ≤ op ∧ op ≤ 0x29) ∨ (0x30 ≤ op ∧ op ≤ 0x33) then 3
  else if 0x38 ≤ op then 4 else 0

/-- The bits of [24:0] that must be 0 for an `OP` (R333). -/
def lwZeros (op : Nat) : Nat :=
  match op with
  | 0x00 | 0x33 => 0x1FFFFFF
  | 0x01 | 0x22 => 0x3F
  | 0x02 => 0xFFF
  | 0x08 | 0x09 | 0x0A | 0x0C | 0x0E => 0x3
  | 0x0D => 0x23
  | 0x0F | 0x20 | 0x21 => 0xFF
  | 0x10 | 0x11 => 0x3FFF
  | 0x12 => 0xBFFF
  | 0x13 => 0x1FF
  | 0x15 => 0x1FFFF
  | 0x16 => 0xFFF0
  | 0x17 => 0xFFFFFF
  | 0x23 => 0xF
  | 0x24 | 0x25 => 0x3FF
  | 0x26 | 0x27 => 0xFFFF
  | 0x29 => 0x7FF
  | 0x31 => 0x1FF0000
  | 0x32 => 0x30000
  | _ => 0

/-- Field values that R333 and the rules after it mark illegal. -/
def lwBadField (w : Nat) : Bool :=
  match lwOp w with
  | 0x01 => bitsAt w 9 2 == 3
  | 0x0A | 0x0B | 0x22 => bitAt w 20 || (lwOp w == 0x22 && bitsAt w 16 4 == bitsAt w 12 4 && bitsAt w 10 2 != 0)
  | 0x0C | 0x0D => if bitAt w 14 then bitsAt w 6 4 != 0 else bitsAt w 10 4 != 0
  | 0x0E =>
    let o := bitsAt w 6 4
    let p := bitsAt w 2 4
    decide (12 ≤ o) || ((o == 10 || o == 11 || decide (o < 4)) && p != 0) || (decide (6 ≤ o ∧ o ≤ 9) && decide (3 < p)) ||
      (!decide (6 ≤ o ∧ o ≤ 9) && bitsAt w 10 5 != 0)
  | 0x10 | 0x11 | 0x12 => bitAt w 21
  | 0x13 => decide (11 ≤ bitsAt w 9 4)
  | 0x14 => decide (8 ≤ bitsAt w 13 4)
  | 0x16 => decide (3 ≤ bitsAt w 22 3)
  | 0x20 | 0x21 => decide (5 ≤ bitsAt w 11 3)
  | 0x23 => decide (5 ≤ bitsAt w 9 3)
  | 0x24 | 0x25 => decide (5 ≤ bitsAt w 13 3)
  | 0x26 | 0x27 => bitAt w 16 && bitAt w 21
  | 0x28 =>
    let c := bitsAt w 18 3
    decide (clsCount c ≤ bitsAt w 21 4) || (bitAt w 17 && (if clsWidth c = 32 then bitAt w 16 else bitsAt w 8 9 != 0))
  | 0x29 => decide (clsCount (bitsAt w 18 3) ≤ bitsAt w 21 4) || decide (clsCount (bitsAt w 11 3) ≤ bitsAt w 14 4)
  | 0x30 => bitsAt w 0 12 == 0 || (bitAt w 24 && bitsAt w 12 8 != 0)
  | 0x32 => decide (6 ≤ bitsAt w 18 3)
  | _ => false

/-- The decode trap of a word: 1 ILLEGAL, 10 VERSION, 0 none (R328, R332). -/
def lwTrap (w : Nat) : Nat :=
  let sl := lwSlot (lwOp w)
  if sl = 4 then 10
  else if sl = 0 ∨ Nat.land w (lwZeros (lwOp w)) ≠ 0 ∨ lwBadField w then 1 else 0

/-- The registers a word writes, as (class, number): classes of R334, 6 V, 7 A, 8 X (R329). -/
def lwDst (w : Nat) : List (Nat × Nat) :=
  let pm := fun (am pa : Nat) => if am = 0 then [] else [(1, pa)]
  match lwOp w with
  | 0x01 => (7, bitsAt w 22 3) :: (if bitAt w 11 then [(1, bitsAt w 12 4)] else [])
  | 0x02 | 0x13 | 0x14 | 0x15 => [(0, bitsAt w 21 4)]
  | 0x08 | 0x09 | 0x0C | 0x0D | 0x0E | 0x0F => [(6, bitsAt w 20 5)]
  | 0x0A | 0x0B => [(6, bitsAt w 20 5), (6, bitsAt w 20 5 + 1)]
  | 0x10 | 0x11 | 0x12 => [(0, bitsAt w 21 4), (0, bitsAt w 21 4 + 1)]
  | 0x16 =>
    if bitsAt w 22 3 = 0 then (maskList 4 (bitsAt w 0 4)).map (fun k => (8, k))
    else if bitsAt w 22 3 = 1 then [(0, bitsAt w 18 4)] else [(8, bitsAt w 16 2)]
  | 0x20 => (6, bitsAt w 20 5) :: pm (bitsAt w 11 3) (bitsAt w 16 4)
  | 0x21 => pm (bitsAt w 11 3) (bitsAt w 16 4)
  | 0x22 => [(6, bitsAt w 20 5), (6, bitsAt w 20 5 + 1)] ++ pm (bitsAt w 10 2) (bitsAt w 16 4) ++ pm (bitsAt w 10 2) (bitsAt w 12 4)
  | 0x23 => pm (bitsAt w 9 3) (bitsAt w 18 4)
  | 0x24 => (0, bitsAt w 21 4) :: pm (bitsAt w 13 3) (bitsAt w 17 4)
  | 0x25 => pm (bitsAt w 13 3) (bitsAt w 17 4)
  | 0x26 => (0, bitsAt w 21 4) :: (if bitAt w 16 then [(0, bitsAt w 21 4 + 1)] else [])
  | 0x28 | 0x29 => [(bitsAt w 18 3, bitsAt w 21 4)]
  | _ => []

/-- The X register whose headroom a word updates, when it does. -/
def lwBexp (w : Nat) : List Nat :=
  match lwOp w with
  | 0x08 | 0x09 | 0x0A | 0x0B | 0x0C | 0x0D => if bitAt w 4 then [bitsAt w 2 2] else []
  | 0x0F => if bitAt w 10 then [bitsAt w 8 2] else []
  | _ => []

/-- No element occurs twice. -/
def nodupB {α : Type} [BEq α] : List α → Bool
  | [] => true
  | x :: xs => !xs.contains x && nodupB xs

/-- Slots rise. -/
def risingB : List Nat → Bool
  | a :: b :: r => decide (a < b) && risingB (b :: r)
  | _ => true

/-- The trap found when a bundle is decoded: the first offending word's, or ILLEGAL for the bundle (R328, R329). -/
def bundleTrap (ws : List Nat) : Nat :=
  match (ws.map lwTrap).find? (· != 0) with
  | some t => t
  | none =>
    let dst := ws.flatMap lwDst
    let ends := match ws.getLast? with | some w => lwE w | none => false
    if !ends || !risingB (ws.map (fun w => lwSlot (lwOp w))) || !nodupB dst || (ws.flatMap lwBexp).any (fun k => dst.contains (8, k)) then 1 else 0

/-- The words of the bundle at the program counter: up to and including the first with `E`, at most three (R327). -/
def bundleWords (fetch : Nat → Nat) : Nat → Nat → List Nat
  | _, 0 => []
  | a, n + 1 => let w := fetch a; if lwE w then [w] else w :: bundleWords fetch (a + 4) n

/-! ## Pointers (R336) -/

/-- Bits [k-1:0] reversed. -/
def revBits (k v : Nat) : Nat := (List.range k).foldl (fun r i => if v.testBit i then r + 2 ^ (k - 1 - i) else r) 0

/-- Circular modify of pointer `pa`. -/
def LodeCore.circ (k : LodeCore) (pa p : Nat) (m : Int) : Nat :=
  let b := k.rB (pa % 8)
  let len := k.rL (pa % 8)
  let n := (((p : Int) + m) % (2 ^ 24 : Nat)).toNat
  if len = 0 then n
  else if b + len ≤ n then n - len
  else if n < b then (n + len) % 2 ^ 24 else n

/-- The pointer after an access. -/
def LodeCore.after (k : LodeCore) (am mr pa unit : Nat) : Nat :=
  let p := k.rP pa
  let m := k.rM mr
  match am with
  | 0 => p
  | 1 => (p + unit) % 2 ^ 24
  | 2 => (((p : Int) + m) % (2 ^ 24 : Nat)).toNat
  | 3 => k.circ pa p m
  | _ =>
    let b := k.rB (pa % 8)
    let len := k.rL (pa % 8)
    let n := if len = 0 then 0 else Nat.log2 len
    let o := (p + 2 ^ 24 - b) % 2 ^ 24
    (b + revBits n ((revBits n o + revBits n (encS 24 m)) % 2 ^ n)) % 2 ^ 24

/-- The pointer write of a post-modify. -/
def LodeCore.pWrite (k : LodeCore) (am mr pa unit : Nat) : List (Nat × Nat × Nat) :=
  if am = 0 then [] else [(1, pa, k.after am mr pa unit)]

/-! ## Slot M (R339, R347) -/

/-- The part products of a lane. -/
def macLane (form : Nat) (x y : Int × Int) : Int × Int :=
  match form with
  | 0 => (x.1 * y.1 - x.2 * y.2, x.1 * y.2 + x.2 * y.1)
  | 1 => (x.1 * y.1 + x.2 * y.2, x.2 * y.1 - x.1 * y.2)
  | _ => (x.1 * y.1, x.2 * y.2)

/-- One accumulation with its saturation (R316). -/
def accPart (s : Int) : Int × Bool :=
  if 549755813887 < s then (549755813887, true) else if s < -549755813888 then (-549755813888, true) else (s, false)

/-- `VMAC` (R339); `err`: its shared line meets an uncorrectable error. -/
def lodeVmac (s : State) (k : LodeCore) (w : Nat) (err : Bool) : LodeRes :=
  let ad := bitsAt w 22 3
  let c := bitAt w 11
  let pc := bitsAt w 12 4
  let p := k.rP pc
  if c && p % 64 != 0 then (4, {})
  else if c && k.local_ then (9, {})
  else if c && err then (3, {})
  else
    let y := if c then vecOfBytes false (s.ldBytes (sharedMem + p) 64) else k.rV (bitsAt w 12 5)
    let prods := partsOf (List.zipWith (macLane (bitsAt w 9 2)) (lanesOf (k.rV (bitsAt w 17 5))) (lanesOf y))
    let prods := if bitAt w 8 then prods.map (fun z => -z) else prods
    let acc := if bitAt w 7 then zeroVec else k.rA ad
    let r := List.zipWith (fun (a z : Int) => accPart (a + (if bitAt w 6 then z else 2 * z))) acc prods
    let aov := laneMask (r.map (·.2))
    let pm := if c then [(1, pc, if bitAt w 16 then k.circ pc p 64 else (p + 64) % 2 ^ 24)] else []
    let d : LodeDelta := { a := [(ad, r.map (·.1))], aov := aov, shr := b2n c, cmac := 16, r := pm }
    (if k.trapAov && aov != 0 then 5 else 0, d)

/-- `SMUL`. -/
def lodeSmul (k : LodeCore) (w : Nat) : LodeRes :=
  let z := encS 64 (k.rSs (bitsAt w 17 4) * k.rSs (bitsAt w 13 4))
  (0, { r := [(0, bitsAt w 21 4, if bitAt w 12 then z / 2 ^ 32 else z % 2 ^ 32)] })

/-! ## Slot A (R340-R348) -/

/-- The result of a class E instruction or conversion: parts written, saturation, BEXP tag. -/
def LodeCore.vres (k : LodeCore) (vs : List (Nat × List Int)) (sat : Nat) (tag : List Nat) : LodeRes :=
  let h := vs.foldl (fun (n : Nat) z => z.2.foldl (fun (n : Nat) x => Nat.min n (headroom x)) n) 15
  (if k.trapSat && sat != 0 then 6 else 0, { v := vs, sat := sat, xmin := tag.map (fun n => (n, h)) })

/-- `VADD`, `VSUB`, `VBFLY`, `VBFLYA` (R341, R342): `sh` is the shift. -/
def lodeAddSub (k : LodeCore) (w sh : Nat) (t add sub : Bool) : LodeRes :=
  let x := k.rV (bitsAt w 15 5)
  let y := k.rV (bitsAt w 10 5)
  let vd := bitsAt w 20 5
  let p := convParts (List.zipWith (· + ·) x y) sh t
  let m := convParts (List.zipWith (· - ·) x y) sh t
  let vs := if add && sub then [(vd, p.1), (vd + 1, m.1)] else if add then [(vd, p.1)] else [(vd, m.1)]
  k.vres vs (Nat.lor (if add then p.2 else 0) (if sub then m.2 else 0)) (lwBexp w)

/-- `VSHR` and `VSHL` (R343). -/
def lodeShift (k : LodeCore) (w : Nat) (t left : Bool) : LodeRes :=
  let n := if bitAt w 14 then (clampI 0 15 (k.rSs (bitsAt w 10 4))).toNat else bitsAt w 6 4
  let x := k.rV (bitsAt w 15 5)
  let r := if left then convParts (x.map (fun z => z * (2 ^ n : Nat))) 0 false else convParts x n t
  k.vres [(bitsAt w 20 5, r.1)] r.2 (lwBexp w)

/-- A negated part, saturated. -/
def negPart (v : Int) : Int × Bool := sat16L (-v)

/-- `VPERM` (R344). -/
def lodePerm (k : LodeCore) (w : Nat) : LodeRes :=
  let x := lanesOf (k.rV (bitsAt w 15 5))
  let c := x ++ lanesOf (k.rV (bitsAt w 10 5))
  let g := 2 ^ bitsAt w 2 4
  let pick := fun (f : Nat → Nat) (l : List (Int × Int)) => (List.range 16).map (fun i => l.getD (f i) (0, 0))
  let out := fun (l : List (Int × Int)) (sat : Nat) => k.vres [(bitsAt w 20 5, partsOf l)] sat []
  let zip := fun (off : Nat) => pick (fun i =>
    let j := off + i
    let r := j % (2 * g)
    if r < g then j / (2 * g) * g + r else 16 + j / (2 * g) * g + (r - g)) c
  match bitsAt w 6 4 with
  | 0 => out (x.map (fun z => (z.1, (negPart z.2).1))) (laneMask (x.flatMap (fun z => [false, (negPart z.2).2])))
  | 1 => out (x.map (fun z => (z.2, (negPart z.1).1))) (laneMask (x.flatMap (fun z => [false, (negPart z.1).2])))
  | 2 => out (x.map (fun z => ((negPart z.2).1, z.1))) (laneMask (x.flatMap (fun z => [(negPart z.2).2, false])))
  | 3 => out (x.map (fun z => (z.2, z.1))) 0
  | 4 => out (pick (fun _ => bitsAt w 2 4) x) 0
  | 5 => out (pick (fun i => (i + bitsAt w 2 4) % 16) x) 0
  | 6 => out (pick (fun i => i / g * (2 * g) + i % g) c) 0
  | 7 => out (pick (fun i => i / g * (2 * g) + g + i % g) c) 0
  | 8 => out (zip 0) 0
  | 9 => out (zip 16) 0
  | 10 => out (pick (revBits 4) x) 0
  | _ => out x 0

/-- Every part of an accumulator converted with store shift k = `K` − 8 (R317): shift 8 + `K`. -/
def LodeCore.store (k : LodeCore) (as_ kf : Nat) (t : Bool) : List Int × Nat := convParts (k.rA as_) (8 + kf) t

/-- `ACCV` (R340). -/
def lodeAccv (k : LodeCore) (w : Nat) (t : Bool) : LodeRes :=
  let r := k.store (bitsAt w 17 3) (bitsAt w 12 5) t
  k.vres [(bitsAt w 20 5, r.1)] r.2 (lwBexp w)

/-- The search of `VMAXI`, `VMINI`, `VMAXAI` over (key, index) candidates (R345). -/
def searchBest (isMin : Bool) (l : List (Int × Nat)) : Int × Nat :=
  match l with
  | [] => (0, 0)
  | x :: xs => xs.foldl (fun (b : Int × Nat) z => if (if isMin then z.1 < b.1 else b.1 < z.1) then z else b) x

/-- The innermost active loop count, 0 if none. -/
def LodeCore.lcInner (k : LodeCore) : Nat := if k.loops.isEmpty then 0 else k.rLc (k.loops.length - 1)

/-- `VMAXI`, `VMINI`, `VMAXAI` (R345). -/
def lodeSearch (k : LodeCore) (w : Nat) : LodeRes :=
  let op := lwOp w
  let vx := k.rV (bitsAt w 16 5)
  let cand := (List.range 32).filter (fun i => op == 0x12 || i % 2 == bitsAt w 15 1)
  let keys := cand.map (fun i =>
    let v := vx.getD i 0
    ((if op = 0x12 ∧ v < 0 then -v - 1 else v : Int), i % 2 * 16 + i / 2))
  let (best, idx) := searchBest (op == 0x11) keys
  let sd := bitsAt w 21 4
  let old := k.rSs sd
  let better : Bool := if op = 0x11 then decide (best < old) else decide (old < best)
  if !bitAt w 14 || better then (0, { r := [(0, sd, encS 32 best), (0, sd + 1, k.lcInner % 2 ^ 24 * 256 + idx)] }) else (0, {})

/-- Scalar operations by `SALU` number (R347). -/
def saluOp (fn a b : Nat) : Nat :=
  let sa := sext a 32
  let sb := sext b 32
  let n := b % 32
  match fn with
  | 0 => (a + b) % 2 ^ 32
  | 1 => encS 32 (sa - sb)
  | 2 => Nat.land a b
  | 3 => Nat.lor a b
  | 4 => Nat.xor a b
  | 5 => a * 2 ^ n % 2 ^ 32
  | 6 => encS 32 (asr sa n)
  | 7 => a / 2 ^ n
  | 8 => if sb < sa then b else a
  | 9 => if sa < sb then b else a
  | _ => b2n (decide (sa < sb))

/-- `SALUI` numbers its operations otherwise (R347). -/
def saluiFn (fn : Nat) : Nat := [0, 2, 3, 4, 5, 6, 7, 10].getD fn 10

/-- The instruction of slot A. -/
def lodeSlotA (k : LodeCore) (w : Nat) (cfgT : Bool) : LodeRes :=
  let t5 := bitAt w 5 || cfgT
  let sh := bitsAt w 6 4
  match lwOp w with
  | 0x08 => lodeAddSub k w sh t5 true false
  | 0x09 => lodeAddSub k w sh t5 false true
  | 0x0A => lodeAddSub k w sh t5 true true
  | 0x0B => lodeAddSub k w (sh - k.rX (bitsAt w 0 2)) t5 true true
  | 0x0C => lodeShift k w t5 false
  | 0x0D => lodeShift k w t5 true
  | 0x0E => lodePerm k w
  | 0x0F => lodeAccv k w (bitAt w 11 || cfgT)
  | 0x10 | 0x11 | 0x12 => lodeSearch k w
  | 0x13 => (0, { r := [(0, bitsAt w 21 4, saluOp (bitsAt w 9 4) (k.rS (bitsAt w 17 4)) (k.rS (bitsAt w 13 4)))] })
  | 0x14 => (0, { r := [(0, bitsAt w 21 4, saluOp (saluiFn (bitsAt w 13 4)) (k.rS (bitsAt w 17 4)) (encS 32 (sext (bitsAt w 0 13) 13)))] })
  | 0x15 => (0, { r := [(0, bitsAt w 21 4, headroom (sext (k.rS (bitsAt w 17 4)) 16))] })
  | 0x16 =>
    (match bitsAt w 22 3 with
     | 0 => (0, { x := (maskList 4 (bitsAt w 0 4)).map (fun i => (i, 15)) })
     | 1 => (0, { r := [(0, bitsAt w 18 4, k.rX (bitsAt w 16 2))] })
     | _ => (0, { x := [(bitsAt w 16 2, (clampI 0 15 (k.rSs (bitsAt w 18 4))).toNat)] }))
  | _ => (0, { trunc := some (bitAt w 24) })

/-! ## Slot L (R334-R340, R349, R350) -/

/-- The key of a local address of a core (R300), and of a shared one. -/
def lodeKey (c : Nat) (shared : Bool) (a : Nat) : Nat := if shared then sharedMem + a else coreMem c + 0x20000 + a

/-- The trap of a memory access of `unit` bytes (R335). -/
def LodeCore.memTrap (k : LodeCore) (sp : Bool) (a unit : Nat) (err : Bool) : Nat :=
  if a % unit ≠ 0 ∨ (!sp ∧ 0x40000 ≤ a) then 4 else if sp && k.local_ then 9 else if sp && err then 3 else 0

/-- Whether a context may reach a fabric address (R313, R495). -/
def State.lodeMay (s : State) (c : Nat) (k : LodeCore) (a : Nat) (load : Bool) : Bool :=
  let bank := (a - Reg.PMU_CNT 0 0) / 0x100
  let cnt := decide (Reg.PMU_CNT 0 0 ≤ a ∧ a < Reg.PMU_CNT 46 0) &&
    (decide ((a - Reg.PMU_CNT bank 0) < 0x20) || decide (Reg.PMU_SNAP bank 0 ≤ a ∧ a < Reg.PMU_SNAP bank 0 + 0x20))
  k.sup || decide (0x40000 ≤ a ∧ a < 0x50000) || decide (0x400000 ≤ a ∧ a < 0x600000) || decide (0x700000 ≤ a ∧ a < 0x780000) ||
    decide (0x10000000 ≤ a ∧ a < 0x11000000) || decide (0x20000000 ≤ a ∧ a < 0x28000000) ||
    (load && cnt && ((s.rd64 Reg.PMU_USER).testBit bank || (s.bit Reg.PMU_CTL Fld.PMU_CTL_UOWN && bank == c)))

/-- `FLD` and `FST` up to the access (R338). -/
def lodeFabric (s : State) (c : Nat) (k : LodeCore) (w : Nat) : LodeRes :=
  let a := k.rS (bitsAt w 17 4)
  let w64 := bitAt w 16
  let load := lwOp w == 0x26
  let r := bitsAt w 21 4
  if a % (if w64 then 8 else 4) ≠ 0 then (4, {})
  else if !s.lodeMay c k a load then (2, {})
  else (0, { fab := some (load, a, w64, r, k.rS r + (if w64 then 2 ^ 32 * k.rS (r + 1) else 0)) })

/-- `MOVI` (R334). -/
def lodeMovi (k : LodeCore) (w : Nat) : LodeRes :=
  let c := bitsAt w 18 3
  let n := bitsAt w 21 4
  let imm := bitsAt w 0 17
  let wd := clsWidth c
  (0, { r := [(c, n, if bitAt w 17 then k.rCls c n % 2 ^ 16 + imm * 2 ^ 16 else encS wd (sext imm 17))] })

/-- `LOOP` at address `pc` (R349). -/
def lodeLoop (k : LodeCore) (w pc : Nat) : LodeRes :=
  let n := if bitAt w 24 then k.rS (bitsAt w 20 4) else bitsAt w 12 12
  let e := pc + 4 * bitsAt w 0 12
  let past : Bool := match k.loops.getLast? with | some l => decide (l.end_ < e) | none => false
  if k.loops.length = 4 ∨ past then (7, {})
  else if n = 0 then (0, { jump := some (e + 4) })
  else (0, { loop := some (n, e) })

/-- Whether the condition of a `BRC` holds (R350). -/
def lodeCond (cond : Nat) (v : Int) : Bool :=
  match cond with
  | 0 => decide (v = 0)
  | 1 => decide (v ≠ 0)
  | 2 => decide (v < 0)
  | 3 => decide (0 ≤ v)
  | 4 => decide (0 < v)
  | _ => decide (v ≤ 0)

/-- A branch target. -/
def lodeTarget (w pc : Nat) : Nat := (((pc : Int) + 4 * sext (bitsAt w 0 16) 16) % (2 ^ 24 : Nat)).toNat

/-- The instruction of slot L at address `pc`; `err`: its shared access meets an uncorrectable error. -/
def lodeSlotL (s : State) (c : Nat) (k : LodeCore) (w pc : Nat) (cfgT err : Bool) : LodeRes :=
  match lwOp w with
  | 0x20 =>
    let pa := bitsAt w 16 4
    let sp := bitAt w 15
    let p := k.rP pa
    (k.memTrap sp p 64 err,
      { v := [(bitsAt w 20 5, vecOfBytes (bitAt w 14) (s.ldBytes (lodeKey c sp p) 64))], r := k.pWrite (bitsAt w 11 3) (bitsAt w 8 3) pa 64, shr := b2n sp })
  | 0x21 =>
    let pa := bitsAt w 16 4
    let sp := bitAt w 15
    let p := k.rP pa
    (k.memTrap sp p 64 err,
      { st := [(lodeKey c sp p, vecBytes (bitAt w 14) (k.rV (bitsAt w 20 5)))], r := k.pWrite (bitsAt w 11 3) (bitsAt w 8 3) pa 64, shr := b2n sp })
  | 0x22 =>
    let pa := bitsAt w 16 4
    let pb := bitsAt w 12 4
    let x := k.rP pa % 2 ^ 17
    let y := k.rP pb % 2 ^ 17
    let vd := bitsAt w 20 5
    let am := bitsAt w 10 2
    let mr := bitsAt w 7 3
    (if x % 64 = 0 ∧ y % 64 = 0 then 0 else 4,
      { v := [(vd, vecOfBytes (bitAt w 6) (s.ldBytes (lodeKey c false x) 64)), (vd + 1, vecOfBytes (bitAt w 6) (s.ldBytes (lodeKey c false (0x20000 + y)) 64))],
        r := k.pWrite am mr pa 64 ++ k.pWrite am mr pb 64 })
  | 0x23 =>
    let pa := bitsAt w 18 4
    let sp := bitAt w 17
    let p := k.rP pa
    let v := k.store (bitsAt w 22 3) (bitsAt w 12 5) (bitAt w 5 || cfgT)
    let m := k.memTrap sp p 64 err
    (if m ≠ 0 then m else if k.trapSat && v.2 != 0 then 6 else 0,
      { st := [(lodeKey c sp p, vecBytes (bitAt w 4) v.1)], sat := if m ≠ 0 then 0 else v.2, r := k.pWrite (bitsAt w 9 3) (bitsAt w 6 3) pa 64, shr := b2n sp })
  | 0x24 =>
    let pa := bitsAt w 17 4
    let sp := bitAt w 16
    let p := k.rP pa
    (k.memTrap sp p 4 err,
      { r := (0, bitsAt w 21 4, s.ldN (lodeKey c sp p) 4) :: k.pWrite (bitsAt w 13 3) (bitsAt w 10 3) pa 4, shr := b2n sp })
  | 0x25 =>
    let pa := bitsAt w 17 4
    let sp := bitAt w 16
    let p := k.rP pa
    (k.memTrap sp p 4 err,
      { st := [(lodeKey c sp p, natLE 4 (k.rS (bitsAt w 21 4)))], r := k.pWrite (bitsAt w 13 3) (bitsAt w 10 3) pa 4, shr := b2n sp })
  | 0x26 => lodeFabric s c k w
  | 0x27 => lodeFabric s c k w
  | 0x28 => lodeMovi k w
  | 0x29 => (0, { r := [(bitsAt w 18 3, bitsAt w 21 4, k.rCls (bitsAt w 11 3) (bitsAt w 14 4) % 2 ^ clsWidth (bitsAt w 18 3))] })
  | 0x30 => lodeLoop k w pc
  | 0x31 => (0, { jump := some (lodeTarget w pc) })
  | 0x32 => (0, if lodeCond (bitsAt w 18 3) (k.rSs (bitsAt w 21 4)) then { jump := some (lodeTarget w pc) } else {})
  | 0x33 => (0, { fin := true })
  | _ => (0, {})

/-! ## A bundle (R329, R331, R349) -/

/-- Apply the register writes of a bundle. -/
def LodeCore.apply (k : LodeCore) (d : LodeDelta) : LodeCore :=
  let put := fun (k : LodeCore) (z : Nat × Nat × Nat) =>
    match z.1 with
    | 0 => { k with s := kvSet (fun _ => 0) k.s z.2.1 z.2.2 }
    | 1 => { k with p := kvSet (fun _ => 0) k.p z.2.1 z.2.2 }
    | 2 => { k with b := kvSet (fun _ => 0) k.b z.2.1 z.2.2 }
    | 3 => { k with l := kvSet (fun _ => 0) k.l z.2.1 z.2.2 }
    | 4 => { k with m := kvSet (fun _ => 0) k.m z.2.1 z.2.2 }
    | _ => { k with lc := kvSet (fun _ => 0) k.lc z.2.1 z.2.2 }
  let k1 := d.r.foldl put k
  let k2 := d.v.foldl (fun (k : LodeCore) z => { k with v := kvSet (fun _ => zeroVec) k.v z.1 z.2 }) k1
  let k3 := d.a.foldl (fun (k : LodeCore) z => { k with a := kvSet (fun _ => zeroVec) k.a z.1 z.2 }) k2
  let setX := fun (k : LodeCore) (n v : Nat) => { k with x := kvSet (fun _ => 15) k.x n v }
  let k4 := d.x.foldl (fun (k : LodeCore) z => setX k z.1 z.2) k3
  d.xmin.foldl (fun (k : LodeCore) z => setX k z.1 (Nat.min (k.rX z.1) z.2)) k4

/-- The levels that a jump leaves end, with their counters 0 (R350). -/
def LodeCore.leave (k : LodeCore) (target : Nat) : LodeCore :=
  let keep := k.loops.takeWhile (fun l => decide (l.start ≤ target ∧ target ≤ l.end_))
  let gone := (List.range k.loops.length).drop keep.length
  { k with loops := keep, lc := gone.foldl (fun m d => kvSet (fun _ => 0) m d 0) k.lc }

/-- The tests at a bundle's end, innermost level first: the levels left, the counters and the next address (R349). -/
def loopEnds (last next : Nat) : List (Nat × LoopLvl) → List (Nat × Nat) → List (Nat × Nat) × Nat × Nat
  | [], lc => (lc, 0, next)
  | (d, l) :: rest, lc =>
    if l.end_ ≠ last then (lc, d + 1, next)
    else
      let n := kvGet (fun _ => 0) lc d
      if 1 < n then (kvSet (fun _ => 0) lc d (n - 1), d + 1, l.start)
      else loopEnds last next rest (kvSet (fun _ => 0) lc d 0)

/-- Where the core goes on after a bundle of `n` words at `k.pc` (R349, R350). -/
def LodeCore.goOn (k : LodeCore) (d : LodeDelta) (n : Nat) : LodeCore :=
  let last := k.pc + 4 * (n - 1)
  let next := (k.pc + 4 * n) % 2 ^ 24
  match d.jump, d.loop with
  | some t, _ => { k.leave (t % 2 ^ 24) with pc := t % 2 ^ 24 }
  | none, some (c, e) =>
    { k with loops := k.loops ++ [⟨next, e⟩], lc := kvSet (fun _ => 0) k.lc k.loops.length c, pc := next }
  | none, none =>
    let lv := ((List.range k.loops.length).zip k.loops).reverse
    let (lc, depth, pc) := loopEnds last next lv k.lc
    { k with loops := k.loops.take depth, lc := lc, pc := pc }

/-- What a bundle asks for: its trap code (0 for none) and its writes. `err` names an uncorrectable error of shared memory met by the C operand (1)
or by the access of slot L (2). Traps of slot M come first, then slot A, then slot L (R331). -/
def lodeBundle (s : State) (c : Nat) (k : LodeCore) (ws : List Nat) (cfgT : Bool) (err : Nat) : LodeRes :=
  let addr := fun (i : Nat) => k.pc + 4 * i
  let res := ((List.range ws.length).zip ws).map (fun (iw : Nat × Nat) =>
    let w := iw.2
    if lwSlot (lwOp w) = 1 then (if lwOp w = 0x01 then lodeVmac s k w (err == 1) else lodeSmul k w)
    else if lwSlot (lwOp w) = 2 then lodeSlotA k w cfgT
    else lodeSlotL s c k w (addr iw.1) cfgT (err == 2))
  match res.find? (fun (r : LodeRes) => r.1 != 0) with
  | some r => (r.1, { aov := if r.1 = 5 then r.2.aov else 0, sat := if r.1 = 6 then r.2.sat else 0 })
  | none =>
    let d := (res.map (fun (r : LodeRes) => r.2)).foldl LodeDelta.join {}
    let lastA := addr (ws.length - 1)
    if k.loops.any (fun l => decide (k.pc ≤ l.end_ ∧ l.end_ < lastA)) then (7, {}) else (0, d)

end Sys2Proof.Machine
end

