-- ==== Sys2Proof/Machine/Lode.lean ====
section
/-! DEFINITION. The Lode cluster (R298-R326): work queues, items, traps and item ends, core faults and relief, the arbiters of the shared memory. Marks and risks: log entries 27, 28. -/
namespace Sys2Proof.Machine

/-! ## Cores -/

/-- The record of a core. -/
def State.core (s : State) (c : Nat) : LodeCore := kvGet (fun _ => {}) s.cores c
def State.setCore (s : State) (c : Nat) (k : LodeCore) : State := { s with cores := kvSet (fun _ => {}) s.cores c k }

/-- State code and logical number of a core. -/
def State.coreState (s : State) (c : Nat) : Nat := s.fld (Reg.LODE_CORE_STAT c) Fld.LODE_CORE_STAT_STATE
def State.coreLogical (s : State) (c : Nat) : Nat := s.fld (Reg.LODE_CORE_STAT c) Fld.LODE_CORE_STAT_LOGICAL
def State.setCoreState (s : State) (c st : Nat) : State := s.setFld (Reg.LODE_CORE_STAT c) Fld.LODE_CORE_STAT_STATE st

/-- The cluster runs. -/
def State.vclk (s : State) : Bool := s.clkOn Fld.SYS_CLK_STATUS_VCLK

/-- The cluster cycle count (LODE_CYC). -/
def State.lodeCyc (s : State) : Nat := s.rd64 Reg.LODE_CYC

/-- Cluster cycles pass with one TCLK period: 20, 10 or 5 sixteenths by `CLKDIV` (R326); running cores are busy (R486), and their
slots that no bundle or branch takes are held back (R487). -/
def State.lodeTick (s : State) : State :=
  if !s.vclk then s
  else
    let f := s.lode.cycFrac + 20 / 2 ^ s.fld Reg.LODE_CL_STAT Fld.LODE_CL_STAT_CLKDIV
    let n := f / 16
    let t := { s with lode := { s.lode with cycFrac := f % 16 } }.wr64 Reg.LODE_CYC ((s.lodeCyc + n) % 2 ^ 64)
    t.cores.foldl (fun (u : State) (c : Nat × LodeCore) =>
      if c.2.running then
        let took := Nat.min c.2.slots (3 * n)
        ((u.setCore c.1 { c.2 with slots := c.2.slots - took }).pmuCount c.1 0x01 n).pmuCount c.1 0x05 (3 * n - took)
      else u) t

/-- The number of items of a queue that run (LODE_WQ_STAT). -/
def State.addRunning (s : State) (q : Nat) (up : Bool) : State :=
  let n := s.fld (Reg.LODE_WQ_STAT q) Fld.LODE_WQ_STAT_RUNNING
  s.setFld (Reg.LODE_WQ_STAT q) Fld.LODE_WQ_STAT_RUNNING (if up then n + 1 else n - 1)

/-! ## Queues (R308) -/

/-- A write of `LODE_WQ_PUSHq`: argument 0; ERR_BUSY when the queue is full. -/
def wqPushWrite (q req : Nat) (v : Word) (s : State) : Nat × State :=
  let (ok, t) := s.wqPush q (getF v Fld.LODE_WQ_PUSH_ADDR) 0 req
  (if ok then 0 else 7, t)

/-- LODE_WQ_PUSH (R308). -/
def execLodeWqPush (r : Req) (q : Fin 8) (v : Word) (s : State) : Res :=
  finish (s.writeBy r (Reg.LODE_WQ_PUSH q) (wqPushWrite q r.id v))

/-! ## Pulling an item (R309, R311) -/

/-- The queue an idle core would pull from: the lowest-numbered non-empty one in its `QMASK`. -/
def State.pullsFrom (s : State) (c : Nat) : Option Nat :=
  if s.coreState c == 0 && s.bit (Reg.LODE_CORE_CTL c) Fld.LODE_CORE_CTL_EN && s.coreLogical c != 0x3F && s.lode.retiring != some c then
    (maskList 8 (s.fld (Reg.LODE_CORE_CTL c) Fld.LODE_CORE_CTL_QMASK)).find? (fun q => !(s.wq q).isEmpty)
  else none

/-- A word of a descriptor (R310). -/
def State.descWord (s : State) (d k : Nat) : Nat := s.ldN (sharedMem + d + 4 * k) 4

/-- The status with which a descriptor is refused: 3 BADDESC, 4 VERSION (R311). -/
def State.descBad (s : State) (d : Nat) : Option Nat :=
  let w0 := s.descWord d 0
  let w1 := s.descWord d 1
  if bitsAt w0 16 16 ≠ 0x4B44 ∨ bitsAt w0 0 4 ≠ 0 ∨ bitsAt w1 24 8 ≠ 0 ∨ w1 % 4 ≠ 0 then some 3
  else if s.fld Reg.LODE_ISAVER Fld.LODE_ISAVER_VER < bitsAt w0 8 8 then some 4 else none

/-- ITEM_PULL (R309, R311): core `c` takes the oldest item of its queue unless a lower-numbered idle core could take it; the descriptor is checked, then
the core is cleared and loaded. A refused item ends with its status (`ITEM_COMPLETE` writes it) and event 0x9006. -/
def execItemPull (c : Fin 34) (s : State) : Res :=
  finish (if !s.vclk then s
    else
      match s.pullsFrom c with
      | none => s
      | some q =>
        match s.wq q with
        | [] => s
        | it :: rest =>
          if (List.range c).any (fun d => s.pullsFrom d == some q) then s
          else
            let d := it.desc / 64 * 64
            let w0 := s.descWord d 0
            let sup := bitAt w0 7
            let loc := bitAt w0 6
            let st := s.rd (Reg.LODE_CORE_STAT c)
            let st1 := setF (setF st Fld.LODE_CORE_STAT_STATE 1) Fld.LODE_CORE_STAT_QUEUE q
            let s1 := ((s.setWq q rest).addRunning q true).wr (Reg.LODE_ITEM c) (BitVec.ofNat 32 d)
            match s.descBad d with
            | some code =>
              let k : LodeCore := { s.core c with running := true, queue := q, item := some it, desc := d, rerun := false, startCyc := s.lodeCyc, ended := some (code, 0), busErr := false }
              ((s1.wr (Reg.LODE_CORE_STAT c) st1).setCore c k).raiseLim 10 0x9006 q
            | none =>
              let entry := s.descWord d 1 % 2 ^ 24
              let tr := s.rd (Reg.LODE_TRAP c)
              let k : LodeCore := { running := true, queue := q, item := some it, desc := d, sup := sup, local_ := loc, rerun := bitAt w0 4, wdog := s.descWord d 2, startCyc := s.lodeCyc, pc := entry, lastPc := entry, p := if d = 0 then [] else [(0, d)], trapAov := getF tr Fld.LODE_TRAP_AOV == 1, trapSat := getF tr Fld.LODE_TRAP_SAT == 1 }
              let put := fun (k : LodeCore) (n v : Nat) => { k with s := kvSet (fun _ => 0) k.s n v }
              let k1 := put (put (put (put k 0 (it.arg % 2 ^ 32)) 1 (it.arg / 2 ^ 32)) 2 (s.coreLogical c)) 3 q
              let st2 := setF (setF st1 Fld.LODE_CORE_STAT_SUP (b2n sup)) Fld.LODE_CORE_STAT_LOCAL (b2n loc)
              ((((s1.wr (Reg.LODE_CORE_STAT c) st2).setCore c k1).wr (Reg.LODE_STICKY c) 0).wr (Reg.LODE_CFG c) (BitVec.ofNat 32 (b2n (bitAt w0 5)))).wr
                (Reg.LODE_CORE_PC c) (BitVec.ofNat 32 entry))

/-! ## Traps and the end of an item (R312, R320, R321) -/

/-- A core's requests leave every bank's queue (R307). -/
def State.withdraw (s : State) (req : Nat) : State :=
  { s with lode := { s.lode with banks := s.lode.banks.map (fun (b : Nat × BankArb) =>
      (b.1, { b.2 with waiting := b.2.waiting.filter (fun r => r.1 != 256 + req) })) } }

/-- A trap ends the item (R321): its code in `LODE_TRAP.LAST`, event 0x9001 at most once per core per 10 ms. `pc` is the address reported. -/
def State.lodeTrap (s : State) (c code pc : Nat) : State :=
  let k := s.core c
  let t := (s.setFld (Reg.LODE_TRAP c) Fld.LODE_TRAP_LAST code).setCore c { k with ended := some (1, code), lastPc := pc, busErr := false }
  (((t.withdraw (16 + c)).wr (Reg.LODE_CORE_PC c) (BitVec.ofNat 32 pc)).pmuCount c 0x0A).raiseLim 10 0x9001 c

/-- Whether a core's item runs and has not ended. -/
def State.itemRuns (s : State) (c : Nat) : Bool := s.vclk && (s.core c).running && (s.core c).ended.isNone

/-- Whether the item's `WDOG` limit is reached (R310). -/
def State.wdogDue (s : State) (c : Nat) : Bool :=
  let k := s.core c
  k.wdog != 0 && decide (k.startCyc + 1024 * k.wdog ≤ s.lodeCyc)

/-- WDOG (R321): trap code 8, before the next bundle. -/
def execWdog (c : Fin 34) (s : State) : Res :=
  finish (if s.itemRuns c && s.wdogDue c then s.lodeTrap c 8 (s.core c).pc else s)

/-- The completion words of an item, word 4 last (R310, R312), then the flags of source 0x20 + q and the finish count; locks of the core are freed (R379).
An item that never ran has no instruction at its end: its `PC` is a free value (log entry 2). -/
def State.lodeComplete (s : State) (c status tcode : Nat) : State :=
  let k := s.core c
  let q := k.queue
  let (pcv, s0) := if 3 ≤ status then (let (v, t) := s.takeFree; (v % 2 ^ 24, t)) else (k.lastPc, s)
  let a := sharedMem + k.desc
  let sticky := if 3 ≤ status then 0 else (s0.rd (Reg.LODE_STICKY c)).toNat
  let cyc := s0.lodeCyc - k.startCyc
  let s1 := ((s0.stN (a + 12) 4 sticky).stN (a + 20) 4 pcv).stN (a + 24) 8 cyc
  let s2 := s1.stN (a + 16) 4 (2 ^ 31 + status * 65536 + tcode * 256 + c)
  let s3 := ((s2.evSource (0x20 + q)).count (Reg.LODE_WQ_DONE_CNT q)).pmuCount c 0x09
  (s3.addRunning q false).ownerLost (16 + c) 2

/-- The core has no item any more. -/
def State.coreFree (s : State) (c : Nat) : State :=
  let k := s.core c
  let st := setF (setF (s.rd (Reg.LODE_CORE_STAT c)) Fld.LODE_CORE_STAT_SUP 0) Fld.LODE_CORE_STAT_LOCAL 0
  (s.wr (Reg.LODE_CORE_STAT c) st).setCore c { k with running := false, item := none, ended := none, loops := [], busErr := false }

/-- `ACTIVE` and `SPARES` as the map and the core states have them. -/
def State.clStat (s : State) : State :=
  let act := ((List.range 32).filter (fun l => bitsAt (s.rd (Reg.LODE_MAP (l / 4))).toNat (8 * (l % 4)) 6 != 0x3F)).length
  let sp := ((List.range 34).filter (fun c => s.coreState c == 5)).length
  s.wr Reg.LODE_CL_STAT (setF (setF (s.rd Reg.LODE_CL_STAT) Fld.LODE_CL_STAT_ACTIVE act) Fld.LODE_CL_STAT_SPARES sp)

/-- The relief core to use: the lowest-numbered spare (log entry 12). -/
def State.spareCore (s : State) : Option Nat := (List.range 34).find? (fun c => s.coreState c == 5)

/-- The graceful retirement has its core idle: the copy of IMEM to a relief core begins (R323). -/
def State.beginCopy (s : State) : State :=
  match s.spareCore with
  | some r => ({ s with lode := { s.lode with copy := some (r, s.lodeCyc) } }.setCoreState r 6).clStat
  | none => s

/-- ITEM_COMPLETE (R312): every write has taken effect or been refused; a posted write refused since turns the end into a BUS trap (R338). -/
def execItemComplete (c : Fin 34) (s : State) : Res :=
  let k := s.core c
  finish (if !s.vclk then s
    else
      match k.ended with
      | none => s
      | some (st, code) =>
        let s0 := if k.busErr && st == 0 then s.lodeTrap c 3 k.lastPc else s
        let (st, code) := if k.busErr && st == 0 then (1, 3) else (st, code)
        let t := (s0.lodeComplete c st code).coreFree c
        if t.lode.retiring = some c.val then t.beginCopy
        else t.setCoreState c (if t.bit (Reg.LODE_CORE_CTL c) Fld.LODE_CORE_CTL_EN then 0 else 2))

/-! ## Relief (R322-R325) -/

/-- Core `c` is retired and relief core `r`, if any, takes its logical number, `QMASK`, `EN` and `LODE_TRAP` (R323): new map, event 0x9004. -/
def State.takeCore (s : State) (c : Nat) (r : Option Nat) : State :=
  let l := s.coreLogical c
  let mapF : Field := ⟨8 * (l % 4), 6⟩
  let s1 := if l = 0x3F then s else s.setFld (Reg.LODE_MAP (l / 4)) mapF (r.getD 0x3F)
  let s2 := (s1.setCoreState c 4).setFld (Reg.LODE_CORE_STAT c) Fld.LODE_CORE_STAT_LOGICAL 0x3F
  let s3 := match r with
    | none => s2
    | some r =>
      let ctl := s.rd (Reg.LODE_CORE_CTL c)
      let tr := s.rd (Reg.LODE_TRAP c)
      let w := setF (setF (s2.rd (Reg.LODE_TRAP r)) Fld.LODE_TRAP_AOV (getF tr Fld.LODE_TRAP_AOV)) Fld.LODE_TRAP_SAT (getF tr Fld.LODE_TRAP_SAT)
      let t := ((s2.wr (Reg.LODE_CORE_CTL r) ctl).wr (Reg.LODE_TRAP r) w).setFld (Reg.LODE_CORE_STAT r) Fld.LODE_CORE_STAT_LOGICAL l
      t.setCoreState r (if getF ctl Fld.LODE_CORE_CTL_EN = 1 then 0 else 2)
  s3.clStat.raise 0x9004 c

/-- The graceful retirement is over. -/
def State.endRetire (s : State) : State :=
  { s with lode := { s.lode with retiring := none, copy := none } }.setFld Reg.LODE_RELIEF Fld.LODE_RELIEF_BUSY 0

/-- CORE_FAULT (R322, R324): the core is retired at once. A running item whose descriptor allows it is pushed back to the head of its queue if the
reserve of 4 entries has room and it has not been run before; else it completes with status FAULT. A relief core, if one is left, takes over with an IMEM of zeros. -/
def execCoreFault (c : Fin 34) (s : State) : Res :=
  let st := s.coreState c
  finish (if !s.vclk ∨ st = 4 then s
    else
      let k := s.core c
      let s0 := (s.raise 0x9003 c).withdraw (16 + c)
      let s1 := match k.item with
        | some it =>
          if !k.running then s0
          else if k.rerun && !it.rerun && decide (((s0.wq k.queue).filter (fun (y : WorkItem) => y.rerun)).length < 4) && k.ended.isNone then
            ((s0.setWq k.queue ({ it with rerun := true } :: s0.wq k.queue)).addRunning k.queue false).ownerLost (16 + c) 2
          else
            (match k.ended with
             | some (a, b) => s0.lodeComplete c a b
             | none => (s0.pmuCount c 0x0A).lodeComplete c 2 0)
        | none => s0.ownerLost (16 + c) 2
      let s2 := s1.coreFree c
      let copying := s2.lode.copy.map (fun (y : Nat × Nat) => y.1)
      if st = 5 then (s2.setCoreState c 4).clStat
      else if copying = some c.val then (({ s2 with lode := { s2.lode with copy := none } }.setCoreState c 4).beginCopy).clStat
      else
        let mine := s2.lode.retiring == some c.val
        let relief := if mine && copying.isSome then copying else s2.spareCore
        let s3 := if mine then s2.endRetire else s2
        let s4 := match relief with
          | some r => s3.clearMem (coreMem r) (coreMem r + 0x10000)
          | none => s3
        s4.takeCore c relief)

/-- A write of `LODE_RELIEF` (R325): ERR_BUSY while busy or for a core that is not in the active role. -/
def lodeReliefWrite (v : Word) (s : State) : Nat × State :=
  let c := getF v Fld.LODE_RELIEF_CORE
  if getF v Fld.LODE_RELIEF_RETIRE = 0 then (0, s)
  else if s.bit Reg.LODE_RELIEF Fld.LODE_RELIEF_BUSY ∨ 34 ≤ c ∨ 3 ≤ s.coreState c ∨ s.coreLogical c = 0x3F then (7, s)
  else
    let t := { s with lode := { s.lode with retiring := some c, copy := none } }.setFld Reg.LODE_RELIEF Fld.LODE_RELIEF_BUSY 1
    (0, if (s.core c).running then t else t.beginCopy)

/-- LODE_RELIEF_RETIRE (R325). -/
def execLodeReliefRetire (r : Req) (v : Word) (s : State) : Res :=
  finish (s.writeBy r Reg.LODE_RELIEF (lodeReliefWrite v))

/-- CORE_RELIEF (R323, R325): the retiring core's item has ended and its IMEM has been copied in 1 024 cycles; with no relief core left the logical core
stays empty. -/
def execCoreRelief (s : State) : Res :=
  finish (match s.lode.retiring with
    | none => s
    | some c =>
      if !s.vclk ∨ (s.core c).running then s
      else
        match s.lode.copy with
        | none => (s.endRetire).takeCore c none
        | some (r, at_) =>
          if s.lodeCyc < at_ + 1024 then s
          else
            let lo := coreMem c
            let cells := s.mem.filter (fun x => decide (lo ≤ x.1 ∧ x.1 < lo + 0x10000))
            let t := cells.foldl (fun (t : State) x => t.stb (x.1 - lo + coreMem r) x.2) (s.clearMem (coreMem r) (coreMem r + 0x10000))
            ((t.endRetire).takeCore c (some r)).ownerLost (16 + c) 2)

/-- A write of `LODE_CORE_CTL` ("When the host disables a core that is running"): an idle core stops or goes on. -/
def lodeCtlWrite (c : Nat) (v : Word) (s : State) : Nat × State :=
  let t := s.plainWrite (Reg.LODE_CORE_CTL c) v
  let en := t.bit (Reg.LODE_CORE_CTL c) Fld.LODE_CORE_CTL_EN
  (0, if t.coreState c = 0 ∧ !en then t.setCoreState c 2 else if t.coreState c = 2 ∧ en then t.setCoreState c 0 else t)

/-! ## Bank arbiters (R303-R307) -/

/-- The arbiter of a bank. -/
def State.bank (s : State) (b : Nat) : BankArb := kvGet (fun _ => {}) s.lode.banks b

/-- Requests enter in order: capture writers, then rising requester ID (R304); each takes a ticket (R305). -/
def bankEnter (c : Nat) : List Nat → BankArb → BankArb
  | [], x => x
  | r :: rs, x =>
    let t := Nat.max (c + 1) (x.tLast + 1)
    bankEnter c rs { x with waiting := x.waiting ++ [(r, t)], tLast := t }

/-- Insert into a rising list. -/
def insertNat (x : Nat) : List Nat → List Nat
  | [] => [x]
  | y :: ys => if x ≤ y then x :: y :: ys else y :: insertNat x ys

/-- SHARED_BANK_GRANT (R304-R307): one cluster cycle of a bank in which `arrive` (capture writers 0-7, others 256 + requester ID) request and `leave`
withdraw. The oldest waiting request is granted; a lone request of the parked owner is granted at once; the others get tickets. A request withdrawn in
its grant cycle leaves a dead cycle. A requester has one request per bank (R306). -/
def execSharedBankGrant (b : Fin 256) (arrive leave : List Nat) (s : State) : Res :=
  finish (if !s.vclk then s
    else
      let x := s.bank b
      let c := Nat.max s.lodeCyc (x.cyc + 1)
      let new := ((arrive.filter (fun r => !(x.waiting.map (·.1)).contains r)).eraseDups).foldr insertNat []
      let head := x.waiting.head?
      let dead := match head with | some (r, _) => leave.contains r | none => false
      let x1 := { x with cyc := c, waiting := (x.waiting.drop 1).filter (fun r => !leave.contains r.1) }
      let grant : Option Nat := match head with
        | some (r, _) => if dead then none else some r
        | none => if new.length = 1 ∧ new.head? = x.parked ∧ x.parked.isSome then x.parked else none
      let x2 := match grant with | some r => { x1 with parked := some r, tLast := Nat.max x1.tLast c } | none => x1
      let now := head.isNone && grant.isSome
      let x3 := bankEnter c (if now then [] else new) x2
      let t := { s with lode := { s.lode with banks := kvSet (fun _ => {}) s.lode.banks b x3 } }
      let t1 := (t.pmuCount 34 0x01 (b2n grant.isSome)).pmuCount 34 0x02 (b2n dead)
      let t2 := t1.pmuCount 34 0x03 (if now then 0 else new.length)
      let t3 := t2.pmuCount 34 0x04 (match grant with | some r => b2n (decide (r < 256)) | none => 0)
      x3.waiting.foldl (fun (u : State) (r : Nat × Nat) => if 272 ≤ r.1 ∧ r.1 < 306 then u.pmuCount (r.1 - 272) 0x08 else u) t3)

end Sys2Proof.Machine
end

