-- ==== Sys2Proof/Machine/Operands.lean ====
section
/-! DEFINITION. The operand fields of a Shiftboss instruction word (R159): the only instruction words of the device whose commands are rows of their own. Marks and risks: log entry 25. -/
namespace Sys2Proof.Machine

/-- The number of an instruction word's `OP`, `RA` and `RB` fields (R159). -/
def sbOp (w : Nat) : Nat := bitsAt w 58 6
def sbRa (w : Nat) : Nat := bitsAt w 54 4
def sbRb (w : Nat) : Nat := bitsAt w 50 4

/-- The fields in [49:0] of each `OP` as (lowest bit, width) (R159). -/
def sbFields : Nat → List (Nat × Nat)
  | 0x02 => [(49, 1), (0, 12)]
  | 0x03 => [(49, 1), (48, 1), (16, 32), (0, 12)]
  | 0x04 => [(49, 1), (48, 1), (45, 3), (40, 5), (16, 24), (0, 12)]
  | 0x05 => [(49, 1), (32, 16), (0, 22)]
  | 0x06 => [(0, 22)]
  | 0x07 => [(48, 2), (45, 3), (40, 4), (32, 7)]
  | 0x08 => [(49, 1), (32, 16), (0, 6)]
  | 0x09 => [(47, 3)]
  | 0x0A => [(0, 4)]
  | 0x0B => [(0, 5)]
  | 0x0C => [(48, 2), (47, 1)]
  | 0x0D => [(48, 2), (0, 32)]
  | 0x0E => [(49, 1), (46, 2), (40, 6)]
  | 0x0F => [(48, 1), (16, 12), (0, 16)]
  | 0x11 => [(0, 12)]
  | 0x12 => [(47, 3), (16, 6), (0, 12)]
  | 0x13 => [(0, 12)]
  | 0x15 => [(49, 1), (48, 1), (32, 16), (16, 6)]
  | 0x16 => [(47, 3), (46, 1), (16, 6)]
  | 0x18 => [(0, 32)]
  | 0x19 => [(48, 1), (0, 32)]
  | _ => []

/-- Whether a word is legal: a defined `OP`, no unlisted bit set, and `POST` with `RA` at most 8 (R159). -/
def sbLegal (w : Nat) : Bool :=
  let op := sbOp w
  decide (op < 0x1A) && decide (Nat.land (w % 2 ^ 50) ((sbFields op).foldl (fun m f => m + (2 ^ f.2 - 1) * 2 ^ f.1) 0) = w % 2 ^ 50) &&
    !(op == 0x0B && decide (8 < sbRa w))

end Sys2Proof.Machine
end

