-- ==== Sys2Proof/Machine/Shiftboss.lean ====
section
/-! DEFINITION. Shiftboss engines (R148-R175): one meaning per instruction, issued by a row of its own; waits, faults, halts, the relief of an engine,
front-end pins and serial ports. What a staged instruction does at its effect cycle is in `SbEffects`. Marks and risks: log entries 25, 26. -/
namespace Sys2Proof.Machine

/-! ## Engine clock and words (R155-R159) -/

/-- The output time in ST at an FCLK cycle near now (R155). -/
def State.stCyc (s : State) (c : Nat) : Nat := ((3 * s.nowTh + (2 * (c : Int) - 3 * (s.tick : Int)) * 200000) / 589824 % 2 ^ 64).toNat

/-- The state code, program counter and active bank of an engine. -/
def State.sbState (s : State) (e : Nat) : Nat := s.fld (Reg.SB_STATUS e) Fld.SB_STATUS_STATE
def State.sbPc (s : State) (e : Nat) : Nat := s.fld (Reg.SB_STATUS e) Fld.SB_STATUS_PC
def State.sbActive (s : State) (e : Nat) : Nat := s.fld (Reg.SB_STATUS e) Fld.SB_STATUS_ABANK
def State.setSb (s : State) (e st : Nat) : State := s.setFld (Reg.SB_STATUS e) Fld.SB_STATUS_STATE st
def State.setPc (s : State) (e pc : Nat) : State := s.setFld (Reg.SB_STATUS e) Fld.SB_STATUS_PC (pc % 4096)

/-- A G register. -/
def State.g (s : State) (e n : Nat) : Nat := s.rd64 (Reg.SB_G e n)
def State.setG (s : State) (e n v : Nat) : State := s.wr64 (Reg.SB_G e n) v

/-- The word that an engine fetches next: none at or beyond `LENGTH` (R170). -/
def State.sbWord (s : State) (e : Nat) : Option Nat :=
  let b := sbBank e (s.sbActive e)
  if s.sbPc e < bitsAt (s.ldN b 8) 0 12 then some (s.ldN (b + 8 * s.sbPc e) 8) else none

/-- Whether an engine issues: running, with FCLK (R156). -/
def State.sbIssues (s : State) (e : Nat) : Bool := s.sbState e == 1 && s.clkOn Fld.SYS_CLK_STATUS_FCLK

/-- The cycle of an engine's next issue (R156). -/
def State.sbCycle (s : State) (e : Nat) : Nat := Nat.max s.fcyc ((s.eng e).cyc + 1)

/-- Stop an engine with a fault code (R170): event 0xA004. -/
def State.sbFault (s : State) (e code : Nat) : State :=
  let w := setF (setF (s.rd (Reg.SB_STATUS e)) Fld.SB_STATUS_STATE 5) Fld.SB_STATUS_FAULT code
  (((s.wr (Reg.SB_STATUS e) w).setFld (Reg.SB_CTL e) Fld.SB_CTL_RUN 0).setEng e { s.eng e with wait := .none }).raise 0xA004 e

/-- Issue the instruction at the program counter if the engine issues and the word is a legal one of `op`: the program counter moves on and `act`
answers the instruction's own effect, given the word and the issue cycle; otherwise nothing happens. -/
def State.sbIssue (s : State) (e op : Nat) (act : State → Nat → Nat → State) : State :=
  if !s.sbIssues e then s
  else
    match s.sbWord e with
    | none => s
    | some w =>
      if sbOp w ≠ op ∨ !sbLegal w then s
      else
        let i := s.sbCycle e
        act (((s.setPc e (s.sbPc e + 1)).setEng e { s.eng e with cyc := i }).pmuCount (35 + e) 1) w i

/-- The role that an engine serves (R149; 4: SB4 while spare). -/
def State.sbRole (s : State) (e : Nat) : Nat := ((List.range 4).find? (fun r => s.sbServer r == e)).getD 4

/-- The engine whose registers an effect staged by `e` writes: SB4 once it has taken over from `e` (R174). -/
def State.sbActor (s : State) (e : Nat) : Nat := if s.sbState e = 6 then 4 else e

/-! ## Flow instructions (R160) -/

/-- NOP. -/
def execSbNop (e : Fin 5) (s : State) : Res := finish (s.sbIssue e 0x00 (fun t _ _ => t))

/-- HALT: stops the engine, clears `RUN`; event 0xA005. -/
def execSbHalt (e : Fin 5) (s : State) : Res :=
  finish (s.sbIssue e 0x01 (fun t _ _ => ((t.setSb e 0).setFld (Reg.SB_CTL e) Fld.SB_CTL_RUN 0).raise 0xA005 e))

/-- The depth fields of `SB_STATUS` follow the stacks. -/
def State.setStacks (s : State) (e : Nat) (loops : List (Nat × Nat)) (calls : List Nat) : State :=
  let w := setF (s.rd (Reg.SB_STATUS e)) Fld.SB_STATUS_LDEPTH loops.length
  (s.wr (Reg.SB_STATUS e) (setF w Fld.SB_STATUS_CDEPTH calls.length)).setEng e { s.eng e with loops := loops, calls := calls }

/-- A fault of the instruction being issued: it keeps its address in `PC`. -/
def State.sbFaultHere (s : State) (e code : Nat) : State := (s.setPc e (s.sbPc e + 4095)).sbFault e code

/-- LOOP: a count of 0 branches past the body; a fifth level faults. -/
def execSbLoop (e : Fin 5) (s : State) : Res :=
  finish (s.sbIssue e 0x0F (fun t w _ =>
    let n := if bitAt w 48 then t.g e (sbRa w) % 2 ^ 32 else bitsAt w 0 16
    let x := t.eng e
    if x.loops.length = 4 then t.sbFaultHere e 3
    else if n = 0 then t.setPc e (bitsAt w 16 12 + 1)
    else t.setStacks e ((t.sbPc e, n) :: x.loops) x.calls))

/-- ENDL: back to the body while the decremented count is not 0, else pop; without an open loop it faults with code LOOP (log entry 11). -/
def execSbEndl (e : Fin 5) (s : State) : Res :=
  finish (s.sbIssue e 0x10 (fun t _ _ =>
    let x := t.eng e
    match x.loops with
    | [] => t.sbFaultHere e 3
    | (a, n) :: rest => if n - 1 = 0 then t.setStacks e rest x.calls else (t.setStacks e ((a, n - 1) :: rest) x.calls).setPc e a))

/-- BR. -/
def execSbBr (e : Fin 5) (s : State) : Res := finish (s.sbIssue e 0x11 (fun t w _ => t.setPc e (bitsAt w 0 12)))

/-- Whether the condition of a `BRC` holds (R160). -/
def State.sbCond (s : State) (e w : Nat) : Bool :=
  let v := sext (s.g e (sbRa w)) 64
  let c := s.bit (Reg.SB_STATUS e) Fld.SB_STATUS_C
  let f := bitAt (s.rd64 (Reg.SB_EVF e)) (bitsAt w 16 6)
  match bitsAt w 47 3 with
  | 0 => c
  | 1 => !c
  | 2 => decide (v = 0)
  | 3 => decide (v ≠ 0)
  | 4 => decide (v < 0)
  | 5 => decide (0 ≤ v)
  | 6 => f
  | _ => !f

/-- BRC. -/
def execSbBrc (e : Fin 5) (s : State) : Res :=
  finish (s.sbIssue e 0x12 (fun t w _ => if t.sbCond e w then t.setPc e (bitsAt w 0 12) else t))

/-- CALL: a ninth level faults with code STACK. -/
def execSbCall (e : Fin 5) (s : State) : Res :=
  finish (s.sbIssue e 0x13 (fun t w _ =>
    let x := t.eng e
    if x.calls.length = 8 then t.sbFaultHere e 2
    else (t.setStacks e x.loops (t.sbPc e :: x.calls)).setPc e (bitsAt w 0 12)))

/-- RET: an empty stack faults with code STACK. -/
def execSbRet (e : Fin 5) (s : State) : Res :=
  finish (s.sbIssue e 0x14 (fun t _ _ =>
    let x := t.eng e
    match x.calls with
    | [] => t.sbFaultHere e 2
    | a :: rest => (t.setStacks e x.loops rest).setPc e a))

/-- ADDI: modulo 2^64. -/
def execSbAddi (e : Fin 5) (s : State) : Res :=
  finish (s.sbIssue e 0x18 (fun t w _ => t.setG e (sbRa w) (encS 64 (t.g e (sbRb w) + sext w 32))))

/-- MOVI: sign-extended, or the high half. -/
def execSbMovi (e : Fin 5) (s : State) : Res :=
  finish (s.sbIssue e 0x19 (fun t w _ =>
    let imm := bitsAt w 0 32
    t.setG e (sbRa w) (if bitAt w 48 then t.g e (sbRa w) % 2 ^ 32 + imm * 2 ^ 32 else encS 64 (sext imm 32))))

/-! ## Waits (R156-R158) -/

/-- A late wait (R157): it runs at once, or branches to `SKIPTO`; either way `SB_TLAST` becomes T. `i` is the cycle at which it is found late. -/
def State.sbLate (s : State) (e i t : Nat) (tw : Th) (skip : Option Nat) : State :=
  let s1 := ((s.wr64 (Reg.SB_TLAST e) t).setSb e 1).pmuCount (35 + e) 5
  match skip with
  | none => ((s1.setEng e { s1.eng e with wait := .none, cyc := i, rel := i, relT := some tw }).count (Reg.SB_LATE_CNT e)).raiseLim 1 0xA001 e
  | some a => (((s1.setPc e a).setEng e { s1.eng e with wait := .none, cyc := i }).count (Reg.SB_SKIP_CNT e)).raiseLim 1 0xA002 e

/-- A time wait for T issued at cycle `i`: late when the effect instant of T lies less than 24 cycles ahead (R157). -/
def State.sbTimeWait (s : State) (e w i t : Nat) (tw : Th) : State :=
  let skip := if bitAt w 49 then some (bitsAt w 0 12) else none
  if t ≤ s.stCyc (i + 23) then s.sbLate e i t tw skip
  else (s.setSb e 2).setEng e { s.eng e with wait := .time t tw skip }

/-- AT: T = G[RA]. -/
def execSbAt (e : Fin 5) (s : State) : Res :=
  finish (s.sbIssue e 0x02 (fun t w i => t.sbTimeWait e w i (t.g e (sbRa w)) (thNs (t.g e (sbRa w)))))

/-- AFTER: T = `SB_TLAST` + a delta. -/
def execSbAfter (e : Fin 5) (s : State) : Res :=
  finish (s.sbIssue e 0x03 (fun t w i =>
    let d := if bitAt w 48 then t.g e (sbRa w) else bitsAt w 16 32
    let x := (t.rd64 (Reg.SB_TLAST e) + d) % 2 ^ 64
    t.sbTimeWait e w i x (thNs x)))

/-- The `n`-th later boundary. -/
def State.nthBoundary (s : State) (c : Nat) (slots : Bool) (t : Th) : Nat → Th
  | 0 => t
  | n + 1 => s.nthBoundary c slots (s.nextBoundary c slots t) n

/-- SYMWAIT (R158): T = B + `OFS`, B the `N`-th boundary for which T lies after `SB_TLAST`. ST counts whole nanoseconds, so T is rounded up there. -/
def execSbSymwait (e : Fin 5) (s : State) : Res :=
  finish (s.sbIssue e 0x04 (fun t w i =>
    let ofs := sext (bitsAt w 16 24) 24 * 196608
    let last : Th := thNs (t.rd64 (Reg.SB_TLAST e))
    let b := t.nthBoundary (bitsAt w 45 3) (bitAt w 48) (last - ofs) (Nat.max 1 (bitsAt w 40 5))
    let x := b + ofs
    t.sbTimeWait e w i ((-((-x) / 196608)).toNat % 2 ^ 64) x))

/-- WAITEV: `TMO` µs from the issue, 0 for no limit. -/
def execSbWaitev (e : Fin 5) (s : State) : Res :=
  finish (s.sbIssue e 0x15 (fun t w _ =>
    let tmo := bitsAt w 32 16
    (t.setSb e 3).setEng e { t.eng e with
      wait := .ev (bitsAt w 16 6) (bitAt w 49) (bitAt w 48) (if tmo = 0 then none else some (t.tick + usTicks tmo)) }))

/-- FENCE. -/
def execSbFence (e : Fin 5) (s : State) : Res :=
  finish (s.sbIssue e 0x17 (fun t _ _ => (t.setSb e 4).setEng e { t.eng e with wait := .fence }))

/-- The end of a wait at cycle `at_`, not before its issue: cycles waited are counted, the engine runs, its next instruction issues a cycle later (R156). -/
def State.sbRelease (s : State) (e at_ : Nat) (relT : Option Th) : State :=
  let x := s.eng e
  let m := Nat.max at_ x.cyc
  ((s.setSb e 1).setEng e { x with wait := .none, cyc := m, rel := m, relT := relT }).pmuCount (35 + e) (if relT.isSome then 2 else 3) (m - x.cyc)

/-- The match cycle e_T − 24 of a time wait for T that matches now: e_T is the first FCLK cycle whose ST is at least T (R155, R156). -/
def State.sbMatch (s : State) (t : Nat) : Nat :=
  ((List.range 64).map (fun k => s.fcyc - 63 + k)).find? (fun c => decide (t ≤ s.stCyc (c + 24))) |>.getD s.fcyc

/-- What an engine has staged: for SB4 after a takeover also what the retired engine staged (R174). -/
def State.sbStaged (s : State) (e : Nat) : List Staged :=
  (s.eng e).staged ++ (if e = 4 then ((List.range 4).filter (fun k => s.sbState k == 6)).flatMap (fun k => (s.eng k).staged) else [])

/-- WAIT_RELEASE (R156): a time wait 24 cycles before the effect instant of its T (late if a step has put T in the past, R157); an event wait on its
flag; a fence with nothing staged. A `FESEND` wait ends with its frame. -/
def execWaitRelease (e : Fin 5) (s : State) : Res :=
  finish (
    if !s.clkOn Fld.SYS_CLK_STATUS_FCLK then s
    else
      match (s.eng e).wait with
      | .time t tw skip =>
        if s.sbState e ≠ 2 ∨ s.stCyc (s.fcyc + 24) < t then s
        else if t ≤ s.stCyc s.fcyc then s.sbLate e (Nat.max s.fcyc (s.eng e).cyc) t tw skip
        else (s.wr64 (Reg.SB_TLAST e) t).sbRelease e (s.sbMatch t) (some tw)
      | .ev flag pol clr _ =>
        let on := bitAt (s.rd64 (Reg.SB_EVF e)) flag
        if s.sbState e ≠ 3 ∨ on = pol then s
        else
          let m := Nat.max (s.evSeen e flag) (s.eng e).cyc
          let s1 := if clr && !pol then s.evClearAt e (2 ^ flag) m else s
          (s1.setC e true).sbRelease e m none
      | .fence => if s.sbState e = 4 ∧ (s.sbStaged e).isEmpty then s.sbRelease e s.fcyc none else s
      | _ => s)

/-- WAITEV_TIMEOUT: `TMO` µs have passed without the flag. -/
def execWaitevTimeout (e : Fin 5) (s : State) : Res :=
  finish (match (s.eng e).wait with
    | .ev flag pol _ (some d) =>
      if s.sbState e = 3 ∧ d ≤ s.tick ∧ bitAt (s.rd64 (Reg.SB_EVF e)) flag = pol then (s.setC e false).sbRelease e s.fcyc none else s
    | _ => s)

/-! ## Staged instructions (R156, R161): what they read at issue -/

/-- Stage an operation: effect at cycle max(m + 24, i + 1), with the target of the wait as reference time in the first case (R156, R180). -/
def State.sbStage (s : State) (e i : Nat) (op : StagedOp) : State :=
  let x := s.eng e
  let due := Nat.max (x.rel + 24) (i + 1)
  s.setEng e { x with staged := x.staged ++ [⟨due, op, if due = x.rel + 24 then x.relT else none⟩] }

/-- SET: `IMM16`, or the low half of G[RA]. -/
def execSbSet (e : Fin 5) (s : State) : Res :=
  finish (s.sbIssue e 0x05 (fun t w i =>
    t.sbStage e i (.set (bitsAt w 0 22 * 4) (if bitAt w 49 then bitsAt w 32 16 else t.g e (sbRa w) % 2 ^ 32))))

/-- SETW. -/
def execSbSetw (e : Fin 5) (s : State) : Res :=
  finish (s.sbIssue e 0x06 (fun t w i => t.sbStage e i (.setw (bitsAt w 0 22 * 4) (t.g e (sbRa w)))))

/-- SWAP. -/
def execSbSwap (e : Fin 5) (s : State) : Res :=
  finish (s.sbIssue e 0x07 (fun t w i =>
    t.sbStage e i (.swap (bitsAt w 48 2) (bitsAt w 45 3) (bitsAt w 40 4) (bitsAt w 32 7) (t.g e (sbRa w)))))

/-- CAPTURE. -/
def execSbCapture (e : Fin 5) (s : State) : Res :=
  finish (s.sbIssue e 0x08 (fun t w i =>
    t.sbStage e i (.capture (bitAt w 49) (bitsAt w 32 16) (bitsAt w 0 6) (t.g e (sbRa w) % 2 ^ 24) (sbRb w))))

/-- GATE. -/
def execSbGate (e : Fin 5) (s : State) : Res :=
  finish (s.sbIssue e 0x0C (fun t w i => t.sbStage e i (.gate (bitsAt w 48 2) (bitAt w 47) (t.g e (sbRa w)))))

/-- FECTL. -/
def execSbFectl (e : Fin 5) (s : State) : Res :=
  finish (s.sbIssue e 0x0D (fun t w i => t.sbStage e i (.fectl (bitsAt w 48 2) (bitsAt w 0 32) (t.g e (sbRa w) % 2 ^ 32))))

/-- FESEND: with `R` = 1 the engine waits until the frame ends. -/
def execSbFesend (e : Fin 5) (s : State) : Res :=
  finish (s.sbIssue e 0x0E (fun t w i =>
    let n := Nat.max 7 (bitsAt w 40 6) + 1
    let r := bitAt w 49
    let port := bitsAt w 46 2
    let t1 := t.sbStage e i (.fesend r port n (t.g e (sbRa w) % 2 ^ n) (sbRb w))
    if r then (t1.setSb e 4).setEng e { t1.eng e with wait := .fesend port } else t1))

/-! ## The shadow (R173) -/

/-- Whether SB4 shadows: it executes in lockstep with its effects suppressed, and its page repeats its target's. -/
def State.sbSynced (s : State) : Bool := s.bit Reg.SB_RELIEF Fld.SB_RELIEF_SYNCED

/-- SB4's program banks become copies of an engine's. -/
def State.sbCopyBanks (s : State) (e : Nat) : State :=
  let lo := sbBank e 0
  let cells := s.mem.filter (fun c => decide (lo ≤ c.1 ∧ c.1 < lo + 0x10000))
  cells.foldl (fun (t : State) c => t.stb (c.1 - lo + sbBank 4 0) c.2) (s.clearMem (sbBank 4 0) (sbBank 4 0 + 0x10000))

/-- SB4's registers, stacks and flags become copies of an engine's, `SB_STATUS` and what is staged included. -/
def State.sbCopyRegs (s : State) (e : Nat) : State :=
  let t := (List.range 0x90).foldl (fun (t : State) k => t.wr (Reg.SB_CTL 4 + 4 * k) (s.rd (Reg.SB_CTL e + 4 * k))) s
  t.setEng 4 (s.eng e)

/-- SB4 stops shadowing with the copies it holds; it is halted. -/
def State.sbUnshadow (s : State) : State :=
  if s.sbState 4 ≠ 7 ∧ !s.sbSynced then { s with sb := { s.sb with syncing := false } }
  else
    let t := match s.sbTarget with
      | some e => if s.sbSynced then (s.sbCopyBanks e).sbCopyRegs e else s
      | none => s
    let t1 := (t.setEng 4 { t.eng 4 with wait := .none, staged := [] }).setFld (Reg.SB_CTL 4) Fld.SB_CTL_RUN 0
    { (t1.setSb 4 0).setFld Reg.SB_RELIEF Fld.SB_RELIEF_SYNCED 0 with sb := { s.sb with syncing := false } }

/-- A mismatch of an effect (R173). -/
def State.sbMismatch (s : State) : State :=
  if s.sbSynced then (s.sbUnshadow.flag Reg.SB_RELIEF Fld.SB_RELIEF_MISMATCH).raise 0xA004 4 else s

/-- An effect of the synchronized target at issue is compared with SB4's (R173); `mismatch` says that they differ. -/
def State.sbCompared (s : State) (e : Nat) (mismatch : Bool) : State := if mismatch && s.sbTarget == some e then s.sbMismatch else s

/-! ## Work, transfers and messages (R169) -/

/-- The outcome of an instruction that acts at issue: C, and on a refusal `ISSUE_FAIL`, its count and event 0xA003. -/
def State.sbIssued (s : State) (e : Nat) (ok : Bool) : State :=
  let t := s.setC e ok
  if ok then t else ((t.flag (Reg.SB_ERR e) Fld.SB_ERR_ISSUE_FAIL).count (Reg.SB_ISSUE_FAIL_CNT e)).raise 0xA003 e

/-- DISPATCH: a push on a Lode work queue. -/
def execSbDispatch (e : Fin 5) (mismatch : Bool) (s : State) : Res :=
  finish (s.sbIssue e 0x09 (fun t w _ =>
    let (ok, u) := t.wqPush (bitsAt w 47 3) (t.g e (sbRa w) % 2 ^ 24) (t.g e (sbRb w)) (8 + e)
    (u.sbIssued e ok).sbCompared e mismatch))

/-- DMAGO: the host's start write, as a non-secure requester (R18). -/
def execSbDmago (e : Fin 5) (mismatch : Bool) (s : State) : Res :=
  finish (s.sbIssue e 0x0A (fun t w _ =>
    let (c, u) := dmaGoWrite (bitsAt w 0 4) false (setF 0 Fld.DMA_GO_START 1) t
    (u.sbIssued e (c == 0)).sbCompared e mismatch))

/-- POST: 16 words, low word of each G register first; a secure channel refuses (R169). -/
def execSbPost (e : Fin 5) (mismatch : Bool) (s : State) : Res :=
  finish (s.sbIssue e 0x0B (fun t w _ =>
    let words := (List.range 8).flatMap (fun k => let v := t.g e (sbRa w + k); [v % 2 ^ 32, v / 2 ^ 32])
    let ch := bitsAt w 0 5
    let (c, u) := if 24 ≤ ch then (2, t) else mbxMessage ch (8 + e) words t
    (u.sbIssued e (c == 0)).sbCompared e mismatch))

/-- The engines that a `SIGNAL` reaches: a role's, SB4 while spare, or all. -/
def State.sbTargets (s : State) (eng : Nat) : List Nat :=
  let spare := if s.bit Reg.SB_RELIEF Fld.SB_RELIEF_TAKEN then [] else [4]
  if eng < 4 then [s.sbServer eng] else if eng = 4 then spare else if eng = 7 then (List.range 4).map s.sbServer ++ spare else []

/-- SIGNAL. -/
def execSbSignal (e : Fin 5) (mismatch : Bool) (s : State) : Res :=
  finish (s.sbIssue e 0x16 (fun t w i =>
    let m := 2 ^ bitsAt w 16 6
    (t.sbTargets (bitsAt w 47 3)).foldl (fun (u : State) k => if bitAt w 46 then u.evClearAt k m i else u.evOrAt k m i) t
      |>.sbCompared e mismatch))

/-! ## Relief (R173-R175) -/

/-- The new `MAP`, with `TAKEN` set and `SYNCED` clear: SB4 serves the role that `e` served; `e` is retired. -/
def State.sbTaken (s : State) (e : Nat) : State :=
  let w := s.rd Reg.SB_RELIEF
  let r := s.sbRole e
  let map := getF w Fld.SB_RELIEF_MAP
  let w1 := setF w Fld.SB_RELIEF_MAP (map - bitsAt map (4 * r) 4 * 16 ^ r + 4 * 16 ^ r)
  let w2 := setF (setF w1 Fld.SB_RELIEF_TAKEN 1) Fld.SB_RELIEF_SYNCED 0
  let s1 := (((s.wr Reg.SB_RELIEF w2).setSb e 6).setFld (Reg.SB_CTL e) Fld.SB_CTL_RUN 0).setEng e { s.eng e with wait := .none }
  { s1 with sb := { s1.sb with syncing := false, heir := none } }

/-- The takeover from the synchronized target (R174): SB4 goes on where the target stops; a pending program swap goes with it; what the target
staged stays staged, and the low word that it holds is held for SB4's requester ID; event 0xA008. -/
def State.sbTakeover (s : State) (e : Nat) : State :=
  let t := (s.sbCopyBanks e).sbCopyRegs e
  let t1 := t.setEng 4 { t.eng 4 with staged := [] }
  let mine := fun (x : SwapPend) => x.res == 0 && x.idx == e
  let t2 := if t1.swaps.any mine then
      ({ t1 with swaps := t1.swaps.map (fun x => if mine x then { x with idx := 4 } else x) }.showPending 0 e false).showPending 0 4 true
    else t1
  ((t2.setBus 12 { t2.busOf 12 with wrTag := (t2.busOf (8 + e)).wrTag, wrHold := (t2.busOf (8 + e)).wrHold }).sbTaken e).raise 0xA008 4

/-- ENGINE_FAULT (R170): an illegal word, a fetch at or beyond `LENGTH`, or, from outside the model, an uncorrectable ECC error of the fetched word
(`some false`) or a register parity error (`some true`); the last two on the synchronized target make SB4 take over (R174). -/
def execEngineFault (e : Fin 5) (hard : Option Bool) (s : State) : Res :=
  let st := s.sbState e
  finish (
    if !s.clkOn Fld.SYS_CLK_STATUS_FCLK then s
    else
      match hard with
      | some par =>
        if decide (1 ≤ st ∧ st ≤ 4) then
          (if s.sbSynced && s.sbTarget == some e.val then s.sbTakeover e else s.sbFault e (if par then 5 else 4))
        else s
      | none =>
        if st ≠ 1 then s
        else
          match s.sbWord e with
          | none => s.sbFault e 6
          | some w => if sbLegal w then s else s.sbFault e 1)

/-- A write of `SB_RELIEF` (R173-R175). A write with `RETIRE` hands the role over and leaves `TARGET`; any other write is a write of `TARGET`. -/
def sbReliefWrite (v : Word) (s : State) : Nat × State :=
  let s0 := if getF v Fld.SB_RELIEF_MISMATCH = 1 then s.setFld Reg.SB_RELIEF Fld.SB_RELIEF_MISMATCH 0 else s
  if getF v Fld.SB_RELIEF_RETIRE = 1 then
    (match s.sbTarget with
     | some e => if s.sbSynced then (0, s0.sbTakeover e) else (7, s)
     | none => (7, s))
  else if s.bit Reg.SB_RELIEF Fld.SB_RELIEF_TAKEN then
    (if s.wouldChange Reg.SB_RELIEF v Fld.SB_RELIEF_TARGET then (7, s) else (0, s0))
  else
    let u := s0.sbUnshadow.setFld Reg.SB_RELIEF Fld.SB_RELIEF_TARGET (getF v Fld.SB_RELIEF_TARGET)
    let s1 := { u with sb := { u.sb with heir := none } }
    match s1.sbTarget with
    | none => (0, s1)
    | some e =>
      if s1.sbState e = 5 then
        let s2 := ((s1.sbCopyBanks e).setFld (Reg.SB_STATUS 4) Fld.SB_STATUS_ABANK (s1.sbActive e)).toEntry 4
        let s3 := (s2.setSb 4 0).setFld (Reg.SB_CTL 4) Fld.SB_CTL_RUN 0
        (0, { s3 with sb := { s3.sb with heir := some e } })
      else (0, { s1 with sb := { s1.sb with syncing := true } })

/-- SB_RELIEF_TARGET (R173, R175): a write of `SB_RELIEF` without `RETIRE`. -/
def execSbReliefTarget (r : Req) (target : BitVec 4) (clr : Bool) (s : State) : Res :=
  finish (s.writeBy r Reg.SB_RELIEF (sbReliefWrite (setF (setF 0 Fld.SB_RELIEF_TARGET target.toNat) Fld.SB_RELIEF_MISMATCH (b2n clr))))

/-- SB_RETIRE (R174): a write of `SB_RELIEF.RETIRE`. -/
def execSbRetire (r : Req) (s : State) : Res :=
  finish (s.writeBy r Reg.SB_RELIEF (sbReliefWrite (setF 0 Fld.SB_RELIEF_RETIRE 1)))

/-- RELIEF_SYNCED (R173): at a cycle in which the target is halted or waiting. -/
def execReliefSynced (s : State) : Res :=
  finish (match s.sbTarget with
    | some e =>
      let st := s.sbState e
      if s.sb.syncing && s.clkOn Fld.SYS_CLK_STATUS_FCLK && (st == 0 || decide (2 ≤ st ∧ st ≤ 4)) then
        let t := (s.sbCopyBanks e).sbCopyRegs e
        let t1 := ((t.setEng 4 { t.eng 4 with wait := .none, staged := [] }).setSb 4 7).setFld Reg.SB_RELIEF Fld.SB_RELIEF_SYNCED 1
        { t1 with sb := { t1.sb with syncing := false } }.raise 0xA009 4
      else s
    | none => s)

/-! ## Host control (R171, R154, R166) -/

/-- A write of `SB_CTL` (R171). `RUN` of SB4 after its copy of a faulted engine's banks gives it that engine's role (R175). -/
def sbCtlWrite (e : Nat) (v : Word) (s : State) : Nat × State :=
  let restart := getF v Fld.SB_CTL_RESTART = 1
  let run := getF v Fld.SB_CTL_RUN
  if restart ∧ !s.engIdle e then (7, s)
  else
    let s1 := if restart then
        ((s.toEntry e).setC e false).wr (Reg.SB_STATUS e)
          (setF (setF (((s.toEntry e).setC e false).rd (Reg.SB_STATUS e)) Fld.SB_STATUS_FAULT 0) Fld.SB_STATUS_STATE 0)
      else s
    let s2 := s1.setFld (Reg.SB_CTL e) Fld.SB_CTL_RUN run
    let st := s2.sbState e
    if run = 1 then
      let t := if s2.engIdle e then s2.setSb e 1 else s2
      (0, match t.sb.heir with
        | some k => if e = 4 then t.sbTaken k else t
        | none => t)
    else if 1 ≤ st ∧ st ≤ 4 then (0, (s2.setSb e 0).setEng e { s2.eng e with wait := .none })
    else (0, s2)

/-- RUN (R171): a write of `SB_CTL` without `RESTART`. -/
def execRun (r : Req) (e : Fin 5) (run : Bool) (s : State) : Res :=
  finish (s.writeBy r (Reg.SB_CTL e) (fun t => t.sbPageWrite e (sbCtlWrite e (setF 0 Fld.SB_CTL_RUN (b2n run)))))

/-- RESTART (R171): a write of `SB_CTL` with `RESTART`. -/
def execRestart (r : Req) (e : Fin 5) (run : Bool) (s : State) : Res :=
  finish (s.writeBy r (Reg.SB_CTL e) (fun t => t.sbPageWrite e (sbCtlWrite e (setF (setF 0 Fld.SB_CTL_RUN (b2n run)) Fld.SB_CTL_RESTART 1))))

/-- A write of `SB_TLAST`: ERR_BUSY unless halted or faulted. -/
def sbTlastWrite (e v : Nat) (s : State) : Nat × State :=
  if s.engIdle e then (0, s.wr64 (Reg.SB_TLAST e) v) else (if s.rd64 (Reg.SB_TLAST e) = v % 2 ^ 64 then 0 else 7, s)

/-- SB_EVSET (R154). -/
def execSbEvset (r : Req) (e : Fin 5) (v : DWord) (s : State) : Res :=
  finish (s.writeBy r (Reg.SB_EVSET e) (fun t => t.sbPageWrite e (fun u => (0, u.evOr e v.toNat))))

/-- SB_EVCLR (R154). -/
def execSbEvclr (r : Req) (e : Fin 5) (v : DWord) (s : State) : Res :=
  finish (s.writeBy r (Reg.SB_EVCLR e) (fun t => t.sbPageWrite e (fun u => (0, u.evClear e v.toNat))))

/-- Pins of a mask take the levels of `lv` (R166). -/
def State.setPins (s : State) (mask lv : Nat) : State :=
  let old := s.fld Reg.SB_FE_STATE Fld.SB_FE_STATE_LEVEL
  s.wr Reg.SB_FE_STATE (BitVec.ofNat 32 (Nat.lor (Nat.land lv mask) (old - Nat.land old mask)))

/-- A write of `SB_FE_SAFE` moves every pin that no `FECTL` has reached (R166). -/
def feSafeWrite (v : Word) (s : State) : Nat × State :=
  (0, (s.wr Reg.SB_FE_SAFE v).setPins (0xFFFFFFFF - s.sb.reached % 2 ^ 32) v.toNat)

/-- SB_FE_SAFE_WRITE (R166). -/
def execSbFeSafeWrite (r : Req) (v : Word) (s : State) : Res :=
  finish (s.writeBy r Reg.SB_FE_SAFE (feSafeWrite v))

/-- Every pin drives its bit of `SB_FE_SAFE` until the next `FECTL` that reaches it (R166). -/
def State.feSafe (s : State) : State :=
  { s with sb := { s.sb with reached := 0 } }.setPins 0xFFFFFFFF (s.rd Reg.SB_FE_SAFE).toNat

/-- Entry to SAFE (R172): engines halt, FESPI frames are dropped, pins drive `SB_FE_SAFE`. -/
def State.sbSafe (s : State) : State :=
  let t := (List.range 5).foldl (fun (t : State) e =>
    let t1 := (t.setFld (Reg.SB_CTL e) Fld.SB_CTL_RUN 0).setEng e { t.eng e with wait := .none }
    let st := t.sbState e
    if 1 ≤ st ∧ st ≤ 4 then t1.setSb e 0 else t1) s
  { t with sb := { t.sb with fespi := [], feAt := [] } }.feSafe

/-! ## Front-end serial ports (R167) -/

/-- FCLK cycles of one SCLK period of a port. -/
def State.fePeriod (s : State) (p : Nat) : Nat := 2 * (Nat.max 2 (s.fld (Reg.SB_FESPI_CFG p) Fld.SB_FESPI_CFG_DIV) + 1)

/-- The frames of a port, the one in progress first, and its start (or, with none, the first cycle at which `CS_N` may fall). -/
def State.feFrames (s : State) (p : Nat) : List FeFrame := kvGet (fun _ => []) s.sb.fespi p
def State.setFe (s : State) (p : Nat) (fs : List FeFrame) (at_ : Nat) : State :=
  { s with sb := { s.sb with fespi := kvSet (fun _ => []) s.sb.fespi p fs, feAt := kvSet (fun _ => 0) s.sb.feAt p at_ } }

/-- End the wait of an engine for its frame on a port. -/
def State.feRelease (s : State) (e p : Nat) : State :=
  match (s.eng e).wait with
  | .fesend q => if q = p ∧ s.sbState e = 4 then s.sbRelease e s.fcyc none else s
  | _ => s

/-- FESPI_FRAME_END (R167): `CS_N` rises; bits sampled on `SDI` go to G[RB] with `R` = 1 and the engine goes on; the next frame starts two periods later. -/
def execFespiFrameEnd (p : Fin 4) (sdi : BitVec 64) (s : State) : Res :=
  finish (match s.feFrames p with
    | [] => s
    | f :: rest =>
      let start := kvGet (fun _ => 0) s.sb.feAt p
      if !s.clkOn Fld.SYS_CLK_STATUS_FCLK ∨ s.fcyc < start + f.nbits * s.fePeriod p then s
      else
        let s1 := (s.setFe p rest (Nat.max s.fcyc (start + f.nbits * s.fePeriod p) + 2 * s.fePeriod p)).emit (.fespi p f.nbits f.data)
        let a := s.sbActor f.eng
        if f.r then (s1.setG a f.rb (sdi.toNat % 2 ^ f.nbits)).feRelease a p else s1)

end Sys2Proof.Machine
end

