-- ==== Sys2Proof/Machine/Repair.lean ====
section
/-! DEFINITION. Repair and uninterrupted service (19): beamformer columns, SRAM rows, OTP repair records at bring-up, the interrupt pin. Marks and risks: log entry 47. -/
namespace Sys2Proof.Machine

/-! ## Beamformer columns (R465-R467) -/

/-- The field of `REPAIR_BFMAPd` that names the relieved column of a group. -/
def bfMapF (g : Nat) : Field := ⟨8 * g, 5⟩

/-- BF_COLUMN_RELIEF (R466, R467): the column that serves antenna `ant` in direction `dir` (0 TX, 1 RX) fails its residue check on RE `re` of a
carrier. That result is zero; the group's spare takes the antenna over, or, with the spare in use, the column is disabled. -/
def execBfColumnRelief (dir : Fin 2) (ant : Fin 64) (car : Fin 8) (re : Nat) (s : State) : Res :=
  let g := ant.val / 16
  let a := Reg.REPAIR_BFMAP dir
  let w := repairWord 4 (dir.val * 4 + g) (ant.val % 16)
  finish (
    if !s.clkOn Fld.SYS_CLK_STATUS_FCLK || s.bfOff dir ant then s
    else
      let t := { s with bfErr := (dir.val, ant.val, car.val, re) :: s.bfErr }
      if s.fld a (bfMapF g) = 0x1F then (t.setFld a (bfMapF g) (ant.val % 16)).raise 0x6002 ant w
      else (t.wr64 (Reg.REPAIR_BFFAIL dir) (setBitN (t.rd64 (Reg.REPAIR_BFFAIL dir)) ant true)).raise 0x6003 ant w)

/-! ## SRAM rows (R468-R471) -/

/-- ECC_UNCORRECTABLE (R469): the word of 8 bytes at device memory `addr`, in row `row` of an array, has an uncorrectable error. Whoever uses it gets zero, and the
row is due for relief, whose copy writes it as zero (R471); the stops that readers of some kinds make are commands of their own. -/
def execEccUncorrectable (array : Nat) (row : Fin 128) (addr : Nat) (s : State) : Res :=
  finish (
    if !s.clkOn Fld.SYS_CLK_STATUS_CCLK then s
    else
      let lo := addr / 8 * 8
      let x := s.sram
      let known := x.due.contains (array, row.val) || x.failed.contains (array, row.val)
      let t := { s.clearMem lo (lo + 8) with sram := { x with due := if known then x.due else x.due ++ [(array, row.val)] } }
      (t.count Reg.REPAIR_UE_CNT).raise 0x6007 0xFF (repairWord 5 0 row) array)

/-- The scrub period in ticks (REPAIR_SCRUB). -/
def State.scrubTicks (s : State) : Nat := msTicks (Nat.max 100 (s.fld Reg.REPAIR_SCRUB Fld.REPAIR_SCRUB_MS))

/-- SCRUB_PASS (R470, R471): a pass over every powered array ends; `errs` lists the rows in which it corrected words, as array, row, words. A row found in two
passes running is due for relief. -/
def execScrubPass (errs : List (Nat × Fin 128 × Nat)) (s : State) : Res :=
  finish (
    if !s.clkOn Fld.SYS_CLK_STATUS_CCLK || decide (s.tick < s.sram.scrubAt + s.scrubTicks) then s
    else
      let hit := errs.filter (fun e => decide (0 < e.2.2))
      let rows := hit.map (fun e => (e.1, e.2.1.val))
      let x := s.sram
      let again := rows.filter (fun r => x.suspect.contains r && !x.due.contains r && !x.failed.contains r)
      let t := { s with sram := { x with suspect := rows, due := x.due ++ again.eraseDups, scrubAt := s.tick } }
      match hit with
      | [] => t
      | e :: _ =>
        (t.count Reg.REPAIR_CE_CNT (hit.foldl (fun (n : Nat) e => n + e.2.2) 0)).raiseLim 10 0x6006 0xFF (repairWord 5 0 e.2.1) e.1)

/-- How many spare rows of an array are in use: 2 at most (R468). -/
def State.rowsUsed (s : State) (array : Nat) : Nat := (s.sram.retired.filter (fun r => r.1 == array)).length

/-- SRAM_ROW_RELIEF (R471): the copy of a row that is due is over and the mapping changes, or no spare row is left. -/
def execSramRowRelief (array : Nat) (row : Fin 128) (s : State) : Res :=
  let x := s.sram
  let r := (array, row.val)
  let rest := x.due.filter (fun y => y != r)
  let w := repairWord 5 0 row
  finish (
    if !x.due.contains r || !s.clkOn Fld.SYS_CLK_STATUS_CCLK then s
    else if s.rowsUsed array < 2 then
      { s with sram := { x with due := rest, retired := x.retired ++ [r], suspect := x.suspect.filter (fun y => y != r) } }.raise 0x6004 0xFF w array
    else ({ s with sram := { x with due := rest, failed := r :: x.failed } }.flag Reg.REPAIR_STAT Fld.REPAIR_STAT_NOROW).raise 0x6005 0xFF w array)

/-! ## OTP repair records (R475, R476) -/

def OtpRec.kind (r : OtpRec) : Nat := bitsAt r.w0 28 4
def OtpRec.unit (r : OtpRec) : Nat := bitsAt r.w0 20 8
def OtpRec.elem (r : OtpRec) : Nat := bitsAt r.w0 8 12

/-- CRC-32C of words 0 and 1 (R475). -/
def recCrc (w0 w1 : Nat) : Nat := crc32c (natLE 4 w0 ++ natLE 4 w1)

/-- A valid record (R476). -/
def OtpRec.valid (r : OtpRec) : Bool := r.mark == 0xA5
def OtpRec.good (r : OtpRec) : Bool := r.valid && r.crc == recCrc r.w0 r.w1

/-- Whether the unit or element that a record names is retired in the running device (R476, R477). -/
def State.unitRetired (s : State) (kind unit elem array : Nat) : Bool :=
  if kind = 1 then decide (unit < 34) && s.coreState unit == 4
  else if kind = 2 then decide (unit < 4) && s.sbState unit == 6
  else if kind = 3 then decide (unit < 64) && s.sliceBad unit
  else if kind = 4 then decide (unit < 8 ∧ elem < 16) && s.fld (Reg.REPAIR_BFMAP (unit / 4)) (bfMapF (unit % 4)) == elem
  else if kind = 5 then s.sram.retired.contains (array, elem)
  else if kind = 6 then decide (unit < 72) && s.adcUsed unit && s.fld (adcStat unit) Fld.CONV_RXADC_STAT_RETIRED == elem
  else if kind = 7 then decide (unit < 64 ∧ elem < 67) && s.cellRetired unit elem
  else false

/-- A state change without the events it would raise: what bring-up does before any unit starts (R476). -/
def State.quiet (s : State) (f : State → State) : State :=
  let t := f s
  let t1 := [Reg.EVT_NEXT, Reg.EVT_OLDEST, Reg.EVT_STAT].foldl (fun (u : State) a => u.wr a (s.rd a)) t
  { t1 with evs := s.evs, evWin := s.evWin, links := s.links, out := s.out }

/-- Retire the unit of a record and assign the next free relief unit (R476); with none free the unit is retired without one. -/
def State.retireUnit (s : State) (kind unit elem array : Nat) : State :=
  if kind = 1 then
    if unit < 34 then s.takeCore unit ([32, 33].find? (fun r => r != unit && s.coreState r == 5)) else s
  else if kind = 2 then
    if unit < 4 then (if s.bit Reg.SB_RELIEF Fld.SB_RELIEF_TAKEN then s.setSb unit 6 else s.sbTaken unit) else s
  else if kind = 3 then
    if unit < 64 then
      match [0, 1].find? (fun u => s.fld (Reg.TXDP_SLICE_RELIEF u) Fld.TXDP_SLICE_RELIEF_TAKEN == 0) with
      | some u => (s.setFld (Reg.TXDP_SLICE_RELIEF u) Fld.TXDP_SLICE_RELIEF_TARGET unit).takeOver u unit (64 + u)
      | none => s.markSlice unit
    else s
  else if kind = 4 then
    if unit < 8 ∧ elem < 16 then
      if s.fld (Reg.REPAIR_BFMAP (unit / 4)) (bfMapF (unit % 4)) = 0x1F then s.setFld (Reg.REPAIR_BFMAP (unit / 4)) (bfMapF (unit % 4)) elem
      else s.wr64 (Reg.REPAIR_BFFAIL (unit / 4)) (setBitN (s.rd64 (Reg.REPAIR_BFFAIL (unit / 4))) (16 * (unit % 4) + elem) true)
    else s
  else if kind = 5 then
    if s.rowsUsed array < 2 then { s with sram := { s.sram with retired := s.sram.retired ++ [(array, elem)] } } else s
  else if kind = 6 then if unit < 72 ∧ elem ≤ adcSlots unit then s.adcRetire unit elem else s
  else if kind = 7 then if unit < 64 ∧ elem < 67 then s.cellRetire unit (some elem) else s
  else s

/-- Apply one record (R476). -/
def State.applyRec (s : State) (r : OtpRec) : State :=
  if !r.good || s.unitRetired r.kind r.unit r.elem r.w1 then s else s.quiet (fun t => t.retireUnit r.kind r.unit r.elem r.w1)

/-- `REPAIR_STAT.USED` and `BADREC` as OTP has them (R476). -/
def State.repairStat (s : State) : State :=
  let used := (s.otp.recs.filter (fun r => r.valid)).length
  let bad := (s.otp.recs.filter (fun r => r.valid && !r.good)).length
  s.wr Reg.REPAIR_STAT (setF (setF (s.rd Reg.REPAIR_STAT) Fld.REPAIR_STAT_USED used) Fld.REPAIR_STAT_BADREC bad)

/-- Step U2 applies every valid record, in order (R476). -/
def State.applyRepair (s : State) : State := (s.otp.recs.foldl State.applyRec s).repairStat

/-! ## The acknowledgement of the event log (R482), front-end pins (R499) -/

/-- EVT_IRQ_ACK (R482): a write moves the acknowledgement point. -/
def execEvtIrqAck (r : Req) (v : Word) (s : State) : Res :=
  finish (s.writeBy r Reg.EVT_IRQ_ACK (fun t => (0, t.plainWrite Reg.EVT_IRQ_ACK v)))

/-- FE_SHORT (R499): a pin's ball has differed from its drive for 10 µs. -/
def execFeShort (pin : Fin 32) (s : State) : Res := finish (if s.held then s else s.raiseLim 10 0xA00C pin)

end Sys2Proof.Machine
end

