-- ==== Sys2Proof/Machine/Power.lean ====
section
/-! DEFINITION. Power states (17_power_thermal, R415-R430): transitions and their fixed steps, wakes, retention, power classes. Marks and risks: log entry 20. -/
namespace Sys2Proof.Machine

def State.setPower (s : State) (f : PowerSt → PowerSt) : State := { s with power := f s.power }

/-- Start or stop a clock domain (SYS_CLK_STATUS). -/
def State.setClk (s : State) (f : Field) (on : Bool) : State := s.setFld Reg.SYS_CLK_STATUS f (b2n on)

/-- `PWR_SEQk` high or low (R418). -/
def State.setSeq (s : State) (k : Nat) (on : Bool) : State := s.setPower (fun (p : PowerSt) => { p with seq := setBitN p.seq k on })

/-- The transition in progress, with `PWR_STATUS.BUSY` and `STEP`. -/
def State.setTrans (s : State) (t : Option Trans) : State :=
  let step := match t with | some x => if x.step ≤ 12 then x.step else 0 | none => 0
  let w := setF (setF (s.rd Reg.PWR_STATUS) Fld.PWR_STATUS_BUSY (b2n t.isSome)) Fld.PWR_STATUS_STEP step
  (s.wr Reg.PWR_STATUS w).setPower (fun (p : PowerSt) => { p with trans := t })

/-- A state is reached: `PWR_STATUS.STATE`, event 0x1001 (R416). -/
def State.reachState (s : State) (st : Nat) : State := (s.setFld Reg.PWR_STATUS Fld.PWR_STATUS_STATE st).raise 0x1001 0xFF

/-- The delay after the action of a step, in ticks (R419): 64 or 32 AONCLK, 8 192, 1 024 or 256 REFCLK, 1 024 AONCLK. U7 has no minimum, the abort points have none. -/
def stepTicks (step : Nat) : Nat :=
  if step = 1 ∨ step = 2 ∨ step = 6 then 1920000
  else if step = 3 ∨ step = 8 ∨ step = 9 then 960000
  else if step = 4 then 32768
  else if step = 5 ∨ step = 12 then 1024
  else if step = 10 then 4096
  else if step = 11 then 30720000
  else 0

/-! ## Retention (R425-R427) -/

/-- The retention group of a byte of device memory (R425). -/
def memGroup (a : Nat) : Option Nat :=
  if 0x110000 ≤ a ∧ a < 0x160000 then some 0
  else if 0x21000000 ≤ a ∧ a < 0x21208000 then some 1
  else if 0x21210000 ≤ a ∧ a < 0x21211000 then some 2
  else if dpdMem 0 0 ≤ a ∧ a < dpdMem 64 0 then some 3
  else if 0x20000000 ≤ a ∧ a < 0x21000000 then some 4
  else if sharedMem ≤ a ∧ a < sharedMem + 2 ^ 24 then some 5
  else if coreMem 0 ≤ a ∧ a < coreMem 34 ∧ (a - coreMem 0) % 0x80000 < 0x10000 then some 6
  else none

/-- The bank state that belongs to a group (R425). -/
def bankFields (g : Nat) : List (Nat × Field) :=
  if g = 0 then (List.range 5).map (fun e => (Reg.SB_STATUS e, Fld.SB_STATUS_ABANK))
  else if g = 1 then [(Reg.BEAM_BANK_STAT, Fld.BEAM_BANK_STAT_EXP_SERVE)]
  else if g = 2 then [(Reg.BEAM_BANK_STAT, Fld.BEAM_BANK_STAT_TAPER_ABANK), (Reg.BEAM_BANK_STAT, Fld.BEAM_BANK_STAT_GEOM_ABANK)]
  else if g = 3 then (List.range 64).flatMap (fun p => [(Reg.DPD_STATUS p, Fld.DPD_STATUS_ABANK), (Reg.DPD_STATUS p, Fld.DPD_STATUS_GEN)])
  else if g = 4 then (List.range 512).map (fun i => (Reg.BEAM_CW_STAT (i / 256) (i % 256), Fld.BEAM_CW_STAT_A))
  else []

/-- Keep only the memory of the groups in a mask; everything else is zero (R426). -/
def State.keepMem (s : State) (groups : Nat) : State :=
  { s with mem := s.mem.filter (fun c => match memGroup c.1 with | some g => groups.testBit g | none => false) }

/-- Register words that the always-on island holds (R23, R415, R427, R481), with the port compensation of R133 and the levels that the `VDD_IO` ring holds (R166). -/
def islandReg (a : Nat) : Bool :=
  decide (a < 0x20000) || decide (0x70000 ≤ a ∧ a < 0x80000) || mbxIsland a || a == Reg.SB_FE_SAFE || a == Reg.SB_FE_STATE ||
    decide (Reg.SEC_BOOTREC 0 ≤ a ∧ a ≤ Reg.SEC_BOOTLEN) || a == Reg.TIME_PORTCOMP 0 || a == Reg.TIME_PORTCOMP 1

/-- What an OTP operation that is cut off leaves (R454, R478): no marker, and its fuses consumed. -/
def OtpSt.cut (o : OtpSt) : OtpOp → OtpSt
  | .slot n _ => { o with dead := setBitN o.dead n true }
  | .identity _ _ => { o with idUsed := true }
  | .repair w0 w1 => { o with recs := o.recs ++ [⟨w0, w1, recCrc w0 w1, 0⟩] }
  | _ => o

/-- OTP after the enclave lost its power or was reset. -/
def State.otpAfterLoss (s : State) : OtpSt :=
  match s.sec.otpOp with
  | some (op, _) => s.otp.cut op
  | none => s.otp

/-- The digital die loses its power (descents to DORMANT and RETAIN): registers outside the always-on island and all state behind them are at reset,
memory and bank state are those of the groups kept (R425-R427). -/
def State.coreOff (s : State) (groups : Nat) : State :=
  let t : State := { pending := s.pending, tick := s.tick, free := s.free, tb := s.tb, evs := s.evs, evWin := s.evWin, out := s.out, power := s.power
                     regs := s.regs.filter (fun c => islandReg c.1), mem := s.mem, episodes := s.episodes, claims := s.claims
                     bus := s.bus.filter (fun b => b.1 == 3), otp := s.otpAfterLoss, mspiErr := s.mspiErr }
  let fields := (List.range 7).flatMap (fun g => if groups.testBit g then bankFields g else [])
  (fields.foldl (fun (u : State) x => u.setFld x.1 x.2 (s.fld x.1 x.2)) t).keepMem groups

/-- A retained group fails its check at U7 (R426): `PWR_RETLOST`, the group and its bank state cleared, event 0x1005. -/
def State.groupLost (s : State) (g : Nat) : State :=
  let t := s.keepMem (setBitN 0x7F g false)
  let t := (bankFields g).foldl (fun (u : State) x => u.setFld x.1 x.2 (getF (resetWord x.1) x.2)) t
  (t.setFld Reg.PWR_RETLOST Fld.PWR_RETLOST_GROUPS (setBitN (t.fld Reg.PWR_RETLOST Fld.PWR_RETLOST_GROUPS) g true)).raise 0x1005 g

/-- U7 (R426): the check of the retained groups, `lost` being those whose CRC differs, and the clear of everything else. -/
def State.retentionCheck (s : State) (start lost : Nat) : State :=
  let kept := if start = 2 then s.power.retGroups else 0
  let t := s.keepMem kept
  (maskList 7 (Nat.land kept lost)).foldl State.groupLost t

/-! ## The steps (R419, R421) -/

/-- The Lode clock follows the power class: VCLK, VCLK / 2, VCLK / 4 (R429, R326). -/
def State.classClock (s : State) : State :=
  s.setFld Reg.LODE_CL_STAT Fld.LODE_CL_STAT_CLKDIV (Nat.min 2 (s.fld Reg.PWR_CLASS Fld.PWR_CLASS_CLASS))

/-! ## The converter dies and their sensors -/

/-- The converter die of a sensor, S00-S15 being on DD (R431). -/
def sensorDie (k : Nat) : Option Nat := if k < 16 then none else some ((k - 16) / 6)

def State.sensorBroken (s : State) (k : Nat) : Bool := (s.rd64 Reg.CANARY_BROKEN).testBit k
def State.setBroken (s : State) (k : Nat) (b : Bool) : State := s.wr64 Reg.CANARY_BROKEN (setBitN (s.rd64 Reg.CANARY_BROKEN) k b)

/-- A sensor stops running: neither valid nor broken (R431). -/
def State.sensorOff (s : State) (k : Nat) : State :=
  ((s.setFld (Reg.CANARY_TEMP k) Fld.CANARY_TEMP_VALID 0).setBroken k false).setPower (fun (p : PowerSt) => { p with missed := kvSet (fun _ => 0) p.missed k 0 })

/-- The converter dies power up at the end of C3 (R524): sub-ADC maps as at power-up (R276) less what OTP retires (R476), clear codes on the aux DACs (R409), aux and
monitor registers at reset, every die answers again (R473). -/
def State.convPowerUp (s : State) : State :=
  let keep := fun (c : Nat × Word) => decide (c.1 < 0x780000 ∨ 0x790000 ≤ c.1) && decide (c.1 < 0x7C0000 ∨ 0x7C8000 ≤ c.1)
  let s1 := { s with regs := s.regs.filter keep, mon := {}, aux := [], adcs := [] }.setPower (fun (p : PowerSt) => { p with convOn := true, dieLost := 0 })
  let s2 := (List.range 72).foldl (fun (t : State) u =>
    let t1 := (List.range (adcSlots u)).foldl (fun (v : State) k => v.setFld (adcMapAt u k).1 (adcMapAt u k).2 k) (t.wr (adcStat u) (resetWord (adcStat u)))
    t1.setAdc u { since := s.tick }) s1
  let s3 := (s2.otp.recs.filter (fun r => r.kind == 6)).foldl State.applyRec s2
  let s4 := (List.range 64).foldl (fun (t : State) p =>
    ((t.setDac p { t.dac p with since := s.tick }).setZero p 2 false t.nowTh).setZero p 4 false t.nowTh |>.setZero p 1 false t.nowTh |>.setFld (Reg.RXDP_OVR p) Fld.RXDP_OVR_DIE 0) s3
  let s5 := (List.range 128).foldl (fun (t : State) k => t.setSpell k false) s4
  let s5 := s5.otp.clr.foldl (fun (t : State) e => t.setFld (Reg.AUX_CLRCODE e.1) Fld.AUX_CLRCODE_CODE e.2) s5
  (List.range 72).foldl (fun (t : State) n => t.auxClear n) { s5 with sb := { s5.sb with asleepTx := 0, asleepRx := 0 } }

/-- The converter dies stop at the start of the reversed C3: captures abort, RX paths deliver zeros, their sensors stop. -/
def State.convPowerDown (s : State) : State :=
  let t := (List.range 4).foldl State.cageDieOff (s.setPower (fun (p : PowerSt) => { p with convOn := false }))
  (List.range 24).foldl (fun (u : State) k => u.sensorOff (16 + k)) ((List.range 64).foldl (fun (u : State) p => u.setZero p 2 true u.nowTh) { t with mon := {} })

/-- The action of a bring-up step (R419); `lost` is used by U7 alone. -/
def State.upAction (s : State) (t : Trans) (lost : Nat) : State :=
  match t.step with
  | 1 => s.setSeq 0 true
  | 2 => (s.setSeq 1 true).applyRepair
  | 3 => s.setSeq 3 true
  | 5 =>
    let u := if t.sub = 0 then s.setClk Fld.SYS_CLK_STATUS_CCLK true
      else if t.sub = 1 then (s.setClk Fld.SYS_CLK_STATUS_TCLK true).timeRestart
      else if t.sub = 2 then (s.setClk Fld.SYS_CLK_STATUS_VCLK true).classClock.clStat
      else
        let v := s.setClk Fld.SYS_CLK_STATUS_FCLK true
        if v.power.convOn then v else (List.range 64).foldl (fun (w : State) p => w.setZero p 2 true w.nowTh) v
    u.endEpisodes
  | 6 => s.setSeq 2 true
  | 7 => s.retentionCheck t.start lost
  | 8 => s.setSeq 4 true
  | 9 => s.setSeq 5 true
  | 10 => [Fld.SYS_CLK_STATUS_MCLK, Fld.SYS_CLK_STATUS_ACLK, Fld.SYS_CLK_STATUS_OCLK, Fld.SYS_CLK_STATUS_DCLK].foldl (fun (u : State) f => u.setClk f true) s
  | _ => s

/-- The lane clocks run from the arrival in IDLE to abort point A2 (R16, R415; log entry 55). -/
def State.laneClocks (s : State) (on : Bool) : State := (s.setClk Fld.SYS_CLK_STATUS_LCLK_A on).setClk Fld.SYS_CLK_STATUS_LCLK_B on

/-- Abort point A2 is passed (R421): both ports go down, locks are freed, the `FE_CTL` pins drive `SB_FE_SAFE`. -/
def State.passA2 (s : State) : State :=
  let t := ([0, 1].foldl State.lanesOff s).laneClocks false
  let t := (List.range 64).foldl (fun (u : State) k => if u.lockOwner k = 0 then u else u.breakLock k 2) t
  { t with sb := { t.sb with fespi := [], feAt := [] } }.feSafe

/-- The reversed action of a step (R421). The clocks of U5 stop as FCLK, VCLK, TCLK, CCLK; with CCLK, on the way to DORMANT or RETAIN, all that those states lose. -/
def State.downAction (s : State) (t : Trans) : State :=
  match t.step with
  | 12 => s
  | 11 => s
  | 10 =>
    ([Fld.SYS_CLK_STATUS_DCLK, Fld.SYS_CLK_STATUS_OCLK, Fld.SYS_CLK_STATUS_ACLK, Fld.SYS_CLK_STATUS_MCLK].foldl (fun (u : State) f => u.setClk f false) s).convPowerDown
  | 9 => s.setSeq 5 false
  | 8 => s.setSeq 4 false
  | 6 => s.setSeq 2 false
  | 5 =>
    if t.sub = 0 then s.setClk Fld.SYS_CLK_STATUS_FCLK false
    else if t.sub = 1 then s.setClk Fld.SYS_CLK_STATUS_VCLK false
    else if t.sub = 2 then (s.setPps false).setClk Fld.SYS_CLK_STATUS_TCLK false
    else
      let u := s.setClk Fld.SYS_CLK_STATUS_CCLK false
      if t.target = 3 then u else u.coreOff (if t.target = 2 then u.power.retGroups else 0)
  | 4 => (s.setClk Fld.SYS_CLK_STATUS_REFCLK_LOCK false).setClk Fld.SYS_CLK_STATUS_REFCLK false
  | 3 => s.setSeq 3 false
  | 2 => s.setSeq 1 false
  | 1 => s.setSeq 0 false
  | _ => s

/-- Begin a step: its action, and its delay from now. -/
def State.beginStep (s : State) (t : Trans) (lost : Nat) : State :=
  let x := { t with at_ := s.tick }
  let u := if t.up then s.upAction x lost else s.downAction x
  u.setTrans (some x)

/-- A transition begins (R416, R420): `ERR` returns to 0. -/
def State.beginTrans (s : State) (t : Trans) : State := (s.setFld Reg.PWR_STATUS Fld.PWR_STATUS_ERR 0).beginStep t 0

/-- A wake from DORMANT, RETAIN or LISTEN starts U1, U2 or U5 (R420, R424). -/
def State.beginWake (s : State) : State :=
  let st := s.pstate
  let step := if st = 1 then 1 else if st = 2 then 2 else 5
  (s.setPower (fun (p : PowerSt) => { p with heldWake := false })).beginTrans ⟨true, step, 0, s.tick, 4, st, false⟩

/-! ## Reaching a state -/

/-- Adit enters step 3 (R440): with a recorded host port it fetches from there, else it waits for a `LOAD` message. -/
def State.aditStep3 (s : State) : State :=
  let port := s.bit Reg.SEC_BOOTSRC Fld.SEC_BOOTSRC_VALID && s.fld Reg.SEC_BOOTSRC Fld.SEC_BOOTSRC_SPACE != 0
  { s with sec := { s.sec with adit := if port then .port s.tick else .message } }

/-- Adit starts (R440): steps 1 and 2, with event 0x7009 where the identity does not unseal; channel 15 goes to Foreman (R441). -/
def State.startAdit (s : State) : State :=
  let wants := s.otp.lc = 1 ∨ s.otp.lc = 2
  let ok := s.otp.seed.isSome
  let t := { s with sec := { s.sec with identity := decide wants && ok, ch15 := true } }.aditStep3
  let t := t.setFld Reg.ASSAY_STAT Fld.ASSAY_STAT_FWPAUSE 1
  if wants ∧ !ok then t.raise 0x7009 0xFF else t

/-- IDLE is reached: event 0x1001, after a wake the ports in `TRAIN` train and event 0x1004 (R424), `CONV` clears after READY (R392), Adit starts where due
(R440). -/
def State.arriveIdle (s : State) (start : Nat) : State :=
  let s1 := (s.setTrans none).laneClocks true
  let s2 := if s1.pstate = 4 then s1 else s1.reachState 4
  let s3 := if start ≤ 3 then
      ([0, 1].foldl (fun (t : State) p =>
        if (t.fld Reg.PWR_CTL Fld.PWR_CTL_TRAIN).testBit p then (t.setFld (Reg.LANE_PCTL p) Fld.LANE_PCTL_EN 1).startTraining p else t) s2).raise 0x1004 0xFF
    else s2
  let s3 := if start = 5 then s3.assayRestart else s3
  let s4 := s3.setPower (fun (p : PowerSt) => { p with safeDue := false, heldWake := false })
  if s4.power.bootDue then (s4.setPower (fun (p : PowerSt) => { p with bootDue := false })).startAdit else s4

/-- READY is reached through C5 (R293, R392): the alignment's reset, event 0x4050 and then 0x1001; Assay counts afresh. -/
def State.arriveReady (s : State) : State := (((s.setTrans none).assayRestart).alignReset).reachState 5

/-- DORMANT, RETAIN or LISTEN is reached; Canary's levels have lapsed and its sensors stop (R431). A held wake acts now (R422). -/
def State.arriveLow (s : State) (t : Trans) : State :=
  let w := setF (setF (setF (s.rd Reg.CANARY_STAT) Fld.CANARY_STAT_WARN 0) Fld.CANARY_STAT_THROT 0) Fld.CANARY_STAT_CRIT 0
  let s0 := (List.range 40).foldl State.sensorOff (s.setTrans none)
  let s1 := (s0.wr Reg.CANARY_STAT w).setPower (fun (p : PowerSt) => { p with graceAt := none, bootDue := p.bootDue || t.target != 3 })
  let s2 := if t.failed then s1 else s1.reachState t.target
  if s2.power.heldWake then s2.beginWake else s2

/-- REFCLK is absent at the end of U4, or of U5 of a LISTEN wake (R420): the sequence is reversed, `ERR` = NOREFCLK, event 0x1003. -/
def State.seqFail (s : State) (t : Trans) : State :=
  let u := ((s.setClk Fld.SYS_CLK_STATUS_REFCLK_LOCK false).setFld Reg.PWR_STATUS Fld.PWR_STATUS_ERR 1).raise 0x1003 0xFF
  u.beginStep { t with up := false, sub := 0, target := t.start, failed := true } 0

/-- A wake meets an abort point (R422). -/
def State.abortEntry (s : State) (point : Nat) : State :=
  let w := setF (setF (s.rd Reg.PWR_STATUS) Fld.PWR_STATUS_ABORTED 1) Fld.PWR_STATUS_APOINT point
  (((s.wr Reg.PWR_STATUS w).setTrans none).setPower (fun (p : PowerSt) => { p with heldWake := false })).raise 0x1002 0xFF

/-- SAFE turns a transition at the end of its step (R436): a bring-up of the converters is reversed, a descent below IDLE is undone. -/
def State.safeTurn (s : State) (t : Trans) : State :=
  if 8 ≤ t.step ∧ t.step ≤ 12 then s.beginStep { t with up := false, target := 4, start := 5 } 0
  else if 13 ≤ t.step then s.arriveIdle 4
  else s.beginStep { t with up := true, sub := 3 - t.sub, target := 4, start := 4 } 0

/-- The delay of a bring-up step has passed. -/
def State.upNext (s : State) (t : Trans) (refclk swapped : Bool) (lost : Nat) : State :=
  let s1 := if t.step = 4 ∨ (t.step = 5 ∧ t.sub = 3 ∧ t.start = 3) then
      ((s.setClk Fld.SYS_CLK_STATUS_REFCLK_LOCK refclk).setClk Fld.SYS_CLK_STATUS_REFCLK refclk).setClk Fld.SYS_CLK_STATUS_REFCLK_SWAP swapped
    else if t.step = 10 then s.convPowerUp.endEpisodes else s
  if !refclk && (t.step == 4 || (t.step == 5 && t.sub == 3 && t.start == 3)) then s1.seqFail t
  else if t.step = 5 ∧ t.sub < 3 then s1.beginStep { t with sub := t.sub + 1 } lost
  else if t.step = 5 ∧ s1.power.seq.testBit 2 then s1.arriveIdle t.start
  else if t.step = 6 ∧ ¬s1.power.bootDue then s1.arriveIdle t.start
  else if t.step = 7 then s1.arriveIdle t.start
  else if t.step = 12 then s1.arriveReady
  else s1.beginStep { t with step := t.step + 1, sub := 0 } lost

/-- The delay of a reversed step, or an abort point, has passed. -/
def State.downNext (s : State) (t : Trans) : State :=
  if t.step = 13 then
    (if s.power.heldWake then s.abortEntry 1
     else (s.setPower (fun (p : PowerSt) => { p with retGroups := s.fld Reg.PWR_RETMASK Fld.PWR_RETMASK_GROUPS })).setTrans (some { t with step := 14, at_ := s.tick }))
  else if t.step = 14 then
    (if s.power.heldWake then s.abortEntry 2
     else s.passA2.beginStep { t with step := if t.target = 3 then 5 else 6, sub := 0 } 0)
  else if t.step = 5 ∧ t.sub < 3 then s.beginStep { t with sub := t.sub + 1 } 0
  else if t.step = 5 ∧ t.target = 3 then s.arriveLow t
  else if t.step = 8 then s.arriveIdle 5
  else if t.step = 1 ∨ (t.step = 2 ∧ t.target = 2) then s.arriveLow t
  else s.beginStep { t with step := t.step - 1, sub := 0 } 0

/-- POWER_STEP (R419-R422): a fixed delay has passed. `refclk` and `swapped` are what the PLLs find at REFCLK, `lost` the retained groups whose CRC differs. -/
def execPowerStep (refclk swapped : Bool) (lost : BitVec 7) (s : State) : Res :=
  finish (match s.power.trans with
    | none => s
    | some t =>
      if s.held || decide (s.tick < t.at_ + stepTicks t.step) then s
      else if s.power.safeDue && (t.up || t.step ≤ 6 || 13 ≤ t.step) && (t.start != 1 && t.start != 2 && t.start != 3) then
        (if t.up ∧ t.target = 4 ∧ t.step ≤ 7 then s.upNext t refclk swapped lost.toNat
         else if t.up ∧ t.step = 12 then s.arriveReady.beginTrans ⟨false, 12, 0, s.tick, 4, 5, false⟩
         else (if t.step = 10 ∧ t.up then s.convPowerUp.endEpisodes else s).safeTurn t)
      else if t.up then s.upNext t refclk swapped lost.toNat
      else s.downNext t)

/-! ## Commands (R416, R417) -/

/-- Whether work that a descent would destroy is in progress (R417). -/
def State.workInProgress (s : State) : Bool :=
  (List.range 5).any (fun e => decide (1 ≤ s.sbState e ∧ s.sbState e ≤ 4)) ||
  (List.range 16).any (fun c => s.fld (Reg.DMA_STAT c) Fld.DMA_STAT_STATE != 0 || s.bit (Reg.DMA_STAT c) Fld.DMA_STAT_SHADOW_VALID) ||
  (List.range 8).any (fun q => !(s.wq q).isEmpty) || (List.range 34).any (fun c => (s.core c).running)

/-- Mute source `STATE` of every path (R197): active outside ACTIVE. -/
def State.stateMute (s : State) (on : Bool) : State :=
  (List.range 64).foldl (fun (t : State) p => if on then t.hwMute p Fld.TXDP_MUTE_STATE else t.hwUnmute p Fld.TXDP_MUTE_STATE) s

/-- ACTIVE to READY, at once and without a ramp (R419). -/
def State.toReady (s : State) : State := (s.reachState 5).stateMute true

/-- A write of `PWR_CMD` (R416, R417, R437). -/
def pwrCmdWrite (v : Word) (s : State) : Nat × State :=
  let x := getF v Fld.PWR_CMD_TARGET
  let st := s.pstate
  let s0 := s.setFld Reg.PWR_STATUS Fld.PWR_STATUS_ERR 0
  if s.bit Reg.PWR_STATUS Fld.PWR_STATUS_SAFE || s.power.trans.isSome then (7, s)
  else if x = st then (0, s)
  else if st = 4 ∧ x = 5 then (0, s.beginTrans ⟨true, 8, 0, s.tick, 5, 4, false⟩)
  else if st = 5 ∧ x = 4 then (0, s.beginTrans ⟨false, 12, 0, s.tick, 4, 5, false⟩)
  else if st = 5 ∧ x = 6 then (0, (s0.reachState 6).stateMute false)
  else if st = 6 ∧ x = 5 then (0, s0.toReady)
  else if st = 4 ∧ 1 ≤ x ∧ x ≤ 3 then
    (if s.workInProgress then (7, s) else (0, s.beginTrans ⟨false, if x = 2 then 13 else 14, 0, s.tick, x, 4, false⟩))
  else (7, s)

/-- PWR_CMD (R416). -/
def execPwrCmd (r : Req) (v : Word) (s : State) : Res := finish (s.writeBy r Reg.PWR_CMD (pwrCmdWrite v))

/-! ## Wakes (R422-R424, R72, R73) -/

/-- Sources detected in one AONCLK period (R423): recorded; a wake from a low state, a held wake during a descent from IDLE. -/
def State.wakeBy (s : State) (mask : Nat) : State :=
  let src := Nat.land mask (s.fld Reg.PWR_CTL Fld.PWR_CTL_WAKEEN)
  let st := s.pstate
  if src = 0 ∨ s.held then s
  else match s.power.trans with
    | none => if 1 ≤ st ∧ st ≤ 3 then (s.setFld Reg.PWR_WAKESRC Fld.PWR_WAKESRC_SRC src).beginWake else s
    | some t =>
      if !t.up && !t.failed && t.start == 4 && !s.power.heldWake then
        (s.setFld Reg.PWR_WAKESRC Fld.PWR_WAKESRC_SRC src).setPower (fun (p : PowerSt) => { p with heldWake := true })
      else s

/-- WAKE (R422-R424): the sources of `mask` are detected in one AONCLK period: bit 0 `WAKE_N`, 1 the management port, 2 and 3 ports A and B. -/
def execWake (mask : BitVec 4) (s : State) : Res := finish (s.wakeBy mask.toNat)

/-- WAKE_ACTIVITY (R72, R73, R423): activity on lane 0 of a port has lasted 4 µs: the port's beacon stops, and the port is detected as a wake source. -/
def execWakeActivity (p : Fin 2) (s : State) : Res :=
  finish ((s.setPort p { s.port p with beacon := false }).wakeBy (4 * 2 ^ p.val))

/-! ## Power classes (R429, R434, R435) -/

/-- The class or the number of carriers off has changed at reference time `tw`: the Lode clock, `TOFF`, event 0x1006; the grace timer restarts while THROT is set. -/
def State.classChange (s : State) (cls noff : Nat) (tw : Th) : State :=
  let old := s.fld Reg.PWR_CLASS Fld.PWR_CLASS_CLASS
  let oldN := s.fld Reg.PWR_CLASS Fld.PWR_CLASS_NOFF
  let s1 := s.wr Reg.PWR_CLASS (setF (setF (s.rd Reg.PWR_CLASS) Fld.PWR_CLASS_CLASS cls) Fld.PWR_CLASS_NOFF noff)
  if cls = old ∧ (noff = oldN ∨ cls ≠ 3) then s1
  else
    let s2 := (if s1.clkOn Fld.SYS_CLK_STATUS_VCLK then s1.classClock else s1).toffApply tw
    let s3 := if s2.bit Reg.CANARY_STAT Fld.CANARY_STAT_THROT then s2.setPower (fun (p : PowerSt) => { p with graceAt := some s2.tick }) else s2
    s3.raise 0x1006 0xFF

/-- A write of `PWR_CLASS` (R429, R435). -/
def pwrClassWrite (v : Word) (tw : Th) (s : State) : Nat × State :=
  (0, s.classChange (getF v Fld.PWR_CLASS_CLASS) (getF v Fld.PWR_CLASS_NOFF) tw)

/-- PWR_CLASS_WRITE (R429). -/
def execPwrClassWrite (r : Req) (v : Word) (s : State) : Res := finish (s.writeBy r Reg.PWR_CLASS (fun t => pwrClassWrite v t.nowTh t))

/-- The grace time in ticks (CANARY_GRACE). -/
def State.graceTicks (s : State) : Nat := msTicks (Nat.min 1000 (Nat.max 1 (s.fld Reg.CANARY_GRACE Fld.CANARY_GRACE_MS)))

/-- THROT_ENFORCED (R434): the grace timer expires while THROT is set and the device raises the class one step. -/
def execThrotEnforced (s : State) : Res :=
  let cls := s.fld Reg.PWR_CLASS Fld.PWR_CLASS_CLASS
  let noff := Nat.min 8 (Nat.max 1 (s.fld Reg.PWR_CLASS Fld.PWR_CLASS_NOFF))
  finish (match s.power.graceAt with
    | none => s
    | some t0 =>
      if !s.bit Reg.CANARY_STAT Fld.CANARY_STAT_THROT || decide (s.tick < t0 + s.graceTicks) then s
      else if cls < 2 then (s.raise 0x2006 0xFF).classChange (cls + 1) (s.fld Reg.PWR_CLASS Fld.PWR_CLASS_NOFF) s.nowTh
      else if cls = 2 then (s.raise 0x2006 0xFF).classChange 3 1 s.nowTh
      else if noff < 8 then (s.raise 0x2006 0xFF).classChange 3 (noff + 1) s.nowTh
      else s)

/-! ## REFCLK (R507) -/

/-- REFCLK_LOST (R507): the PLLs hold their frequency, event 0x1011. -/
def execRefclkLost (s : State) : Res :=
  finish (if 4 ≤ s.pstate ∧ s.pstate ≤ 6 ∧ s.clkOn Fld.SYS_CLK_STATUS_REFCLK_LOCK then
      ((s.setClk Fld.SYS_CLK_STATUS_REFCLK_LOCK false).setClk Fld.SYS_CLK_STATUS_REFCLK false).raise 0x1011 0xFF
    else s)

/-- REFCLK_RELOCK (R507): the PLLs have relocked; `swapped` is whether they find `REFCLK_P/N` swapped. -/
def execRefclkRelock (swapped : Bool) (s : State) : Res :=
  finish (if 4 ≤ s.pstate ∧ s.pstate ≤ 6 then
      ((s.setClk Fld.SYS_CLK_STATUS_REFCLK_LOCK true).setClk Fld.SYS_CLK_STATUS_REFCLK true).setClk Fld.SYS_CLK_STATUS_REFCLK_SWAP swapped
    else s)

end Sys2Proof.Machine
end

