-- ==== Sys2Proof/Machine/Flags.lean ====
section
/-! DEFINITION. The flag pins that the device drives, as functions of its state: `IRQ_N`, `FAULT_N`, `THROT_N` (R428, R434, R436, R482). -/
namespace Sys2Proof.Machine

/-- Whether `IRQ_N` is pulled low (R482, R428). -/
def State.irqLow (s : State) : Bool :=
  decide (4 ≤ s.pstate ∧ s.pstate ≤ 6) && !s.held &&
    s.evs.any (fun e => (s.rd Reg.EVT_IRQ_EN).toNat.testBit (e.code / 4096) && decide (1 ≤ e.code / 4096) &&
      decide ((e.seq + 2 ^ 32 - (s.rd Reg.EVT_IRQ_ACK).toNat) % 2 ^ 32 <
        ((s.rd Reg.EVT_NEXT).toNat + 2 ^ 32 - (s.rd Reg.EVT_IRQ_ACK).toNat) % 2 ^ 32))

/-- Whether `FAULT_N` is pulled low by the device (R428, R436), and `THROT_N` (R434). -/
def State.faultLow (s : State) : Bool := s.bit Reg.PWR_STATUS Fld.PWR_STATUS_SAFE
def State.throtLow (s : State) : Bool := s.bit Reg.CANARY_STAT Fld.CANARY_STAT_THROT

end Sys2Proof.Machine
end

