-- ==== Sys2Proof/Machine/Canary.lean ====
section
/-! DEFINITION. Canary (17_power_thermal, R431-R438): sensors, levels, SAFE, the fault pin, the supply check. Marks and risks: log entry 21. -/
namespace Sys2Proof.Machine

/-- What an update finds at one sensor (R431, R432): its reading (1/8 °C), whether its bias readings do not differ, or no reading. -/
abbrev SensorRead := Option (BitVec 16 × Bool)

/-- Whether a sensor runs (R431). -/
def State.sensorOn (s : State) (k : Nat) : Bool := match sensorDie k with | none => true | some d => s.dieOn d

/-- A limit of `CANARY_THR` in 1/8 °C; `CRIT` above 127 acts as 127 (R433). -/
def State.thr (s : State) (f : Field) : Int :=
  let v := sext (s.fld Reg.CANARY_THR f) 8
  8 * (if f = Fld.CANARY_THR_CRIT ∧ 127 < v then 127 else v)

/-- One sensor at an update (R431, R432): its register, its break with event 0x2004, its recovery. A sensor that misses one update keeps what it had. -/
def State.sensorUpdate (s : State) (k : Nat) (r : SensorRead) : State :=
  let a := Reg.CANARY_TEMP k
  if !s.sensorOn k then
    s.sensorOff k
  else
    let missed := match r with | none => kvGet (fun _ => 0) s.power.missed k + 1 | some _ => 0
    let s1 := s.setPower (fun (p : PowerSt) => { p with missed := kvSet (fun _ => 0) p.missed k (Nat.min 2 missed) })
    let s2 := match r with | some (v, _) => s1.setFld a Fld.CANARY_TEMP_T v.toNat | none => s1
    let bad : Bool := match r with
      | some (v, stuck) => stuck || decide (v.toInt < -560 ∨ 1280 < v.toInt)
      | none => decide (2 ≤ missed) || s.sensorBroken k
    let s3 := (s2.setFld a Fld.CANARY_TEMP_VALID (b2n !bad)).setBroken k bad
    if bad && !s.sensorBroken k then s3.raise 0x2004 k else s3

/-- The compared readings: broken sensors count as `THROT` + 1 °C unless masked (R432). -/
def State.compared (s : State) : List (Nat × Int) :=
  (List.range 40).filterMap (fun k =>
    if !s.sensorOn k then none
    else if s.sensorBroken k then (if (s.rd64 Reg.CANARY_MASK).testBit k then none else some (k, s.thr Fld.CANARY_THR_THROT + 8))
    else some (k, sext (s.fld (Reg.CANARY_TEMP k) Fld.CANARY_TEMP_T) 16))

/-- Tmax with its sensor: the lowest-numbered of the hottest; `THROT` + 1 °C and 0x3F when none is compared (R433). -/
def State.tmax (s : State) : Nat × Int :=
  match s.compared with
  | [] => (0x3F, s.thr Fld.CANARY_THR_THROT + 8)
  | x :: xs => xs.foldl (fun (b : Nat × Int) y => if b.2 < y.2 then y else b) x

/-- Set or clear a level bit of `CANARY_STAT`. -/
def State.setLevel (s : State) (f : Field) (on : Bool) : State := s.setFld Reg.CANARY_STAT f (b2n on)

/-- Entry to SAFE (R436): `FAULT_N` low, event 0x2003, every TX path muted, aux DACs cleared, engines halted, and the descent to IDLE. -/
def State.enterSafe (s : State) : State :=
  let s1 := (s.flag Reg.PWR_STATUS Fld.PWR_STATUS_SAFE).raise 0x2003 0xFF
  let s2 := (List.range 64).foldl (fun (t : State) p => t.hwMute p Fld.TXDP_MUTE_SAFE) s1
  let s3 := s2.auxClearAll.sbSafe
  match s3.power.trans with
  | some _ => s3.setPower (fun (p : PowerSt) => { p with safeDue := true })
  | none =>
    let s4 := if s3.pstate = 6 then s3.toReady else s3
    if s4.pstate = 5 then s4.beginTrans ⟨false, 12, 0, s.tick, 4, 5, false⟩ else s4

/-- The levels at an update (R433, R434, R436). -/
def State.levels (s : State) (t : Int) : State :=
  let was := fun (f : Field) => s.bit Reg.CANARY_STAT f
  let warn := if s.thr Fld.CANARY_THR_WARN ≤ t then true else if t ≤ s.thr Fld.CANARY_THR_WARN - 40 then false else was Fld.CANARY_STAT_WARN
  let throt := if s.thr Fld.CANARY_THR_THROT ≤ t then true else if t ≤ s.thr Fld.CANARY_THR_THROT - 40 then false else was Fld.CANARY_STAT_THROT
  let crit := decide (s.thr Fld.CANARY_THR_CRIT ≤ t)
  let s1 := ((s.setLevel Fld.CANARY_STAT_WARN warn).setLevel Fld.CANARY_STAT_THROT throt)
  let s1 := if crit then s1.setLevel Fld.CANARY_STAT_CRIT true else s1
  let s2 := if warn && !was Fld.CANARY_STAT_WARN then (s1.evSource 0x62).raise 0x2001 0xFF else s1
  let s3 :=
    if throt && !was Fld.CANARY_STAT_THROT then
      ((s2.setPower (fun (p : PowerSt) => { p with graceAt := some s2.tick })).evSource 0x63).raise 0x2002 0xFF
    else s2
  let s4 := if crit && !was Fld.CANARY_STAT_CRIT then s3.enterSafe else s3
  if !throt && was Fld.CANARY_STAT_THROT then (s4.setPower (fun (p : PowerSt) => { p with graceAt := none })).raise 0x2005 0xFF else s4

/-- CANARY_UPDATE (R431-R436): the readings of S00-S39, every 100 µs in IDLE, READY and ACTIVE; a sensor beyond the list gives none. -/
def execCanaryUpdate (reads : List SensorRead) (s : State) : Res :=
  finish (
    if ¬(4 ≤ s.pstate ∧ s.pstate ≤ 6) ∨ !s.clkOn Fld.SYS_CLK_STATUS_CCLK ∨ s.tick < s.power.canaryAt + usTicks 100 then s
    else
      let s1 := (List.range 40).foldl (fun (t : State) k => t.sensorUpdate k (reads.getD k none))
        (s.setPower (fun (p : PowerSt) => { p with canaryAt := s.tick }))
      let (hot, t) := s1.tmax
      let w := setF (setF (s1.rd Reg.CANARY_STAT) Fld.CANARY_STAT_HOT hot) Fld.CANARY_STAT_TMAX (encS 16 t)
      (s1.wr Reg.CANARY_STAT w).levels t)

/-- A write of `PWR_STATUS` (R437, R422): `ABORTED` clears; `SAFE` clears unless Tmax ≥ `CRIT` − 5 °C, and with it the level CRIT (R433). -/
def pwrStatusWrite (v : Word) (s : State) : Nat × State :=
  let s1 := if getF v Fld.PWR_STATUS_ABORTED = 1 then s.setFld Reg.PWR_STATUS Fld.PWR_STATUS_ABORTED 0 else s
  let t := sext (s.fld Reg.CANARY_STAT Fld.CANARY_STAT_TMAX) 16
  if getF v Fld.PWR_STATUS_SAFE = 1 ∧ s.bit Reg.PWR_STATUS Fld.PWR_STATUS_SAFE ∧ t < s.thr Fld.CANARY_THR_CRIT - 40 then
    (0, (s1.setFld Reg.PWR_STATUS Fld.PWR_STATUS_SAFE 0).setLevel Fld.CANARY_STAT_CRIT false)
  else (0, s1)

/-- SAFE_CLEAR (R437): a write of `PWR_STATUS`. -/
def execSafeClear (r : Req) (v : Word) (s : State) : Res := finish (s.writeBy r Reg.PWR_STATUS (pwrStatusWrite v))

/-- FAULT_PIN (R438): Canary's sample of `FAULT_N`, every 100 µs, finds it pulled low from outside, or not; event 0x2007 once per fall. While the device drives it low itself, nothing
can be seen. -/
def execFaultPin (low : Bool) (s : State) : Res :=
  finish (
    if ¬(4 ≤ s.pstate ∧ s.pstate ≤ 6) ∨ !s.clkOn Fld.SYS_CLK_STATUS_CCLK ∨ s.faultLow ∨ s.tick < s.power.faultAt + usTicks 100 then s
    else
      let t := (s.setLevel Fld.CANARY_STAT_EXTFAULT low).setPower (fun (p : PowerSt) => { p with faultLow := low, faultAt := s.tick })
      if low && !s.power.faultLow then t.raise 0x2007 0xFF else t)

/-- SUPPLY_CHECK (R438): every 100 µs with `SUPCHK` and CD0 powered the urgent request for the next rail is issued; its result is compared where it is
written (`State.monWrite`). -/
def execSupplyCheck (s : State) : Res :=
  finish (
    if !s.bit Reg.CANARY_CTL Fld.CANARY_CTL_SUPCHK ∨ !s.dieOn 0 ∨ s.tick < s.power.supAt + usTicks 100 then s
    else
      let ch := s.power.supChan
      (s.setPower (fun (p : PowerSt) => { p with supAt := s.tick, supChan := if ch = 39 then 32 else ch + 1 })).monAccept none (ch + 8 * 4096))

end Sys2Proof.Machine
end

