-- ==== Sys2Proof/Machine/Falcon.lean ====
section
/-! DEFINITION. Verification of a padded Falcon-1024 signature (Falcon specification 1.2, 3.7, 3.8 and 3.11, named in Scope, Standards used): q = 12 289,
degree 1 024, a public key of 1 + 1 792 bytes, a signature of 1 + 40 + 1 239 bytes. Marks and risks: log entry 3. -/
namespace Sys2Proof.Machine

def falconQ : Nat := 12289

/-- The bound of the squared norm of a signature. -/
def falconBound : Nat := 70265242

/-- The bits of bytes, most significant first. -/
def bitsOf (bs : List Nat) : List Bool := bs.flatMap (fun b => (List.range 8).map (fun i => b.testBit (7 - i)))

/-- A number from bits, most significant first. -/
def ofBits (l : List Bool) : Nat := l.foldl (fun v b => 2 * v + b2n b) 0

/-- The polynomial `h` of a public key: 14 bits for each coefficient, each below q. -/
def falconKey (key : List Nat) : Option (List Nat) :=
  let bs := bitsOf (key.drop 1)
  let h := (List.range 1024).map (fun i => ofBits ((bs.drop (14 * i)).take 14))
  if key.length = 1793 ∧ key.getD 0 0 = 0x0A ∧ h.all (fun v => decide (v < falconQ)) then some h else none

/-- `HashToPoint`: numbers of 16 bits, most significant byte first, from SHAKE256; those below 5 q are taken modulo q. A stream of 16 384 bytes holds more
than 1 024 of them but for a chance below 2^-1000. -/
def hashToPoint (salt msg : List Nat) : List Nat :=
  let s := (shake256 (salt ++ msg) 16384).toArray
  (((List.range 8192).map (fun i => 256 * s.getD (2 * i) 0 + s.getD (2 * i + 1) 0)).filter (fun t => decide (t < 5 * falconQ))).take 1024 |>.map (· % falconQ)

/-- The unary part of a coefficient: zeros up to a one. -/
def unaryOf : List Bool → Option (Nat × List Bool)
  | [] => none
  | true :: rest => some (0, rest)
  | false :: rest => match unaryOf rest with
    | some (k, l) => some (k + 1, l)
    | none => none

/-- `Decompress`: `n` coefficients of a sign, seven low bits and a unary high part; a negative zero and set bits after the last one refuse. -/
def decompress : Nat → List Bool → Option (List Int)
  | 0, bs => if bs.any id then none else some []
  | n + 1, bs =>
    match bs with
    | [] => none
    | sign :: rest =>
      if rest.length < 7 then none
      else
        match unaryOf (rest.drop 7) with
        | none => none
        | some (k, left) =>
          let m := ofBits (rest.take 7) + 128 * k
          if sign && m == 0 then none
          else match decompress n left with
            | some l => some ((if sign then -(m : Int) else (m : Int)) :: l)
            | none => none

/-- Coefficient `k` of the product of two polynomials modulo x^1024 + 1. -/
def negacyclic (a b : Array Int) (k : Nat) : Int :=
  (List.range 1024).foldl (fun v i => if i ≤ k then v + a.getD i 0 * b.getD (k - i) 0 else v - a.getD i 0 * b.getD (k + 1024 - i) 0) 0

/-- The representative of a number modulo q of least magnitude. -/
def centred (x : Int) : Int := let r := x % (falconQ : Int); if 2 * r > (falconQ : Int) then r - (falconQ : Int) else r

/-- Verify: the key and the signature decode, and the short pair that they and the message give is short enough. -/
def falconVerify (key sig msg : List Nat) : Bool :=
  match falconKey key, decompress 1024 (bitsOf (sig.drop 41)) with
  | some h, some s2 =>
    let c := (hashToPoint ((sig.drop 1).take 40) msg).toArray
    let hp := (h.map (fun (v : Nat) => (v : Int))).toArray
    let sp := s2.toArray
    let norm := (List.range 1024).foldl (fun (m : Nat) k =>
      m + (centred ((c.getD k 0 : Nat) - negacyclic sp hp k)).natAbs ^ 2 + (sp.getD k 0).natAbs ^ 2) 0
    sig.length == 1280 && sig.getD 0 0 == 0x3A && decide (norm ≤ falconBound)
  | _, _ => false

/-- Verification of bytes (R103, R450, R458). -/
def falconOk (key sig msg : List Byte) : Bool := falconVerify (byteNats key) (byteNats sig) (byteNats msg)

end Sys2Proof.Machine
end

