-- ==== Sys2Proof/Machine/Boot.lean ====
section
/-! DEFINITION. Boot and service messages (18_boot_security, R439-R463), repair commits (R477, R478), Foreman's lockstep (R472). Foreman and the enclave are
requesters 4 and 5; what firmware does is what these rules say of it. Marks and risks: log entries 22, 23. -/
namespace Sys2Proof.Machine

def State.setSec (s : State) (f : SecSt → SecSt) : State := { s with sec := f s.sec }
def State.setOtp (s : State) (f : OtpSt → OtpSt) : State := { s with otp := f s.otp }

/-- The bytes of a hash, and its words, in address order (R451, SEC_IDHASH). -/
def hashBytes (bits h : Nat) : List Byte := natLE (bits / 8) h
def hashWords (bits h : Nat) : List Nat := (List.range (bits / 32)).map (fun k => h / 2 ^ (32 * k) % 2 ^ 32)

/-- Key of a Foreman firmware bank, 131 072 bytes (R449). -/
def fwMem (bank : Nat) : Nat := 2 ^ 34 + bank * 0x20000

/-- The device holds no identity (R457, DEDUCED): in RMA, and in PROVISIONED and FIELD where it did not unseal; in BLANK the hash reads once `ID_GEN` has stored it. -/
def State.identityLost (s : State) : Bool := s.otp.lc == 3 || (s.otp.lc != 0 && !s.sec.identity)

/-- Registers whose value OTP gives: SYS_SERIAL and the SEC page (R452-R456). -/
def State.otpReg (s : State) (a : Nat) : Option Nat :=
  if a = Reg.SYS_SERIAL then some (s.otp.serial % 2 ^ 32)
  else if a = Reg.SYS_SERIAL + 4 then some (s.otp.serial / 2 ^ 32 % 2 ^ 32)
  else if a = Reg.SEC_LIFECYCLE then some s.otp.lc
  else if a = Reg.SEC_ROOT then
    some (setF (setF (setF (s.rd a) Fld.SEC_ROOT_DEAD s.otp.dead) Fld.SEC_ROOT_REVOKED s.otp.revoked) Fld.SEC_ROOT_PROG s.otp.prog).toNat
  else if a = Reg.SEC_SVN then some (setF (s.rd a) Fld.SEC_SVN_MIN s.otp.svn).toNat
  else if Reg.SEC_IDHASH 0 ≤ a ∧ a < Reg.SEC_IDHASH 8 then some (if s.identityLost then 0 else s.otp.idHash.getD ((a - Reg.SEC_IDHASH 0) / 4) 0)
  else if Reg.SEC_ROOTHASH 0 0 ≤ a ∧ a < Reg.SEC_ROOTHASH 4 0 then
    let o := (a - Reg.SEC_ROOTHASH 0 0) / 4
    some (if s.otp.prog.testBit (o / 8) then (kvGet (fun _ => []) s.otp.hashes (o / 8)).getD (o % 8) 0 else 0)
  else none

/-- Such a register, or any other, as it reads. -/
def State.secReg (s : State) (a : Nat) : Nat := (s.otpReg a).getD (s.rd a).toNat

/-! ## Images (R448-R451) -/

/-- A little-endian word of an image or certificate. -/
def byteWord (bs : List Byte) (off : Nat) : Nat := leNat ((bs.drop off).take 4)
def slice (bs : List Byte) (off n : Nat) : List Byte := (bs.drop off).take n

/-- Length of the manifest padded to 64, and the offset of the signature (R448). -/
def sigOffset (nseg : Nat) : Nat := 1920 + (nseg * 80 + 63) / 64 * 64

/-- Check 1 of R450: header, reserved bits and layout. -/
def imageFormatOk (bs : List Byte) : Bool :=
  let w := byteWord bs
  let nseg := bitsAt (w 4) 24 4
  let segs := sigOffset nseg + 1280
  let len := w 8
  bitsAt (w 0) 16 16 == 0x4657 && bitsAt (w 0) 8 8 == 1 && bitsAt (w 0) 0 8 == 1 &&
  bitsAt (w 4) 28 4 == 0 && bitsAt (w 4) 20 4 == 0 && bitsAt (w 4) 12 4 == 0 && bitsAt (w 4) 6 2 == 0 &&
  decide (1 ≤ nseg ∧ nseg ≤ 8) && decide (len ≤ 262144) && len == bs.length && w 12 / 2 ^ 17 == 0 &&
  (List.range 10).all (fun k => w (24 + 4 * k) == 0) && (slice bs 1857 63).all (fun b => b == 0) &&
  (List.range nseg).all (fun i =>
    let e := 1920 + 80 * i
    w e % 64 == 0 && decide (segs ≤ w e ∧ w e + w (e + 4) ≤ len ∧ w (e + 8) + w (e + 4) ≤ 131072) && w (e + 12) == 0)

/-- Whether a public key is the one of a root slot (R450 step 2): its hash, programmed, not revoked. -/
def State.rootKeyOk (s : State) (slot : Nat) (key : List Byte) : Bool :=
  decide (slot < 4) && s.otp.prog.testBit slot && !s.otp.revoked.testBit slot &&
    hashWords 256 (hash256 key).toNat == kvGet (fun _ => []) s.otp.hashes slot

/-- An image's measurement (R451), as 16 words. -/
def imageMeas (bs : List Byte) : List Nat := hashWords 512 (hash512 (bs.take (sigOffset (bitsAt (byteWord bs 4) 24 4)))).toNat

/-- The boot record's measurement. -/
def State.bootRec (s : State) : List Nat := (List.range 16).map (fun k => (s.rd (Reg.SEC_BOOTREC k)).toNat)

/-- The checks of R450 in order: 0, or the status of the first that fails. `measure`: check 7 applies. -/
def State.verifyImage (s : State) (bs : List Byte) (measure : Bool) : Nat :=
  let w := byteWord bs
  let root := bitsAt (w 4) 8 4
  let key := slice bs 64 1793
  let sig := sigOffset (bitsAt (w 4) 24 4)
  let serial := w 16 + 2 ^ 32 * w 20
  let lc := s.otp.lc
  let romState := lc = 0 ∨ lc = 3
  if !imageFormatOk bs then 4
  else if !(if root = 0xF then decide (hash256 key = Config.romKeyHash) else s.rootKeyOk root key) then 5
  else if !((bitsAt (w 4) 16 4).testBit lc) ∨ ¬(romState ↔ root = 0xF) ∨ (serial ≠ 0 ∧ serial ≠ s.otp.serial) ∨ (lc = 3 ∧ serial ≠ s.otp.serial) then 6
  else if !falconOk key (slice bs sig 1280) (bs.take sig) then 7
  else if bitsAt (w 4) 0 6 < s.otp.svn then 8
  else if !((List.range (bitsAt (w 4) 24 4)).all (fun i =>
      let e := 1920 + 80 * i
      hashBytes 512 (hash512 (slice bs (w e) (w (e + 4)))).toNat == slice bs (e + 16) 64)) then 9
  else if measure && s.bit Reg.SEC_BOOTSRC Fld.SEC_BOOTSRC_VALID && imageMeas bs != s.bootRec then 10
  else 0

/-- What the device keeps of a verified image. -/
def imageOf (bs : List Byte) (space addr : Nat) : Image :=
  let w := byteWord bs
  ⟨space, addr, bs.length, bitsAt (w 4) 8 4, bitsAt (w 4) 0 6, bitsAt (w 12) 0 17, imageMeas bs⟩

/-- Copy the segments of an image into a FW bank (R440, R462). -/
def State.copyImage (s : State) (bank : Nat) (bs : List Byte) : State :=
  let w := byteWord bs
  (List.range (bitsAt (w 4) 24 4)).foldl (fun (t : State) i =>
    let e := 1920 + 80 * i
    t.stBytes (fwMem bank + w (e + 8)) (slice bs (w e) (w (e + 4)))) (s.clearMem (fwMem bank) (fwMem (bank + 1)))

/-- A failed verification (R440, R446): event 0x7002, `LASTREJ`. -/
def State.rejectImage (s : State) (status : Nat) : State := (s.setFld Reg.SEC_FW Fld.SEC_FW_LASTREJ status).raise 0x7002 0xFF

/-- Where a fetched image is placed (R441). -/
def fetchArea : Nat := sharedMem + 0xFC0000

/-- Whether a port can serve Foreman's transfers: OPERATIONAL with `MEMMASTER` (R440, R88). -/
def State.portServes (s : State) (p : Nat) : Bool := s.lstate p == 2 && (s.fld (Reg.LINK_NEG_RES p) Fld.LINK_NEG_RES_FEAT).testBit 6

/-- Fetch an image (R440, R446, R441): from shared memory in place, or from host memory through channel 15, whose transfer brings `data` and ends with DMA status `dst`.
Answers the status (3 with the DMA status in the upper byte) and the bytes. -/
def State.fetchImage (s : State) (space addr len : Nat) (dst : Nat) (data : List Byte) : Nat × List Byte × State :=
  if space = 0 then (0, s.ldBytes (sharedMem + addr) len, s)
  else if 262144 < len then (4, [], s)
  else if !s.portServes (space - 1) then (3 + 256 * 5, [], s)
  else
    let bs := (List.range len).map (fun i => data.getD i 0)
    let t := s.stBytes fetchArea (if dst = 0 then bs else data.take len)
    if dst = 0 then (0, bs, t) else (3 + 256 * dst, [], t)

/-- Whether a source or destination of a request is within range (R446): a known space; in shared memory 64-byte aligned and inside the 16 MiB. -/
def spaceOk (space addr n : Nat) : Bool :=
  if space = 0 then addr % 64 == 0 && decide (addr + n ≤ 2 ^ 24) else decide (space ≤ 2)

/-! ## Requests and replies (R445, R447) -/

/-- Opcodes of R446 and R477. -/
def svcOps : List Nat := [0x01, 0x02, 0x03, 0x10, 0x11, 0x20, 0x21, 0x22, 0x23, 0x24, 0x25]

/-- Whether an opcode may come on a channel (R446, R477). -/
def svcChannel (op c : Nat) : Bool :=
  if op = 0x01 then decide (c < 8)
  else if op < 0x20 then decide (c < 8 ∨ (24 ≤ c ∧ c < 28))
  else decide (28 ≤ c ∧ c < 32)

/-- Post a reply (R445): opcode + 0x80, status, for SOURCE the DMA status, the tag. A channel that refuses it takes none. -/
def State.svcReply (s : State) (q : SvcReq) (status : Nat) : State :=
  let w0 := (q.op + 0x80) % 256 * 2 ^ 24 + status % 256 * 65536 + status / 256 % 256 * 256 + q.tag
  (mbxMessage q.reply (if 28 ≤ q.chan then 5 else 4) [w0] s).2

/-- Whether the agent that serves a channel can take its message now (R440, R463, R472): the enclave while the digital die runs; Adit, for `LOAD` alone, once it waits for one; firmware once it
has replied. -/
def State.svcReady (s : State) (c op : Nat) : Bool :=
  s.mbxFull c && s.clkOn Fld.SYS_CLK_STATUS_CCLK && s.fld (Reg.MBX_CFG c) Fld.MBX_CFG_RX == (if 28 ≤ c then 5 else 4) &&
    (decide (28 ≤ c) ||
      (match s.sec.adit with
       | .done => !s.bit Reg.ASSAY_STAT Fld.ASSAY_STAT_FWPAUSE
       | .message => op == 0x01
       | .port _ => false
       | .verified _ _ => op == 0x01
       | .off => false))

/-- Serve the message of channel `c` if its opcode is `op`, or one that no service has (R445): read it, refuse a secure request with a non-secure reply channel,
answer BADMSG to an unknown opcode or a wrong channel, else do what the service does with the request and the 16 words. -/
def State.serve (s : State) (c op : Nat) (act : SvcReq → List Nat → State → State) : State :=
  let ws := s.mbxWords c
  let w0 := ws.getD 0 0
  let o := bitsAt w0 24 8
  if !s.svcReady c o || (o != op && svcOps.contains o) then s
  else
    let (_, _, t) := mbxMsgRead c 15 (if 28 ≤ c then 5 else 4) s
    let q : SvcReq := ⟨o, c, bitsAt w0 8 5, bitsAt w0 0 8⟩
    if 24 ≤ c ∧ q.reply < 24 then t.raise 0x700A c
    else if o ≠ op ∨ !svcChannel op c then t.svcReply q 2
    else act q ws t

/-! ## Adit (R440, R441) -/

/-- ADIT_FETCH (R440 step 3): the recorded port is OPERATIONAL with `MEMMASTER`; channel 15 brings `data` and ends with DMA status `dst`. The image is verified like a load without
`ANY`. -/
def execAditFetch (dst : BitVec 8) (data : List Byte) (s : State) : Res :=
  let space := s.fld Reg.SEC_BOOTSRC Fld.SEC_BOOTSRC_SPACE
  finish (match s.sec.adit with
    | .port _ =>
      if !s.portServes (space - 1) then s
      else
        let addr := s.rd64 Reg.SEC_BOOTADDR
        let (st, bs, t) := s.fetchImage space addr (s.rd Reg.SEC_BOOTLEN).toNat dst.toNat data
        if st % 256 = 3 then t.aditStep3
        else
          let v := if st ≠ 0 then st else t.verifyImage bs true
          if v ≠ 0 then (t.rejectImage v).aditStep3
          else (t.copyImage 0 bs).setSec (fun (x : SecSt) => { x with adit := .verified (imageOf bs space addr) none })
    | _ => s)

/-- ADIT_WAIT_TIMEOUT (R440): 2 s without a usable port. -/
def execAditWaitTimeout (s : State) : Res :=
  finish (match s.sec.adit with
    | .port t0 => if t0 + msTicks 2000 ≤ s.tick then s.setSec (fun (x : SecSt) => { x with adit := .message }) else s
    | _ => s)

/-- LOAD (R446, R440 step 4): Adit fetches and verifies an image and copies it into FW0; after handover to firmware the answer is BADMSG. -/
def execLoad (c : Fin 32) (dst : BitVec 8) (data : List Byte) (s : State) : Res :=
  finish (s.serve c 0x01 (fun q ws t =>
    let space := bitsAt (ws.getD 1 0) 0 2
    let addr := ws.getD 2 0 + 2 ^ 32 * ws.getD 3 0
    let len := ws.getD 4 0
    match t.sec.adit with
    | .done => t.svcReply q 2
    | .off => t.svcReply q 2
    | .port _ => t
    | .verified _ _ => t.svcReply q 1
    | .message =>
      if !spaceOk space addr len then t.svcReply q 2
      else
        let (st, bs, u) := t.fetchImage space addr len dst.toNat data
        if st % 256 = 3 then u.svcReply q st
        else
          let v := if st ≠ 0 then st else u.verifyImage bs (!bitAt (ws.getD 5 0) 0)
          if v ≠ 0 then ((u.rejectImage v).svcReply q v).aditStep3
          else (u.copyImage 0 bs).setSec (fun (x : SecSt) => { x with adit := .verified (imageOf bs space addr) (some q) })))

/-- Record the running image (R451): the boot record and the running slot and SVN. -/
def State.recordImage (s : State) (i : Image) : State :=
  let s1 := (List.range 16).foldl (fun (t : State) k => t.wr (Reg.SEC_BOOTREC k) (BitVec.ofNat 32 (i.meas.getD k 0))) s
  let s2 := (s1.wr64 Reg.SEC_BOOTADDR i.addr).wr Reg.SEC_BOOTLEN (BitVec.ofNat 32 i.len)
  let s3 := s2.wr Reg.SEC_BOOTSRC (setF (setF 0 Fld.SEC_BOOTSRC_VALID 1) Fld.SEC_BOOTSRC_SPACE i.space)
  let r := setF (setF (s3.rd Reg.SEC_ROOT) Fld.SEC_ROOT_RUNROM (b2n (i.root == 0xF))) Fld.SEC_ROOT_RUNSLOT i.root
  ((s3.wr Reg.SEC_ROOT r).setFld Reg.SEC_SVN Fld.SEC_SVN_RUN i.svn).setSec (fun (x : SecSt) => { x with run := some i })

/-- Firmware restarts: items 3-8 of Assay pause until it replies (R463, R472). -/
def State.fwRestart (s : State) (q : Option SvcReq) : State :=
  (s.setFld Reg.ASSAY_STAT Fld.ASSAY_STAT_FWPAUSE 1).setSec (fun (x : SecSt) => { x with fwReply := q })

/-- BOOT_DONE (R440 step 5): `FWSEL` = 0, the image is recorded, firmware starts, event 0x7001. -/
def execBootDone (s : State) : Res :=
  finish (match s.sec.adit with
    | .verified i q =>
      ((((s.setFld Reg.SEC_FW Fld.SEC_FW_FWSEL 0).recordImage i).setSec (fun (x : SecSt) => { x with adit := .done })).fwRestart q).raise 0x7001 0xFF
    | _ => s)

/-- FIRMWARE_REPLY (R441, R463, R383): started firmware posts its first reply: Assay's pause ends, channel 15 is free. -/
def execFirmwareReply (s : State) : Res :=
  finish (
    if s.sec.adit ≠ .done ∨ !s.bit Reg.ASSAY_STAT Fld.ASSAY_STAT_FWPAUSE then s
    else
      let t := match s.sec.fwReply with | some q => s.svcReply q 0 | none => s
      (t.setFld Reg.ASSAY_STAT Fld.ASSAY_STAT_FWPAUSE 0).setSec (fun (x : SecSt) => { x with fwReply := none, ch15 := false }))

/-- FOREMAN_LOCKSTEP (R472): both cores restart, requests in progress are lost, Foreman's locks break, event 0x6010. While Adit runs, it starts again. -/
def execForemanLockstep (s : State) : Res :=
  finish (
    if !s.clkOn Fld.SYS_CLK_STATUS_CCLK then s
    else
      let t := s.ownerLost 4 2
      let t := if t.sec.adit = .done then (t.fwRestart none).setSec (fun (x : SecSt) => { x with swapReq := none }) else t.startAdit
      t.raise 0x6010 0xFF)

/-! ## Firmware swap (R462, R463) -/

/-- The inactive FW bank. -/
def State.otherBank (s : State) : Nat := 1 - s.fld Reg.SEC_FW Fld.SEC_FW_FWSEL

/-- STAGE (R462): fetch, verify without the measurement, copy into the inactive bank, event 0x7003. -/
def execStage (c : Fin 32) (dst : BitVec 8) (data : List Byte) (s : State) : Res :=
  finish (s.serve c 0x02 (fun q ws t =>
    let space := bitsAt (ws.getD 1 0) 0 2
    let addr := ws.getD 2 0 + 2 ^ 32 * ws.getD 3 0
    let len := ws.getD 4 0
    if t.bit Reg.SEC_FW Fld.SEC_FW_SWAP_PEND then t.svcReply q 1
    else if !spaceOk space addr len then t.svcReply q 2
    else
      let (st, bs, u) := t.fetchImage space addr len dst.toNat data
      if st % 256 = 3 then u.svcReply q st
      else
        let v0 := if st ≠ 0 then st else u.verifyImage bs false
        let v := if v0 = 0 ∧ bitsAt (byteWord bs 4) 0 6 < u.fld Reg.SEC_SVN Fld.SEC_SVN_RUN then 8 else v0
        if v ≠ 0 then (u.rejectImage v).svcReply q v
        else
          let i := imageOf bs space addr
          let x := ((u.copyImage u.otherBank bs).setFld Reg.SEC_FW Fld.SEC_FW_STAGED 1).setSec (fun (y : SecSt) => { y with staged := some i })
          (x.raise 0x7003 0xFF).svcReply q 0))

/-- The present ST in nanoseconds (R155). -/
def State.stNow (s : State) : Nat := (s.nowTh / 196608 % (2 ^ 64 : Nat)).toNat

/-- FW_SWAP (R463): schedule the swap at T; LATE where T has passed, NOSTAGE without a staged image. -/
def execFwSwap (c : Fin 32) (s : State) : Res :=
  finish (s.serve c 0x03 (fun q ws t =>
    let at_ := ws.getD 2 0 + 2 ^ 32 * ws.getD 3 0
    if t.bit Reg.SEC_FW Fld.SEC_FW_SWAP_PEND then t.svcReply q 1
    else if at_ < t.stNow then t.svcReply q 11
    else if t.sec.staged.isNone then t.svcReply q 12
    else ((t.setFld Reg.SEC_FW Fld.SEC_FW_SWAP_PEND 1).wr64 Reg.SEC_SWAPT at_).setSec (fun (x : SecSt) => { x with swapReq := some q })))

/-- FW_SWAPPED (R463): the swap instant: `FWSEL` flips, the boot record takes the new image, Foreman restarts, event 0x7004. -/
def execFwSwapped (s : State) : Res :=
  finish (
    if !s.bit Reg.SEC_FW Fld.SEC_FW_SWAP_PEND || decide (s.stNow < s.rd64 Reg.SEC_SWAPT) || !s.clkOn Fld.SYS_CLK_STATUS_CCLK then s
    else match s.sec.staged with
      | none => s
      | some i =>
        let w := setF (setF (setF (s.rd Reg.SEC_FW) Fld.SEC_FW_FWSEL s.otherBank) Fld.SEC_FW_STAGED 0) Fld.SEC_FW_SWAP_PEND 0
        let t := ((s.wr Reg.SEC_FW w).recordImage i).fwRestart s.sec.swapReq
        (t.setSec (fun (x : SecSt) => { x with staged := none, swapReq := none })).raise 0x7004 0xFF)

/-! ## Identity and attestation (R456-R459) -/

/-- Write bytes to the destination of a request (R446): shared memory, or host memory through channel 15, the last block filled with bytes the spec leaves open. The DMA
status is 5 where the port cannot take them. -/
def State.svcWrite (s : State) (space addr : Nat) (bs : List Byte) : Nat × State :=
  if space = 0 then (0, s.stBytes (sharedMem + addr) bs)
  else if !s.portServes (space - 1) then (5, s)
  else
    let (pad, t) := s.freeBytes ((64 - bs.length % 64) % 64)
    (0, t.hostWrites 15 (space - 1) addr (bs ++ pad) 4)

/-- A signature of 1 280 bytes with the identity key (R457). -/
def State.idSign (s : State) (msg : List Byte) : List Byte × State :=
  let (v, t) := s.takeFree
  let sig := Config.falconSign (s.otp.seed.getD 0) v msg
  ((List.range 1280).map (fun i => sig.getD i 0), t)

/-- The identity public key, 1 793 bytes. -/
def idKey (seed : Nat) : List Byte := let k := Config.identityKey seed; (List.range 1793).map (fun i => k.getD i 0)

/-- The configuration digest of a report (R459). -/
def State.configDigest (s : State) : List Byte :=
  let regs := [Reg.LINK_CTL 0, Reg.LINK_FEAT_OFFER 0, Reg.LINK_CTL 1, Reg.LINK_FEAT_OFFER 1] ++ (List.range 32).map Reg.MBX_CFG ++
    [Reg.SEC_LIFECYCLE, Reg.SEC_ROOT, Reg.SEC_SVN, Reg.SEC_FW]
  hashBytes 512 (hash512 (regs.flatMap (fun a => natLE 4 (s.secReg a)))).toNat

/-- Bytes 0-511 of a report (R459). -/
def State.report (s : State) (nonce : List Nat) : List Byte :=
  let w1 := s.otp.lc + s.fld Reg.SEC_ROOT Fld.SEC_ROOT_RUNSLOT * 16 + s.fld Reg.SEC_SVN Fld.SEC_SVN_RUN * 256
  let zeros := fun n => List.replicate n (0 : Byte)
  let words := fun (l : List Nat) => l.flatMap (natLE 4)
  natLE 4 0x41540001 ++ natLE 4 w1 ++ natLE 8 s.otp.serial ++ natLE 8 s.tb ++ natLE 8 s.stNow ++ zeros 32 ++
  words ((List.range 16).map (fun k => match s.sec.run with | some i => i.meas.getD k 0 | none => 0)) ++
  words ((List.range 16).map (fun k => match s.sec.staged with | some i => i.meas.getD k 0 | none => 0)) ++
  s.configDigest ++
  words (([Reg.SEC_LIFECYCLE, Reg.SEC_ROOT, Reg.SEC_SVN]).map s.secReg) ++ zeros 20 ++
  words ((List.range 8).map (fun k => s.secReg (Reg.SEC_IDHASH k))) ++
  words ((List.range 32).map (fun k => s.secReg (Reg.SEC_ROOTHASH (k / 8) (k % 8)))) ++
  words ((List.range 8).map (fun k => nonce.getD k 0)) ++ zeros 32

/-- ATTEST (R459): the signed report, event 0x7008. -/
def execAttest (c : Fin 32) (s : State) : Res :=
  finish (s.serve c 0x10 (fun q ws t =>
    let space := bitsAt (ws.getD 1 0) 0 2
    let addr := ws.getD 2 0 + 2 ^ 32 * ws.getD 3 0
    if !spaceOk space addr 1792 then t.svcReply q 2
    else if !t.sec.identity then t.svcReply q 6
    else
      let body := t.report (ws.drop 4)
      let (sig, u) := t.idSign body
      let (st, v) := u.svcWrite space addr (body ++ sig)
      if st ≠ 0 then v.svcReply q (3 + 256 * st) else (v.raise 0x7008 0xFF).svcReply q 0))

/-- ID_GET (R457): the identity public key to its destination. -/
def execIdGet (c : Fin 32) (s : State) : Res :=
  finish (s.serve c 0x11 (fun q ws t =>
    let space := bitsAt (ws.getD 1 0) 0 2
    let addr := ws.getD 2 0 + 2 ^ 32 * ws.getD 3 0
    if !spaceOk space addr 1793 then t.svcReply q 2
    else if !t.sec.identity then t.svcReply q 6
    else
      let (st, v) := t.svcWrite space addr (idKey (t.otp.seed.getD 0))
      v.svcReply q (if st = 0 then 0 else 3 + 256 * st)))

/-! ## OTP operations (R452-R456, R477) -/

/-- An OTP service answers without programming: `SEC_OTP_STAT.LAST` and the reply. -/
def State.otpEnd (s : State) (q : SvcReq) (status : Nat) : State := (s.setFld Reg.SEC_OTP_STAT Fld.SEC_OTP_STAT_LAST status).svcReply q status

/-- An OTP service of the enclave (R445, R454): one operation at a time; `check` answers a status that refuses the request, or the operation to run. -/
def State.otpServe (s : State) (c op : Nat) (check : List Nat → State → Nat ⊕ OtpOp) : State :=
  s.serve c op (fun q ws t =>
    if t.sec.otpOp.isSome then t.svcReply q 1
    else match check ws t with
      | .inl st => t.otpEnd q st
      | .inr o => (t.setSec (fun (x : SecSt) => { x with otpOp := some (o, q) })).setFld Reg.SEC_OTP_STAT Fld.SEC_OTP_STAT_BUSY 1)

/-- ROOT_PROG (R453, R454). -/
def execRootProg (c : Fin 32) (s : State) : Res :=
  finish (s.otpServe c 0x20 (fun ws t =>
    let n := ws.getD 1 0
    if 4 ≤ n then .inl 2
    else if 2 ≤ t.otp.lc then .inl 6
    else if t.otp.prog.testBit n || t.otp.dead.testBit n then .inl 13
    else .inr (.slot n ((List.range 8).map (fun k => ws.getD (k + 2) 0)))))

/-- ROOT_REVOKE (R453, R455). -/
def execRootRevoke (c : Fin 32) (s : State) : Res :=
  finish (s.otpServe c 0x21 (fun ws t =>
    let n := ws.getD 1 0
    let live := (List.range 4).filter (fun k => t.otp.prog.testBit k && !t.otp.revoked.testBit k)
    if 4 ≤ n then .inl 2
    else if t.otp.lc = 0 ∨ t.otp.lc = 3 then .inl 6
    else if !live.contains n ∨ live.length ≤ 1 then .inl 5
    else .inr (.revoke n)))

/-- SVN_COMMIT (R454). -/
def execSvnCommit (c : Fin 32) (s : State) : Res :=
  finish (s.otpServe c 0x22 (fun ws t =>
    let v := ws.getD 1 0
    if 64 ≤ v then .inl 2 else if t.fld Reg.SEC_SVN Fld.SEC_SVN_RUN < v then .inl 8 else .inr (.svn v)))

/-- LC_ADVANCE (R453). -/
def execLcAdvance (c : Fin 32) (s : State) : Res :=
  finish (s.otpServe c 0x23 (fun ws t =>
    let v := ws.getD 1 0
    let lc := t.otp.lc
    if 4 ≤ v then .inl 2
    else if (lc = 0 ∧ v = 1 ∧ t.otp.seed.isSome ∧ t.otp.prog ≠ 0) ∨ (lc = 1 ∧ (v = 2 ∨ v = 3)) ∨ (lc = 2 ∧ v = 3) then .inr (.lifecycle v)
    else .inl 6))

/-- ID_GEN (R453, R456): the seed is drawn now. -/
def execIdGen (c : Fin 32) (s : State) : Res :=
  let (v, s1) := s.takeFree
  finish (
    let t := s1.otpServe c 0x24 (fun _ t =>
      if t.otp.lc ≠ 0 then .inl 6
      else if t.otp.idUsed then .inl 13
      else .inr (.identity v (hashWords 256 (hash256 (idKey v)).toNat)))
    t)

/-- REPAIR_COMMIT (R477): the named unit must be retired in the running device. -/
def execRepairCommit (c : Fin 32) (s : State) : Res :=
  finish (s.otpServe c 0x25 (fun ws t =>
    let w := ws.getD 1 0 / 256 * 256
    if !t.unitRetired (bitsAt w 28 4) (bitsAt w 20 8) (bitsAt w 8 12) (ws.getD 2 0) then .inl 2
    else if 512 ≤ t.otp.recs.length then .inl 13
    else .inr (.repair w (ws.getD 2 0))))

/-- A revocation takes effect (R455, R463): sessions under the slot close, a staged image under it is discarded and its swap answered with KEY, event 0x7007. -/
def State.revokeSlot (s : State) (n : Nat) : State :=
  let s1 := [0, 1].foldl (fun (t : State) p =>
    if t.fld (Reg.LINK_SEC_STAT p) Fld.LINK_SEC_STAT_ROOT = n then t.sessionEnd p else t) (s.setOtp (fun (o : OtpSt) => { o with revoked := setBitN o.revoked n true }))
  let s2 := match s1.sec.staged with
    | some i =>
      if i.root = n then
        let w := setF (setF (s1.rd Reg.SEC_FW) Fld.SEC_FW_STAGED 0) Fld.SEC_FW_SWAP_PEND 0
        let t := (s1.wr Reg.SEC_FW w).setSec (fun (x : SecSt) => { x with staged := none, swapReq := none })
        match s1.sec.swapReq with | some q => t.svcReply q 5 | none => t
      else s1
    | none => s1
  s2.raise 0x7007 n

/-- The marker of an operation is written: what it makes valid, and its event (R454-R456, R478). -/
def State.otpMark (s : State) (o : OtpOp) : State :=
  match o with
  | .slot n h => (s.setOtp (fun (x : OtpSt) => { x with prog := setBitN x.prog n true, hashes := kvSet (fun _ => []) x.hashes n h })).raise 0x7005 0xFF
  | .revoke n => (s.revokeSlot n).raise 0x7005 0xFF
  | .svn v => (s.setOtp (fun (x : OtpSt) => { x with svn := Nat.max x.svn v })).raise 0x7005 0xFF
  | .lifecycle v =>
    ((s.setOtp (fun (x : OtpSt) => { x with lc := v })).setSec (fun (x : SecSt) => { x with identity := decide (v ≠ 3) && s.otp.seed.isSome })).raise 0x7006 0xFF
  | .identity v h => (s.setOtp (fun (x : OtpSt) => { x with seed := some v, idHash := h, idUsed := true })).raise 0x7005 0xFF
  | .repair w0 w1 =>
    ((s.setOtp (fun (x : OtpSt) => { x with recs := x.recs ++ [⟨w0, w1, recCrc w0 w1, 0xA5⟩] })).repairStat).raise 0x6008 0xFF w0 w1

/-- OTP_OPERATION_DONE (R454, R478): the operation in progress ends, `ok` unless programming failed (status OTP, the area stays consumed). -/
def execOtpOperationDone (ok : Bool) (s : State) : Res :=
  finish (match s.sec.otpOp with
    | none => s
    | some (o, q) =>
      if !s.clkOn Fld.SYS_CLK_STATUS_CCLK then s
      else
        let t := (s.setSec (fun (x : SecSt) => { x with otpOp := none })).setFld Reg.SEC_OTP_STAT Fld.SEC_OTP_STAT_BUSY 0
        if ok then (t.otpMark o).otpEnd q 0 else (t.setOtp (fun (x : OtpSt) => x.cut o)).otpEnd q 13)

end Sys2Proof.Machine
end

