-- ==== Sys2Proof/Machine/Pmu.lean ====
section
/-! DEFINITION. The performance counters (20_performance_counters, R483-R495) beside their counting, which is `State.pmuCount`. Marks and risks: log entry 45. -/
namespace Sys2Proof.Machine

/-- The delay of a freeze or snapshot instant: 8 cycles of CCLK in model ticks, rounded up (R492). -/
def pmuDelay : Nat := 11

/-- A write of `PMU_CTL` (R492, R493): a change of `FREEZE` and a `SNAP` take effect 8 CCLK later; `SNAP` during a snapshot answers ERR_BUSY. -/
def pmuCtlWrite (v : Word) (s : State) : Nat × State :=
  let snap := getF v Fld.PMU_CTL_SNAP = 1
  if snap ∧ s.bit Reg.PMU_STAT Fld.PMU_STAT_SNAPPING then (7, s)
  else
    let t := s.plainWrite Reg.PMU_CTL v
    let t1 := if s.wouldChange Reg.PMU_CTL v Fld.PMU_CTL_FREEZE then
        { t with pmu := { t.pmu with freeze := t.pmu.freeze ++ [(getF v Fld.PMU_CTL_FREEZE == 1, s.tick + pmuDelay)] } }
      else t
    (0, if snap then
        { t1 with pmu := { t1.pmu with snapAt := some (s.tick + pmuDelay) } }.setFld Reg.PMU_STAT Fld.PMU_STAT_SNAPPING 1
      else t1)

/-- FREEZE (R492): a write of `PMU_CTL` without `SNAP`. -/
def execFreeze (r : Req) (v : Word) (s : State) : Res := finish (s.writeBy r Reg.PMU_CTL (pmuCtlWrite (setF v Fld.PMU_CTL_SNAP 0)))

/-- SNAP (R493): a write of `PMU_CTL` with `SNAP` = 1. -/
def execSnap (r : Req) (v : Word) (s : State) : Res := finish (s.writeBy r Reg.PMU_CTL (pmuCtlWrite (setF v Fld.PMU_CTL_SNAP 1)))

/-- A write of `PMU_SELk` (R491); `CHAIN` of an even counter is reserved (R488, R9). -/
def pmuSelWrite (b k : Nat) (v : Word) (s : State) : Nat × State :=
  let t := s.plainWrite (Reg.PMU_SEL b k) v
  (0, if k % 2 = 0 then t.setFld (Reg.PMU_SEL b k) Fld.PMU_SEL_CHAIN 0 else t)

/-- PMU_SEL_WRITE (R491). -/
def execPmuSelWrite (r : Req) (b : Fin 46) (k : Fin 8) (v : Word) (s : State) : Res :=
  finish (s.writeBy r (Reg.PMU_SEL b k) (pmuSelWrite b k v))

/-- Whether counter `k` of a bank (odd) counts the carries of the one before it (R488). -/
def State.pmuChained (s : State) (b k : Nat) : Bool :=
  k % 2 == 1 && s.bit (Reg.PMU_SEL b k) Fld.PMU_SEL_CHAIN && s.bit (Reg.PMU_SEL b k) Fld.PMU_SEL_EN

/-- Whether a counter counts an amount of its own event in a cycle (R484). -/
def State.pmuCounts (s : State) (b k amt : Nat) : Bool :=
  let sel := s.rd (Reg.PMU_SEL b k)
  amt != 0 && !s.bit Reg.PMU_STAT Fld.PMU_STAT_FROZEN && getF sel Fld.PMU_SEL_EN == 1 && getF sel Fld.PMU_SEL_EVENT != 0

/-- A carry is lost (R489). -/
def State.pmuLost (s : State) (b : Nat) : State := s.flag (Reg.PMU_BANK_OVF b) Fld.PMU_BANK_OVF_OVF_LOST

/-- A write of a counter in a cycle in which its event (of a chained counter, the event of the one before it) reports `amt`: the write stands, the
carry of that cycle is discarded and sets `OVF_LOST` (R489). -/
def State.pmuStore (s : State) (b k : Nat) (v : Word) (amt : Nat) : State :=
  let a := Reg.PMU_CNT b k
  let first := if s.pmuChained b k then k - 1 else k
  if !s.pmuCounts b first amt then s.wr a v
  else if s.pmuChained b k then
    let t := (s.wr a 0).pmuFrom b (s.fld (Reg.PMU_SEL b first) Fld.PMU_SEL_EVENT) amt first 1
    if t.rd a = 0 then t.wr a v else (t.wr a v).pmuLost b
  else if 2 ^ 32 ≤ (s.rd a).toNat + amt then (s.wr a v).pmuLost b
  else s.wr a v

/-- PMU_OVERFLOW_FREEZE (R494): the earliest overflow of a counter with `FOVF` that has not been acted on freezes the PMU 8 CCLK after it; a second
one before `FROZEN` changes nothing. -/
def execPmuOverflowFreeze (s : State) : Res :=
  finish (match s.pmu.ovfs with
    | [] => s
    | (b, at_) :: _ =>
      let s1 := { s with pmu := { s.pmu with ovfs := [] } }
      if s.pmu.ovfDue || s.bit Reg.PMU_STAT Fld.PMU_STAT_FROZEN then s1
      else
        let w := setF (setF (s1.rd Reg.PMU_STAT) Fld.PMU_STAT_OVFZ 1) Fld.PMU_STAT_OVFBANK b
        { (s1.wr Reg.PMU_STAT w).setFld Reg.PMU_CTL Fld.PMU_CTL_FREEZE 1 with
          pmu := { s1.pmu with freeze := s1.pmu.freeze ++ [(true, at_ + pmuDelay)], ovfDue := true } })

/-- Copy every counter of bank `b` into its snapshot (R493). -/
def State.pmuCopy (s : State) (b : Nat) : State :=
  (List.range 8).foldl (fun (t : State) k => t.wr (Reg.PMU_SNAP b k) (t.rd (Reg.PMU_CNT b k))) s

/-- The freezes and resumptions that are due (R492). -/
def State.pmuFreezes (s : State) : List (Bool × Nat) → State
  | [] => s
  | (f, d) :: rest =>
    if d ≤ s.tick then
      let t := s.setFld Reg.PMU_STAT Fld.PMU_STAT_FROZEN (b2n f)
      (if f then { t with pmu := { t.pmu with ovfDue := false } } else t).pmuFreezes rest
    else s.pmuFreezes rest

/-- What becomes due in the PMU at this tick (R492, R493). -/
def State.pmuTick (s : State) : State :=
  let s1 := match s.pmu.snapAt with
    | some d =>
      if d ≤ s.tick then
        let t := ((List.range 46).foldl (fun (t : State) b => t.pmuCopy b) s).wr64 Reg.PMU_SNAP_TB s.tb
        { t with pmu := { t.pmu with snapAt := none } }.setFld Reg.PMU_STAT Fld.PMU_STAT_SNAPPING 0
      else s
    | none => s
  let due := s1.pmu.freeze
  let s2 := s1.pmuFreezes due
  { s2 with pmu := { s2.pmu with freeze := due.filter (fun x => decide (s.tick < x.2)) } }

/-- The 64-bit `PMU_OVFSUM` (R484). -/
def State.pmuOvfSum (s : State) : Nat :=
  (List.range 46).foldl (fun n b => if s.fld (Reg.PMU_BANK_OVF b) Fld.PMU_BANK_OVF_OVF = 0 then n else n + 2 ^ b) 0

end Sys2Proof.Machine
end

