-- ==== Sys2Proof/Machine/MlKem.lean ====
section
/-! DEFINITION. ML-KEM-1024 (FIPS 203, named in Scope, Standards used): key generation and decapsulation. A polynomial is a list of 256 numbers below
q = 3 329; one in the transform domain is its 128 residues modulo x^2 - γ, two numbers each. Marks and risks: log entry 3. -/
namespace Sys2Proof.Machine

def kemQ : Nat := 3329

/-! ## Rings (FIPS 203, 4.3) -/

/-- The seven bits of a number in reverse. -/
def bitRev7 (i : Nat) : Nat := (List.range 7).foldl (fun v k => v + b2n (i.testBit k) * 2 ^ (6 - k)) 0

/-- γ of residue `i`: 17 to the power 2 BitRev7(i) + 1; and its powers. -/
def kemGamma (i : Nat) : Nat := 17 ^ (2 * bitRev7 i + 1) % kemQ
def gammaPow (i n : Nat) : Nat := 17 ^ ((2 * bitRev7 i + 1) * n % 256) % kemQ

/-- The transform: each residue of `f` modulo x^2 - γ. -/
def kemNtt (f : List Nat) : List Nat :=
  let a := f.toArray
  (List.range 128).flatMap (fun i => [0, 1].map (fun o => (List.range 128).foldl (fun v j => v + a.getD (2 * j + o) 0 * gammaPow i j) 0 % kemQ))

/-- Its inverse; 3 303 is the inverse of 128 modulo q. -/
def kemInv (f : List Nat) : List Nat :=
  let a := f.toArray
  (List.range 256).map (fun k => 3303 * (List.range 128).foldl (fun v i => v + a.getD (2 * i + k % 2) 0 * gammaPow i (256 - k / 2)) 0 % kemQ)

/-- Sum, difference and product (the last in the transform domain). -/
def kemAdd (f g : List Nat) : List Nat := (List.range 256).map (fun k => (f.getD k 0 + g.getD k 0) % kemQ)
def kemSub (f g : List Nat) : List Nat := (List.range 256).map (fun k => (f.getD k 0 + kemQ - g.getD k 0) % kemQ)
def kemMul (f g : List Nat) : List Nat :=
  let a := f.toArray
  let b := g.toArray
  (List.range 128).flatMap (fun i =>
    let a0 := a.getD (2 * i) 0
    let a1 := a.getD (2 * i + 1) 0
    let b0 := b.getD (2 * i) 0
    let b1 := b.getD (2 * i + 1) 0
    [(a0 * b0 + a1 * b1 * kemGamma i) % kemQ, (a0 * b1 + a1 * b0) % kemQ])

/-- The sum of the products of two vectors in the transform domain. -/
def kemDot (u v : List (List Nat)) : List Nat := (List.zip u v).foldl (fun s e => kemAdd s (kemMul e.1 e.2)) (List.replicate 256 0)

/-! ## Bytes (FIPS 203, 4.2.1) -/

def compressD (d x : Nat) : Nat := (2 ^ (d + 1) * x + kemQ) / (2 * kemQ) % 2 ^ d
def decompressD (d y : Nat) : Nat := (2 * kemQ * y + 2 ^ d) / 2 ^ (d + 1)

/-- `ByteEncode_d` and `ByteDecode_d`: `d` bits for each coefficient, least significant first. -/
def encodeD (d : Nat) (f : List Nat) : List Nat := keyBytes (32 * d) (f.foldr (fun x v => x % 2 ^ d + 2 ^ d * v) 0)
def decodeD (d : Nat) (bs : List Nat) : List Nat :=
  let n := leOf bs
  (List.range 256).map (fun i => let x := n / 2 ^ (d * i) % 2 ^ d; if d = 12 then x % kemQ else x)

/-! ## Sampling (FIPS 203, 4.2.2) -/

/-- `SampleNTT`: of a stream of SHAKE128, two numbers of 12 bits from each three bytes; those below q are taken. A stream of 3 024 bytes holds more than 256 of
them but for a chance below 2^-1000. -/
def sampleNtt (seed : List Nat) : List Nat :=
  let s := (shake128 seed 3024).toArray
  (((List.range 1008).flatMap (fun i =>
    let b := fun k => s.getD (3 * i + k) 0
    [b 0 + 256 * (b 1 % 16), b 1 / 16 + 16 * b 2])).filter (fun x => decide (x < kemQ))).take 256

/-- `SamplePolyCBD` with η = 2: of each four bits the sum of the first two less the sum of the others. -/
def sampleCbd (bs : List Nat) : List Nat :=
  let n := leOf bs
  (List.range 256).map (fun i =>
    let b := fun k => n / 2 ^ (4 * i + k) % 2
    (b 0 + b 1 + kemQ - b 2 - b 3) % kemQ)

def kemNoise (seed : List Nat) (n : Nat) : List Nat := sampleCbd (shake256 (seed ++ [n]) 128)

/-- The matrix of a seed: row `i`, column `j`. -/
def kemMatrix (rho : List Nat) (i j : Nat) : List Nat := sampleNtt (rho ++ [j, i])

/-! ## The scheme (FIPS 203, 5 and 6), k = 4, d_u = 11, d_v = 5 -/

/-- The encapsulation and decapsulation keys of the randomness `d`, `z`. -/
def kemKeys (d z : List Nat) : List Nat × List Nat :=
  let g := sha3of512 (d ++ [4])
  let rho := g.take 32
  let s := (List.range 4).map (fun i => kemNtt (kemNoise (g.drop 32) i))
  let t := (List.range 4).map (fun i => kemAdd (kemDot ((List.range 4).map (kemMatrix rho i)) s) (kemNtt (kemNoise (g.drop 32) (i + 4))))
  let ek := t.flatMap (encodeD 12) ++ rho
  (ek, s.flatMap (encodeD 12) ++ ek ++ sha3of256 ek ++ z)

/-- `K-PKE.Encrypt` of the message `m` with the randomness `r`. -/
def kemEncrypt (ek m r : List Nat) : List Nat :=
  let t := (List.range 4).map (fun i => decodeD 12 ((ek.drop (384 * i)).take 384))
  let rho := ek.drop 1536
  let y := (List.range 4).map (fun i => kemNtt (kemNoise r i))
  let u := (List.range 4).map (fun i => kemAdd (kemInv (kemDot ((List.range 4).map (fun j => kemMatrix rho j i)) y)) (kemNoise r (i + 4)))
  let v := kemAdd (kemAdd (kemInv (kemDot t y)) (kemNoise r 8)) ((decodeD 1 m).map (decompressD 1))
  u.flatMap (fun f => encodeD 11 (f.map (compressD 11))) ++ encodeD 5 (v.map (compressD 5))

/-- `K-PKE.Decrypt`. -/
def kemDecrypt (dk c : List Nat) : List Nat :=
  let s := (List.range 4).map (fun i => decodeD 12 ((dk.drop (384 * i)).take 384))
  let u := (List.range 4).map (fun i => kemNtt ((decodeD 11 ((c.drop (352 * i)).take 352)).map (decompressD 11)))
  let v := (decodeD 5 (c.drop 1408)).map (decompressD 5)
  encodeD 1 ((kemSub v (kemInv (kemDot s u))).map (compressD 1))

/-- `ML-KEM.Decaps`: the shared secret, that of an implicit rejection where the ciphertext does not come back. -/
def kemDecaps (dk c : List Nat) : List Nat :=
  let ek := (dk.drop 1536).take 1568
  let m := kemDecrypt dk c
  let g := sha3of512 (m ++ (dk.drop 3104).take 32)
  if kemEncrypt ek m (g.drop 32) = c then g.take 32 else shake256 (dk.drop 3136 ++ c) 32

/-! ## As the rules use them (R103) -/

/-- The key pair of an ephemeral key drawn as a free value: its randomness `d` and `z`. -/
def kemDraw (draw : Nat) : List Nat × List Nat := kemKeys (keyBytes 32 draw) (keyBytes 32 (draw / 2 ^ 256))

/-- The encapsulation key, 1 568 bytes. -/
def kemKey (draw : Nat) : List Byte := (kemDraw draw).1.map (BitVec.ofNat 8)

/-- Decapsulation: none for a ciphertext of another length than 1 568 bytes, which the input check of FIPS 203 refuses. -/
def kemOpen (draw : Nat) (ct : List Byte) : Option (BitVec 256) :=
  if ct.length = 1568 then some (BitVec.ofNat 256 (leOf (kemDecaps (kemDraw draw).2 (byteNats ct)))) else none

end Sys2Proof.Machine
end

