-- ==== Sys2Proof/Machine/Session.lean ====
section
/-! DEFINITION. The handshake of a secure session (R103-R106, R457, R458): messages on channel 0xFF, answered by the enclave. Marks and risks: log entries 34, 3. -/
namespace Sys2Proof.Machine

/-- A handshake packet of the device (R96, R103): its payload from byte 16 on, filled to a whole 16 bytes with zeros; its `TAG` is a free value (log entry 2). -/
def handshakeBody (payload : List Byte) : List Nat :=
  [0, 0] ++ wordsOf (payload ++ List.replicate ((16 - payload.length % 16) % 16) 0)

/-- Length of a packet with `n` payload bytes from byte 16 (R103). -/
def handshakeLen (n : Nat) : Nat := 1 + (n + 15) / 16

/-- Send a handshake message (R103). -/
def State.sendHs (s : State) (p sub : Nat) (payload : List Byte) : State :=
  let (tag, t) := s.takeFree
  t.sendBk p 0x15 (handshakeLen payload.length) (0xFF * 2 ^ 24 + sub * 2 ^ 16 + tag % 256 * 256) (handshakeBody payload)

/-- The handshake of a port ends with FAIL and event 0x3018 (R103). -/
def State.hsFail (s : State) (p reason : Nat) : State :=
  let w := setF (setF (s.rd (Reg.LINK_SEC_STAT p)) Fld.LINK_SEC_STAT_FAIL reason) Fld.LINK_SEC_STAT_HS_BUSY 0
  (((s.wr (Reg.LINK_SEC_STAT p) w).setLink p { s.link p with hs := none }).sendHs p 6 [BitVec.ofNat 8 reason]).raise 0x3018 p

/-- The check of a host certificate (R458): its form, the root key against its slot, the serial, the signature. -/
def State.certOk (s : State) (cert : List Byte) : Bool :=
  let w0 := byteWord cert 0
  let root := slice cert 1920 1793
  let serial := leNat (slice cert 8 8)
  cert.length == 5056 && bitsAt w0 16 16 == 0x4843 && bitsAt w0 8 8 == 1 && bitsAt w0 4 4 == 0 &&
    (slice cert 4 4).all (fun b => b == 0) && (slice cert 16 48).all (fun b => b == 0) &&
    (slice cert 1857 63).all (fun b => b == 0) && (slice cert 3713 63).all (fun b => b == 0) &&
    s.rootKeyOk (bitsAt w0 0 4) root && (serial == 0 || serial == s.otp.serial) &&
    falconOk root (slice cert 3776 1280) (cert.take 3776)

/-- What a host's handshake message does (R103, R105): channel 0xFF needs `SECURE` negotiated and `SEC_EN`. -/
def State.hsMessage (s : State) (p : Nat) (h : RxHdr) (sec : Option SecTrailer) (sub : Nat) (tag : BitVec 8) (payload : List Byte) (f : State → State) :
    State :=
  s.hostReq p h sec 0x15 (handshakeLen payload.length) (0xFF * 2 ^ 24 + sub * 2 ^ 16 + tag.toNat * 256) tag.toNat (handshakeBody payload) false
    (fun _ t =>
      if !t.hasSecure p then (2, 1, [0, 0], t.linkErr p Fld.LINK_ERR_MALFORMED)
      else if !t.bit (Reg.LINK_CTL p) Fld.LINK_CTL_SEC_EN then (2, 1, [0, 0], t)
      else (0, 1, [0, 0], f t))

/-- HELLO (R103, R106, R457, R458): `nonce` and `cert` are its payload. -/
def execHello (p : Fin 2) (h : RxHdr) (sec : Option SecTrailer) (tag : BitVec 8) (nonce : BitVec 256) (cert : List Byte) (s : State) : Res :=
  let payload := natLE 32 nonce.toNat ++ cert
  finish (s.hsMessage p h sec 1 tag payload (fun t0 =>
    let t := (t0.sessionEnd p).setFld (Reg.LINK_SEC_STAT p) Fld.LINK_SEC_STAT_HS_BUSY 1
    if !t.sec.identity then t.hsFail p 2
    else if !t.certOk cert then t.hsFail p 1
    else
      let (own, t1) := t.freeBytes 32
      let k := t1.free
      let (draw, t2) := t1.takeFree
      let key := own ++ kemKey draw
      let d1 := hash512 (payload ++ key)
      let (sig, t3) := t2.idSign (hashBytes 512 d1.toNat)
      (t3.setLink p { t3.link p with hs := some ⟨t3.tick, d1, bitsAt (byteWord cert 0) 0 4, slice cert 64 1793, k⟩ }).sendHs p 2 (key ++ sig)))

/-- A handshake that has run out of its 100 ms (R103). -/
def Handshake.late (x : Handshake) (now : Nat) : Bool := decide (x.at_ + msTicks 100 < now)

/-- ENCAP (R103): the host's signature over T2, the shared secret, the session keys; DONE and event 0x3016. -/
def execEncap (p : Fin 2) (h : RxHdr) (sec : Option SecTrailer) (tag : BitVec 8) (ct sig : List Byte) (s : State) : Res :=
  finish (s.hsMessage p h sec 3 tag (ct ++ sig) (fun t =>
    match (t.link p).hs with
    | none => t
    | some x =>
      let t2 := hash512 (hashBytes 512 x.t1.toNat ++ ct)
      if x.late t.tick then t.hsFail p 4
      else if !falconOk x.hostKey sig (hashBytes 512 t2.toNat) then t.hsFail p 2
      else match kemOpen (Config.freeValue x.kem) ct with
        | none => t.hsFail p 3
        | some k =>
          let kD := sessionKey k t2 true
          let u := t.setLink p { t.link p with hs := none, keyD2H := kD, keyH2D := sessionKey k t2 false, rxCtr := 0, txCtr := 0 }
          let w := setF (setF (setF (u.rd (Reg.LINK_SEC_STAT p)) Fld.LINK_SEC_STAT_ROOT x.slot) Fld.LINK_SEC_STAT_HS_BUSY 0) Fld.LINK_SEC_STAT_OPEN 1
          let v := (u.wr (Reg.LINK_SEC_STAT p) w).setFld (Reg.LINK_STATUS p) Fld.LINK_STATUS_SECURE 1
          (v.sendHs p 4 (natLE 16 (doneTag kD t2).toNat)).raise 0x3016 p))

/-- CLOSE (R103, R106): secure form only; it ends the session. -/
def execClose (p : Fin 2) (h : RxHdr) (sec : Option SecTrailer) (tag : BitVec 8) (s : State) : Res :=
  finish (s.hostReq p h sec 0x15 1 (0xFF * 2 ^ 24 + 5 * 2 ^ 16 + tag.toNat * 256) tag.toNat [0, 0] false
    (fun _ t => if sec.isNone then (2, 1, [0, 0], t) else (0, 1, [0, 0], t.sessionEnd p)))

/-- HANDSHAKE_TIMEOUT (R103): more than 100 ms since HELLO. -/
def execHandshakeTimeout (p : Fin 2) (s : State) : Res :=
  finish (match (s.link p).hs with
    | some x => if x.late s.tick then s.hsFail p 4 else s
    | none => s)

end Sys2Proof.Machine
end

