-- ==== Sys2Proof/Machine/Bus.lean ====
section
/-! DEFINITION. The register bus (R18-R35): what a write or a read of each register does, 64-bit and time-form registers with their holding registers
(R29-R32, R134), 64-bit accesses, and the host's register packets (R89, R90). Marks and risks: log entries 48, 4. -/
namespace Sys2Proof.Machine

/-! ## Registers of several words (R29, R134, R488) -/

/-- The register of several words that a word belongs to: its first address, how many words it has, which one this is. A pair of chained counters is
one (R488); the two words of a network table entry are not (ASSAY_NETTX). -/
def State.wordGroup (s : State) (a : Nat) : Option (Nat × Nat × Nat) :=
  match findReg a with
  | none => none
  | some (row, w) =>
    if row.base = Reg.PMU_CNT 0 0 then
      let b := (a - row.base) / 0x100
      let k := (a - row.base) % 0x100 / 4
      if s.bit (Reg.PMU_SEL b (k / 2 * 2 + 1)) Fld.PMU_SEL_CHAIN then some (Reg.PMU_CNT b (k / 2 * 2), 2, k % 2) else none
    else if row.base = Reg.ASSAY_NETTX 0 ∨ row.base = Reg.ASSAY_NETRX 0 then none
    else if 1 < row.words then some (a / 4 * 4 - 4 * w, row.words, w)
    else none

/-- Whether an address is the low word of a 64-bit register (R29, R32). -/
def State.lowWord64 (s : State) (a : Nat) : Bool :=
  match s.wordGroup a with
  | some (base, n, w) => n == 2 && w == 0 && base == a
  | none => false

/-- Run two word writes as one: a refusal of either leaves both unwritten (R27). -/
def bothWords (f g : State → Nat × State) (s : State) : Nat × State :=
  match f s with
  | (0, t) => (match g t with
    | (0, u) => (0, u)
    | (c, _) => (c, s))
  | (c, _) => (c, s)

/-! ## Reading (R24, R30) -/

/-- The word of the event ring at an offset of `EVT_REC` (R480, R481). -/
def State.evWord (s : State) (o : Nat) : Nat :=
  match s.evs.find? (fun e => e.seq % 1024 == o / 32) with
  | some e => e.words.getD (o % 32 / 4) 0
  | none => 0

/-- A word of a 64-bit value. -/
def half (v w : Nat) : Nat := v / 2 ^ (32 * w) % 2 ^ 32

/-- Registers whose value is not stored: counters and times that run, views of other state. -/
def State.liveWord (s : State) (a : Nat) (secure : Bool) : Option Nat :=
  match findReg a with
  | none => none
  | some (row, w) =>
    let b := row.base
    if b = Reg.TIME_TB_CNT then some (half s.tb w)
    else if b = Reg.TD_NOW 0 then some ((timeWords (s.dom ((a - b) / 64))).getD w 0)
    else if b = Reg.TIME_NOW then some ((timeWords s.outU).getD w 0)
    else if b = Reg.TIME_TRANS then some (half (encS 64 s.transU) w)
    else if b = Reg.EVT_REC 0 then some (s.evWord (a - b))
    else if b = Reg.MBX_FULLMAP then some (s.fullMap secure)
    else if b = Reg.LINK_STATUS 0 then
      some (setF (s.rd a) Fld.LINK_STATUS_PEER_CREDIT (Nat.min 0xFFFF (s.link ((a - b) / 0x10000)).credits)).toNat
    else if b = Reg.PMU_OVFSUM then some (half s.pmuOvfSum w)
    else if b = Reg.AUX_FAULTMAP 0 then some (s.auxFaultMap ((a - b) / 4))
    else if b = Reg.ASSAY_STATE 0 then some (s.assayWord ((a - b) / 4))
    else if b = Reg.ASSAY_STATE_LEN then some assayLen
    else s.otpReg a

/-- While SB4 shadows, its page shows its target's registers, with `STATE` 7 (R173); other addresses as they are. -/
def State.shadowAddr (s : State) (a : Nat) : Nat :=
  if s.sbState 4 = 7 ∧ Reg.SB_CTL 4 ≤ a ∧ a < Reg.SB_CTL 4 + 0x1000 then
    (match s.sbTarget with
     | some e => a - Reg.SB_CTL 4 + Reg.SB_CTL e
     | none => a)
  else a

/-- The word that a read of a register returns: WO fields read 0 (R6). -/
def State.readWord (s : State) (a : Nat) (secure : Bool) : Nat :=
  match s.liveWord a secure with
  | some v => v
  | none =>
    let x := s.shadowAddr a
    let v := match findReg a with
      | some (row, w) => (row.fieldsAt w).foldl (fun (acc : Word) f => if f.acc = .wo then setF acc f.fld 0 else acc) (s.rd x)
      | none => 0
    if x ≠ a ∧ a = Reg.SB_STATUS 4 then (setF v Fld.SB_STATUS_STATE 7).toNat else v.toNat

/-- RC fields become 0 as they are read (R6). -/
def State.clearRead (s : State) (a : Nat) : State :=
  match findReg a with
  | some (row, w) =>
    if s.shadowAddr a ≠ a then s
    else (row.fieldsAt w).foldl (fun (t : State) f => if f.acc = .rc then t.setFld a f.fld 0 else t) s
  | none => s

/-- A read of a register or window word that the causes of R26 do not refuse. -/
def State.regRead (s : State) (r : Req) (a : Nat) : Nat × Nat × State :=
  match findReg a with
  | none =>
    let (c, bs, t) := s.winRead a 4
    (c, leNat bs, t)
  | some (row, _) =>
    if row.base = Reg.MBX_MSG 0 0 then mbxMsgRead ((a - row.base) / 0x100) ((a - row.base) % 0x100 / 4) r.id s
    else if row.base = Reg.TALLY_LOCK 0 then tallyRead ((a - row.base) / 4) r.id s
    else (0, s.readWord a (s.secureReq r), s.clearRead a)

/-- A 32-bit read over the bus (R24, R30, R33, R134): code, data and state. The low word of a register of several words latches the later words; a read
of a later word that matches the tag returns the latched one. -/
def State.busRead (s : State) (r : Req) (a : Nat) : Nat × Nat × State :=
  let done := fun (x : Nat × Nat × State) => (x.1, x.2.1, x.2.2.answer r x.1 x.2.1)
  match s.causes r a with
  | 0 =>
    (match s.wordGroup a with
     | none => done (s.regRead r a)
     | some (base, n, w) =>
       let u := s.busOf r.id
       if w = 0 then
         let later := (List.range (n - 1)).map (fun k => s.readWord (a + 4 * (k + 1)) (s.secureReq r))
         done (0, s.readWord a (s.secureReq r), s.setBus r.id { u with rdTag := some base, rdHold := later })
       else if u.rdTag = some base then done (0, u.rdHold.getD (w - 1) 0, s)
       else done (0, s.readWord a (s.secureReq r), s))
  | 1 => done (1, 0x0FF00FF0, s.recordOffline r a)
  | c => done (c, 0, s)

/-! ## Writing (R24-R27, R31) -/

/-- A write of 1 to `SYS_ACCERR.VALID` clears the record (R35). -/
def accerrWrite (v : Word) (s : State) : Nat × State :=
  (0, if getF v Fld.SYS_ACCERR_VALID = 1 then (s.wr Reg.SYS_ACCERR 0).wr Reg.SYS_ACCERR_ADDR 0 else s)

/-- A write of `TIME_PPSO_CFG`: a change of `DELAY` is no natural advance (R145). -/
def ppsoWrite (v : Word) (s : State) : Nat × State := (0, s.plainWrite Reg.TIME_PPSO_CFG v)

/-- The rule of the registers of SYS, PWR, TIME, MBX, TALLY, DMA, PMU and LINK that have one of their own. -/
def ruleA (r : Req) (b a d : Nat) (v : Word) (tw : Th) (sec : Bool) : Option (State → Nat × State) :=
  if b = Reg.SYS_ACCERR then some (accerrWrite v)
  else if b = Reg.PWR_CMD then some (pwrCmdWrite v)
  else if b = Reg.PWR_STATUS then some (pwrStatusWrite v)
  else if b = Reg.PWR_CLASS then some (pwrClassWrite v tw)
  else if b = Reg.TIME_CTL then some (timeCtlWrite v)
  else if b = Reg.TIME_PPSO_CFG then some (ppsoWrite v)
  else if b = Reg.TIME_ALIGN_CTL then some (alignCtlWrite v)
  else if b = Reg.MBX_MSG 0 0 then some (mbxMsgWrite (d / 0x100) (d % 0x100 / 4) r.id v)
  else if b = Reg.MBX_DOORBELL 0 then some (mbxDoorbell (d / 0x100) r.id v)
  else if b = Reg.MBX_CFG 0 ∨ b = Reg.MBX_DESC 0 then some (mbxCfgWrite a (d / 0x100) v)
  else if b = Reg.MBX_FLUSH 0 then some (mbxFlush (d / 0x100) r.id v)
  else if b = Reg.TALLY_LOCK 0 then some (tallyWrite (d / 4) r.id v)
  else if b = Reg.DMA_LEN 0 ∨ b = Reg.DMA_CFG 0 then some (dmaShadowWrite a (d / 0x100) v)
  else if b = Reg.DMA_GO 0 then some (dmaGoWrite (d / 0x100) sec v)
  else if b = Reg.DMA_CQ_CFG 0 then some (cqCfgWrite (d / 32) v)
  else if b = Reg.DMA_CQ_HEAD 0 then some (cqHeadWrite (d / 32) v)
  else if b = Reg.PMU_CTL then some (pmuCtlWrite v)
  else if b = Reg.PMU_CNT 0 0 then some (fun s => (0, s.pmuStore (d / 0x100) (d % 0x100 / 4) v 0))
  else if b = Reg.PMU_SEL 0 0 then some (pmuSelWrite (d / 0x100) (d % 0x100 / 4) v)
  else if b = Reg.LINK_CTL 0 then some (linkCtlWrite (d / 0x10000) v)
  else if b = Reg.LINK_DH_CTL then some (linkDhCtlWrite v)
  else if b = Reg.LINK_DH_CARMAP then some (linkDhCarmapWrite v)
  else if b = Reg.LANE_PCTL 0 then some (lanePctlWrite (d / 64) v)
  else if b = Reg.LANE_CMD 0 then some (laneCmdWrite (d / 64) v)
  else if b = Reg.LANE_ESCAN_CTL 0 then some (escanWrite (d / 64) v)
  else none

/-- The rule of the registers of SB, TXDP, RXDP, CARRIER, BEAM and DPD that have one of their own. -/
def ruleB (b a d : Nat) (v : Word) (tw : Th) : Option (State → Nat × State) :=
  if b = Reg.SB_CTL 0 then some (sbCtlWrite (d / 0x1000) v)
  else if b = Reg.SB_SWAPREQ 0 then some (sbSwapreqWrite (d / 0x1000) v)
  else if b = Reg.SB_FE_SAFE then some (feSafeWrite v)
  else if b = Reg.SB_RELIEF then some (sbReliefWrite v)
  else if b = Reg.TXDP_PATH_CTL 0 then some (txPathCtlWrite (d / 0x100) v tw)
  else if b = Reg.TXDP_GAIN 0 then some (sampleWrite a (thNs 4000) v tw)
  else if b = Reg.TXDP_CFR_CTL then some (sampleWrite a (thNs 3500) v tw)
  else if b = Reg.DPD_PATH_CTL 0 then some (sampleWrite a (thNs 1800) v tw)
  else if b = Reg.RXDP_GAIN 0 then some (sampleWrite a (-(thNs 1700)) v tw)
  else if b = Reg.RXDP_PRACH_BEAM 0 0 then some (carRxWrite a v tw)
  else if b = Reg.TXDP_MUTE 0 then some (txMuteWrite (d / 0x100) v)
  else if b = Reg.TXDP_SLICE_RELIEF 0 then some (sliceReliefWrite (d / 4) v)
  else if b = Reg.TXDP_CFR_PULSE 0 then some (cfrPulseWrite a v)
  else if b = Reg.RXDP_PATH_CTL 0 then some (rxPathCtlWrite (d / 0x100) v tw)
  else if b = Reg.RXDP_PRACH_CTL 0 then some (prachCtlWrite (d / 32) v)
  else if b = Reg.RXDP_PRACH_FSTART 0 then some (prachFstartWrite (d / 32) v)
  else if b = Reg.CAR_CTL 0 then some (carCtlWrite (d / 0x100) v tw)
  else if b = Reg.CAR_CFG 0 ∨ b = Reg.CAR_FREQ 0 ∨ b = Reg.CAR_TXWIN 0 ∨ b = Reg.CAR_TRAFFIC 0 then some (carLockedWrite (d / 0x100) a v)
  else if b = Reg.CAR_TXGAIN 0 then some (carTxWrite a v tw)
  else if b = Reg.CAR_RXGAIN 0 ∨ b = Reg.CAR_RXFFT 0 then some (carRxWrite a v tw)
  else if b = Reg.BEAM_FC 0 then some (if d = 0 then carTxWrite a v tw else carRxWrite a v tw)
  else if b = Reg.BEAM_SWAPREQ then some (beamSwapreqWrite v)
  else if b = Reg.BEAM_CW_ARM then some (cwArmWrite v tw)
  else if b = Reg.BEAM_CW_COMMIT then some (cwCommitWrite v tw)
  else if b = Reg.BEAM_SS_CLR then some (ssClrWrite v)
  else if b = Reg.DPD_SWAPREQ then some (dpdSwapreqWrite v)
  else none

/-- The rule of the registers of CONV, OBS, MON, AUX, ASSAY and LODE that have one of their own. -/
def ruleC (r : Req) (b a d : Nat) (v : Word) (tw : Th) : Option (State → Nat × State) :=
  if b = Reg.CONV_RXADC_CMD 0 then some (adcCmdWrite (d / 0x100) v)
  else if b = Reg.CONV_OBS_CMD 0 then some (adcCmdWrite (64 + d / 4) v)
  else if b = Reg.CONV_DAC_CMD 0 then some (dacCmdWrite (d / 0x100) v)
  else if b = Reg.CONV_TX_MODE ∨ b = Reg.CONV_RX_MODE then some (convModeWrite a v)
  else if b = Reg.CONV_NCO_SEL then some (ncoSelWrite v tw)
  else if b = Reg.CONV_NCO_TX 0 ∨ b = Reg.CONV_NCO_TXF 0 then some (ncoWrite a true (d / 8) v)
  else if b = Reg.CONV_NCO_RX 0 ∨ b = Reg.CONV_NCO_RXF 0 then some (ncoWrite a false (d / 8) v)
  else if b = Reg.CONV_ALIGN_CTL then some (alignSoftWrite v)
  else if b = Reg.OBS_CAGE_CFG 0 then some (cageCfgWrite (d / 0x100) v)
  else if b = Reg.OBS_CAP_REQ 0 then some (capReqWrite (d / 0x100) v)
  else if b = Reg.OBS_CAP_CANCEL 0 then some (capCancelWrite (d / 0x100) v)
  else if b = Reg.MON_CTL then some (monCtlWrite v)
  else if b = Reg.MON_URG then some (monUrgWrite r.id v)
  else if b = Reg.MON_WIN 0 then some (monWinWrite (d / 16) v)
  else if b = Reg.AUX_DAC 0 then some (auxDacWrite (d / 0x100) v)
  else if b = Reg.AUX_CLRCODE 0 then some (auxClrCodeWrite (d / 0x100) v)
  else if b = Reg.AUX_CTL then some (auxCtlWrite v)
  else if b = Reg.ASSAY_CTL then some (assayCtlWrite v)
  else if b = Reg.ASSAY_SAVE then some (assaySaveWrite v)
  else if b = Reg.ASSAY_RESTORE then some (assayRestoreWrite v)
  else if b = Reg.ASSAY_FAIL 0 0 then some (assayFailWrite a v)
  else if b = Reg.ASSAY_NETTX 0 then some (assayNetWrite a 3 v)
  else if b = Reg.ASSAY_NETRX 0 then some (assayNetWrite a 4 v)
  else if b = Reg.LODE_RELIEF then some (lodeReliefWrite v)
  else if b = Reg.LODE_WQ_PUSH 0 then some (wqPushWrite (d / 16) r.id v)
  else if b = Reg.LODE_CORE_CTL 0 then some (lodeCtlWrite (d / 0x100) v)
  else none

/-- A write of one register or window word that the causes of R26 do not refuse: the register's own rule, or each field by its type (R6). `tw` is the
write's reference time (R180). A write into the page of SB4 while it shadows is discarded (log entry 16). -/
def State.regWrite (s : State) (r : Req) (a : Nat) (v : Word) (tw : Th) : Nat × State :=
  match findReg a with
  | none => s.winWrite a (natLE 4 v.toNat)
  | some (row, _) =>
    let d := a - row.base
    if s.shadowAddr a ≠ a then (0, s)
    else match ruleA r row.base a d v tw (s.secureReq r) with
      | some f => f s
      | none => (match ruleB row.base a d v tw with
        | some f => f s
        | none => (match ruleC r row.base a d v tw with
          | some f => f s
          | none => (0, s.plainWrite a v)))

/-- Write both words of a 64-bit register, each by `f`. -/
def twoWords (f : Nat → Word → State → Nat × State) (a v : Nat) : State → Nat × State :=
  bothWords (f a (BitVec.ofNat 32 v)) (f (a + 4) (BitVec.ofNat 32 (v / 2 ^ 32)))

/-- A plain word write as a rule. -/
def plainRule (a : Nat) (v : Word) (s : State) : Nat × State := (0, s.plainWrite a v)

/-- Commit the words of a register of several words (R31, R134, R136). -/
def State.regCommit (s : State) (a : Nat) (ws : List Nat) (tw : Th) : Nat × State :=
  match findReg a with
  | none => (0, s)
  | some (row, _) =>
    let b := row.base
    let d := a - b
    let v := ws.getD 0 0 + 2 ^ 32 * ws.getD 1 0
    if s.shadowAddr a ≠ a then (0, s)
    else if b = Reg.TD_OFFSET 0 then (0, s.offsetCommit (d / 64) (wordsTime (ws.getD 0 0) (ws.getD 1 0) (ws.getD 2 0) (ws.getD 3 0)))
    else if b = Reg.TD_INC 0 then (0, s.incCommit (d / 64) v)
    else if b = Reg.TD_STEP 0 then (0, s.stepCommit (d / 64) v)
    else if b = Reg.CANARY_MASK then twoWords plainRule a (v % 2 ^ 40) s
    else if b = Reg.DMA_SRC 0 ∨ b = Reg.DMA_DST 0 then twoWords (fun x w => dmaShadowWrite x (d / 0x100) w) a v s
    else if b = Reg.DMA_CQ_BASE 0 then twoWords (fun x w => cqBaseWrite x (d / 32) w) a v s
    else if b = Reg.PMU_USER then twoWords plainRule a (v % 2 ^ 46) s
    else if b = Reg.PMU_CNT 0 0 then
      let k := d % 0x100 / 4
      (0, (s.pmuStore (d / 0x100) k (BitVec.ofNat 32 v) 0).pmuStore (d / 0x100) (k + 1) (BitVec.ofNat 32 (v / 2 ^ 32)) 0)
    else if b = Reg.SB_TLAST 0 then sbTlastWrite (d / 0x1000) v s
    else if b = Reg.SB_EVSET 0 then (0, s.evOr (d / 0x1000) v)
    else if b = Reg.SB_EVCLR 0 then (0, s.evClear (d / 0x1000) v)
    else if b = Reg.RXDP_PRACH_PMASK 0 then twoWords (fun x w => carRxWrite x w tw) a v s
    else if b = Reg.CAR_FRAME_OFS 0 then twoWords (fun x w => carLockedWrite (d / 0x100) x w) a (v % 2 ^ 35) s
    else twoWords plainRule a v s

/-- The cause that refuses a write whatever the register holds (R26); `SEC_OTP_CMD` takes writes from the enclave only (R460). -/
def State.writeCauses (s : State) (r : Req) (a : Nat) : Nat :=
  if a = Reg.SEC_OTP_CMD ∧ r.id ≠ 5 then 2 else s.causes r a

/-- Discard the requester's held words unless they belong to the register at `base` (R31). -/
def State.dropOther (s : State) (r : Req) (base : Nat) : State := if (s.busOf r.id).wrTag = some base then s else s.dropHeld r

/-- Hold a word that does not commit its register (R27, R31, R134). -/
def State.hold (s : State) (r : Req) (base w : Nat) (v : Word) : State :=
  let u := (s.dropOther r base).busOf r.id
  s.setBus r.id { u with wrTag := some base, wrHold := (w, v.toNat) :: u.wrHold.filter (fun x => x.1 != w) }

/-- The words that a commit writes: the held ones, else what the register stores, and the last word as written (R31). -/
def State.commitWords (s : State) (r : Req) (base n : Nat) (v : Word) : List Nat :=
  let u := (s.dropOther r base).busOf r.id
  (List.range n).map (fun k =>
    if k + 1 = n then v.toNat
    else match u.wrHold.find? (fun x => x.1 == k) with
      | some x => x.2
      | none => (s.rd (base + 4 * k)).toNat)

/-- The register of several words that a write would hold its word for: the word is not the last of its register (R31, R134). -/
def State.holds (s : State) (a : Nat) : Option (Nat × Nat) :=
  match s.wordGroup a with
  | some (base, n, w) => if w + 1 < n then some (base, w) else none
  | none => none

/-- A 32-bit write over the bus with reference time `tw`: its response and the state (R24-R27, R31, R134). Only an address-dependent cause refuses a
word that would be held (R27), so the ERR_BUSY of channel 15 meets the committing write alone. DESIGN CHOICE (log entry 48): a refused write, also
one of a low word, discards the word held before it, for the same register too; R31 speaks of a write of another address only. -/
def State.busWriteAt (s : State) (r : Req) (a : Nat) (v : Word) (tw : Th) : Nat × State :=
  let done := fun (x : Nat × State) => (x.1, x.2.answer r x.1 0)
  match s.writeCauses r a, s.holds a with
  | 0, some (base, w) | 7, some (base, w) => done (0, s.hold r base w v)
  | 0, none =>
    (match s.wordGroup a with
     | none => done ((s.dropHeld r).regWrite r a v tw)
     | some (base, n, _) => done ((s.dropHeld r).regCommit base (s.commitWords r base n v) tw))
  | 1, _ => done (1, (s.dropHeld r).recordOffline r a)
  | c, _ => done (c, s.dropHeld r)

/-- A write whose reference time is the present output time (R180). -/
def State.busWrite (s : State) (r : Req) (a : Nat) (v : Word) : Nat × State := s.busWriteAt r a v s.nowTh

/-! ## 64-bit accesses (R32) -/

/-- The cause that refuses a 64-bit access (R26, R32). -/
def State.wideCause (s : State) (r : Req) (a : Nat) : Nat :=
  if (findReg a).isNone && (!inWindow a || s.unmapped a) then 3
  else if (findReg a).isSome && a % 8 == 0 && !s.lowWord64 a then 3
  else if securePage a && !s.secureReq r then 2
  else if a % 8 ≠ 0 then 5
  else if s.offline a then 1
  else if s.ch15Busy r a then 7
  else 0

/-- A 64-bit read: code, value, state; a refused one returns 0 in both words (R32). -/
def State.busRead64 (s : State) (r : Req) (a : Nat) : Nat × Nat × State :=
  let done := fun (x : Nat × Nat × State) => (x.1, x.2.1, x.2.2.answer r x.1 x.2.1)
  match s.wideCause r a with
  | 0 =>
    if (findReg a).isSome then done (0, s.readWord a (s.secureReq r) + 2 ^ 32 * s.readWord (a + 4) (s.secureReq r), s)
    else
      let (c, bs, t) := s.winRead a 8
      done (c, leNat bs, t)
  | 1 => done (1, 0, s.recordOffline r a)
  | c => done (c, 0, s)

/-- A 64-bit write: code and state. -/
def State.busWrite64 (s : State) (r : Req) (a v : Nat) : Nat × State :=
  let done := fun (x : Nat × State) => (x.1, x.2.answer r x.1 0)
  match s.wideCause r a with
  | 0 => if (findReg a).isSome then done (s.regCommit a [v % 2 ^ 32, v / 2 ^ 32 % 2 ^ 32] s.nowTh) else done (s.winWrite a (natLE 8 v))
  | 1 => done (1, s.recordOffline r a)
  | c => done (c, s)

/-- The requesters that issue 64-bit accesses: Shiftboss engines, Lode cores, Foreman (R32). -/
def wideReq (r : Req) : Bool := r.id == 4 || decide (8 ≤ r.id ∧ r.id ≤ 12) || decide (16 ≤ r.id ∧ r.id ≤ 49)

/-! ## The rows of the bus -/

/-- REGISTER_WRITE (R25). -/
def execRegisterWrite (r : Req) (addr : Word) (v : Word) (s : State) : Res := finish (s.busWrite r addr.toNat v).2

/-- RC_REGISTER_READ (R6). -/
def execRcRegisterRead (r : Req) (addr : Word) (s : State) : Res := finish (s.busRead r addr.toNat).2.2

/-- LOW_WORD_READ (R30, R134). -/
def execLowWordRead (r : Req) (addr : Word) (s : State) : Res := finish (s.busRead r addr.toNat).2.2

/-- LOW_WORD_WRITE (R27, R31, R134). -/
def execLowWordWrite (r : Req) (addr : Word) (v : Word) (s : State) : Res := finish (s.busWrite r addr.toNat v).2

/-- HIGH_WORD_WRITE (R31, R134). -/
def execHighWordWrite (r : Req) (addr : Word) (v : Word) (s : State) : Res := finish (s.busWrite r addr.toNat v).2

/-- ATOMIC_64BIT_ACCESS (R32): a write of `v`, or a read. Requesters without 64-bit accesses never issue one. -/
def execAtomic64bitAccess (r : Req) (addr : Word) (v : Option DWord) (s : State) : Res :=
  finish (
    if !wideReq r then s
    else match v with
      | some x => (s.busWrite64 r addr.toNat x.toNat).2
      | none => (s.busRead64 r addr.toNat).2.2)

/-- SYS_ACCERR_CLEAR (R35). An access refused in the same cycle is the first of a new record (R7): a command that follows. -/
def execSysAccerrClear (r : Req) (v : Word) (s : State) : Res :=
  finish (s.busWrite r Reg.SYS_ACCERR (setF v Fld.SYS_ACCERR_VALID 1)).2

/-- PMU_COUNTER_WRITE (R489): a write of counter `k` of a bank in a cycle in which its event reports `amt`. Of a chained pair the low counter is held and
the high one commits (R488): a held low counter is written in that cycle too. -/
def execPmuCounterWrite (r : Req) (b : Fin 46) (k : Fin 8) (v : Word) (amt : Nat) (s : State) : Res :=
  let a := Reg.PMU_CNT b k
  finish (
    if (s.wordGroup a).isNone then s.writeBy r a (fun t => (0, t.pmuStore b k v amt))
    else
      let held := (s.busOf r.id).wrTag == some (Reg.PMU_CNT b (k - 1))
      let (c, t) := s.busWrite r a v
      if c ≠ 0 ∨ k.val % 2 = 0 then t
      else if !held then t.pmuStore b k v amt
      else if s.pmuCounts b (k - 1) amt && decide (2 ^ 32 ≤ (s.rd (Reg.PMU_CNT b (k - 1))).toNat + amt) then t.pmuLost b
      else t)

/-! ## Register packets of a host (R89, R90) -/

/-- REG_WR (R89). -/
def execRegWr (p : Fin 2) (h : RxHdr) (sec : Option SecTrailer) (tag : BitVec 8) (addr : Word) (v : Word) (s : State) : Res :=
  finish (s.hostReq p h sec 0x13 1 addr.toNat tag.toNat [v.toNat, tag.toNat] true (fun r t =>
    let (c, u) := t.busWrite r addr.toNat v
    (c, 1, [0, 0], u)))

/-- REG_RD (R89): the data returns in bytes 8-11 of the completion. -/
def execRegRd (p : Fin 2) (h : RxHdr) (sec : Option SecTrailer) (tag : BitVec 8) (addr : Word) (s : State) : Res :=
  finish (s.hostReq p h sec 0x14 1 addr.toNat tag.toNat [0, tag.toNat] true (fun r t =>
    let (c, v, u) := t.busRead r addr.toNat
    (c, 1, [v, 0], u)))

end Sys2Proof.Machine
end

