-- ==== Sys2Proof/Machine/LodeRun.lean ====
section
/-! DEFINITION. Running a bundle on a Lode core (R327-R351): fetch, decode, the slots' effects, fabric accesses, loop ends. What an instruction computes is
in `LodeIsa`. Marks and risks: log entries 27, 28. -/
namespace Sys2Proof.Machine

/-- The word at an instruction address: IMEM in LOCAL mode, the kernel image in shared memory in STREAM mode (R301, R302). -/
def State.lodeFetch (s : State) (c : Nat) (k : LodeCore) (a : Nat) : Nat :=
  s.ldN (if k.local_ then coreMem c + a else sharedMem + a % 2 ^ 24) 4

/-- Record sticky bits (R320). -/
def State.lodeSticky (s : State) (c aov sat : Nat) : State :=
  s.wr (Reg.LODE_STICKY c) (s.rd (Reg.LODE_STICKY c) ||| BitVec.ofNat 32 (aov * 65536 + sat))

/-- A bundle traps (R321, R331): three wasted slots (R487). -/
def State.bundleTraps (s : State) (c code pc : Nat) : State :=
  let k := s.core c
  ((s.setCore c { k with slots := k.slots + 3 }).pmuCount c 0x03 3).lodeTrap c code pc

/-- The effects of a bundle of `n` words on core `c` apply together (R329), then the loop ends (R349). -/
def State.bundleDone (s : State) (c : Nat) (k : LodeCore) (n : Nat) (d : LodeDelta) : State :=
  let wait := if d.jump.isNone then 0 else if k.local_ then 3 else 6
  let k1 := { (k.apply d).goOn d n with lastPc := k.pc, slots := k.slots + 3 + wait }
  let k2 := if d.fin then { k1 with ended := some (0, 0) } else k1
  let s1 := d.st.foldl (fun (t : State) x => t.stBytes x.1 x.2) (s.setCore c k2)
  let s2 := s1.lodeSticky c d.aov d.sat
  let s3 := match d.trunc with
    | some b => s2.wr (Reg.LODE_CFG c) (BitVec.ofNat 32 (b2n b))
    | none => s2
  let s4 := s3.wr (Reg.LODE_CORE_PC c) (BitVec.ofNat 32 (if d.fin then k.pc else k2.pc))
  ((((s4.pmuCount c 0x02 n).pmuCount c 0x03 (3 - n)).pmuCount c 0x04 wait).pmuCount c 0x06 d.cmac).pmuCount c 0x07 d.shr

/-- The effects of a bundle with its fabric access (R338): a refused `FLD` traps; an `FST` is posted and a refusal is remembered. -/
def State.bundleRun (s : State) (c : Nat) (k : LodeCore) (n : Nat) (d : LodeDelta) : State :=
  let r : Req := ⟨16 + c, false⟩
  match d.fab with
  | none => s.bundleDone c k n d
  | some (true, a, w64, reg, _) =>
    let (code, v, t) := if w64 then s.busRead64 r a else s.busRead r a
    if code ≠ 0 then t.bundleTraps c 3 k.pc
    else t.bundleDone c k n { d with r := d.r ++ [(0, reg, v % 2 ^ 32)] ++ (if w64 then [(0, reg + 1, v / 2 ^ 32)] else []) }
  | some (false, a, w64, _, v) =>
    let t := s.bundleDone c k n d
    let (code, u) := if w64 then t.busWrite64 r a v else t.busWrite r a (BitVec.ofNat 32 v)
    if code = 0 then u else u.setCore c { u.core c with busErr := true }

/-- Whether a core may issue: its item runs, and it has slots left, three for each cluster cycle (R298, R330). -/
def State.bundleDue (s : State) (c : Nat) : Bool := s.itemRuns c && decide ((s.core c).slots ≤ 3)

/-- LODE_BUNDLE (R327-R351): the core issues the bundle at its program counter. `ecc`: an uncorrectable error of shared memory met by nothing (0), the C
operand (1), the access of slot L (2), the fetch (3), which trap with code BUS (R322). -/
def execLodeBundle (c : Fin 34) (ecc : Fin 4) (s : State) : Res :=
  let k := s.core c
  finish (
    if !s.bundleDue c then s
    else if !k.local_ && ecc == 3 then s.lodeTrap c 3 k.pc
    else
      let ws := bundleWords (s.lodeFetch c k) k.pc 3
      let bad := if k.local_ && decide (0x10000 < k.pc + 4 * ws.length) then 1 else bundleTrap ws
      if bad ≠ 0 then s.bundleTraps c bad k.pc
      else if s.wdogDue c then s.lodeTrap c 8 k.pc
      else
        match lodeBundle s c k ws (s.bit (Reg.LODE_CFG c) Fld.LODE_CFG_TRUNC) ecc with
        | (0, d) => s.bundleRun c k ws.length d
        | (code, d) => (s.lodeSticky c d.aov d.sat).bundleTraps c code k.pc)

/-- FST_BUS_ERROR (R338): the refusal of a posted `FST` traps at the next bundle boundary. -/
def execFstBusError (c : Fin 34) (s : State) : Res :=
  let k := s.core c
  finish (if s.itemRuns c && k.busErr then s.lodeTrap c 3 k.lastPc else s)

end Sys2Proof.Machine
end

