-- ==== Sys2Proof/Machine/Mspi.lean ====
section
/-! DEFINITION. The management port (R442-R444): SPI frames as whole commands, by requester 3, never secure. Marks and risks: log entry 49. -/
namespace Sys2Proof.Machine

/-- The requester of the management port (R18, R442). -/
def mspiReq : Req := ⟨3, false⟩

/-- A frame begins: `MSPI_CS_N` falls, which is wake source 1 (R423, R424); the frame itself is served at once. -/
def State.mspiFall (s : State) : State := s.wakeBy 2

/-- The response of a write of a frame: the first failure since the last STATUS is kept (R443). -/
def State.mspiNote (s : State) (c : Nat) : State := if c = 0 ∨ s.mspiErr.isSome then s else { s with mspiErr := some c }

/-- The words of a WRITE frame that arrived whole, each carried out in turn; word k goes to address + 4k (R443, R444). -/
def State.mspiWrites (s : State) (a : Nat) : List Word → State
  | [] => s
  | w :: ws =>
    let (c, t) := s.busWrite mspiReq (a % 2 ^ 32) w
    (t.mspiNote c).mspiWrites (a + 4) ws

/-- The words of a READ frame: a token 0x60 + response code, then four data bytes, most significant first (R443); the waiting bytes 0xFF are timing. -/
def State.mspiReads (s : State) (a : Nat) : Nat → List Nat × State
  | 0 => ([], s)
  | n + 1 =>
    let (c, v, t) := s.busRead mspiReq (a % 2 ^ 32)
    let (rest, u) := t.mspiReads (a + 4) n
    ((0x60 + c) :: natBE 4 v ++ rest, u)

/-- MSPI_WRITE (R443, R444): the first 64 whole words of the frame. Nothing answers while the device is held (R415, R439). -/
def execMspiWrite (addr : Word) (words : List Word) (s : State) : Res :=
  finish (if s.held then s else s.mspiFall.mspiWrites addr.toNat (words.take 64))

/-- MSPI_READ (R443, R444): a frame that lasts for `n` + 1 words' accesses. -/
def execMspiRead (addr : Word) (n : Fin 64) (s : State) : Res :=
  finish (if s.held then s else
    let (bs, t) := s.mspiFall.mspiReads addr.toNat (n + 1)
    t.emit (.mspi bs))

/-- MSPI_STATUS (R443): `WERR` and the code of the first failed write, both cleared. -/
def execMspiStatus (s : State) : Res :=
  finish (if s.held then s else
    let b := match s.mspiErr with | some c => 0x80 + c | none => 0
    { s.mspiFall with mspiErr := none }.emit (.mspi [b]))

end Sys2Proof.Machine
end

