-- ==== Sys2Proof/Machine/Reset.lean ====
section
/-! DEFINITION. Reset and the always-on supply (R8, R132, R166, R415, R439). Marks and risks: log entry 24. -/
namespace Sys2Proof.Machine

/-- The registers of the boot record, which `RST_N` keeps (R439, R451). -/
def bootRecReg (a : Nat) : Bool :=
  decide (Reg.SEC_BOOTREC 0 ≤ a ∧ a < Reg.SEC_BOOTREC 16) || a == Reg.SEC_BOOTSRC || a == Reg.SEC_BOOTADDR || a == Reg.SEC_BOOTADDR + 4 || a == Reg.SEC_BOOTLEN

/-- Everything at its reset value but `TB_CNT`, OTP and, with `keepBoot`, the boot record (R8, R439); `p` is the power record. -/
def State.allReset (s : State) (keepBoot : Bool) (p : PowerSt) : State :=
  let t := s.setPps false
  { pending := t.pending, tick := t.tick, free := t.free, out := t.out, tb := t.tb, otp := t.otpAfterLoss, power := p
    regs := if keepBoot then t.regs.filter (fun c => bootRecReg c.1) else [] }

/-- RESET_ENTRY (R439): `POR_N` (`por`) or `RST_N` falls. Every register takes its reset value, every `PWR_SEQ` output and `FE_CTL` pin is low. -/
def execResetEntry (por : Bool) (s : State) : Res :=
  finish (s.allReset (!por && !s.power.off)
    { off := s.power.off, porLow := por || s.power.porLow, rstLow := !por || s.power.rstLow })

/-- RESET_EXIT (R439): the pin rises; when neither pin is low any more the device is in DORMANT and the `FE_CTL` pins drive `SB_FE_SAFE`. -/
def execResetExit (por : Bool) (s : State) : Res :=
  finish (
    let t := { s with power := { s.power with porLow := s.power.porLow && !por, rstLow := s.power.rstLow && por } }
    if s.held && !t.held then t.feSafe else t)

/-- VDD_AON_LOSS (R415): OFF. Everything but OTP is lost; `POR_N` is low until the board releases it (R501). -/
def execVddAonLoss (s : State) : Res :=
  finish { s.allReset false { off := true, porLow := true, rstLow := s.power.rstLow } with tb := 0 }

/-- VDD_AON_APPLY (R132): `TB_CNT` is 0 and the always-on island starts, in reset until `POR_N` rises. -/
def execVddAonApply (s : State) : Res :=
  finish (if s.power.off then { s with tb := 0, power := { s.power with off := false, porLow := true } } else s)

end Sys2Proof.Machine
end

