-- ==== Sys2Proof/Machine/SbEffects.lean ====
section
/-! DEFINITION. What staged Shiftboss instructions do at their effect cycle (R156, R161-R168). Marks and risks: log entry 25. -/
namespace Sys2Proof.Machine

/-- A `SET` or `SETW` that was not answered OK (R162). -/
def State.sbBusErr (s : State) (e a : Nat) : State :=
  let t := if s.bit (Reg.SB_ERR e) Fld.SB_ERR_BUSERR then s else s.wr (Reg.SB_ERR_ADDR e) (BitVec.ofNat 32 a)
  (t.flag (Reg.SB_ERR e) Fld.SB_ERR_BUSERR).raise 0xA00A e

/-- A staged register write of engine `e` (R162, R180): requester 8 + e, never secure; its reference time is `tw` where the wait gave one. -/
def State.sbWrite (s : State) (e a v : Nat) (wide : Bool) (tw : Option Th) : State :=
  let r : Req := ⟨8 + e, false⟩
  let (c, t) := if 0xF00000 ≤ a then (2, s.answer r 2 0)
    else if wide then s.busWrite64 r a v
    else s.busWriteAt r a (BitVec.ofNat 32 v) (tw.getD s.nowTh)
  if c = 0 then t else t.sbBusErr e a

/-- CAPTURE at its effect instant (R168, R266): G[RB] receives the ticket, all ones where it is refused. -/
def State.sbCapture (s : State) (e : Nat) (mirror : Bool) (nblk path dest rb : Nat) : State :=
  match s.capRequest ⟨path, mirror, nblk, dest, false, 0⟩ with
  | (some t, u) => u.setG e rb t
  | (none, u) => u.setG e rb (2 ^ 64 - 1)

/-- One path's sleep or wake in the receive direction (R165): zeros from the sleep instant, and until 200 ns after the wake. A comparison of sub-ADCs in progress ends
(log entry 39). -/
def State.gateRx (s : State) (sleep : Bool) (p : Nat) : State :=
  let was := s.sb.asleepRx.testBit p
  let x : ConvAdc := kvGet (fun _ => {}) s.adcs p
  let s := if sleep then { s.setSpell (64 + p) true with adcs := kvSet (fun _ => {}) s.adcs p { x with rotAt := none } } else s.setSpell (64 + p) false
  let t := ({ s with sb := { s.sb with asleepRx := setBitN s.sb.asleepRx p sleep } }).setZero p 1 sleep (if sleep then s.nowTh else s.nowTh + thNs 200)
  if !sleep && was then { t with sb := { t.sb with wokeRx := kvSet (fun _ => 0) t.sb.wokeRx p (t.tick + 197) } }
  else t

/-- GATE (R165): `DIR` 0 TX, 1 RX, 2 both; 3 names none. -/
def State.sbGate (s : State) (dir : Nat) (sleep : Bool) (mask : Nat) : State :=
  let paths := maskList 64 mask
  let s1 := if dir = 0 ∨ dir = 2 then
      paths.foldl (fun (t : State) p => { t.setSpell p sleep with sb := { t.sb with asleepTx := setBitN t.sb.asleepTx p sleep } }) s
    else s
  if dir = 1 ∨ dir = 2 then paths.foldl (fun (t : State) p => t.gateRx sleep p) s1 else s1

/-- The owner role of a front-end pin (SB_FE_OWN). -/
def State.feOwner (s : State) (pin : Nat) : Nat := bitsAt (s.rd (Reg.SB_FE_OWN (pin / 8))).toNat (4 * (pin % 8)) 4

/-- A denied front-end action (R166, R167). -/
def State.feDenied (s : State) (e : Nat) : State := (s.flag (Reg.SB_ERR e) Fld.SB_ERR_FE_DENIED).raise 0xA00B e

/-- FECTL (R166): acts on the pins of the mask that the engine's role owns; any other pin of the mask is denied. -/
def State.sbFectl (s : State) (e fop mask v : Nat) : State :=
  let role := s.sbRole e
  let own := (List.range 32).foldl (fun m i => if mask.testBit i && s.feOwner i == role then m + 2 ^ i else m) 0
  let lv := s.fld Reg.SB_FE_STATE Fld.SB_FE_STATE_LEVEL
  let new := if fop = 0 then v else if fop = 1 then 0xFFFFFFFF else if fop = 2 then 0 else Nat.xor lv 0xFFFFFFFF
  let t := { s with sb := { s.sb with reached := Nat.lor s.sb.reached own } }.setPins own new
  if own = mask then t else t.feDenied e

/-- FESEND at its effect instant (R167): the frame starts, or waits behind up to four frames; a fifth is dropped. `due` is the effect cycle. -/
def State.sbFesend (s : State) (e due : Nat) (r : Bool) (port nbits data rb : Nat) : State :=
  if s.fld (Reg.SB_FESPI_CFG port) Fld.SB_FESPI_CFG_OWNER ≠ s.sbRole e then (s.feDenied e).feRelease e port
  else
    let fs := s.feFrames port
    let at_ := kvGet (fun _ => 0) s.sb.feAt port
    if 5 ≤ fs.length then
      (((s.setC e false).flag (Reg.SB_ERR e) Fld.SB_ERR_FESPI_OVF).raise 0xA003 e).feRelease e port
    else s.setFe port (fs ++ [⟨e, nbits, data, rb, r⟩]) (if fs.isEmpty then Nat.max due at_ else at_)

/-- One staged operation takes effect for engine `e` (R156, R174). -/
def State.sbEffect (s : State) (e : Nat) (x : Staged) : State :=
  match x.op with
  | .set a v => s.sbWrite e a v false x.tw
  | .setw a v => s.sbWrite e a v true x.tw
  | .swap bnd car res idx t =>
    (match s.requestSwap res (if res = 0 then e else idx) bnd car t (x.tw.getD s.nowTh) (some e) with | (_, u) => u)
  | .capture mirror nblk path dest rb => s.sbCapture e mirror nblk path dest rb
  | .gate dir sleep mask => s.sbGate dir sleep mask
  | .fectl fop mask v => s.sbFectl e fop mask v
  | .fesend r port nbits data rb => s.sbFesend e x.due r port nbits data rb

/-- The earliest effect cycle of a list of staged operations. -/
def firstDue : List Staged → Option Nat
  | [] => none
  | x :: xs => match firstDue xs with
    | none => some x.due
    | some d => some (Nat.min x.due d)

/-- STAGED_EFFECT (R156, R162): the group of an engine whose effect cycle has come takes effect in order; `mismatch` says that SB4's shadow effects
differ from it (R173). -/
def execStagedEffect (e : Fin 5) (mismatch : Bool) (s : State) : Res :=
  let x := s.eng e
  finish (match firstDue x.staged with
    | none => s
    | some d =>
      if s.fcyc < d ∨ !s.clkOn Fld.SYS_CLK_STATUS_FCLK then s
      else
        let group := x.staged.filter (fun y => y.due == d)
        let s1 := s.setEng e { x with staged := x.staged.filter (fun y => y.due != d) }
        let s2 := group.foldl (fun (t : State) y => t.sbEffect (t.sbActor e) y) s1 |>.setsWin
        let s3 := s2.pmuCount (35 + e) 4 group.length
        s3.sbCompared e mismatch)

end Sys2Proof.Machine
end

