-- ==== Sys2Proof/Machine/TxPath.lean ====
section
/-! DEFINITION. The transmit path: a symbol's stages 1 and 2 at its read instant (R177, R185-R188), and stages 3 to 9 sample by sample as time passes
(R189-R196, R253, R281). Marks and risks: log entries 7, 57, 58. -/
namespace Sys2Proof.Machine

/-! ## Stage 2 (R187, R188) -/

/-- Output `i` of the iFFT of a path before saturation (R187): RE k lies in bin (k − 6 NPRB) mod N; within 2 of the exact value, which one is open (`v`). -/
def ifftOut (res : List (Nat × Int × Int)) (log prbs sh i : Nat) (v : Nat → Nat) : Int × Int :=
  let n := 2 ^ log
  let acc := res.foldl (fun (acc : Int × Int) r =>
    let z := cmulI r.2 (cosSinOf ((r.1 + n - 6 * prbs % n) % n * i % n) n)
    (acc.1 + z.1, acc.2 + z.2)) (0, 0)
  (near 2 (128 + sh) acc.1 (v (2 * i)), near 2 (128 + sh) acc.2 (v (2 * i + 1)))

/-- Stages 1 and 2 of antenna `a` for a symbol (R185, R187): the N samples after stage 2 (none where every RE is zero), the saturations of both counted (R196). -/
def State.symbolPath (s : State) (secs : List Section) (air : Th) (n c bfs sh a : Nat) : List (Int × Int) × State :=
  let log := s.fld (Reg.CAR_CFG c) Fld.CAR_CFG_FFTLOG
  let raw := (List.range (12 * s.carPrbs c)).map (fun k => (k, s.beamform secs air n bfs c a k))
  let s1 := s.txClip a 0 (raw.filter (fun r => satSample r.2)).length
  let res := (raw.map (fun r => (r.1, satI r.2))).filter (fun r => r.2 != (0, 0))
  if res.isEmpty then ([], s1)
  else
    let use := s1.free
    let out := (List.range (2 ^ log)).map (fun i => ifftOut (res.map (fun r => (r.1, r.2.1, r.2.2))) log (s.carPrbs c) sh i (Config.freeAt use))
    (out.map satI, { s1 with free := use + 1 }.txClip a 1 (out.filter satSample).length)

/-- The CP + N samples that a time-IQ section brings for its path (R119). -/
def State.tiqSamples (s : State) (x : Section) (n : Nat) : List (Int × Int) :=
  (List.range (s.secUnits x n)).flatMap (fun u =>
    let parts := s.dlParts x n u
    (List.range 12).map (fun i => (parts.getD (2 * i) 0, parts.getD (2 * i + 1) 0))) |>.take (s.cpLen x.car n + s.carFft x.car)

/-- Stages 1 and 2 of a symbol, or the entry of a time-IQ symbol into stage 3 (R119, R176): its record with the samples of every path that has any. Weight errors,
stale weights and saturations are counted. -/
def State.readSymbol (s : State) (c : Nat) (f : Int) (n : Nat) (here : List Section) : State :=
  let air := s.airTime c f n
  let gain := s.symVal (Reg.CAR_TXGAIN c) air
  let tiq := s.carTiq c 0
  let (x, t) : List (Nat × List (Int × Int)) × State :=
    if tiq then ((here.filter (fun y => SecF.tiq y.raw)).map (fun y => (SecF.bval y.raw % 64, s.tiqSamples y n)), s)
    else
      let layers := here.filter (fun y => !SecF.tiq y.raw && !SecF.zero y.raw)
      let s1 := s.pmuCount 42 0x01 (if layers.isEmpty then 0 else 12 * s.carPrbs c)
      let (s2, good) := layers.foldl (fun (acc : State × List Section) y =>
        let (u, err, stale) := acc.1.weightChecks 0 y air
        (u.pmuCount 42 0x02 (b2n stale), if err then acc.2 else acc.2 ++ [y])) (s1, [])
      let bfs := Nat.min 4 (getF gain Fld.CAR_TXGAIN_BFSHIFT)
      let sh := Nat.min 13 (getF gain Fld.CAR_TXGAIN_SHIFT)
      (List.range 64).foldl (fun (acc : List (Nat × List (Int × Int)) × State) a =>
        let (l, u) := acc.2.symbolPath good air n c bfs sh a
        (if l.isEmpty then acc.1 else acc.1 ++ [(a, l)], u)) ([], s2)
  let live := x.filter (fun e => !e.2.all (fun z => z == (0, 0)))
  let y := t.symRecord c f n (getF gain Fld.CAR_TXGAIN_GAIN) (if tiq then 0 else t.fld (Reg.CAR_TXWIN c) Fld.CAR_TXWIN_LEN) tiq
    (t.bit (Reg.CAR_CTL c) Fld.CAR_CTL_PHCOMP) live
  if live.isEmpty && !t.txSyms.any (fun z => z.car == c) then t else { t with txSyms := t.txSyms ++ [y] }

/-- SYMBOL_READ (R177, R184-R188): the read instant of the symbol whose air time is 34 µs ahead. The symbol's data leaves the buffer; sections whose last symbol is over are freed (R126). A symbol
that is not enabled is transmitted as zero, its data discarded. -/
def execSymbolRead (c : Fin 8) (s : State) : Res :=
  let (f, n) := s.symbolAt c (s.nowTh + thUs 34)
  let idx := symIndex f n
  let air := s.airTime c f n
  let done := match (s.car c).dlDone with | some d => decide (idx ≤ d) | none => false
  finish (
    if done || !s.clkOn Fld.SYS_CLK_STATUS_FCLK then s
    else
      let on := getF (s.symVal (Reg.CAR_CTL c) air) Fld.CAR_CTL_DL_EN = 1 ∧ getF (s.symVal (Reg.CAR_STATUS c) air) Fld.CAR_STATUS_TOFF = 0
      let here := s.sections.filter (fun x => x.car == c.val && x.frame == f && SecF.dir x.raw == 0 && !x.standby && x.covers n)
      let m0 := match (s.car c).frame0 with
        | some (g, m) => if g = f then m else firstIdx 1 (s.gridOf (s.airTime c f 0))
        | none => firstIdx 1 (s.gridOf (s.airTime c f 0))
      let s0 := s.setCar c { s.car c with frame0 := some (f, m0) }
      let s1 :=
        if ¬on then s0.readSymbol c f n []
        else
          let data := s.dl.filter (fun d => !d.held && !d.standby && d.car == c.val && d.frame == f && d.slot * 14 + d.sym == n)
          let bad := data.foldl (fun k d =>
            k + ((List.range d.pcnt).filter (fun i => (unitVals d.cw (d.unit (d.poff + i))).isNone)).length) 0
          (if bad = 0 then s0 else s0.count (Reg.CAR_DL_DROP_CNT c) bad).readSymbol c f n here
      let past := fun (fr : Int) (m : Nat) => decide (symIndex fr m ≤ idx)
      { (s1.bfErrPast 0 c).setCar c { s1.car c with dlDone := some idx } with
        dl := s1.dl.filter (fun d => !(d.car == c.val && past d.frame (d.slot * 14 + d.sym)))
        sections := s1.sections.filter (fun x => !(x.car == c.val && SecF.dir x.raw == 0 && !s1.secLive x)) })

/-! ## The stream of a carrier (R188) -/

/-- The ramp r[i] in units of 2^-15 (R188). -/
def rampQ15 (w i : Nat) : Int := ((2 ^ 128 - (cosSinOf (2 * i + 1) (4 * w)).1) * 2 ^ 14 + 2 ^ 127) / 2 ^ 128

/-- Sample `j` of a symbol's own part of the stream on a path, in units of 2^-29 after its gain (R188, R191): CP and symbol, the rising ramp, and the cyclic continuation that falls into the next symbol. -/
def TxSym.part (y : TxSym) (p : Nat) (j : Int) : Int × Int :=
  match y.x.find? (fun e => e.1 == p) with
  | none => (0, 0)
  | some (_, x) =>
    let n : Nat := 2 ^ y.log
    let len : Int := ((y.cp + n : Nat) : Int)
    let z := fun (k : Int) => x.getD k.toNat (0, 0)
    let body := if y.tiq then z j else z ((j - (y.cp : Int)) % (n : Int))
    let w : Int :=
      if j < 0 then 0
      else if j < (y.win : Int) then rampQ15 y.win j.toNat
      else if j < len then 2 ^ 15
      else if j < len + (y.win : Int) then 2 ^ 15 - rampQ15 y.win (j - len).toNat
      else 0
    (body.1 * w * (y.gain : Int), body.2 * w * (y.gain : Int))

/-- Carrier samples between the starts of two symbols of a carrier. -/
def TxSym.after (y z : TxSym) : Int := ((z.start - y.start) * (y.rate : Int) + 6553600000) / 13107200000

/-- The stream of a carrier around the symbol `y`, at sample `j` of it: every symbol's own part (R188). -/
def streamAt (syms : List TxSym) (y : TxSym) (p : Nat) (j : Int) : Int × Int :=
  (syms.filter (fun z => z.car == y.car)).foldl (fun (acc : Int × Int) z =>
    let v := z.part p (j - y.after z)
    (acc.1 + v.1, acc.2 + v.2)) (0, 0)

/-- The symbol of a carrier that holds 1 474.56 MS/s sample `m`: the last that has started, else the first to come. -/
def symbolOf (syms : List TxSym) (c : Nat) (m : Int) : Option TxSym :=
  let own := syms.filter (fun y => y.car == c)
  match own.reverse.find? (fun y => decide (firstIdx 1 y.start ≤ m)) with
  | some y => some y
  | none => own.head?

/-! ## Stages 3 to 6 (R189-R195) -/

/-- Stage 3 of a path at sample `m` before saturation (R189-R191): every carrier converted, rotated by its NCO, with its gain; the sum rounded half up. -/
def State.stage3 (s : State) (p : Nat) (m : Int) : Int × Int :=
  let acc := (List.range 8).foldl (fun (acc : Int × Int) c =>
    match symbolOf s.txSyms c m with
    | none => acc
    | some y =>
      let (j, r) := y.place m
      let z := filtered (Config.txConvert y.rate r) (window (streamAt s.txSyms y p) j reach)
      let v := cmulI z (cosSinOf (s.carrierPhase y m) ncoMod)
      (acc.1 + v.1, acc.2 + v.2)) (0, 0)
  round2 157 acc

/-- Stage 4 of a path at sample `m` before saturation (R192): Assay's correction, then `TXDP_GAIN`. -/
def State.stage4 (s : State) (p : Nat) (comb : Sig) (m : Int) : Int × Int :=
  let z := filtered (Config.txAlign (s.alignVals 3 p (s.sampleTh 1 m - thNs 4000))) (window (sigAt comb) m reach)
  round2 30 (cmulI z (gainOf (s.symVal (Reg.TXDP_GAIN p) (s.sampleTh 1 m))))

/-- Whether a path's sample `m` bypasses stage 5 (R193). -/
def State.cfrBypass (s : State) (p : Nat) (m : Int) : Bool :=
  getF (s.symVal (Reg.TXDP_PATH_CTL p) (s.sampleTh 1 m)) Fld.TXDP_PATH_CTL_CFR_BYP == 1

/-- Tap k − 64 of the pulse, Q1.15 (R193). -/
def State.cfrTap (s : State) (k : Nat) : Int × Int := wordCplx (s.rd (Reg.TXDP_CFR_PULSE k)).toNat

/-- Whether sample `n` is a peak of pass `j` (R193): the pass runs for it, it is above the threshold, a local maximum of its window, the earliest of equals, and its block of 64 has room. -/
def State.cfrPeak (s : State) (p j : Nat) (x : CfrPass) (n : Int) : Bool :=
  let w := s.symVal Reg.TXDP_CFR_CTL (s.sampleTh 1 n)
  let a := magOf (sigAt x.buf n)
  let pw := Nat.max 1 (getF w Fld.TXDP_CFR_CTL_PEAKWIN)
  let mag := fun (k : Int) => magOf (sigAt x.buf (n + k))
  let stages := Nat.max 1 (Nat.min 4 (getF w Fld.TXDP_CFR_CTL_STAGES))
  let used := if x.blk = n / 64 then x.peaks else 0
  decide (j < stages) && !s.cfrBypass p n && decide (getF w Fld.TXDP_CFR_CTL_THR < a) &&
    (List.range pw).all (fun (k : Nat) => decide (mag ((k : Int) + 1) ≤ a ∧ mag (-((k : Int) + 1)) < a)) &&
    decide (used < Nat.max 1 (getF w Fld.TXDP_CFR_CTL_MAXPK))

/-- One sample of a pass (R193): a peak is cancelled by the pulse in the samples around it that do not bypass; the pass, the peaks (0 or 1) and the saturated samples. -/
def State.cfrStep (s : State) (p j : Nat) (x : CfrPass) (n : Int) : CfrPass × Nat × Nat :=
  if s.cfrPeak p j x n then
    let z := sigAt x.buf n
    let a : Int := (magOf z : Nat)
    let d := a - (getF (s.symVal Reg.TXDP_CFR_CTL (s.sampleTh 1 n)) Fld.TXDP_CFR_CTL_THR : Nat)
    let c : Int × Int := ((2 * d * z.1 + a) / (2 * a), (2 * d * z.2 + a) / (2 * a))
    let (buf, sat) := (List.range 129).foldl (fun (acc : Sig × Nat) (k : Nat) =>
      let m := n + (k : Int) - 64
      if s.cfrBypass p m then acc
      else
        let v := sigAt acc.1 m
        let e := round2 15 (cmulI c (s.cfrTap k))
        let y := (v.1 - e.1, v.2 - e.2)
        (sigPut acc.1 m (satI y), acc.2 + b2n (satSample y))) (x.buf, 0)
    (⟨buf, n / 64, (if x.blk = n / 64 then x.peaks else 0) + 1⟩, 1, sat)
  else (x, 0, 0)

/-- The limit after the last pass (R193): a magnitude above 32 767 is brought to it in phase, rounded half up (log entry 7). -/
def hardLimit (z : Int × Int) : (Int × Int) × Nat :=
  let a : Int := (magOf z : Nat)
  if 32767 < a then (satI ((2 * 32767 * z.1 + a) / (2 * a), (2 * 32767 * z.2 + a) / (2 * a)), 1) else (z, 0)

/-- Stage 5 of a path (R193): samples up to `e` − 1 have entered. Pass `j` works on sample n once n + 64 is there, 128 samples after the pass before it; what no later
peak can reach goes on. The passes, the samples that leave, peaks, saturations. -/
def State.cfrRun (s : State) (p : Nat) (old e : Int) (passes : List CfrPass) (input : Sig) : List CfrPass × Sig × Nat × Nat :=
  let (ps, out, pk, sat) := (List.range 4).foldl (fun (acc : List CfrPass × Sig × Nat × Nat) j =>
    let x := passes.getD j {}
    let x := { x with buf := x.buf ++ acc.2.1 }
    let a := old - 64 - 128 * (j : Int)
    let (x, pk, sat) := (List.range (e - old).toNat).foldl (fun (w : CfrPass × Nat × Nat) (i : Nat) =>
      if w.1.buf.isEmpty then w
      else
        let (y, k, m) := s.cfrStep p j w.1 (a + (i : Int))
        (y, w.2.1 + k, w.2.2 + m)) (x, acc.2.2.1, acc.2.2.2)
    let lim := e - 128 * ((j : Int) + 1)
    (acc.1 ++ [{ x with buf := x.buf.filter (fun v => decide (lim ≤ v.1)) }], x.buf.filter (fun v => decide (v.1 < lim)), pk, sat)) ([], input, 0, 0)
  out.foldl (fun (acc : List CfrPass × Sig × Nat × Nat) v =>
    if s.cfrBypass p v.1 then (acc.1, acc.2.1 ++ [v], acc.2.2)
    else
      let (z, k) := hardLimit v.2
      (acc.1, sigPut acc.2.1 v.1 z, acc.2.2.1, acc.2.2.2 + k)) (if ps.all (fun x => x.buf.isEmpty) then [] else ps, [], pk, sat)

/-! ## Stages 7 and 8 (R195, R197, R253, R254, R281, R286) -/

/-- How many parts of `len` of the stage 8 input passes at stage 8 entry time `t` (R197): a mute, a host ramp. -/
def State.muteFactor (s : State) (p : Nat) (t : Th) : Nat × Nat :=
  let now : Bool × Option Ramp := (s.bit (Reg.TXDP_MUTE p) Fld.TXDP_MUTE_MUTED, s.ramp p)
  let (muted, ramp) := s.mutePast.foldl (fun (v : Bool × Option Ramp) e => if e.path = p ∧ t < e.until_ then (e.muted, e.ramp) else v) now
  if muted then (0, 1)
  else match ramp with
    | some r => (rampLevel r t, r.len)
    | none => (1, 1)

/-- The partner sample that enters the sum of R253: zero where the partner's path is asleep or muted, scaled during its host ramp ("When a partner sleeps or is muted"), rounded half up (log entry 42). -/
def State.partnerSample (s : State) (q : Nat) (n : Int) : Int × Int :=
  let z := sigAt (kvGet (fun _ => {}) s.tx q).u n
  let (k, len) := s.muteFactor q (s.sampleTh 3 n - thNs 1400)
  if s.sb.asleepTx.testBit q then (0, 0) else ((2 * z.1 * k + len) / (2 * len : Nat), (2 * z.2 * k + len) / (2 * len : Nat))

/-- Stage 7 of a path at sample `n` (R253, R254): u, x and the partners' v, and the saturated parts. The DPD engine of a sleeping path is powered down and gives zero (R165). -/
def State.stage7 (s : State) (p : Nat) (n : Int) : DpdRec × Nat :=
  let u := fun (k : Int) => sigAt (kvGet (fun _ => {}) s.tx p).u (n - k)
  let air := s.sampleTh 3 n
  let bank := (s.dpdAt p air).1
  let ps := s.dpdPartners p bank
  let v := fun (q k : Nat) => match ps[q]? with | some a => s.partnerSample a (n - (k : Int)) | none => (0, 0)
  let y := if s.sb.asleepTx.testBit p then (0, 0)
    else if getF (s.symVal (Reg.DPD_PATH_CTL p) air) Fld.DPD_PATH_CTL_BYP = 1 then u 0
    else s.dpdSample p bank u v
  (⟨n, u 0, satI y, (List.range 4).map (fun q => v q 0)⟩, b2n (saturates y.1) + b2n (saturates y.2))

/-- The stage 8 input of a path from its stage 7 output (R197, R286): the mute factor, rounded half up (log entry 42), and the conjugation of mix-mode. -/
def State.stage8In (s : State) (p : Nat) (n : Int) (x : Int × Int) : Int × Int :=
  let (k, len) := s.muteFactor p (s.sampleTh 3 n - thNs 1400)
  let z : Int × Int := ((2 * x.1 * k + len) / (2 * len : Nat), (2 * x.2 * k + len) / (2 * len : Nat))
  if s.txConj then conjI z else z

/-- The DAC code of a stage 8 output `x` and a phase (R281): the rotation within 1 of the exact value, which one is open (`v`); the code, and whether d saturates. -/
def dacCode (x : Int × Int) (ph fs : Nat) (v : Nat) : DacCode × Bool :=
  let (c, q) := cosSinOf ph fs
  let r := if x = (0, 0) then 0 else near 1 0 (round128 (x.1 * c - x.2 * q)) v
  let w := (r + 2) / 4
  let d := clampI (-8192) 8191 w
  let o := (d + 8192).toNat
  (⟨d, o, o / 256, o % 256⟩, decide (d ≠ w))

/-- Sample `n` of a DAC (R195, R281, R288): the ×4 interpolation of the stage 8 input, the path NCO of the TX profile in use, the code. -/
def State.dacSample (s : State) (e8 : Sig) (n : Int) (v : Nat) : DacCode × Bool :=
  let x := satI (filtered (Config.txInterp4 (n % 4).toNat) (window (sigAt e8) (n / 4) reach))
  let k := s.txProfile (s.sampleTh 12 n)
  dacCode x (pathPhase 3538944 (s.txF1 k) n) (3538944 * 65536) v

/-! ## One TCLK period (R176) -/

/-- Sum a list of samples' powers. -/
def sigPower (l : List (Int × Int)) : Nat := l.foldl (fun n z => n + (z.1 * z.1 + z.2 * z.2).toNat) 0

/-- How far ahead of the air time the model evaluates stages 3 to 8, in nanoseconds (log entry 57): every field of the stages is fixed by then. -/
def lead3 : Int := thNs 1300
def lead4 : Int := thNs 1200
def lead6 : Int := thNs 500

/-- Stages 3 to 6 of a path in a TCLK period: the lane and the state with their saturations and peaks (R189-R196). -/
def State.frontTick (s : State) (p : Nat) : State :=
  let x : TxLane := kvGet (fun _ => {}) s.tx p
  let n3 := s.newSamples 1 lead3
  let c3 := n3.map (fun m => (m, s.stage3 p m))
  let comb := (c3.foldl (fun l e => sigPut l e.1 (satI e.2)) x.comb).filter (fun e => decide (firstIdx 1 (s.grid + lead4) ≤ e.1 + 2 * reach))
  let n4 := s.newSamples 1 lead4
  let c4 := n4.map (fun m => (m, s.stage4 p comb m))
  let align := c4.foldl (fun l e => sigPut l e.1 (satI e.2)) []
  let (passes, out, pk, sat5) := s.cfrRun p (firstIdx 1 (s.grid - 200000 + lead4)) (firstIdx 1 (s.grid + lead4)) x.passes align
  let cfr := (x.cfr ++ out).filter (fun e => decide (firstIdx 1 (s.grid + lead6) ≤ e.1 + 2 * reach))
  let u := ((s.newSamples 3 lead6).foldl (fun l n =>
    sigPut l n (satI (filtered (Config.txInterp3 (n % 3).toNat) (window (sigAt cfr) (n / 3) reach)))) x.u).filter (fun e => decide (firstIdx 3 s.grid ≤ e.1 + 8))
  let y := { x with comb := comb, align := align, passes := passes, cfr := cfr, u := u }
  let t := { s with tx := kvSet (fun _ => {}) s.tx p y }
  let t := (t.txClip p 2 (c3.filter (fun e => satSample e.2)).length).txClip p 3 (c4.filter (fun e => satSample e.2)).length
  let t := t.txClip p 4 sat5
  if pk = 0 then t else t.count (Reg.TXDP_CFR_CNT p) pk

/-- The first stage 7 sample that a capture in progress of a path still needs (R271). -/
def State.recFrom (s : State) (p : Nat) : Option Int :=
  [p / 8, 8 + p].foldl (fun (m : Option Int) a =>
    let x := s.cage a
    match x.cur with
    | some q =>
      if q.path == p && !q.assay && !x.done then
        (let n := firstIdx 3 (s.grid - 200000 * ((s.tb : Int) - (x.sampleAt : Int)))
         match m with | some k => some (if n < k then n else k) | none => some n)
      else m
    | none => m) none

/-- Stages 7 to 9 of a path in a TCLK period (R253, R254, R273, R281). `lanes` are the paths as stage 6 left them. -/
def State.backTick (s : State) (p : Nat) : State :=
  let x : TxLane := kvGet (fun _ => {}) s.tx p
  let out := (s.newSamples 3 0).map (s.stage7 p)
  let e := out.map (fun r => (r.1.n, s.stage8In p r.1.n r.1.x))
  let e8 := (e.foldl (fun l v => sigPut l v.1 v.2) x.e8).filter (fun v => decide (firstIdx 3 s.grid ≤ v.1 + 3 * reach))
  let asleep := s.sb.asleepTx.testBit p
  let use := s.free
  let dac := (s.newSamples 12 (-(thNs 16))).map (fun n => if asleep then (({} : DacCode), false) else s.dacSample e8 n (Config.freeAt use (n % 1048576).toNat))
  let sum := x.winSum + sigPower (e.map (·.2))
  let last := s.tick % vswrTicks == 0
  let recs := match s.recFrom p with
    | none => []
    | some n0 => ((x.recs ++ out.map (·.1)).filter (fun r => decide (n0 ≤ r.n)))
  let y := { x with e8 := e8, recs := recs, winSum := if last then 0 else sum, winPow := if last then sum * 2 / (9 * vswrTicks) / 32768 else x.winPow
                    avgSum := x.avgSum + sigPower (out.map (fun r => r.1.x)), code := match dac.getLast? with | some d => d.1 | none => x.code }
  let t := { s with tx := kvSet (fun _ => {}) s.tx p y, free := use + 1 }
  let t := t.dpdClip p (out.foldl (fun n r => n + r.2) 0)
  let n := (dac.filter (fun d => d.2)).length
  if n = 0 then t else t.count (Reg.TXDP_CLIP_CNT p) n

/-- The paths that have samples in the pipeline. -/
def State.txPaths (s : State) : List Nat := (List.range 64).filter (fun p => s.tx.any (fun e => e.1 == p) || s.txSyms.any (fun y => y.x.any (fun e => e.1 == p)))

/-- Whether the pipeline of a path holds nothing but zeros. -/
def TxLane.empty (x : TxLane) : Bool :=
  x.comb.isEmpty && x.passes.isEmpty && x.cfr.isEmpty && x.u.isEmpty && x.e8.isEmpty && x.winSum == 0 && x.winPow == 0 && x.recs.isEmpty && x.avgSum == 0

/-- Stages 3 to 9 in a TCLK period (R176): symbols that no sample can need any more go. -/
def State.txTick (s : State) : State :=
  if s.txSyms.isEmpty && s.tx.isEmpty then s
  else
    let paths := s.txPaths
    let t := paths.foldl State.frontTick s
    let t := paths.foldl State.backTick t
    { t with tx := t.tx.filter (fun e => !e.2.empty)
             txSyms := t.txSyms.filter (fun y => decide (t.grid < y.start + ((y.cp + 2 * 2 ^ y.log : Nat) : Int) * 13107200000 / (y.rate : Int) + thUs 2)) }

end Sys2Proof.Machine
end

