-- ==== Sys2Proof/Machine/Dispatch.lean ====
section
/-! DEFINITION. One arm per command: each calls its meaning. -/
namespace Sys2Proof.Machine

def exec (i : Instr) (s : State) : Host.Outcome State Fault Refusal :=
  match i with
  | .vddAonApply => Sys2Proof.Machine.execVddAonApply s
  | .resetEntry por => Sys2Proof.Machine.execResetEntry por s
  | .resetExit por => Sys2Proof.Machine.execResetExit por s
  | .registerWrite r addr v => Sys2Proof.Machine.execRegisterWrite r addr v s
  | .rcRegisterRead r addr => Sys2Proof.Machine.execRcRegisterRead r addr s
  | .lowWordRead r addr => Sys2Proof.Machine.execLowWordRead r addr s
  | .lowWordWrite r addr v => Sys2Proof.Machine.execLowWordWrite r addr v s
  | .highWordWrite r addr v => Sys2Proof.Machine.execHighWordWrite r addr v s
  | .atomic64bitAccess r addr v => Sys2Proof.Machine.execAtomic64bitAccess r addr v s
  | .sysAccerrClear r v => Sys2Proof.Machine.execSysAccerrClear r v s
  | .dieLinkLost die => Sys2Proof.Machine.execDieLinkLost die s
  | .trainingStart r p v => Sys2Proof.Machine.execTrainingStart r p v s
  | .portPowerDown r p v => Sys2Proof.Machine.execPortPowerDown r p v s
  | .rateChange r p rate => Sys2Proof.Machine.execRateChange r p rate s
  | .signalDetect p k => Sys2Proof.Machine.execSignalDetect p k s
  | .clockRecovered p k => Sys2Proof.Machine.execClockRecovered p k s
  | .laneAligned p k h => Sys2Proof.Machine.execLaneAligned p k h s
  | .tapRequest p k word => Sys2Proof.Machine.execTapRequest p k word s
  | .receiverConverged p k => Sys2Proof.Machine.execReceiverConverged p k s
  | .moveRequest p k word => Sys2Proof.Machine.execMoveRequest p k word s
  | .deskewDone p => Sys2Proof.Machine.execDeskewDone p s
  | .trainingTimeout p k => Sys2Proof.Machine.execTrainingTimeout p k s
  | .attemptTimeout p => Sys2Proof.Machine.execAttemptTimeout p s
  | .alignLost p k uncorr missing => Sys2Proof.Machine.execAlignLost p k uncorr missing s
  | .realignWaitExpiry p k => Sys2Proof.Machine.execRealignWaitExpiry p k s
  | .deskewRestored p => Sys2Proof.Machine.execDeskewRestored p s
  | .reliefReq p b k => Sys2Proof.Machine.execReliefReq p b k s
  | .reliefCompareDone p k hdr mismatch => Sys2Proof.Machine.execReliefCompareDone p k hdr mismatch s
  | .reliefSwitched p b k => Sys2Proof.Machine.execReliefSwitched p b k s
  | .reliefRefuse p b k => Sys2Proof.Machine.execReliefRefuse p b k s
  | .retrainReq p b k => Sys2Proof.Machine.execRetrainReq p b k s
  | .relieveRx r p k => Sys2Proof.Machine.execRelieveRx r p k s
  | .relieveTx r p k => Sys2Proof.Machine.execRelieveTx r p k s
  | .restore r p k => Sys2Proof.Machine.execRestore r p k s
  | .beaconOn r p => Sys2Proof.Machine.execBeaconOn r p s
  | .beaconOff r p => Sys2Proof.Machine.execBeaconOff r p s
  | .beaconBurst p => Sys2Proof.Machine.execBeaconBurst p s
  | .marginWindowEnd p k corrected uncorr => Sys2Proof.Machine.execMarginWindowEnd p k corrected uncorr s
  | .escanStart r p v => Sys2Proof.Machine.execEscanStart r p v s
  | .autoEscanPeriod p => Sys2Proof.Machine.execAutoEscanPeriod p s
  | .escanDone p pts => Sys2Proof.Machine.execEscanDone p pts s
  | .wakeActivity p => Sys2Proof.Machine.execWakeActivity p s
  | .ack p h aseq cred => Sys2Proof.Machine.execAck p h aseq cred s
  | .nak p h aseq => Sys2Proof.Machine.execNak p h aseq s
  | .bkReplayTimeout p => Sys2Proof.Machine.execBkReplayTimeout p s
  | .negOffer p h pay => Sys2Proof.Machine.execNegOffer p h pay s
  | .negAccept p h pay => Sys2Proof.Machine.execNegAccept p h pay s
  | .negReject p h reason => Sys2Proof.Machine.execNegReject p h reason s
  | .negOfferRepeat p => Sys2Proof.Machine.execNegOfferRepeat p s
  | .negTimeout p => Sys2Proof.Machine.execNegTimeout p s
  | .reneg r p v => Sys2Proof.Machine.execReneg r p v s
  | .regWr p h sec tag addr v => Sys2Proof.Machine.execRegWr p h sec tag addr v s
  | .regRd p h sec tag addr => Sys2Proof.Machine.execRegRd p h sec tag addr s
  | .memWr p h sec tag ch addr data => Sys2Proof.Machine.execMemWr p h sec tag ch addr data s
  | .memRd p h sec tag flush nblk addr => Sys2Proof.Machine.execMemRd p h sec tag flush nblk addr s
  | .rdCpl p h sec tag status last offs data => Sys2Proof.Machine.execRdCpl p h sec tag status last offs data s
  | .cplTimeout p tag => Sys2Proof.Machine.execCplTimeout p tag s
  | .msg p h sec chan tag words => Sys2Proof.Machine.execMsg p h sec chan tag words s
  | .hello p h sec tag nonce cert => Sys2Proof.Machine.execHello p h sec tag nonce cert s
  | .encap p h sec tag ct sig => Sys2Proof.Machine.execEncap p h sec tag ct sig s
  | .close p h sec tag => Sys2Proof.Machine.execClose p h sec tag s
  | .handshakeTimeout p => Sys2Proof.Machine.execHandshakeTimeout p s
  | .switch r v => Sys2Proof.Machine.execSwitch r v s
  | .failoverStallTimeout p => Sys2Proof.Machine.execFailoverStallTimeout p s
  | .failover c => Sys2Proof.Machine.execFailover c s
  | .dhModeApply c => Sys2Proof.Machine.execDhModeApply c s
  | .cplane p h descs => Sys2Proof.Machine.execCplane p h descs s
  | .layerDl p h car sym slot secid poff pcnt cw ant stream data => Sys2Proof.Machine.execLayerDl p h car sym slot secid poff pcnt cw ant stream data s
  | .sectionLock c dir slot secid => Sys2Proof.Machine.execSectionLock c dir slot secid s
  | .orphanDiscard c => Sys2Proof.Machine.execOrphanDiscard c s
  | .symbolRead c => Sys2Proof.Machine.execSymbolRead c s
  | .ulSymbol c inp => Sys2Proof.Machine.execUlSymbol c inp s
  | .ulPacketSend p => Sys2Proof.Machine.execUlPacketSend p s
  | .ovrBlock path => Sys2Proof.Machine.execOvrBlock path s
  | .sync p h top tseq => Sys2Proof.Machine.execSync p h top tseq s
  | .tdOffsetCommit r x w0 w1 w2 w3 => Sys2Proof.Machine.execTdOffsetCommit r x w0 w1 w2 w3 s
  | .tdStepCommit r x v => Sys2Proof.Machine.execTdStepCommit r x v s
  | .tdIncCommit r x v => Sys2Proof.Machine.execTdIncCommit r x v s
  | .tselSwitch r v => Sys2Proof.Machine.execTselSwitch r v s
  | .slewDone => Sys2Proof.Machine.execSlewDone s
  | .ppsinCapture => Sys2Proof.Machine.execPpsinCapture s
  | .ppsinLost => Sys2Proof.Machine.execPpsinLost s
  | .ppsOutRise => Sys2Proof.Machine.execPpsOutRise s
  | .ppsOutFall => Sys2Proof.Machine.execPpsOutFall s
  | .alignCapture level => Sys2Proof.Machine.execAlignCapture level s
  | .sbNop e => Sys2Proof.Machine.execSbNop e s
  | .sbHalt e => Sys2Proof.Machine.execSbHalt e s
  | .sbAt e => Sys2Proof.Machine.execSbAt e s
  | .sbAfter e => Sys2Proof.Machine.execSbAfter e s
  | .sbSymwait e => Sys2Proof.Machine.execSbSymwait e s
  | .waitRelease e => Sys2Proof.Machine.execWaitRelease e s
  | .sbSet e => Sys2Proof.Machine.execSbSet e s
  | .sbSetw e => Sys2Proof.Machine.execSbSetw e s
  | .sbSwap e => Sys2Proof.Machine.execSbSwap e s
  | .sbCapture e => Sys2Proof.Machine.execSbCapture e s
  | .sbGate e => Sys2Proof.Machine.execSbGate e s
  | .sbFectl e => Sys2Proof.Machine.execSbFectl e s
  | .sbFesend e => Sys2Proof.Machine.execSbFesend e s
  | .stagedEffect e mismatch => Sys2Proof.Machine.execStagedEffect e mismatch s
  | .sbDispatch e mismatch => Sys2Proof.Machine.execSbDispatch e mismatch s
  | .sbDmago e mismatch => Sys2Proof.Machine.execSbDmago e mismatch s
  | .sbPost e mismatch => Sys2Proof.Machine.execSbPost e mismatch s
  | .sbLoop e => Sys2Proof.Machine.execSbLoop e s
  | .sbEndl e => Sys2Proof.Machine.execSbEndl e s
  | .sbBr e => Sys2Proof.Machine.execSbBr e s
  | .sbBrc e => Sys2Proof.Machine.execSbBrc e s
  | .sbCall e => Sys2Proof.Machine.execSbCall e s
  | .sbRet e => Sys2Proof.Machine.execSbRet e s
  | .sbWaitev e => Sys2Proof.Machine.execSbWaitev e s
  | .waitevTimeout e => Sys2Proof.Machine.execWaitevTimeout e s
  | .sbSignal e mismatch => Sys2Proof.Machine.execSbSignal e mismatch s
  | .sbFence e => Sys2Proof.Machine.execSbFence e s
  | .sbAddi e => Sys2Proof.Machine.execSbAddi e s
  | .sbMovi e => Sys2Proof.Machine.execSbMovi e s
  | .engineFault e hard => Sys2Proof.Machine.execEngineFault e hard s
  | .run r e run => Sys2Proof.Machine.execRun r e run s
  | .restart r e run => Sys2Proof.Machine.execRestart r e run s
  | .sbSwapreq r e v => Sys2Proof.Machine.execSbSwapreq r e v s
  | .sbEvset r e v => Sys2Proof.Machine.execSbEvset r e v s
  | .sbEvclr r e v => Sys2Proof.Machine.execSbEvclr r e v s
  | .sbFeSafeWrite r v => Sys2Proof.Machine.execSbFeSafeWrite r v s
  | .sbReliefTarget r target clr => Sys2Proof.Machine.execSbReliefTarget r target clr s
  | .reliefSynced => Sys2Proof.Machine.execReliefSynced s
  | .sbRetire r => Sys2Proof.Machine.execSbRetire r s
  | .fespiFrameEnd p sdi => Sys2Proof.Machine.execFespiFrameEnd p sdi s
  | .bankSwap res idx => Sys2Proof.Machine.execBankSwap res idx s
  | .swapDeferRetry res idx => Sys2Proof.Machine.execSwapDeferRetry res idx s
  | .oldBankRelease res idx => Sys2Proof.Machine.execOldBankRelease res idx s
  | .carrierEnable r c v => Sys2Proof.Machine.execCarrierEnable r c v s
  | .carrierDrained c => Sys2Proof.Machine.execCarrierDrained c s
  | .hostMuteRampEnd path => Sys2Proof.Machine.execHostMuteRampEnd path s
  | .muteSourceClear r path v => Sys2Proof.Machine.execMuteSourceClear r path v s
  | .sliceReliefTarget r u v => Sys2Proof.Machine.execSliceReliefTarget r u v s
  | .sliceSynced u mismatch => Sys2Proof.Machine.execSliceSynced u mismatch s
  | .sliceRetire r u v => Sys2Proof.Machine.execSliceRetire r u v s
  | .sliceFault slice => Sys2Proof.Machine.execSliceFault slice s
  | .sliceTaken u => Sys2Proof.Machine.execSliceTaken u s
  | .prachEnable r j v => Sys2Proof.Machine.execPrachEnable r j v s
  | .prachOccasion j inp => Sys2Proof.Machine.execPrachOccasion j inp s
  | .prachDrained j => Sys2Proof.Machine.execPrachDrained j s
  | .beamCwArm r v => Sys2Proof.Machine.execBeamCwArm r v s
  | .beamCwCancel r v => Sys2Proof.Machine.execBeamCwCancel r v s
  | .beamCwCommit r v => Sys2Proof.Machine.execBeamCwCommit r v s
  | .cwFlip dir h => Sys2Proof.Machine.execCwFlip dir h s
  | .cwMiss dir h => Sys2Proof.Machine.execCwMiss dir h s
  | .beamSwapreq r v => Sys2Proof.Machine.execBeamSwapreq r v s
  | .beamSsClr r v => Sys2Proof.Machine.execBeamSsClr r v s
  | .ssAccumulate => Sys2Proof.Machine.execSsAccumulate s
  | .dpdSwapreq r v => Sys2Proof.Machine.execDpdSwapreq r v s
  | .obsCapReq r path v => Sys2Proof.Machine.execObsCapReq r path v s
  | .captureGrant a => Sys2Proof.Machine.execCaptureGrant a s
  | .captureGrantEnd a => Sys2Proof.Machine.execCaptureGrantEnd a s
  | .obsCapCancel r path v => Sys2Proof.Machine.execObsCapCancel r path v s
  | .captureDone a y ovr => Sys2Proof.Machine.execCaptureDone a y ovr s
  | .vswrWindow path seen => Sys2Proof.Machine.execVswrWindow path seen s
  | .adcRotationStart u => Sys2Proof.Machine.execAdcRotationStart u s
  | .adcRotationSwap u agree => Sys2Proof.Machine.execAdcRotationSwap u agree s
  | .subadcRetire r u v => Sys2Proof.Machine.execSubadcRetire r u v s
  | .dacCellRotation path => Sys2Proof.Machine.execDacCellRotation path s
  | .dacCellRetire r path v => Sys2Proof.Machine.execDacCellRetire r path v s
  | .softAlign r v => Sys2Proof.Machine.execSoftAlign r v s
  | .converterAlignment err => Sys2Proof.Machine.execConverterAlignment err s
  | .lodeWqPush r q v => Sys2Proof.Machine.execLodeWqPush r q v s
  | .itemPull c => Sys2Proof.Machine.execItemPull c s
  | .lodeBundle c ecc => Sys2Proof.Machine.execLodeBundle c ecc s
  | .fstBusError c => Sys2Proof.Machine.execFstBusError c s
  | .wdog c => Sys2Proof.Machine.execWdog c s
  | .itemComplete c => Sys2Proof.Machine.execItemComplete c s
  | .coreFault c => Sys2Proof.Machine.execCoreFault c s
  | .lodeReliefRetire r v => Sys2Proof.Machine.execLodeReliefRetire r v s
  | .coreRelief => Sys2Proof.Machine.execCoreRelief s
  | .sharedBankGrant b arrive leave => Sys2Proof.Machine.execSharedBankGrant b arrive leave s
  | .dmaStart r c v => Sys2Proof.Machine.execDmaStart r c v s
  | .dmaAbort r c => Sys2Proof.Machine.execDmaAbort r c s
  | .dmaTransferEnd c ecc => Sys2Proof.Machine.execDmaTransferEnd c ecc s
  | .dmaRecordWritten c => Sys2Proof.Machine.execDmaRecordWritten c s
  | .dmaCqHeadWrite r q v => Sys2Proof.Machine.execDmaCqHeadWrite r q v s
  | .dmaCqEnable r q v => Sys2Proof.Machine.execDmaCqEnable r q v s
  | .mbxMsgWrite r c k v => Sys2Proof.Machine.execMbxMsgWrite r c k v s
  | .mbxDoorbell r c v => Sys2Proof.Machine.execMbxDoorbell r c v s
  | .mbxAck r c => Sys2Proof.Machine.execMbxAck r c s
  | .mbxFlush r c v => Sys2Proof.Machine.execMbxFlush r c v s
  | .mbxClaimLapsed c => Sys2Proof.Machine.execMbxClaimLapsed c s
  | .tallyAcquire r k => Sys2Proof.Machine.execTallyAcquire r k s
  | .tallyRelease r k v => Sys2Proof.Machine.execTallyRelease r k v s
  | .tallyHoldExpiry k => Sys2Proof.Machine.execTallyHoldExpiry k s
  | .portDownLockRelease p => Sys2Proof.Machine.execPortDownLockRelease p s
  | .assayResult item unit elem meas power val nblk => Sys2Proof.Machine.execAssayResult item unit elem meas power val nblk s
  | .assaySave r v => Sys2Proof.Machine.execAssaySave r v s
  | .assaySaveDone => Sys2Proof.Machine.execAssaySaveDone s
  | .assayRestore r v => Sys2Proof.Machine.execAssayRestore r v s
  | .assayRestoreDone => Sys2Proof.Machine.execAssayRestoreDone s
  | .monEnable r v => Sys2Proof.Machine.execMonEnable r v s
  | .monEntryDone inputs vref dev => Sys2Proof.Machine.execMonEntryDone inputs vref dev s
  | .monUrg r v => Sys2Proof.Machine.execMonUrg r v s
  | .monUrgDone inputs vref dev => Sys2Proof.Machine.execMonUrgDone inputs vref dev s
  | .auxDacWrite r n v => Sys2Proof.Machine.execAuxDacWrite r n v s
  | .auxHoldEnd n => Sys2Proof.Machine.execAuxHoldEnd n s
  | .auxRangeChangeEnd n => Sys2Proof.Machine.execAuxRangeChangeEnd n s
  | .auxClrcodeWrite r n v => Sys2Proof.Machine.execAuxClrcodeWrite r n v s
  | .auxClrNFall => Sys2Proof.Machine.execAuxClrNFall s
  | .auxClrNRise => Sys2Proof.Machine.execAuxClrNRise s
  | .clrall r v => Sys2Proof.Machine.execClrall r v s
  | .auxShort n => Sys2Proof.Machine.execAuxShort n s
  | .auxOpen n => Sys2Proof.Machine.execAuxOpen n s
  | .pwrCmd r v => Sys2Proof.Machine.execPwrCmd r v s
  | .powerStep refclk swapped lost => Sys2Proof.Machine.execPowerStep refclk swapped lost s
  | .wake mask => Sys2Proof.Machine.execWake mask s
  | .pwrClassWrite r v => Sys2Proof.Machine.execPwrClassWrite r v s
  | .canaryUpdate reads => Sys2Proof.Machine.execCanaryUpdate reads s
  | .throtEnforced => Sys2Proof.Machine.execThrotEnforced s
  | .safeClear r v => Sys2Proof.Machine.execSafeClear r v s
  | .faultPin low => Sys2Proof.Machine.execFaultPin low s
  | .supplyCheck => Sys2Proof.Machine.execSupplyCheck s
  | .refclkLost => Sys2Proof.Machine.execRefclkLost s
  | .refclkRelock swapped => Sys2Proof.Machine.execRefclkRelock swapped s
  | .aditFetch dst data => Sys2Proof.Machine.execAditFetch dst data s
  | .aditWaitTimeout => Sys2Proof.Machine.execAditWaitTimeout s
  | .bootDone => Sys2Proof.Machine.execBootDone s
  | .load c dst data => Sys2Proof.Machine.execLoad c dst data s
  | .stage c dst data => Sys2Proof.Machine.execStage c dst data s
  | .fwSwap c => Sys2Proof.Machine.execFwSwap c s
  | .fwSwapped => Sys2Proof.Machine.execFwSwapped s
  | .attest c => Sys2Proof.Machine.execAttest c s
  | .idGet c => Sys2Proof.Machine.execIdGet c s
  | .rootProg c => Sys2Proof.Machine.execRootProg c s
  | .rootRevoke c => Sys2Proof.Machine.execRootRevoke c s
  | .svnCommit c => Sys2Proof.Machine.execSvnCommit c s
  | .lcAdvance c => Sys2Proof.Machine.execLcAdvance c s
  | .idGen c => Sys2Proof.Machine.execIdGen c s
  | .repairCommit c => Sys2Proof.Machine.execRepairCommit c s
  | .otpOperationDone ok => Sys2Proof.Machine.execOtpOperationDone ok s
  | .mspiWrite addr words => Sys2Proof.Machine.execMspiWrite addr words s
  | .mspiRead addr n => Sys2Proof.Machine.execMspiRead addr n s
  | .mspiStatus => Sys2Proof.Machine.execMspiStatus s
  | .bfColumnRelief dir ant car re => Sys2Proof.Machine.execBfColumnRelief dir ant car re s
  | .eccUncorrectable array row addr => Sys2Proof.Machine.execEccUncorrectable array row addr s
  | .scrubPass errs => Sys2Proof.Machine.execScrubPass errs s
  | .sramRowRelief array row => Sys2Proof.Machine.execSramRowRelief array row s
  | .foremanLockstep => Sys2Proof.Machine.execForemanLockstep s
  | .evtIrqAck r v => Sys2Proof.Machine.execEvtIrqAck r v s
  | .feShort pin => Sys2Proof.Machine.execFeShort pin s
  | .pmuCounterWrite r b k v amt => Sys2Proof.Machine.execPmuCounterWrite r b k v amt s
  | .pmuSelWrite r b k v => Sys2Proof.Machine.execPmuSelWrite r b k v s
  | .freeze r v => Sys2Proof.Machine.execFreeze r v s
  | .snap r v => Sys2Proof.Machine.execSnap r v s
  | .pmuOverflowFreeze => Sys2Proof.Machine.execPmuOverflowFreeze s
  | .vddAonLoss => Sys2Proof.Machine.execVddAonLoss s
  | .farEndRxrdy p k word => Sys2Proof.Machine.execFarEndRxrdy p k word s
  | .firmwareReply => Sys2Proof.Machine.execFirmwareReply s

end Sys2Proof.Machine
end

