-- ==== Sys2Proof/Machine/Tick.lean ====
section
/-! DEFINITION. What passes with time (log entry 1): one TCLK period, which is what the block does while no command waits. -/
namespace Sys2Proof.Machine

/-- Cycles of a clock of `num`/`den` cycles per tick that begin in the tick before `t` (R16, R17). -/
def cyclesIn (num den t : Nat) : Nat := t * num / den - (t - 1) * num / den

/-- Counter events that hold for whole cycles (R486): a port in STALLED (LCLK 1 660.156 25 MHz), the blocks a port that is up sends as `IDLE`,
DMA channels in DONE_PENDING (CCLK). -/
def State.statePmu (s : State) : State :=
  let s1 := [0, 1].foldl (fun (t : State) p => if t.lstate p = 3 then t.pmuCount (40 + p) 0x07 (cyclesIn 1328125 786432 t.tick) else t) s
  let s1 := [0, 1].foldl (fun (t : State) p => if t.portUp p then t.pmuCount (40 + p) 0x05 (t.idleBlocks p) else t) s1
  let n := ((List.range 16).filter (fun c => s1.fld (Reg.DMA_STAT c) Fld.DMA_STAT_STATE == 2)).length
  s1.pmuCount 44 0x03 (n * cyclesIn 3 4 s1.tick)

/-- One tick; the events it raises are numbered at its end (R38). -/
def State.idleTick (s : State) : State := s.timeTick.exchTick.capTick.txTick.ulTick.assayTick.retryReads.lodeTick.monTick.statePmu.pmuTick.endCycle

end Sys2Proof.Machine
end

