-- ==== Sys2Proof/WellFormed.lean ====
section
/-! DEFINITION. Which commands are well-formed: a requester ID that R18 lists, packet data in whole 16-byte blocks (R76, R77), lists of the length that their row has. -/
namespace Sys2Proof

/-- The requester IDs of R18 that issue accesses: 6, 7, 13-15, 50-55 and 72-255 are reserved, 0 never issues one. -/
def Req.ok (r : Req) : Bool :=
  decide ((1 ≤ r.id ∧ r.id ≤ 5) ∨ (8 ≤ r.id ∧ r.id ≤ 12) ∨ (16 ≤ r.id ∧ r.id ≤ 49) ∨ (56 ≤ r.id ∧ r.id ≤ 71))

/-- Packet data that fills whole blocks after the header's, `LEN` at most 4 095 (R77, R91). -/
def wholeBlocks (data : List Byte) : Bool := decide (data.length % 16 = 0 ∧ data.length / 16 < 4095)

/-- Indices that a symbol or an occasion has: at most the 9 280 samples of the longest symbol (R147, R181). -/
def RxIn.ok : RxIn → Bool
  | .adc _ => true
  | .res vals _ => vals.all (fun e => decide (e.1 < 9280))

/-- A negotiation payload whose `LANES` fits its byte (R84). -/
def NegPay.ok (p : NegPay) : Bool := decide (p.lanes < 256)

/-- A requester of a shared-memory bank (R303): capture writers 0 to 7; 256 + requester ID for the fabric port, the cores and the DMA channels. -/
def bankRequester (x : Nat) : Bool := decide (x < 8 ∨ (257 ≤ x ∧ x ≤ 260) ∨ (272 ≤ x ∧ x ≤ 305) ∨ (312 ≤ x ∧ x ≤ 327))

/-- An array that a UE event names in 32 bits (R469). -/
def okArray (array : Nat) : Bool := decide (array < 2 ^ 32)

/-- The requester of a command that is an access. -/
def Instr.requester : Instr → Option Req
  | .vddAonApply => none
  | .resetEntry _ => none
  | .resetExit _ => none
  | .registerWrite r _ _ => some r
  | .rcRegisterRead r _ => some r
  | .lowWordRead r _ => some r
  | .lowWordWrite r _ _ => some r
  | .highWordWrite r _ _ => some r
  | .atomic64bitAccess r _ _ => some r
  | .sysAccerrClear r _ => some r
  | .dieLinkLost _ => none
  | .trainingStart r _ _ => some r
  | .portPowerDown r _ _ => some r
  | .rateChange r _ _ => some r
  | .signalDetect _ _ => none
  | .clockRecovered _ _ => none
  | .laneAligned _ _ _ => none
  | .tapRequest _ _ _ => none
  | .receiverConverged _ _ => none
  | .moveRequest _ _ _ => none
  | .deskewDone _ => none
  | .trainingTimeout _ _ => none
  | .attemptTimeout _ => none
  | .alignLost _ _ _ _ => none
  | .realignWaitExpiry _ _ => none
  | .deskewRestored _ => none
  | .reliefReq _ _ _ => none
  | .reliefCompareDone _ _ _ _ => none
  | .reliefSwitched _ _ _ => none
  | .reliefRefuse _ _ _ => none
  | .retrainReq _ _ _ => none
  | .relieveRx r _ _ => some r
  | .relieveTx r _ _ => some r
  | .restore r _ _ => some r
  | .beaconOn r _ => some r
  | .beaconOff r _ => some r
  | .beaconBurst _ => none
  | .marginWindowEnd _ _ _ _ => none
  | .escanStart r _ _ => some r
  | .autoEscanPeriod _ => none
  | .escanDone _ _ => none
  | .wakeActivity _ => none
  | .ack _ _ _ _ => none
  | .nak _ _ _ => none
  | .bkReplayTimeout _ => none
  | .negOffer _ _ _ => none
  | .negAccept _ _ _ => none
  | .negReject _ _ _ => none
  | .negOfferRepeat _ => none
  | .negTimeout _ => none
  | .reneg r _ _ => some r
  | .regWr _ _ _ _ _ _ => none
  | .regRd _ _ _ _ _ => none
  | .memWr _ _ _ _ _ _ _ => none
  | .memRd _ _ _ _ _ _ _ => none
  | .rdCpl _ _ _ _ _ _ _ _ => none
  | .cplTimeout _ _ => none
  | .msg _ _ _ _ _ _ => none
  | .hello _ _ _ _ _ _ => none
  | .encap _ _ _ _ _ _ => none
  | .close _ _ _ _ => none
  | .handshakeTimeout _ => none
  | .switch r _ => some r
  | .failoverStallTimeout _ => none
  | .failover _ => none
  | .dhModeApply _ => none
  | .cplane _ _ _ => none
  | .layerDl _ _ _ _ _ _ _ _ _ _ _ _ => none
  | .sectionLock _ _ _ _ => none
  | .orphanDiscard _ => none
  | .symbolRead _ => none
  | .ulSymbol _ _ => none
  | .ulPacketSend _ => none
  | .ovrBlock _ => none
  | .sync _ _ _ _ => none
  | .tdOffsetCommit r _ _ _ _ _ => some r
  | .tdStepCommit r _ _ => some r
  | .tdIncCommit r _ _ => some r
  | .tselSwitch r _ => some r
  | .slewDone => none
  | .ppsinCapture => none
  | .ppsinLost => none
  | .ppsOutRise => none
  | .ppsOutFall => none
  | .alignCapture _ => none
  | .sbNop _ => none
  | .sbHalt _ => none
  | .sbAt _ => none
  | .sbAfter _ => none
  | .sbSymwait _ => none
  | .waitRelease _ => none
  | .sbSet _ => none
  | .sbSetw _ => none
  | .sbSwap _ => none
  | .sbCapture _ => none
  | .sbGate _ => none
  | .sbFectl _ => none
  | .sbFesend _ => none
  | .stagedEffect _ _ => none
  | .sbDispatch _ _ => none
  | .sbDmago _ _ => none
  | .sbPost _ _ => none
  | .sbLoop _ => none
  | .sbEndl _ => none
  | .sbBr _ => none
  | .sbBrc _ => none
  | .sbCall _ => none
  | .sbRet _ => none
  | .sbWaitev _ => none
  | .waitevTimeout _ => none
  | .sbSignal _ _ => none
  | .sbFence _ => none
  | .sbAddi _ => none
  | .sbMovi _ => none
  | .engineFault _ _ => none
  | .run r _ _ => some r
  | .restart r _ _ => some r
  | .sbSwapreq r _ _ => some r
  | .sbEvset r _ _ => some r
  | .sbEvclr r _ _ => some r
  | .sbFeSafeWrite r _ => some r
  | .sbReliefTarget r _ _ => some r
  | .reliefSynced => none
  | .sbRetire r => some r
  | .fespiFrameEnd _ _ => none
  | .bankSwap _ _ => none
  | .swapDeferRetry _ _ => none
  | .oldBankRelease _ _ => none
  | .carrierEnable r _ _ => some r
  | .carrierDrained _ => none
  | .hostMuteRampEnd _ => none
  | .muteSourceClear r _ _ => some r
  | .sliceReliefTarget r _ _ => some r
  | .sliceSynced _ _ => none
  | .sliceRetire r _ _ => some r
  | .sliceFault _ => none
  | .sliceTaken _ => none
  | .prachEnable r _ _ => some r
  | .prachOccasion _ _ => none
  | .prachDrained _ => none
  | .beamCwArm r _ => some r
  | .beamCwCancel r _ => some r
  | .beamCwCommit r _ => some r
  | .cwFlip _ _ => none
  | .cwMiss _ _ => none
  | .beamSwapreq r _ => some r
  | .beamSsClr r _ => some r
  | .ssAccumulate => none
  | .dpdSwapreq r _ => some r
  | .obsCapReq r _ _ => some r
  | .captureGrant _ => none
  | .captureGrantEnd _ => none
  | .obsCapCancel r _ _ => some r
  | .captureDone _ _ _ => none
  | .vswrWindow _ _ => none
  | .adcRotationStart _ => none
  | .adcRotationSwap _ _ => none
  | .subadcRetire r _ _ => some r
  | .dacCellRotation _ => none
  | .dacCellRetire r _ _ => some r
  | .softAlign r _ => some r
  | .converterAlignment _ => none
  | .lodeWqPush r _ _ => some r
  | .itemPull _ => none
  | .lodeBundle _ _ => none
  | .fstBusError _ => none
  | .wdog _ => none
  | .itemComplete _ => none
  | .coreFault _ => none
  | .lodeReliefRetire r _ => some r
  | .coreRelief => none
  | .sharedBankGrant _ _ _ => none
  | .dmaStart r _ _ => some r
  | .dmaAbort r _ => some r
  | .dmaTransferEnd _ _ => none
  | .dmaRecordWritten _ => none
  | .dmaCqHeadWrite r _ _ => some r
  | .dmaCqEnable r _ _ => some r
  | .mbxMsgWrite r _ _ _ => some r
  | .mbxDoorbell r _ _ => some r
  | .mbxAck r _ => some r
  | .mbxFlush r _ _ => some r
  | .mbxClaimLapsed _ => none
  | .tallyAcquire r _ => some r
  | .tallyRelease r _ _ => some r
  | .tallyHoldExpiry _ => none
  | .portDownLockRelease _ => none
  | .assayResult _ _ _ _ _ _ _ => none
  | .assaySave r _ => some r
  | .assaySaveDone => none
  | .assayRestore r _ => some r
  | .assayRestoreDone => none
  | .monEnable r _ => some r
  | .monEntryDone _ _ _ => none
  | .monUrg r _ => some r
  | .monUrgDone _ _ _ => none
  | .auxDacWrite r _ _ => some r
  | .auxHoldEnd _ => none
  | .auxRangeChangeEnd _ => none
  | .auxClrcodeWrite r _ _ => some r
  | .auxClrNFall => none
  | .auxClrNRise => none
  | .clrall r _ => some r
  | .auxShort _ => none
  | .auxOpen _ => none
  | .pwrCmd r _ => some r
  | .powerStep _ _ _ => none
  | .wake _ => none
  | .pwrClassWrite r _ => some r
  | .canaryUpdate _ => none
  | .throtEnforced => none
  | .safeClear r _ => some r
  | .faultPin _ => none
  | .supplyCheck => none
  | .refclkLost => none
  | .refclkRelock _ => none
  | .aditFetch _ _ => none
  | .aditWaitTimeout => none
  | .bootDone => none
  | .load _ _ _ => none
  | .stage _ _ _ => none
  | .fwSwap _ => none
  | .fwSwapped => none
  | .attest _ => none
  | .idGet _ => none
  | .rootProg _ => none
  | .rootRevoke _ => none
  | .svnCommit _ => none
  | .lcAdvance _ => none
  | .idGen _ => none
  | .repairCommit _ => none
  | .otpOperationDone _ => none
  | .mspiWrite _ _ => none
  | .mspiRead _ _ => none
  | .mspiStatus => none
  | .bfColumnRelief _ _ _ _ => none
  | .eccUncorrectable _ _ _ => none
  | .scrubPass _ => none
  | .sramRowRelief _ _ => none
  | .foremanLockstep => none
  | .evtIrqAck r _ => some r
  | .feShort _ => none
  | .pmuCounterWrite r _ _ _ _ => some r
  | .pmuSelWrite r _ _ _ => some r
  | .freeze r _ => some r
  | .snap r _ => some r
  | .pmuOverflowFreeze => none
  | .vddAonLoss => none
  | .farEndRxrdy _ _ _ => none
  | .firmwareReply => none

/-- Whether a command is well-formed. -/
def Instr.wf : Instr → Bool
  | .vddAonApply => true
  | .resetEntry _ => true
  | .resetExit _ => true
  | .registerWrite r _ _ => r.ok
  | .rcRegisterRead r _ => r.ok
  | .lowWordRead r _ => r.ok
  | .lowWordWrite r _ _ => r.ok
  | .highWordWrite r _ _ => r.ok
  | .atomic64bitAccess r _ _ => r.ok
  | .sysAccerrClear r _ => r.ok
  | .dieLinkLost _ => true
  | .trainingStart r _ _ => r.ok
  | .portPowerDown r _ _ => r.ok
  | .rateChange r _ _ => r.ok
  | .signalDetect _ _ => true
  | .clockRecovered _ _ => true
  | .laneAligned _ _ h => decide (h.good ≤ 255)
  | .tapRequest _ _ _ => true
  | .receiverConverged _ _ => true
  | .moveRequest _ _ _ => true
  | .deskewDone _ => true
  | .trainingTimeout _ _ => true
  | .attemptTimeout _ => true
  | .alignLost _ _ _ _ => true
  | .realignWaitExpiry _ _ => true
  | .deskewRestored _ => true
  | .reliefReq _ _ _ => true
  | .reliefCompareDone _ _ _ _ => true
  | .reliefSwitched _ _ _ => true
  | .reliefRefuse _ _ _ => true
  | .retrainReq _ _ _ => true
  | .relieveRx r _ _ => r.ok
  | .relieveTx r _ _ => r.ok
  | .restore r _ _ => r.ok
  | .beaconOn r _ => r.ok
  | .beaconOff r _ => r.ok
  | .beaconBurst _ => true
  | .marginWindowEnd _ _ _ _ => true
  | .escanStart r _ _ => r.ok
  | .autoEscanPeriod _ => true
  | .escanDone _ pts => pts.length == 108
  | .wakeActivity _ => true
  | .ack _ _ _ _ => true
  | .nak _ _ _ => true
  | .bkReplayTimeout _ => true
  | .negOffer _ _ pay => pay.ok
  | .negAccept _ _ pay => pay.ok
  | .negReject _ _ _ => true
  | .negOfferRepeat _ => true
  | .negTimeout _ => true
  | .reneg r _ _ => r.ok
  | .regWr _ _ _ _ _ _ => true
  | .regRd _ _ _ _ _ => true
  | .memWr _ _ _ _ _ _ data => wholeBlocks data
  | .memRd _ _ _ _ _ _ _ => true
  | .rdCpl _ _ _ _ _ _ _ data => wholeBlocks data
  | .cplTimeout _ _ => true
  | .msg _ _ _ _ _ words => words.length == 16
  | .hello _ _ _ _ _ _ => true
  | .encap _ _ _ _ _ _ => true
  | .close _ _ _ _ => true
  | .handshakeTimeout _ => true
  | .switch r _ => r.ok
  | .failoverStallTimeout _ => true
  | .failover _ => true
  | .dhModeApply _ => true
  | .cplane _ _ descs => decide (1 ≤ descs.length ∧ descs.length < 4095)
  | .layerDl _ _ _ _ _ _ _ _ _ _ _ data => wholeBlocks data
  | .sectionLock _ _ _ _ => true
  | .orphanDiscard _ => true
  | .symbolRead _ => true
  | .ulSymbol _ inp => inp.ok
  | .ulPacketSend _ => true
  | .ovrBlock _ => true
  | .sync _ _ _ _ => true
  | .tdOffsetCommit r _ _ _ _ _ => r.ok
  | .tdStepCommit r _ _ => r.ok
  | .tdIncCommit r _ _ => r.ok
  | .tselSwitch r _ => r.ok
  | .slewDone => true
  | .ppsinCapture => true
  | .ppsinLost => true
  | .ppsOutRise => true
  | .ppsOutFall => true
  | .alignCapture _ => true
  | .sbNop _ => true
  | .sbHalt _ => true
  | .sbAt _ => true
  | .sbAfter _ => true
  | .sbSymwait _ => true
  | .waitRelease _ => true
  | .sbSet _ => true
  | .sbSetw _ => true
  | .sbSwap _ => true
  | .sbCapture _ => true
  | .sbGate _ => true
  | .sbFectl _ => true
  | .sbFesend _ => true
  | .stagedEffect _ _ => true
  | .sbDispatch _ _ => true
  | .sbDmago _ _ => true
  | .sbPost _ _ => true
  | .sbLoop _ => true
  | .sbEndl _ => true
  | .sbBr _ => true
  | .sbBrc _ => true
  | .sbCall _ => true
  | .sbRet _ => true
  | .sbWaitev _ => true
  | .waitevTimeout _ => true
  | .sbSignal _ _ => true
  | .sbFence _ => true
  | .sbAddi _ => true
  | .sbMovi _ => true
  | .engineFault _ _ => true
  | .run r _ _ => r.ok
  | .restart r _ _ => r.ok
  | .sbSwapreq r _ _ => r.ok
  | .sbEvset r _ _ => r.ok
  | .sbEvclr r _ _ => r.ok
  | .sbFeSafeWrite r _ => r.ok
  | .sbReliefTarget r _ _ => r.ok
  | .reliefSynced => true
  | .sbRetire r => r.ok
  | .fespiFrameEnd _ _ => true
  | .bankSwap _ _ => true
  | .swapDeferRetry _ _ => true
  | .oldBankRelease _ _ => true
  | .carrierEnable r _ _ => r.ok
  | .carrierDrained _ => true
  | .hostMuteRampEnd _ => true
  | .muteSourceClear r _ _ => r.ok
  | .sliceReliefTarget r _ _ => r.ok
  | .sliceSynced _ _ => true
  | .sliceRetire r _ _ => r.ok
  | .sliceFault _ => true
  | .sliceTaken _ => true
  | .prachEnable r _ _ => r.ok
  | .prachOccasion _ inp => inp.ok
  | .prachDrained _ => true
  | .beamCwArm r _ => r.ok
  | .beamCwCancel r _ => r.ok
  | .beamCwCommit r _ => r.ok
  | .cwFlip _ _ => true
  | .cwMiss _ _ => true
  | .beamSwapreq r _ => r.ok
  | .beamSsClr r _ => r.ok
  | .ssAccumulate => true
  | .dpdSwapreq r _ => r.ok
  | .obsCapReq r _ _ => r.ok
  | .captureGrant _ => true
  | .captureGrantEnd _ => true
  | .obsCapCancel r _ _ => r.ok
  | .captureDone _ _ _ => true
  | .vswrWindow _ _ => true
  | .adcRotationStart _ => true
  | .adcRotationSwap _ _ => true
  | .subadcRetire r _ _ => r.ok
  | .dacCellRotation _ => true
  | .dacCellRetire r _ _ => r.ok
  | .softAlign r _ => r.ok
  | .converterAlignment err => decide (-72 ≤ err.toInt ∧ err.toInt ≤ 71)
  | .lodeWqPush r _ _ => r.ok
  | .itemPull _ => true
  | .lodeBundle _ _ => true
  | .fstBusError _ => true
  | .wdog _ => true
  | .itemComplete _ => true
  | .coreFault _ => true
  | .lodeReliefRetire r _ => r.ok
  | .coreRelief => true
  | .sharedBankGrant _ arrive leave => (arrive ++ leave).all bankRequester
  | .dmaStart r _ _ => r.ok
  | .dmaAbort r _ => r.ok
  | .dmaTransferEnd _ _ => true
  | .dmaRecordWritten _ => true
  | .dmaCqHeadWrite r _ _ => r.ok
  | .dmaCqEnable r _ _ => r.ok
  | .mbxMsgWrite r _ _ _ => r.ok
  | .mbxDoorbell r _ _ => r.ok
  | .mbxAck r _ => r.ok
  | .mbxFlush r _ _ => r.ok
  | .mbxClaimLapsed _ => true
  | .tallyAcquire r _ => r.ok
  | .tallyRelease r _ _ => r.ok
  | .tallyHoldExpiry _ => true
  | .portDownLockRelease _ => true
  | .assayResult _ _ _ _ _ _ _ => true
  | .assaySave r _ => r.ok
  | .assaySaveDone => true
  | .assayRestore r _ => r.ok
  | .assayRestoreDone => true
  | .monEnable r _ => r.ok
  | .monEntryDone _ _ _ => true
  | .monUrg r _ => r.ok
  | .monUrgDone _ _ _ => true
  | .auxDacWrite r _ _ => r.ok
  | .auxHoldEnd _ => true
  | .auxRangeChangeEnd _ => true
  | .auxClrcodeWrite r _ _ => r.ok
  | .auxClrNFall => true
  | .auxClrNRise => true
  | .clrall r _ => r.ok
  | .auxShort _ => true
  | .auxOpen _ => true
  | .pwrCmd r _ => r.ok
  | .powerStep _ _ _ => true
  | .wake _ => true
  | .pwrClassWrite r _ => r.ok
  | .canaryUpdate reads => reads.length == 40
  | .throtEnforced => true
  | .safeClear r _ => r.ok
  | .faultPin _ => true
  | .supplyCheck => true
  | .refclkLost => true
  | .refclkRelock _ => true
  | .aditFetch _ _ => true
  | .aditWaitTimeout => true
  | .bootDone => true
  | .load _ _ _ => true
  | .stage _ _ _ => true
  | .fwSwap _ => true
  | .fwSwapped => true
  | .attest _ => true
  | .idGet _ => true
  | .rootProg _ => true
  | .rootRevoke _ => true
  | .svnCommit _ => true
  | .lcAdvance _ => true
  | .idGen _ => true
  | .repairCommit _ => true
  | .otpOperationDone _ => true
  | .mspiWrite _ words => decide (1 ≤ words.length ∧ words.length ≤ 64)
  | .mspiRead _ _ => true
  | .mspiStatus => true
  | .bfColumnRelief _ _ _ re => decide (re < 12 * 275)
  | .eccUncorrectable array _ _ => okArray array
  | .scrubPass errs => errs.all (fun e => okArray e.1)
  | .sramRowRelief array _ => okArray array
  | .foremanLockstep => true
  | .evtIrqAck r _ => r.ok
  | .feShort _ => true
  | .pmuCounterWrite r _ _ _ _ => r.ok
  | .pmuSelWrite r _ _ _ => r.ok
  | .freeze r _ => r.ok
  | .snap r _ => r.ok
  | .pmuOverflowFreeze => true
  | .vddAonLoss => true
  | .farEndRxrdy _ _ _ => true
  | .firmwareReply => true

end Sys2Proof
end

