-- ==== Sys2Proof/Safety.lean ====
section
/-! DEFINITION. The terms that statements use: which accesses the bus carries out, what a safe run is, what holds in every state that a run reaches. -/
namespace Sys2Proof.Machine

/-- The bus carries out an access: none of the causes of R26 refuses it. -/
def State.grants (s : State) (r : Req) (a : Nat) : Prop := s.causes r a = 0

/-- The state that an access finds after the requester's held low words are dropped (R31). -/
abbrev State.entering (s : State) (r : Req) : State := s.dropHeld r

/-- A packet whose header the receiver sees: its lanes are not stalled (R60), its superframe is not a discarded one (R79); the receiver then forgets a
discarded superframe. -/
def State.sees (s : State) (p : Nat) (h : RxHdr) : Prop := s.pst p ≠ 3 ∧ (s.link p).discardSf ≠ some h.sf ∧ h.mark = .ok
def State.heard (s : State) (p : Nat) : State := s.setLink p { s.link p with discardSf := none }

/-- A BK packet that the receiver accepts: undamaged, and its `SEQ` is one past the last accepted one (R81). -/
def State.inOrder (s : State) (p : Nat) (h : RxHdr) : Prop := s.sees p h ∧ h.seq.toNat = ((s.link p).rxSeq + 1) % 256

/-- The state after an accepted BK packet of `len` units, before its own effect: `SEQ` taken, counted, acknowledged with the credits of a request (R81, R82). -/
def State.tookBk (s : State) (p : Nat) (h : RxHdr) (len : Nat) (request : Bool) : State :=
  let t := s.heard p
  (((t.setLink p { t.link p with rxSeq := h.seq.toNat, nakSent := false }).count64 (Reg.LINK_BK_RX_CNT p)).pmuCount (40 + p) 0x04 len).sendLink p 1
    (h.seq.toNat * 2 ^ 24 + (if request then len else 0))

/-- The state after an RT packet of a type without a gap before it, before its own effect: `SEQ` kept, counted (R80). -/
def State.tookRt (s : State) (p : Nat) (h : RxHdr) (type : Nat) : State :=
  let t := s.heard p
  (t.setLink p { t.link p with rtRx := kvSet (fun _ => none) (t.link p).rtRx type (some h.seq.toNat) }).count64 (Reg.LINK_RT_RX_CNT p)

/-- An RT packet that the receiver takes: the port is OPERATIONAL, the packet is the first of its type or follows the last one, and a needed feature is
negotiated (R80, R88). -/
def State.takesRt (s : State) (p : Nat) (h : RxHdr) (type need : Nat) : Prop :=
  s.lstate p = 2 ∧ s.sees p h ∧
    (match kvGet (fun _ => none) (s.link p).rtRx type with
      | some q => h.seq.toNat = (q + 1) % 256
      | none => True) ∧
    (need = 0 ∨ Nat.land (s.fld (Reg.LINK_NEG_RES p) Fld.LINK_NEG_RES_FEAT) need ≠ 0)

/-- An engine issues the legal instruction word `w` of opcode `op` at cycle `i`: it runs with FCLK, its program counter names the word (R156, R159). -/
def State.issues (s : State) (e op w i : Nat) : Prop :=
  s.sbIssues e = true ∧ s.sbWord e = some w ∧ sbOp w = op ∧ sbLegal w = true ∧ i = s.sbCycle e

/-- The state in which an issued instruction has its effect: the program counter moved on, the issue cycle kept and counted. -/
def State.issued (s : State) (e i : Nat) : State :=
  ((s.setPc e (s.sbPc e + 1)).setEng e { s.eng e with cyc := i }).pmuCount (35 + e) 1

/-- The agent of a channel serves the message `q` of opcode `op` in it, with words `ws`, from the state `t` that reading it leaves (R445, R446). -/
def State.serves (s : State) (c op : Nat) (q : SvcReq) (ws : List Nat) (t : State) : Prop :=
  s.svcReady c op = true ∧ ws = s.mbxWords c ∧ bitsAt (ws.getD 0 0) 24 8 = op ∧ q = ⟨op, c, bitsAt (ws.getD 0 0) 8 5, bitsAt (ws.getD 0 0) 0 8⟩ ∧
    (mbxMsgRead c 15 (if 28 ≤ c then 5 else 4) s).2.2 = t ∧ ¬(24 ≤ c ∧ q.reply < 24) ∧ svcChannel op c = true

/-- The enclave begins an OTP operation for a request (R454). -/
def State.startOtp (s : State) (q : SvcReq) (o : OtpOp) : State :=
  (s.setSec (fun (x : SecSt) => { x with otpOp := some (o, q) })).setFld Reg.SEC_OTP_STAT Fld.SEC_OTP_STAT_BUSY 1

/-- Source or destination of a request: space and address (R446). -/
def reqSpace (ws : List Nat) : Nat := bitsAt (ws.getD 1 0) 0 2
def reqAddr (ws : List Nat) : Nat := ws.getD 2 0 + 2 ^ 32 * ws.getD 3 0

/-- A step goes on: it neither faults nor refuses. -/
def State.goesOn (s : State) : Prop := ∃ t, step s = .next t

/-- The tables of registers and of memory have their canonical form: keys strictly rising, nothing listed that an unlisted key reads as. -/
def State.canonical (s : State) : Bool := kvWf resetWord s.regs && Memory.wf s.mem

/-- The register words that logging changes whatever is logged: the event log's own (R481) and the PMU's (R484). -/
def logWord (a : Nat) : Bool :=
  a == Reg.EVT_NEXT || a == Reg.EVT_OLDEST || a == Reg.EVT_STAT || decide (Reg.PMU_CTL / 0x10000 = a / 0x10000)

/-- A run of `n` steps from a state, where every step goes on. -/
def runs : Nat → State → State → Prop
  | 0, s, t => s = t
  | n + 1, s, t => ∃ u, step s = .next u ∧ runs n u t

end Sys2Proof.Machine
end

