-- ==== Sys2Proof/Certificates/Slice0/Obligations.lean ====
section
/-! DEFINITION. The statements for the provers. -/
section
open Sys2Proof Sys2Proof.Machine

/-- Each mailbox access completes with its whole effect where the channel allows it. R370, R371, R372, R373. -/
def Obligations.MailboxCommandsTakeEffect : Prop :=
  (∀ (s : State) (r : Req) (c : Fin 32) (k : Fin 16) (v : Word),
    s.grants r (Reg.MBX_MSG c k) → s.mbxFull c = false → s.mbxTaken c r.id = false →
    exec (.mbxMsgWrite r c k v) s = .next (State.endCycle ((((s.entering r).mbxClaim c r.id).wr (Reg.MBX_MSG c k) v).answer r 0 0))) ∧
  (∀ (s : State) (r : Req) (c : Fin 32) (v : Word),
    s.grants r (Reg.MBX_DOORBELL c) → getF v Fld.MBX_DOORBELL_RING = 1 → s.mbxRefuses c r.id = false →
    exec (.mbxDoorbell r c v) s = .next (State.endCycle (((s.entering r).mbxPost c r.id).answer r 0 0))) ∧
  (∀ (s : State) (r : Req) (c : Fin 32),
    s.grants r (Reg.MBX_MSG c 15) → s.mbxFull c = true → s.mbxIsRx c r.id = true →
    exec (.mbxAck r c) s =
      .next (State.endCycle ((let t := (s.setFld (Reg.MBX_STAT c) Fld.MBX_STAT_FULL 0).evSource (0x40 + c)
        if s.bit (Reg.MBX_CFG c) Fld.MBX_CFG_ACKEV then t.raise 0x8005 c else t).answer r 0 (s.rd (Reg.MBX_MSG c 15)).toNat))) ∧
  (∀ (s : State) (r : Req) (c : Fin 32) (v : Word),
    s.grants r (Reg.MBX_FLUSH c) → getF v Fld.MBX_FLUSH_FLUSH = 1 → s.mbxIsRx c r.id = true →
    exec (.mbxFlush r c v) s =
      .next (State.endCycle (((List.range 16).foldl (fun (t : State) k => t.wr (Reg.MBX_MSG c k) 0)
        ((if s.mbxClaimed c then (s.entering r).mbxLapse c else s.entering r).setFld (Reg.MBX_STAT c) Fld.MBX_STAT_FULL 0)).answer r 0 0))) ∧
  (∀ (s : State) (c : Fin 32),
    s.mbxClaimed c = true →
    (kvGet (fun _ => ({} : LockSt)) s.claims c).at_ + usTicks (Nat.max 1 (s.fld Reg.MBX_CLAIM_TMO Fld.MBX_CLAIM_TMO_US)) ≤ s.tick →
    exec (.mbxClaimLapsed c) s = .next (State.endCycle (s.mbxLapse c)))

/-- A free tally lock goes to its reader, its owner frees it, an expired hold or a lost port breaks it. R375, R376, R377, R378, R379. -/
def Obligations.TallyLocksGoToReadersAndBack : Prop :=
  (∀ (s : State) (r : Req) (k : Fin 64),
    s.grants r (Reg.TALLY_LOCK k) → (s.expireLock k).lockOwner k = 0 → canOwn r.id = true →
    exec (.tallyAcquire r k) s =
      .next (State.endCycle (let e := s.expireLock k
        { e.wr (Reg.TALLY_STAT k) (setF (setF (e.rd (Reg.TALLY_STAT k)) Fld.TALLY_STAT_HELD 1) Fld.TALLY_STAT_OWNER r.id) with
          locks := kvSet (fun _ => {}) e.locks k ⟨e.tick, e.holdUs k⟩ }.answer r 0 0))) ∧
  (∀ (s : State) (r : Req) (k : Fin 64),
    s.grants r (Reg.TALLY_LOCK k) → (s.expireLock k).lockOwner k ≠ 0 →
    exec (.tallyAcquire r k) s = .next (State.endCycle ((s.expireLock k).answer r 0 ((s.expireLock k).lockOwner k)))) ∧
  (∀ (s : State) (r : Req) (k : Fin 64) (v : Word),
    s.grants r (Reg.TALLY_LOCK k) → ((s.entering r).expireLock k).lockOwner k = r.id → r.id ≠ 0 → getF v Fld.TALLY_LOCK_OWNER = r.id →
    exec (.tallyRelease r k v) s = .next (State.endCycle ((((s.entering r).expireLock k).freeLock k).answer r 0 0))) ∧
  (∀ (s : State) (r : Req) (k : Fin 64) (v : Word),
    s.grants r (Reg.TALLY_LOCK k) → ¬(((s.entering r).expireLock k).lockOwner k = r.id ∧ r.id ≠ 0 ∧ getF v Fld.TALLY_LOCK_OWNER = r.id) →
    exec (.tallyRelease r k v) s = .next (State.endCycle (((s.entering r).expireLock k).answer r 6 0))) ∧
  (∀ (s : State) (k : Fin 64),
    s.lockOwner k ≠ 0 →
    (kvGet (fun _ => ({} : LockSt)) s.locks k).at_ + usTicks (kvGet (fun _ => ({} : LockSt)) s.locks k).limit ≤ s.tick →
    exec (.tallyHoldExpiry k) s = .next (State.endCycle (s.breakLock k 1))) ∧
  (∀ (s : State) (p : Fin 2) (t : Nat),
    (s.link p).downAt = some t → (s.link p).locksFreed = false → s.linkUp p = false →
    t + msTicks (Nat.max 1 (s.fld (Reg.LINK_DOWN_TMO p) Fld.LINK_DOWN_TMO_MS)) ≤ s.tick →
    exec (.portDownLockRelease p) s = .next (State.endCycle ((s.setLink p { s.link p with locksFreed := true }).ownerLost (p + 1) 3)))

/-- DMA starts, aborts, ends, records and queue writes complete with their whole effect. R354, R358, R359, R360, R364, R366, R367, R95. -/
def Obligations.DmaCommandsTakeEffect : Prop :=
  (∀ (s : State) (r : Req) (c : Fin 16) (v : Word),
    s.grants r (Reg.DMA_GO c) → ¬(c.val = 15 ∧ s.sec.ch15 = true) → getF v Fld.DMA_GO_ABORT = 0 → (s.ch c).phase = .idle →
    exec (.dmaStart r c v) s = .next (State.endCycle (((s.entering r).dmaBegin c (s.secureReq r)).answer r 0 0))) ∧
  (∀ (s : State) (r : Req) (c : Fin 16) (v : Word),
    s.grants r (Reg.DMA_GO c) → ¬(c.val = 15 ∧ s.sec.ch15 = true) → getF v Fld.DMA_GO_ABORT = 0 → (s.ch c).phase ≠ .idle →
    s.bit (Reg.DMA_STAT c) Fld.DMA_STAT_SHADOW_VALID = false →
    exec (.dmaStart r c v) s =
      .next (State.endCycle ((((s.entering r).setFld (Reg.DMA_STAT c) Fld.DMA_STAT_SHADOW_VALID 1).setCh c { s.ch c with nextSec := s.secureReq r }).answer r 0 0))) ∧
  (∀ (s : State) (r : Req) (c : Fin 16),
    s.grants r (Reg.DMA_GO c) → ¬(c.val = 15 ∧ s.sec.ch15 = true) →
    exec (.dmaAbort r c) s = .next (State.endCycle (((s.entering r).dmaAbort c).answer r 0 0))) ∧
  (∀ (s t : State) (c : Fin 16) (done : Nat),
    (s.ch c).phase = .move → (s.ch c).sspace = 0 → (s.ch c).len / 64 ≤ s.dmaCould (s.ch c) →
    s.dmaMove c ((s.ch c).len / 64) = (t, done, none) →
    exec (.dmaTransferEnd c none) s = .next (State.endCycle (t.dmaFinish c 0 done 0 0 0))) ∧
  (∀ (s t : State) (c : Fin 16) (done code a : Nat),
    (s.ch c).phase = .move → (s.ch c).sspace = 0 → (s.ch c).len / 64 ≤ s.dmaCould (s.ch c) →
    s.dmaMove c ((s.ch c).len / 64) = (t, done, some (code, a)) →
    exec (.dmaTransferEnd c none) s = .next (State.endCycle (t.dmaFinish c 3 done a 1 code))) ∧
  (∀ (s : State) (c : Fin 16) (x : CqRec),
    (s.ch c).phase = .written → (s.ch c).rec_ = some x → x.status = 0 → (s.ch c).notify = false →
    exec (.dmaRecordWritten c) s =
      .next (State.endCycle (let t := ((s.evSource (0x10 + c)).setCh c { s.ch c with phase := .idle, rec_ := none }).setFld (Reg.DMA_STAT c) Fld.DMA_STAT_STATE 0
        if t.bit (Reg.DMA_STAT c) Fld.DMA_STAT_SHADOW_VALID then
          (t.setFld (Reg.DMA_STAT c) Fld.DMA_STAT_SHADOW_VALID 0).dmaBegin c (s.ch c).nextSec else t))) ∧
  (∀ (s : State) (r : Req) (q : Fin 4) (v : Word),
    s.grants r (Reg.DMA_CQ_HEAD q) → (s.cqTail q + 65536 - getF v Fld.DMA_CQ_HEAD_IDX) % 65536 ≤ s.cqSize q →
    exec (.dmaCqHeadWrite r q v) s =
      .next (State.endCycle ((((s.entering r).setFld (Reg.DMA_CQ_HEAD q) Fld.DMA_CQ_HEAD_IDX (getF v Fld.DMA_CQ_HEAD_IDX)).drainQueue q 16).answer r 0 0))) ∧
  (∀ (s : State) (r : Req) (q : Fin 4) (v : Word),
    s.grants r (Reg.DMA_CQ_HEAD q) → s.cqSize q < (s.cqTail q + 65536 - getF v Fld.DMA_CQ_HEAD_IDX) % 65536 →
    exec (.dmaCqHeadWrite r q v) s =
      .next (State.endCycle ((((s.entering r).setFld (Reg.DMA_CQ_HEAD q) Fld.DMA_CQ_HEAD_IDX (s.cqTail q)).drainQueue q 16).answer r 0 0))) ∧
  (∀ (s : State) (r : Req) (q : Fin 4) (v : Word),
    s.grants r (Reg.DMA_CQ_CFG q) → s.bit (Reg.DMA_CQ_CFG q) Fld.DMA_CQ_CFG_EN = false → getF v Fld.DMA_CQ_CFG_EN = 1 →
    exec (.dmaCqEnable r q v) s =
      .next (State.endCycle ((
        let t1 := ((s.entering r).plainWrite (Reg.DMA_CQ_CFG q) v).setFld (Reg.DMA_CQ_HEAD q) Fld.DMA_CQ_HEAD_IDX 0
        let t := t1.setFld (Reg.DMA_CQ_TAIL q) Fld.DMA_CQ_TAIL_IDX 0
        { t with dma := { t.dma with cqPort := kvSet (fun _ => 0) t.dma.cqPort q (s.resolveSpace (getF v Fld.DMA_CQ_CFG_LOC)) } }.drainQueue q 16).answer r 0 0))) ∧
  (∀ (s : State) (p : Fin 2) (tag : BitVec 8) (c : Nat) (m : MemRd),
    s.findRead p tag.toNat = some (c, m) → m.flush = false →
    m.at_ + usTicks (Nat.max 1 (s.fld (Reg.LINK_CPL_TMO p) Fld.LINK_CPL_TMO_US)) ≤ s.tick →
    exec (.cplTimeout p tag) s =
      .next (State.endCycle (let t := (s.flag (Reg.LINK_ERR p) Fld.LINK_ERR_CPL_TMO).raise 0x3015 p
        t.dmaFinish c 5 (t.ch c).prefix_ ((t.ch c).src + (t.ch c).prefix_) 2 0)))

/-- Starting, running and failing a port's training: each command's whole effect in the state it belongs to. R42, R47, R49, R50, R52, R53, R54, R56, R57, R59. -/
def Obligations.TrainingCommandsTakeEffect : Prop :=
  (∀ (s t : State) (r : Req) (p : Fin 2) (v : Word),
    s.grants r (Reg.LANE_PCTL p) → s.bit (Reg.LANE_PCTL p) Fld.LANE_PCTL_EN = false →
    (s.entering r).plainWrite (Reg.LANE_PCTL p) (setF v Fld.LANE_PCTL_EN 1) = t → t.bit (Reg.LANE_PCTL p) Fld.LANE_PCTL_EN = true →
    exec (.trainingStart r p v) s = .next (State.endCycle (((t.startTraining p).sayWords p (s.entering r)).answer r 0 0))) ∧
  (∀ (s t : State) (r : Req) (p : Fin 2) (v : Word),
    s.grants r (Reg.LANE_PCTL p) → s.bit (Reg.LANE_PCTL p) Fld.LANE_PCTL_EN = true →
    (s.entering r).plainWrite (Reg.LANE_PCTL p) (setF v Fld.LANE_PCTL_EN 0) = t → t.bit (Reg.LANE_PCTL p) Fld.LANE_PCTL_EN = false →
    exec (.portPowerDown r p v) s = .next (State.endCycle (((t.lanesOff p).sayWords p (s.entering r)).answer r 0 0))) ∧
  (∀ (s t : State) (r : Req) (p : Fin 2) (rate : Bool),
    s.grants r (Reg.LANE_PCTL p) → s.bit (Reg.LANE_PCTL p) Fld.LANE_PCTL_EN = true →
    (s.entering r).plainWrite (Reg.LANE_PCTL p) (setF (s.rd (Reg.LANE_PCTL p)) Fld.LANE_PCTL_RATE (b2n rate)) = t →
    t.bit (Reg.LANE_PCTL p) Fld.LANE_PCTL_EN = true → s.fld (Reg.LANE_PCTL p) Fld.LANE_PCTL_RATE ≠ (t.setPort p { t.port p with beacon := false }).fld (Reg.LANE_PCTL p) Fld.LANE_PCTL_RATE →
    exec (.rateChange r p rate) s =
      .next (State.endCycle ((((t.setPort p { t.port p with beacon := false }).retrain p).sayWords p (s.entering r)).answer r 0 0))) ∧
  (∀ (s t : State) (p : Fin 2) (k : Fin 9),
    s.lst p k = 1 → s.setLst p k 2 = t → (t.lane p k).alone = false → (t.port p).attemptAt = none →
    exec (.signalDetect p k) s =
      .next (State.endCycle ((nine.foldl (fun (u : State) j => u.setFld (Reg.LANE_LSTAT p j) Fld.LANE_LSTAT_TRAIN_TRY (u.fld (Reg.LANE_LSTAT p j) Fld.LANE_LSTAT_TRAIN_TRY + 1))
        (t.setPort p { t.port p with attempts := (t.port p).attempts + 1, attemptAt := some s.tick })).sayWords p s))) ∧
  (∀ (s : State) (p : Fin 2) (k : Fin 9), s.lst p k = 2 → exec (.clockRecovered p k) s = .next (State.endCycle ((s.setLst p k 3).sayWords p s))) ∧
  (∀ (s : State) (p : Fin 2) (k : Fin 9) (h : HuntObs) (inv : Bool),
    s.lst p k = 3 → huntAligned h = some inv →
    exec (.laneAligned p k h) s = .next (State.endCycle (s.alignInTraining p k h inv))) ∧
  (∀ (s : State) (p : Fin 2) (k : Fin 9) (w : BitVec 128), twVer w.toNat = 2 →
    let t := State.sayWords ((((s.takeReq p k w.toNat).takeAck p k w.toNat).takeRdy p k w.toNat).takeMove p w.toNat) p s
    exec (.tapRequest p k w) s = .next (State.endCycle (t)) ∧ exec (.farEndRxrdy p k w) s = .next (State.endCycle (t)) ∧
    exec (.moveRequest p k w) s = .next (State.endCycle (t))) ∧
  (∀ (s : State) (p : Fin 2) (k : Fin 9) (w : Nat),
    s.lst p k = 4 → (s.lane p k).ackSeq ≠ some (twReqSeq w) →
    s.takeReq p k w = (s.wr (Reg.LANE_FFE p k) (applyTaps (s.rd (Reg.LANE_FFE p k)) (twReq w)).1).setLane p k
      { s.lane p k with ackSeq := some (twReqSeq w), sts := (applyTaps (s.rd (Reg.LANE_FFE p k)) (twReq w)).2 }) ∧
  (∀ (s : State) (p : Fin 2) (k : Fin 9) (w : Nat),
    s.lst p k = 4 → (s.lane p k).rxRdy = false → twRdy w = true →
    s.takeRdy p k w = (s.setPort p { s.port p with farCap := if twCap w = 4 then 4 else 8 }).setLane p k { s.lane p k with farRdy := true }) ∧
  (∀ (s : State) (p : Fin 2) (w q : Nat),
    s.reliefLane p false = some q → s.pst p = 1 → twMove w < 8 →
    s.takeMove p w = (s.setPmap (Reg.LANE_PMAP_TX p) (twMove w) q).setFld (Reg.LANE_PSTAT p) Fld.LANE_PSTAT_RELIEF_TX 0xF) ∧
  (∀ (s : State) (p : Fin 2) (k : Fin 9),
    s.lst p k = 4 → (s.lane p k).farRdy = true →
    exec (.receiverConverged p k) s = .next (State.endCycle (((s.setLane p k { s.lane p k with rxRdy := true }).laneReady p k).sayWords p s))) ∧
  (∀ (s : State) (p : Fin 2) (skew base : Nat),
    s.pst p = 1 → nine.any (fun k => s.lst p k == 6) = true → commaSkew (s.deskewCommas p) = (skew, base) → skew ≤ 128 * 32 →
    exec (.deskewDone p) s = .next (State.endCycle (s.portTrained p base ((skew + 31) / 32)))) ∧
  (∀ (s t : State) (p : Fin 2) (base depth : Nat),
    ((s.mapReceive p).orderCheck p).lanesUp p = t → (t.port p).farCap ≠ 4 →
    s.portTrained p base depth =
      let u := (t.setPort p { t.port p with attemptAt := none, readyAt := none, autoScanAt := s.tick, move := none, deskew := some (base, depth) }).setPst p 2
      ((u.startStream p (u.nLogical p) u.tick).raise 0x3001 p).startNeg p) ∧
  (∀ (s : State) (p : Fin 2) (skew base : Nat),
    s.pst p = 1 → nine.any (fun k => s.lst p k == 6) = true → commaSkew (s.deskewCommas p) = (skew, base) → 128 * 32 < skew →
    exec (.deskewDone p) s = .next (State.endCycle ((s.attemptFails p).sayWords p s))) ∧
  (∀ (s : State) (p : Fin 2) (k : Fin 9),
    s.lanesDue p k = true → (s.lane p k).alone = false → s.lst p k ≠ 5 →
    exec (.trainingTimeout p k) s = .next (State.endCycle (((s.setLst p k 8).attemptFails p).sayWords p s))) ∧
  (∀ (s : State) (p : Fin 2) (t : Nat),
    (s.port p).attemptAt = some t → s.pst p = 1 → t + msTicks 25 ≤ s.tick →
    exec (.attemptTimeout p) s = .next (State.endCycle ((s.attemptFails p).sayWords p s)))

/-- Stalls, hitless and emergency relief, beacons, margins and eye scans: each command's whole effect. R48, R60, R61, R63, R64, R65, R66, R67, R68, R70, R73. -/
def Obligations.LaneReliefAndScanCommandsTakeEffect : Prop :=
  (∀ (s t u : State) (p : Fin 2) (k : Fin 9) (uncorr missing : Nat),
    s.bit (Reg.LANE_LSTAT p k) Fld.LANE_LSTAT_ALIGNED = true →
    ((s.setFld (Reg.LANE_LSTAT p k) Fld.LANE_LSTAT_ALIGNED 0).setLane p k { s.lane p k with lostAt := s.tick }).raise 0x3003 (laneUnit p k) = t →
    t.pst p = 2 → (t.carries p k).isSome = true → (t.abandonRx p).setPst p 3 = u →
    (u.setPort p { u.port p with stallAt := s.tick }).lstate p = 2 →
    8 ≤ uncorr ∨ 2 ≤ missing →
    exec (.alignLost p k uncorr missing) s =
      .next (State.endCycle (((u.setPort p { u.port p with stallAt := s.tick }).setFld (Reg.LINK_STATUS p) Fld.LINK_STATUS_LSTATE 3).raise 0x3004 p))) ∧
  (∀ (s : State) (p : Fin 2) (k : Fin 8) (q : Nat),
    s.pst p = 3 → s.pmap (Reg.LANE_PMAP_RX p) k ≠ 0xF →
    s.bit (Reg.LANE_LSTAT p (s.pmap (Reg.LANE_PMAP_RX p) k)) Fld.LANE_LSTAT_ALIGNED = false →
    (s.lane p (s.pmap (Reg.LANE_PMAP_RX p) k)).lostAt + (if s.fld (Reg.LANE_PCTL p) Fld.LANE_PCTL_RATE = 1 then 25770 else 51540) ≤ s.tick →
    (s.port p).emergency = none → s.reliefLane p true = some q → s.bit (Reg.LANE_LSTAT p q) Fld.LANE_LSTAT_ALIGNED = true →
    exec (.realignWaitExpiry p k) s = .next (State.endCycle ((s.setPort p { s.port p with emergency := some k }).sendBack p 1 k))) ∧
  (∀ (s : State) (p : Fin 2),
    s.pst p = 3 → (s.port p).emergency = none → s.allAligned p = true → exec (.deskewRestored p) s = .next (State.endCycle (s.unstall p))) ∧
  (∀ (s : State) (p : Fin 2) (k : Nat),
    s.startTxRelief p k =
      (((s.setPort p { s.port p with txRelief := some k }).setFld (Reg.LANE_PSTAT p) Fld.LANE_PSTAT_RELIEF_BUSY_TX 1).emit (.back p 2 k)).raise 0x3006 p) ∧
  (∀ (s t : State) (p : Fin 2) (b : BackObs) (k : Fin 8),
    s.backTaken p b = true → s.setPort p { s.port p with backSeen := true } = t → t.reliefPossible p k false = true →
    exec (.reliefReq p b k) s = .next (State.endCycle (t.startTxRelief p k))) ∧
  (∀ (s : State) (p : Fin 2) (k : Fin 8) (q : Nat) (h : BitVec 20),
    s.reliefLane p true = some q → s.pst p = 2 → (s.port p).rxRelief = some k.val → s.pmap (Reg.LANE_PMAP_RX p) k ≠ 0xF →
    hdrType h.toNat = 1 → hdrCmd h.toNat = 2 → hdrArg h.toNat = k → hdrLane h.toNat = k →
    exec (.reliefCompareDone p k h false) s =
      .next (State.endCycle ((((((s.setPort p { s.port p with rxRelief := none }).setFld (Reg.LANE_PSTAT p) Fld.LANE_PSTAT_RELIEF_BUSY_RX 0)).takeRelief p k q).sendBack
        p 3 k).raise 0x3007 p))) ∧
  (∀ (s : State) (p : Fin 2) (k : Fin 8) (q : Nat) (h : BitVec 20),
    s.reliefLane p true = some q → s.pst p = 2 → (s.port p).rxRelief = some k.val → s.pmap (Reg.LANE_PMAP_RX p) k ≠ 0xF →
    hdrType h.toNat = 1 → hdrCmd h.toNat = 2 → hdrArg h.toNat = k → hdrLane h.toNat = k →
    exec (.reliefCompareDone p k h true) s =
      .next (State.endCycle (((s.setPort p { s.port p with rxRelief := none }).setFld (Reg.LANE_PSTAT p) Fld.LANE_PSTAT_RELIEF_BUSY_RX 0).raise 0x3008 p))) ∧
  (∀ (s t u : State) (p : Fin 2) (b : BackObs) (k : Fin 8) (q : Nat),
    s.backTaken p b = true → s.setPort p { s.port p with backSeen := true } = t →
    t.reliefLane p false = some q → (t.port p).txRelief = some k.val →
    (t.setPmap (Reg.LANE_PMAP_TX p) k q).setFld (Reg.LANE_PSTAT p) Fld.LANE_PSTAT_RELIEF_TX 0xF = u →
    exec (.reliefSwitched p b k) s =
      .next (State.endCycle (((((u.setPort p { t.port p with txRelief := none }).setFld (Reg.LANE_PSTAT p) Fld.LANE_PSTAT_RELIEF_BUSY_TX 0).setFld
        (Reg.LANE_LSTAT p q) Fld.LANE_LSTAT_ROLE 0).retireLane p (t.pmap (Reg.LANE_PMAP_TX p) k) false).raise 0x3007 p))) ∧
  (∀ (s t : State) (p : Fin 2) (b : BackObs) (k : Fin 8),
    s.backTaken p b = true → s.setPort p { s.port p with backSeen := true } = t →
    (t.port p).emergency ≠ some k.val → (t.port p).rxRelief = some k.val → exec (.reliefRefuse p b k) s = .next (State.endCycle (t.abandonRx p))) ∧
  (∀ (s t : State) (p : Fin 2) (b : BackObs) (k : Fin 8),
    s.backTaken p b = true → s.setPort p { s.port p with backSeen := true } = t →
    (t.port p).emergency = some k.val →
    exec (.reliefRefuse p b k) s = .next (State.endCycle (((t.raise 0x3008 p).retrain p).sayWords p t))) ∧
  (∀ (s t : State) (p : Fin 2) (b : BackObs) (k : Fin 9),
    s.backTaken p b = true → s.setPort p { s.port p with backSeen := true } = t →
    t.portUp p = true → t.isRetired p k = true → exec (.retrainReq p b k) s = .next (State.endCycle ((t.trainAlone p k).sayWords p t))) ∧
  (∀ (s : State) (r : Req) (p : Fin 2) (k : Fin 16),
    s.grants r (Reg.LANE_CMD p) → s.reliefPossible p k true = true →
    exec (.relieveRx r p k) s = .next (State.endCycle (((s.entering r).startRxRelief p k).answer r 0 0))) ∧
  (∀ (s : State) (r : Req) (p : Fin 2) (k : Fin 16),
    s.grants r (Reg.LANE_CMD p) → s.reliefPossible p k false = true →
    exec (.relieveTx r p k) s = .next (State.endCycle (((s.entering r).startTxRelief p k).answer r 0 0))) ∧
  (∀ (s : State) (r : Req) (p : Fin 2) (k : Fin 16),
    s.grants r (Reg.LANE_CMD p) → s.portUp p = true → k.val < 9 → s.isRetired p k = true →
    exec (.restore r p k) s = .next (State.endCycle (((((s.entering r).trainAlone p k).sendBack p 5 k).sayWords p (s.entering r)).answer r 0 0))) ∧
  (∀ (s : State) (r : Req) (p : Fin 2),
    s.grants r (Reg.LANE_CMD p) →
    exec (.beaconOn r p) s = .next (State.endCycle (((s.entering r).setPort p { s.port p with beacon := true, beaconAt := none }).answer r 0 0))) ∧
  (∀ (s : State) (r : Req) (p : Fin 2),
    s.grants r (Reg.LANE_CMD p) →
    exec (.beaconOff r p) s = .next (State.endCycle (((s.entering r).setPort p { s.port p with beacon := false }).answer r 0 0))) ∧
  (∀ (s : State) (p : Fin 2),
    (s.port p).beacon = true → (s.port p).beaconAt = none →
    exec (.beaconBurst p) s = .next (State.endCycle ((s.setPort p { s.port p with beaconAt := some s.tick }).emit (.beacon p)))) ∧
  (∀ (s t : State) (p : Fin 2) (k : Fin 9) (corrected uncorr : Nat),
    s.rxRuns p k = true →
    ((s.count64 (Reg.LANE_CW_CNT p k) 65536).count64 (Reg.LANE_CORR_CNT p k) corrected).count (Reg.LANE_UNCORR_CNT p k) uncorr = t →
    corrected ≤ t.fld (Reg.LANE_THR p) Fld.LANE_THR_SER_LIMIT →
    exec (.marginWindowEnd p k corrected uncorr) s = .next t.endCycle) ∧
  (∀ (s t : State) (r : Req) (p : Fin 2) (v : Word),
    s.grants r (Reg.LANE_ESCAN_CTL p) → getF (setF v Fld.LANE_ESCAN_CTL_START 1) Fld.LANE_ESCAN_CTL_START = 1 →
    (s.entering r).plainWrite (Reg.LANE_ESCAN_CTL p) (setF v Fld.LANE_ESCAN_CTL_START 1) = t →
    t.bit (Reg.LANE_ESCAN_CTL p) Fld.LANE_ESCAN_CTL_BUSY = false →
    exec (.escanStart r p v) s = .next (State.endCycle ((t.beginScan p (t.fld (Reg.LANE_ESCAN_CTL p) Fld.LANE_ESCAN_CTL_LMASK) false).answer r 0 0))) ∧
  (∀ (s t : State) (p : Fin 2) (pts : List (List Nat)),
    s.bit (Reg.LANE_ESCAN_CTL p) Fld.LANE_ESCAN_CTL_BUSY = true → s.scanOver p pts = true → (s.port p).scanAuto = false →
    nine.foldl (fun (u : State) k => if (s.port p).scan.testBit k then u.endScan p k false pts else u) s = t →
    exec (.escanDone p pts) s =
      .next (State.endCycle (((t.setFld (Reg.LANE_ESCAN_CTL p) Fld.LANE_ESCAN_CTL_BUSY 0).setPort p
        { t.port p with scan := 0, scanAbort := 0, scanAuto := false, scanNext := none }).raise 0x300C p))) ∧
  (∀ (s t : State) (p : Fin 2),
    getF (s.rd (Reg.LANE_PCTL p)) Fld.LANE_PCTL_ESC_AUTO = 1 → s.portUp p = true →
    (s.port p).autoScanAt + msTicks (16 * 2 ^ getF (s.rd (Reg.LANE_PCTL p)) Fld.LANE_PCTL_MON_PERIOD) ≤ s.tick →
    s.setPort p { s.port p with autoScanAt := s.tick } = t → t.bit (Reg.LANE_ESCAN_CTL p) Fld.LANE_ESCAN_CTL_BUSY = false →
    exec (.autoEscanPeriod p) s = .next (State.endCycle (t.beginScan p 0x1FF true)))

/-- Acknowledgement, replay, negotiation and failover triggers: each command's whole effect. R81, R82, R84, R85, R86, R101. -/
def Obligations.LinkPacketsAndNegotiationTakeEffect : Prop :=
  (∀ (s t : State) (p : Fin 2) (h : RxHdr) (aseq : BitVec 8) (cred : BitVec 16),
    upStates (s.lstate p) = true → s.sees p h → (s.heard p).acknowledge p aseq.toNat = t →
    exec (.ack p h aseq cred) s = .next (State.endCycle ((t.setLink p { t.link p with credits := (t.link p).credits + cred.toNat }).pump p))) ∧
  (∀ (s : State) (p : Fin 2) (h : RxHdr) (aseq : BitVec 8),
    upStates (s.lstate p) = true → s.sees p h →
    exec (.nak p h aseq) s = .next (State.endCycle ((((s.heard p).acknowledge p aseq.toNat).replay p).pump p))) ∧
  (∀ (s : State) (p : Fin 2),
    upStates (s.lstate p) = true → s.pst p ≠ 3 → (s.link p).unacked ≠ [] → (s.link p).progressAt + usTicks 8 ≤ s.tick →
    exec (.bkReplayTimeout p) s = .next (State.endCycle (s.replay p))) ∧
  (∀ (s : State) (p : Fin 2) (h : RxHdr) (pay : NegPay),
    s.lstate p = 1 → s.inOrder p h → (s.tookBk p h 2 false).lstate p = 1 →
    exec (.negOffer p h pay) s = .next (State.endCycle ((s.tookBk p h 2 false).answerOffer p pay))) ∧
  (∀ (s t : State) (p : Fin 2) (h : RxHdr) (pay : NegPay),
    s.lstate p = 1 → s.inOrder p h → s.tookBk p h 2 false = t → t.lstate p = 1 →
    exec (.negAccept p h pay) s =
      .next (State.endCycle ((t.setLink p { t.link p with peerAccept := some (acceptResult pay) }).negCompare p pay.credit.toNat))) ∧
  (∀ (s t : State) (p : Fin 2) (h : RxHdr) (reason : BitVec 8),
    s.lstate p = 1 → s.inOrder p h → s.tookBk p h 2 false = t → t.lstate p = 1 →
    exec (.negReject p h reason) s =
      .next (State.endCycle (let u := t.setLink p { t.link p with rejects := (t.link p).rejects + 1 }
        if 3 ≤ (u.link p).rejects then u.negFail p else u))) ∧
  (∀ (s : State) (p : Fin 2),
    s.lstate p = 1 → (s.link p).peerOffer = none → (s.link p).offerAt + usTicks 100 ≤ s.tick →
    exec (.negOfferRepeat p) s = .next (State.endCycle (s.sendOffer p))) ∧
  (∀ (s : State) (p : Fin 2),
    s.lstate p = 1 → (s.link p).negAt + msTicks 10 ≤ s.tick → exec (.negTimeout p) s = .next (State.endCycle (s.negFail p))) ∧
  (∀ (s : State) (r : Req) (p : Fin 2) (v : Word),
    s.grants r (Reg.LINK_CTL p) → getF (setF v Fld.LINK_CTL_RENEG 1) Fld.LINK_CTL_RENEG = 1 →
    exec (.reneg r p v) s =
      .next (State.endCycle ((((s.entering r).plainWrite (Reg.LINK_CTL p) (setF v Fld.LINK_CTL_RENEG 1)).reneg p).answer r 0 0))) ∧
  (∀ (s t : State) (r : Req) (v : Word),
    s.grants r Reg.LINK_DH_CTL → getF (setF v Fld.LINK_DH_CTL_SWITCH 1) Fld.LINK_DH_CTL_SWITCH = 1 → s.dh.failover = none →
    (s.entering r).plainWrite Reg.LINK_DH_CTL (setF v Fld.LINK_DH_CTL_SWITCH 1) = t →
    (s.entering r).wouldChange Reg.LINK_DH_CTL (setF v Fld.LINK_DH_CTL_SWITCH 1) Fld.LINK_DH_CTL_MODE = false →
    (s.entering r).wouldChange Reg.LINK_DH_CTL (setF v Fld.LINK_DH_CTL_SWITCH 1) Fld.LINK_DH_CTL_ACTIVE_B = false →
    exec (.switch r v) s = .next (State.endCycle ((t.triggerFailover 0xFF 2).answer r 0 0))) ∧
  (∀ (s : State) (p : Fin 2),
    s.lstate p = 3 → s.bit Reg.LINK_DH_CTL Fld.LINK_DH_CTL_FO_EN = true → s.linkUp (1 - p.val) = true →
    (s.port p).stallAt + usTicks (s.failoverStallUs p) < s.tick →
    exec (.failoverStallTimeout p) s = .next (State.endCycle (s.triggerFailover (s.carsOf p) (1 - p.val))))

/-- A plain host request in order on an OPERATIONAL port is carried out and answered with RD_CPL. R90, R91, R92, R96. -/
def Obligations.HostRequestsAreAnswered : Prop :=
  (∀ (s : State) (p : Fin 2) (h : RxHdr) (tag ch : BitVec 8) (addr : BitVec 64) (data : List Byte),
    s.lstate p = 2 → s.inOrder p h →
    (s.tookBk p h (1 + (data.length + 15) / 16) true).hostBlockCause addr.toNat data.length = 0 →
    exec (.memWr p h none tag ch addr data) s =
      .next (State.endCycle (let x := ((s.tookBk p h (1 + (data.length + 15) / 16) true).dropHeld ⟨p + 1, false⟩).winWrite addr.toNat data
        x.2.sendCpl p tag.toNat x.1 false 1 [0, 0]))) ∧
  (∀ (s : State) (p : Fin 2) (h : RxHdr) (tag : BitVec 8) (flush : Bool) (nblk : BitVec 7) (addr : BitVec 64),
    s.lstate p = 2 → s.inOrder p h → (s.tookBk p h 1 true).hostBlockCause addr.toNat (64 * nblk.toNat) = 0 →
    ((s.tookBk p h 1 true).winRead addr.toNat (64 * nblk.toNat)).1 = 0 →
    exec (.memRd p h none tag flush nblk addr) s =
      .next (State.endCycle (let x := (s.tookBk p h 1 true).winRead addr.toNat (64 * nblk.toNat)
        x.2.2.sendCpl p tag.toNat 0 false (1 + 64 * nblk.toNat / 16) ([0, 0] ++ wordsOf x.2.1)))) ∧
  (∀ (s : State) (p : Fin 2) (h : RxHdr) (tag : BitVec 8) (status : BitVec 4) (last : Bool) (offs : BitVec 7) (data : List Byte),
    s.lstate p = 2 → s.inOrder p h →
    ((s.tookBk p h (1 + (data.length + 15) / 16) false).fld (Reg.LINK_NEG_RES p) Fld.LINK_NEG_RES_FEAT).testBit 6 = true →
    exec (.rdCpl p h none tag status last offs data) s =
      .next (State.endCycle ((s.tookBk p h (1 + (data.length + 15) / 16) false).readCompletion p tag.toNat status.toNat last offs.toNat data))) ∧
  (∀ (s : State) (p : Fin 2) (h : RxHdr) (chan : Fin 32) (tag : BitVec 8) (words : List Word),
    s.lstate p = 2 → s.inOrder p h → chan.val < 24 →
    exec (.msg p h none chan tag words) s =
      .next (State.endCycle (let x := mbxMessage chan (p + 1) ((List.range 16).map (fun k => (words.getD k 0).toNat)) (s.tookBk p h 5 true)
        x.2.sendCpl p tag.toNat x.1 false 1 [0, 0])))

/-- Commits, domain changes, exchanges, slew end and pulses: each time command's whole effect. R133, R136, R137, R139, R140, R141, R142, R143, R144, R145. -/
def Obligations.TimeCommandsTakeEffect : Prop :=
  (∀ (s t : State) (p : Fin 2) (h : RxHdr) (tseq : BitVec 16),
    s.takesRt p h 6 0 → s.tookRt p h 6 = t → s.tclk = true → (s.link p).exch = none →
    exec (.sync p h 1 tseq) s =
      .next (State.endCycle (let u := t.takeFree.2
        let t2 := timeMod ((u.dom p : Int) + adjU (u.fld (Reg.TIME_PORTCOMP p) Fld.TIME_PORTCOMP_RX_ADJ))
        u.setLink p { u.link p with exch := some (u.tick + 1 + t.takeFree.1 % 9830, tseq.toNat, t2) }))) ∧
  (∀ (s : State) (p : Fin 2) (due tseq t2 : Nat),
    s.tclk = true → (s.link p).exch = some (due, tseq, t2) → due ≤ s.tick →
    s.sendDreq p =
      (let t3 := timeMod ((s.dom p : Int) + adjU (s.fld (Reg.TIME_PORTCOMP p) Fld.TIME_PORTCOMP_TX_ADJ));
        ((s.setLink p { s.link p with exch := none }).sendRt p 6 1 (2 * 2 ^ 28 + tseq) [0, 0]).sendRt p 6 3
          (3 * 2 ^ 28 + tseq) ([0, 0] ++ wordsOf (stampBytes t2 ++ stampBytes t3) ++ [0, 0]))) ∧
  (∀ (s : State) (r : Req) (x : Fin 2) (w0 w1 w2 w3 : Word),
    s.grants r (Reg.TD_OFFSET x) →
    exec (.tdOffsetCommit r x w0 w1 w2 w3) s =
      .next (State.endCycle (((s.entering r).offsetCommit x (wordsTime w0.toNat w1.toNat w2.toNat w3.toNat)).answer r 0 0))) ∧
  (∀ (s : State) (r : Req) (x : Fin 2) (v : DWord),
    s.grants r (Reg.TD_STEP x) → exec (.tdStepCommit r x v) s = .next (State.endCycle (((s.entering r).stepCommit x v.toNat).answer r 0 0))) ∧
  (∀ (s : State) (r : Req) (x : Fin 2) (v : DWord),
    s.grants r (Reg.TD_INC x) → exec (.tdIncCommit r x v) s = .next (State.endCycle (((s.entering r).incCommit x v.toNat).answer r 0 0))) ∧
  (∀ (s : State) (r : Req) (v : Word),
    s.grants r Reg.TIME_CTL → getF v Fld.TIME_CTL_PPSO_EN = 0 →
    exec (.tselSwitch r v) s =
      .next (State.endCycle ((let t := (s.entering r).setFld Reg.TIME_CTL Fld.TIME_CTL_PPSO_EN 0
        ({ t with time := { t.time with ppsDue := [] } }.setPps false).setTsel (getF v Fld.TIME_CTL_TSEL)).answer r 0 0))) ∧
  (∀ (s : State) (r : Req) (v : Word),
    s.grants r Reg.TIME_CTL → getF v Fld.TIME_CTL_PPSO_EN = 1 →
    exec (.tselSwitch r v) s =
      .next (State.endCycle ((((s.entering r).setFld Reg.TIME_CTL Fld.TIME_CTL_PPSO_EN 1).setTsel (getF v Fld.TIME_CTL_TSEL)).answer r 0 0))) ∧
  (∀ s : State, s.time.trans = 0 → s.bit Reg.TIME_STATUS Fld.TIME_STATUS_SLEWING = true →
    exec .slewDone s = .next (State.endCycle ((s.setFld Reg.TIME_STATUS Fld.TIME_STATUS_SLEWING 0).raise 0xC002 0xFF))) ∧
  (∀ (s t : State), s.tclk = true → (∀ b, s.time.ppsAt = some b → 491520000 ≤ (s.tb + 2 ^ 64 - b) % 2 ^ 64) →
    ((((s.wrTime (Reg.TIME_PPSIN 0) (s.dom 0)).wrTime (Reg.TIME_PPSIN 1) (s.dom 1)).wr64 Reg.TIME_PPSIN_TB s.tb).setFld
      Reg.TIME_STATUS Fld.TIME_STATUS_PPSIN_LOST 0) = t →
    exec .ppsinCapture s = .next (State.endCycle (({ t with time := { t.time with ppsAt := some s.tb } }.evSource 0x60).raise 0xC003 0xFF))) ∧
  (∀ (s : State) (b : Nat), s.tclk = true → s.bit Reg.TIME_STATUS Fld.TIME_STATUS_PPSIN_LOST = false → s.time.ppsAt = some b →
    1081344000 ≤ (s.tb + 2 ^ 64 - b) % 2 ^ 64 →
    exec .ppsinLost s = .next (State.endCycle ((s.setFld Reg.TIME_STATUS Fld.TIME_STATUS_PPSIN_LOST 1).raise 0xC004 0xFF))) ∧
  (∀ s : State, s.tclk = true → s.bit Reg.TIME_CTL Fld.TIME_CTL_PPSO_EN = true → s.time.ppsDue.any (fun d => decide (d ≤ s.tick)) = true →
    exec .ppsOutRise s =
      .next (State.endCycle (({ s with time := { s.time with
        ppsFallAt := s.tick + usTicks (Nat.max 1 (s.fld Reg.TIME_PPSO_CFG Fld.TIME_PPSO_CFG_WIDTH))
        ppsDue := s.time.ppsDue.filter (fun d => decide (s.tick < d)) } } : State).setPps true))) ∧
  (∀ s : State, s.time.ppsOut = true → s.time.ppsFallAt ≤ s.tick → exec .ppsOutFall s = .next (State.endCycle (s.setPps false)))

/-- C-plane sections and downlink data inside their windows are taken; locking and orphan discard. R107, R116, R124, R126, R128. -/
def Obligations.LayerPacketsAreTaken : Prop :=
  (∀ (s : State) (p : Fin 2) (h : RxHdr) (descs : List (BitVec 128)),
    s.takesRt p h 5 3 →
    exec (.cplane p h descs) s =
      .next (State.endCycle (descs.foldl (fun (t : State) d =>
        if t.servePort (SecF.carrier d.toNat) = p then t.takeSection p d.toNat false
        else if t.bit Reg.LINK_DH_CTL Fld.LINK_DH_CTL_HOT then t.takeSection p d.toNat true
        else t.count64 (Reg.LINK_RT_IGN_CNT p)) ((s.tookRt p h 5).pmuCount (40 + p) 0x02 (1 + descs.length))))) ∧
  (∀ (t : State) (p d : Nat) (x : Section),
    x = t.sectionOf p d false →
    t.secMode p d = false → t.secBad p d = false →
    thUs (t.secWindow (SecF.carrier d) (SecF.dir d)).1 ≤ t.secAir x - t.nowTh →
    t.secAir x - t.nowTh ≤ thUs (t.secWindow (SecF.carrier d) (SecF.dir d)).2 →
    t.sections.find? (t.namesake x) = none →
    ((t.sections.filter (fun y => !t.namesake x y)).filter (fun y => !y.standby)).any (t.secOverlap x) = false →
    tooMany x ((t.sections.filter (fun y => !t.namesake x y)).filter (fun y => !y.standby)) = false →
    ((t.sections.filter (fun y => !t.namesake x y)).filter t.secLive).length < 16384 →
    t.takeSection p d false = ({ t with sections := t.sections.filter (fun y => !t.namesake x y) ++ [x] } : State).matchHeld x) ∧
  (∀ (s t : State) (p : Fin 2) (h : RxHdr) (car : Fin 8) (sym : BitVec 4) (slot : BitVec 10) (secid : BitVec 12) (poff pcnt : BitVec 11)
      (cw : BitVec 4) (ant : Bool) (stream : BitVec 7) (data : List Byte) (d : DlData),
    s.takesRt p h 1 (s.dlNeed car ant) → (s.tookRt p h 1).pmuCount (40 + p) 0x02 (1 + data.length / 16) = t →
    s.comp p cw.toNat = true → t.servePort car = p →
    d = { car := car, frame := t.resolveFrame car (slot.toNat * 14 + sym.toNat) t.nowTh, slot := slot.toNat, sym := sym.toNat,
          secid := secid.toNat, poff := poff.toNat, pcnt := pcnt.toNat, cw := cw.toNat, ant := ant, stream := stream.toNat,
          port := p, standby := false, held := true, data := data.map (·.toNat), lateT := t.dataLate car slot.toNat sym.toNat } →
    slot.toNat < t.carSlots car → sym.toNat < 14 →
    thUs (Nat.max 35 (t.fld (Reg.CAR_DL_WIN car) Fld.CAR_DL_WIN_DL_LATE)) ≤ t.airTime car d.frame (slot.toNat * 14 + sym.toNat) - t.nowTh →
    t.airTime car d.frame (slot.toNat * 14 + sym.toNat) - t.nowTh ≤ thUs (t.fld (Reg.CAR_DL_WIN car) Fld.CAR_DL_WIN_DL_EARLY) →
    (∀ x, t.sections.find? (fun x => x.owns d) = some x → t.dataFits x d = true) →
    t.dl.any (dataDup d) = false → t.dlBytes + data.length ≤ 16777216 →
    exec (.layerDl p h car sym slot secid poff pcnt cw ant stream data) s =
      .next (State.endCycle { t with dl := t.dl ++ [{ d with held := (t.sections.find? (fun x => x.owns d)).isNone }] })) ∧
  (∀ (s : State) (c : Fin 8) (dir : Bool) (slot : BitVec 10) (secid : BitVec 12),
    exec (.sectionLock c dir slot secid) s =
      .next (State.endCycle { s with sections := s.sections.map (fun x =>
        if x.car = c.val ∧ SecF.dir x.raw = b2n dir ∧ SecF.slot x.raw = slot.toNat ∧ SecF.secid x.raw = secid.toNat ∧ s.secLocked x then
          { x with locked := true } else x) })) ∧
  (∀ (s : State) (c : Fin 8) (gone : DlData → Bool),
    gone = (fun d => d.held && d.car == c.val && decide (d.lateT ≤ s.nowTh)) →
    s.dl.filter gone ≠ [] →
    exec (.orphanDiscard c) s =
      .next (State.endCycle ((({ s with dl := s.dl.filter (fun d => !gone d) } : State).count (Reg.CAR_DL_ORPHAN_CNT c) (s.dl.filter gone).length).raiseFrame 0x4003 c)))

/-- Downlink symbols are read once, uplink symbols become packets, packets leave, statistics accumulate. R126, R184, R187, R215, R217, R248, R250. -/
def Obligations.SymbolsAreReadAndDelivered : Prop :=
  (∀ (s : State) (c : Fin 8) (f : Int) (n : Nat),
    s.symbolAt c (s.nowTh + thUs 34) = (f, n) → (∀ d, (s.car c).dlDone = some d → d < symIndex f n) →
    s.clkOn Fld.SYS_CLK_STATUS_FCLK = true →
    ∃ t : State, exec (.symbolRead c) s = .next t.endCycle ∧ (t.car c).dlDone = some (symIndex f n) ∧
      (∀ d ∈ t.dl, ¬(d.car = c.val ∧ symIndex d.frame (d.slot * 14 + d.sym) ≤ symIndex f n)) ∧
      (∀ x ∈ t.sections, ¬(x.car = c.val ∧ SecF.dir x.raw = 0 ∧ t.secLive x = false))) ∧
  (∀ (s t : State) (c : Fin 8) (f : Int) (n : Nat) (m0 : Int),
    s.symbolAt c (s.nowTh + thUs 34) = (f, n) → (∀ d, (s.car c).dlDone = some d → d < symIndex f n) →
    s.clkOn Fld.SYS_CLK_STATUS_FCLK = true →
    ¬(getF (s.symVal (Reg.CAR_CTL c) (s.airTime c f n)) Fld.CAR_CTL_DL_EN = 1 ∧ getF (s.symVal (Reg.CAR_STATUS c) (s.airTime c f n)) Fld.CAR_STATUS_TOFF = 0) →
    (s.car c).frame0 = some (f, m0) →
    (s.setCar c { s.car c with frame0 := some (f, m0) }).readSymbol c f n [] = t →
    exec (.symbolRead c) s = .next
      (State.endCycle { (t.bfErrPast 0 c).setCar c { t.car c with dlDone := some (symIndex f n) } with
        dl := t.dl.filter (fun d => !(d.car == c.val && decide (symIndex d.frame (d.slot * 14 + d.sym) ≤ symIndex f n)))
        sections := t.sections.filter (fun x => !(x.car == c.val && SecF.dir x.raw == 0 && !t.secLive x)) })) ∧
  (∀ (s : State) (c : Fin 8) (inp : RxIn) (fc f : Int) (nc n : Nat),
    s.symbolAt c (s.nowTh - thNs 4200) = (fc, nc) →
    (f, n) = (if nc = 0 then (fc - 1, 140 * 2 ^ s.carMu c - 1) else (fc, nc - 1)) →
    (∀ d, (s.car c).ulDone = some d → d < symIndex f n) → s.clkOn Fld.SYS_CLK_STATUS_FCLK = true →
    ∃ t : State, exec (.ulSymbol c inp) s = .next t.endCycle ∧ (t.car c).ulDone = some (symIndex f n) ∧
      (∀ x ∈ t.sections, ¬(x.car = c.val ∧ SecF.dir x.raw = 1 ∧ SecF.kind x.raw ≠ 2 ∧
        symIndex x.frame (x.first + secSyms x.raw - 1) ≤ symIndex f n))) ∧
  (∀ (s s' t : State) (p : Fin 2) (u : UlPkt),
    s.formNext p = s' → s'.ulq.find? (fun v => v.ports.testBit p) = some u → s'.linkUp p = true → s'.sendRt p u.type u.len u.tspec u.body = t →
    exec (.ulPacketSend p) s =
      .next (State.endCycle (let t1 : State := { t with ulq := (t.ulq.map (fun v => if v = u then u.dropPort p else v)).filter (fun v => v.ports != 0) }
        let t2 := t1.count (Reg.CAR_UL_PKT_CNT u.car)
        (if u.hasOvr then t2.count (Reg.CAR_UL_OVR_CNT u.car) else t2).pump p))) ∧
  (∀ (s t : State) (path : Fin 64),
    (∀ e ∈ s.rxZero, e.1 ≠ 8 * path.val + 1 ∧ e.1 ≠ 8 * path.val + 2 ∧ e.1 ≠ 8 * path.val + 4) → kvGet (fun _ => 0) s.sb.wokeRx path ≤ s.tick →
    { s with ovrs := s.ovrs.filter (fun e => decide (s.nowTh < e.2 + thUs 20000)) ++ [(path.val, s.nowTh - ovrBlock)] } = t →
    exec (.ovrBlock path) s =
      .next (State.endCycle ((((t.flag (Reg.RXDP_OVR path) Fld.RXDP_OVR_OVR).count (Reg.RXDP_OVR_CNT path)).pmuCount 43 0x03).raiseLim 10 0x4020 path))) ∧
  (∀ (s : State) (r : Req) (v : Word),
    s.grants r Reg.BEAM_SS_CLR → s.ssBusy (getF v Fld.BEAM_SS_CLR_SET) = false →
    exec (.beamSsClr r v) s = .next (State.endCycle (((s.entering r).ssZero (getF v Fld.BEAM_SS_CLR_SET)).answer r 0 0))) ∧
  (∀ (s : State) (r : Req) (v : Word) (pre post : List SrsPend) (x : SrsPend),
    s.grants r Reg.BEAM_SS_CLR → s.srs = pre ++ x :: post → x.set = getF v Fld.BEAM_SS_CLR_SET → x.endT + thNs 12200 ≤ s.nowTh →
    (∀ y ∈ post, ¬(y.set = x.set ∧ y.endT + thNs 12200 ≤ s.nowTh)) →
    exec (.beamSsClr r v) s =
      .next (State.endCycle (({ s.entering r with srs := pre ++ { x with clear := true } :: post } : State).answer r 0 0))) ∧
  (∀ (s t : State) (x : SrsPend) (rest : List SrsPend),
    s.srs = x :: rest → x.endT + thNs 32200 ≤ s.nowTh → ({ s with srs := rest } : State).accumulate x = t →
    exec .ssAccumulate s = .next (State.endCycle (if x.clear = true then t.ssZero x.set else t)))

/-- Swap requests, role changes, deferrals, arms, commits, flips, misses and old banks. R151, R153, R163, R240, R241, R242, R243, R244, R245, R246, R260, R525. -/
def Obligations.BankSwapsTakeEffect : Prop :=
  (∀ (s u : State) (res : Fin 7) (idx : Fin 128) (w : SwapPend),
    s.findSwap res idx = some w → w.deferred = false → w.bound - roleLead w.res ≤ s.nowTh → s.swapDma w.res w.idx = false → s.roleChange w = u →
    exec (.bankSwap res idx) s = .next u.endCycle) ∧
  (∀ (s : State) (res : Fin 7) (idx : Fin 128) (w : SwapPend),
    s.findSwap res idx = some w → w.deferred = false → w.bound - roleLead w.res ≤ s.nowTh → s.swapDma w.res w.idx = true →
    exec (.bankSwap res idx) s = .next (State.endCycle (s.deferSwap w))) ∧
  (∀ (s : State) (res : Fin 7) (idx : Fin 128) (w : SwapPend),
    s.findSwap res idx = some w → w.deferred = true → w.bound - roleLead w.res ≤ s.nowTh →
    exec (.swapDeferRetry res idx) s =
      .next (State.endCycle (if s.swapDma w.res w.idx then s.moveSwap w { w with bound := w.bound + thUs 1 } else s.roleChange w))) ∧
  (∀ (s : State) (res : Fin 7) (h : Fin 256),
    res.val = 1 ∨ res.val = 2 → s.bit (Reg.BEAM_CW_STAT (res.val - 1) h) Fld.BEAM_CW_STAT_OLD_BUSY = true →
    (s.cw (res.val - 1) h).oldUntil ≤ s.nowTh →
    exec (.oldBankRelease res h) s = .next (State.endCycle (s.setFld (Reg.BEAM_CW_STAT (res.val - 1) h) Fld.BEAM_CW_STAT_OLD_BUSY 0))) ∧
  (∀ (s : State) (res : Fin 7) (idx : Fin 256) (o : OldBank),
    res.val ≠ 1 → res.val ≠ 2 → s.olds = [o] → o.res = res.val → o.idx = idx.val → o.until_ ≤ s.nowTh →
    exec (.oldBankRelease res idx) s = .next (State.endCycle (({ s with olds := [] } : State).showOld res idx false))) ∧
  (∀ (s t u : State) (r : Req) (v : Word),
    s.grants r Reg.BEAM_SWAPREQ → getF v Fld.BEAM_SWAPREQ_REQ = 1 → getF v Fld.BEAM_SWAPREQ_RES ∈ [1, 2, 4, 5, 6] →
    (s.entering r).plainWrite Reg.BEAM_SWAPREQ v = t →
    t.requestSwap (getF v Fld.BEAM_SWAPREQ_RES) (getF v Fld.BEAM_SWAPREQ_IDX) (getF v Fld.BEAM_SWAPREQ_BND) (getF v Fld.BEAM_SWAPREQ_CARRIER)
      (t.rd64 Reg.BEAM_SWAPT) t.nowTh none = (0, u) →
    exec (.beamSwapreq r v) s = .next (State.endCycle (u.answer r 0 0))) ∧
  (∀ (s t u : State) (r : Req) (v : Word) (code : Nat),
    s.grants r Reg.BEAM_SWAPREQ → getF v Fld.BEAM_SWAPREQ_REQ = 1 → getF v Fld.BEAM_SWAPREQ_RES ∈ [1, 2, 4, 5, 6] →
    (s.entering r).plainWrite Reg.BEAM_SWAPREQ v = t → code ≠ 0 →
    t.requestSwap (getF v Fld.BEAM_SWAPREQ_RES) (getF v Fld.BEAM_SWAPREQ_IDX) (getF v Fld.BEAM_SWAPREQ_BND) (getF v Fld.BEAM_SWAPREQ_CARRIER)
      (t.rd64 Reg.BEAM_SWAPT) t.nowTh none = (code, u) →
    exec (.beamSwapreq r v) s = .next (State.endCycle (((s.entering r).swapRefused none).answer r code 0))) ∧
  (∀ (s t u : State) (r : Req) (v : Word),
    s.grants r Reg.DPD_SWAPREQ → getF v Fld.DPD_SWAPREQ_REQ = 1 → (s.entering r).plainWrite Reg.DPD_SWAPREQ v = t →
    t.requestSwap 3 (getF v Fld.DPD_SWAPREQ_IDX) (getF v Fld.DPD_SWAPREQ_BND) (getF v Fld.DPD_SWAPREQ_CARRIER)
      (t.rd64 Reg.DPD_SWAPT) t.nowTh none = (0, u) →
    exec (.dpdSwapreq r v) s = .next (State.endCycle (u.answer r 0 0))) ∧
  (∀ (s t u : State) (r : Req) (e : Fin 5) (v : Word),
    s.grants r (Reg.SB_SWAPREQ e) → s.sbShadows e = false → getF v Fld.SB_SWAPREQ_REQ = 1 → (s.entering r).plainWrite (Reg.SB_SWAPREQ e) v = t →
    t.requestSwap 0 e (getF v Fld.SB_SWAPREQ_BND) (getF v Fld.SB_SWAPREQ_CARRIER) (t.rd64 (Reg.SB_SWAPT e)) t.nowTh none = (0, u) →
    exec (.sbSwapreq r e v) s = .next (State.endCycle (u.answer r 0 0))) ∧
  (∀ (s t : State) (r : Req) (v : Word) (dir h : Nat) (f : Th),
    s.grants r Reg.BEAM_CW_ARM → getF v Fld.BEAM_CW_ARM_CANCEL = 0 → dir = getF v Fld.BEAM_CW_ARM_DIR → h = getF v Fld.BEAM_CW_ARM_HANDLE →
    (s.entering r).cwMiss dir h (s.entering r).nowTh = t → t.swapPending (dir + 1) 0 = false →
    getF v Fld.BEAM_CW_ARM_SLOT < t.carSlots (getF v Fld.BEAM_CW_ARM_CARRIER) → getF v Fld.BEAM_CW_ARM_SYMBOL ≤ 13 →
    f = ((s.entering r).nowTh + cwLead dir + 19660800 * 100000 -
      t.airTime (getF v Fld.BEAM_CW_ARM_CARRIER) 0 (getF v Fld.BEAM_CW_ARM_SLOT * 14 + getF v Fld.BEAM_CW_ARM_SYMBOL)) / (19660800 * 100000) →
    exec (.beamCwArm r v) s =
      .next (State.endCycle (((t.wr (Reg.BEAM_CW_STAT dir h)
          (setF (setF (setF (setF (t.rd (Reg.BEAM_CW_STAT dir h)) Fld.BEAM_CW_STAT_ARMED 1) Fld.BEAM_CW_STAT_ACAR (getF v Fld.BEAM_CW_ARM_CARRIER))
            Fld.BEAM_CW_STAT_ASLOT (getF v Fld.BEAM_CW_ARM_SLOT)) Fld.BEAM_CW_STAT_ASYM (getF v Fld.BEAM_CW_ARM_SYMBOL))).setCw dir h
        { t.cw dir h with armB := t.airTime (getF v Fld.BEAM_CW_ARM_CARRIER) f (getF v Fld.BEAM_CW_ARM_SLOT * 14 + getF v Fld.BEAM_CW_ARM_SYMBOL) }).answer
          r 0 0))) ∧
  (∀ (s t : State) (r : Req) (v : Word) (dir h : Nat),
    s.grants r Reg.BEAM_CW_ARM → dir = getF v Fld.BEAM_CW_ARM_DIR → h = getF v Fld.BEAM_CW_ARM_HANDLE →
    (s.entering r).cwMiss dir h (s.entering r).nowTh = t →
    exec (.beamCwCancel r v) s =
      .next (State.endCycle (((t.wr (Reg.BEAM_CW_STAT dir h)
          (setF (setF (t.rd (Reg.BEAM_CW_STAT dir h)) Fld.BEAM_CW_STAT_ARMED 0) Fld.BEAM_CW_STAT_COMMITTED 0)).setCw dir h
        { t.cw dir h with flipB := none }).answer r 0 0))) ∧
  (∀ (s t : State) (r : Req) (v : Word) (dir h : Nat),
    s.grants r Reg.BEAM_CW_COMMIT → dir = getF v Fld.BEAM_CW_COMMIT_DIR → h = getF v Fld.BEAM_CW_COMMIT_HANDLE →
    (s.entering r).cwMiss dir h (s.entering r).nowTh = t → getF (t.rd (Reg.BEAM_CW_STAT dir h)) Fld.BEAM_CW_STAT_COMMITTED = 0 →
    t.swapPending (dir + 1) 0 = false →
    exec (.beamCwCommit r v) s =
      .next (State.endCycle (((t.wr (Reg.BEAM_CW_STAT dir h) (setF (t.rd (Reg.BEAM_CW_STAT dir h)) Fld.BEAM_CW_STAT_COMMITTED 1)).setCw dir h
        { t.cw dir h with
          flipB := some (if getF (t.rd (Reg.BEAM_CW_STAT dir h)) Fld.BEAM_CW_STAT_ARMED = 1 then (t.cw dir h).armB
            else t.boundaryFrom (t.dirEntry dir (1 - getF (t.rd (Reg.BEAM_CW_STAT dir h)) Fld.BEAM_CW_STAT_A) h).carrier false
              ((s.entering r).nowTh + cwLead dir)),
          flipCar := if getF (t.rd (Reg.BEAM_CW_STAT dir h)) Fld.BEAM_CW_STAT_ARMED = 1 then getF (t.rd (Reg.BEAM_CW_STAT dir h)) Fld.BEAM_CW_STAT_ACAR
            else (t.dirEntry dir (1 - getF (t.rd (Reg.BEAM_CW_STAT dir h)) Fld.BEAM_CW_STAT_A) h).carrier }).answer r 0 0))) ∧
  (∀ (s : State) (dir : Fin 2) (h : Fin 256) (b : Th),
    (s.cw dir h).flipB = some b → b - cwLead dir ≤ s.nowTh →
    s.copyDma dir (1 - s.fld (Reg.BEAM_CW_STAT dir h) Fld.BEAM_CW_STAT_A) h = false →
    exec (.cwFlip dir h) s = .next (State.endCycle (s.flipHandle dir h b).restartSync)) ∧
  (∀ (s : State) (dir : Fin 2) (h : Fin 256) (b : Th),
    (s.cw dir h).flipB = some b → b - cwLead dir ≤ s.nowTh →
    s.copyDma dir (1 - s.fld (Reg.BEAM_CW_STAT dir h) Fld.BEAM_CW_STAT_A) h = true →
    exec (.cwFlip dir h) s =
      .next (State.endCycle ((((s.setFld (Reg.BEAM_CW_STAT dir h) Fld.BEAM_CW_STAT_STALE 1).setCw dir h
        { s.cw dir h with
          flipB := some (s.nextBoundary (s.cw dir h).flipCar false (if s.nowTh + cwLead dir ≤ b then b else s.nowTh + cwLead dir - 1)),
          staleB := if s.bit (Reg.BEAM_CW_STAT dir h) Fld.BEAM_CW_STAT_STALE then (s.cw dir h).staleB else b }).count
          Reg.BEAM_CW_DEFER_CNT).raise 0x4035 h))) ∧
  (∀ (s : State) (dir : Fin 2) (h : Fin 256) (w : Word),
    s.rd (Reg.BEAM_CW_STAT dir h) = w → getF w Fld.BEAM_CW_STAT_ARMED = 1 → getF w Fld.BEAM_CW_STAT_COMMITTED = 0 →
    (s.cw dir h).armB - cwLead dir < s.nowTh →
    exec (.cwMiss dir h) s =
      .next (State.endCycle ((((s.wr (Reg.BEAM_CW_STAT dir h) (setF (setF w Fld.BEAM_CW_STAT_ARMED 0) Fld.BEAM_CW_STAT_STALE 1)).setCw dir h
        { s.cw dir h with staleB := if getF w Fld.BEAM_CW_STAT_STALE = 1 then (s.cw dir h).staleB else (s.cw dir h).armB }).count
          Reg.BEAM_CW_MISS_CNT).raiseLim 10 0x4030 h)))

/-- Carrier enables and drains, mutes, and path slice relief: each command's whole effect. R183, R184, R197, R199, R200, R202, R219. -/
def Obligations.CarriersAndSlicesTakeEffect : Prop :=
  (∀ (s : State) (path : Fin 64) (x : Ramp),
    s.ramp path = some x → x.falling = true → rampLevel x s.nowTh = 0 → exec (.hostMuteRampEnd path) s = .next (State.endCycle (s.setMuted path true))) ∧
  (∀ (s : State) (r : Req) (path : Fin 64) (v : Word),
    s.grants r (Reg.TXDP_MUTE path) →
    exec (.muteSourceClear r path v) s =
      .next (State.endCycle (([Fld.TXDP_MUTE_VSWR, Fld.TXDP_MUTE_DIE, Fld.TXDP_MUTE_SAFE, Fld.TXDP_MUTE_SLICE].foldl (fun (t : State) f =>
        if getF v f = 1 ∧ !t.muteCause path f then t.hwUnmute path f else t) (s.entering r)).answer r 0 0))) ∧
  (∀ (s t : State) (r : Req) (u : Fin 2) (v : Word) (new : Nat),
    s.grants r (Reg.TXDP_SLICE_RELIEF u) → getF v Fld.TXDP_SLICE_RELIEF_RETIRE = 0 → new = getF v Fld.TXDP_SLICE_RELIEF_TARGET → new < 64 →
    s.bit (Reg.TXDP_SLICE_RELIEF u) Fld.TXDP_SLICE_RELIEF_TAKEN = false → s.sliceSync u = none →
    s.bit (Reg.TXDP_SLICE_RELIEF u) Fld.TXDP_SLICE_RELIEF_SYNCED = false → s.bit (Reg.TXDP_SLICE_RELIEF u) Fld.TXDP_SLICE_RELIEF_BUSY = false →
    s.sliceBad (s.sliceOf new) = false → (s.entering r).plainWrite (Reg.TXDP_SLICE_RELIEF u) (setF v Fld.TXDP_SLICE_RELIEF_RETIRE 0) = t →
    exec (.sliceReliefTarget r u v) s =
      .next (State.endCycle (((t.wr (Reg.TXDP_SLICE_RELIEF u) (setF (setF (t.rd (Reg.TXDP_SLICE_RELIEF u)) Fld.TXDP_SLICE_RELIEF_SYNCED 0)
        Fld.TXDP_SLICE_RELIEF_BUSY 1)).setSliceSync u (some ⟨s.nowTh, s.nowTh, false⟩)).answer r 0 0))) ∧
  (∀ (s : State) (r : Req) (u : Fin 2) (v : Word),
    s.grants r (Reg.TXDP_SLICE_RELIEF u) → s.bit (Reg.TXDP_SLICE_RELIEF u) Fld.TXDP_SLICE_RELIEF_SYNCED = true →
    getF v Fld.TXDP_SLICE_RELIEF_TARGET = s.fld (Reg.TXDP_SLICE_RELIEF u) Fld.TXDP_SLICE_RELIEF_TARGET →
    exec (.sliceRetire r u v) s =
      .next (State.endCycle ((((s.entering r).plainWrite (Reg.TXDP_SLICE_RELIEF u) (setF v Fld.TXDP_SLICE_RELIEF_RETIRE 1)).takeOver u
        (s.fld (Reg.TXDP_SLICE_RELIEF u) Fld.TXDP_SLICE_RELIEF_TARGET) (s.fld (Reg.TXDP_SLICE_RELIEF u) Fld.TXDP_SLICE_RELIEF_SPARE)).answer r 0 0))) ∧
  (∀ (s : State) (u : Fin 2) (x : SliceSync) (w : Word),
    s.sliceSync u = some x → x.faulted = false → s.rd (Reg.TXDP_SLICE_RELIEF u) = w → getF w Fld.TXDP_SLICE_RELIEF_SYNCED = 0 →
    (List.range 8).any s.carEnabled = true → s.twoBoundaries x.bounds = true → x.at_ + syncRun ≤ s.nowTh →
    exec (.sliceSynced u false) s =
      .next (State.endCycle ((s.wr (Reg.TXDP_SLICE_RELIEF u) (setF (setF w Fld.TXDP_SLICE_RELIEF_SYNCED 1) Fld.TXDP_SLICE_RELIEF_BUSY 0)).raise 0x4014
        (getF w Fld.TXDP_SLICE_RELIEF_TARGET)))) ∧
  (∀ (s : State) (u : Fin 2) (x : SliceSync) (w : Word),
    s.sliceSync u = some x → x.faulted = false → s.rd (Reg.TXDP_SLICE_RELIEF u) = w → getF w Fld.TXDP_SLICE_RELIEF_SYNCED = 0 →
    exec (.sliceSynced u true) s = .next (State.endCycle (s.setSliceSync u (some { x with at_ := s.nowTh })))) ∧
  (∀ (s : State) (u : Fin 2) (x : SliceSync) (w : Word),
    s.sliceSync u = some x → x.faulted = false → s.rd (Reg.TXDP_SLICE_RELIEF u) = w → getF w Fld.TXDP_SLICE_RELIEF_SYNCED = 1 →
    exec (.sliceSynced u true) s =
      .next (State.endCycle (((s.wr (Reg.TXDP_SLICE_RELIEF u)
        (setF (setF (setF w Fld.TXDP_SLICE_RELIEF_SYNCED 0) Fld.TXDP_SLICE_RELIEF_BUSY 0) Fld.TXDP_SLICE_RELIEF_MISMATCH 1)).setSliceSync u none).raise
        0x4016 (getF w Fld.TXDP_SLICE_RELIEF_TARGET)))) ∧
  (∀ (s : State) (slice : Fin 66) (p : Nat) (u : Nat),
    s.sliceBad slice = false → s.clkOn Fld.SYS_CLK_STATUS_FCLK = true → s.pathOf slice = some p →
    [0, 1].find? (fun u => s.bit (Reg.TXDP_SLICE_RELIEF u) Fld.TXDP_SLICE_RELIEF_SYNCED &&
      s.fld (Reg.TXDP_SLICE_RELIEF u) Fld.TXDP_SLICE_RELIEF_TARGET == p) = some u →
    exec (.sliceFault slice) s = .next (State.endCycle (s.takeOver u p (s.fld (Reg.TXDP_SLICE_RELIEF u) Fld.TXDP_SLICE_RELIEF_SPARE)))) ∧
  (∀ (s t : State) (slice : Fin 66) (p : Nat),
    s.sliceBad slice = false → s.clkOn Fld.SYS_CLK_STATUS_FCLK = true → s.pathOf slice = some p →
    [0, 1].find? (fun u => s.bit (Reg.TXDP_SLICE_RELIEF u) Fld.TXDP_SLICE_RELIEF_SYNCED &&
      s.fld (Reg.TXDP_SLICE_RELIEF u) Fld.TXDP_SLICE_RELIEF_TARGET == p) = none →
    ((s.markSlice slice).setFld (Reg.RXDP_OVR p) Fld.RXDP_OVR_SLICE 1).setZero p 3 true (s.nowTh - thNs 1100) = t →
    (∀ u ∈ [0, 1], t.fld (Reg.TXDP_SLICE_RELIEF u) Fld.TXDP_SLICE_RELIEF_TARGET ≠ p) →
    exec (.sliceFault slice) s = .next (State.endCycle ((t.hwMute p Fld.TXDP_MUTE_SLICE).raise 0x4013 p))) ∧
  (∀ (s : State) (u : Fin 2) (x : SliceSync) (p : Nat),
    s.sliceSync u = some x → x.faulted = true → s.twoBoundaries x.at_ = true →
    p = s.fld (Reg.TXDP_SLICE_RELIEF u) Fld.TXDP_SLICE_RELIEF_TARGET →
    exec (.sliceTaken u) s =
      .next (State.endCycle (((((s.wr (Reg.TXDP_SLICE_RELIEF u) (setF (setF (setF (s.rd (Reg.TXDP_SLICE_RELIEF u)) Fld.TXDP_SLICE_RELIEF_TAKEN 1)
        Fld.TXDP_SLICE_RELIEF_BUSY 0) Fld.TXDP_SLICE_RELIEF_SPARE 0x7F)).setSliceSync u none).setFld (Reg.RXDP_OVR p) Fld.RXDP_OVR_SLICE 0).setZero
          p 3 false (s.nowTh - thNs 1100)).raise 0x4015 p))) ∧
  (∀ (s t : State) (r : Req) (c : Fin 8) (v new : Word),
    s.grants r (Reg.CAR_CTL c) → (s.entering r).plainValue (Reg.CAR_CTL c) v = new → s.carBusy c = false → s.carValid c = true →
    (s.rd (Reg.CAR_CTL c)).toNat % 4 = 0 → new.toNat % 4 ≠ 0 →
    (s.entering r).symWrite2 (Reg.CAR_CTL c) new s.nowTh = t →
    exec (.carrierEnable r c v) s = .next (State.endCycle ((t.toffApply s.nowTh).answer r 0 0))) ∧
  (∀ (s : State) (c : Nat),
    s.carEnabled c = true → s.carBusy c = false →
    s.carRise c = (s.setFld (Reg.CAR_STATUS c) Fld.CAR_STATUS_BUSY 1).restartSync) ∧
  (∀ (s t : State) (r : Req) (c : Fin 8) (v new : Word),
    s.grants r (Reg.CAR_CTL c) → (s.entering r).plainValue (Reg.CAR_CTL c) v = new → s.carBusy c = false → s.carValid c = false →
    (s.rd (Reg.CAR_CTL c)).toNat % 4 = 0 → new.toNat % 4 ≠ 0 →
    (s.entering r).symWrite2 (Reg.CAR_CTL c) (new &&& ~~~ BitVec.ofNat 32 (Nat.land (new.toNat % 4) 3)) s.nowTh = t →
    exec (.carrierEnable r c v) s =
      .next (State.endCycle (((t.flag (Reg.CAR_STATUS c) Fld.CAR_STATUS_CFG_ERR).raise 0x4012 c).answer r 0 0))) ∧
  (∀ (s : State) (c : Fin 8),
    s.carBusy c = true → s.carEnabled c = false → (s.car c).dlEnd ≤ s.nowTh → (s.car c).ulEnd ≤ s.nowTh →
    s.ulq.any (fun u => u.car == c.val && (u.type == 2 || u.type == 4)) = false →
    s.ulJobs.any (fun j => j.car == c.val && (j.type == 2 || j.type == 4)) = false →
    exec (.carrierDrained c) s = .next (State.endCycle ((s.setFld (Reg.CAR_STATUS c) Fld.CAR_STATUS_BUSY 0).restartSync)))

/-- PRACH occasions, the failover boundary, capture grants and ends, and VSWR windows. R100, R101, R102, R222, R225, R266, R267, R268, R272, R280. -/
def Obligations.RandomAccessFailoverAndObservationTakeEffect : Prop :=
  (∀ (s t : State) (r : Req) (j : Fin 4) (v : Word),
    s.grants r (Reg.RXDP_PRACH_CTL j) → s.bit (Reg.RXDP_PRACH_CTL j) Fld.RXDP_PRACH_CTL_BUSY = false →
    (s.entering r).plainWrite (Reg.RXDP_PRACH_CTL j) (setF v Fld.RXDP_PRACH_CTL_EN 1) = t →
    s.bit (Reg.RXDP_PRACH_CTL j) Fld.RXDP_PRACH_CTL_EN = false → t.prachValid j (t.rd (Reg.RXDP_PRACH_CTL j)) = true →
    exec (.prachEnable r j v) s = .next (State.endCycle ((t.setFld (Reg.RXDP_PRACH_CTL j) Fld.RXDP_PRACH_CTL_BUSY 1).answer r 0 0))) ∧
  (∀ (s t : State) (r : Req) (j : Fin 4) (v : Word),
    s.grants r (Reg.RXDP_PRACH_CTL j) → s.bit (Reg.RXDP_PRACH_CTL j) Fld.RXDP_PRACH_CTL_BUSY = false →
    (s.entering r).plainWrite (Reg.RXDP_PRACH_CTL j) (setF v Fld.RXDP_PRACH_CTL_EN 1) = t →
    s.bit (Reg.RXDP_PRACH_CTL j) Fld.RXDP_PRACH_CTL_EN = false → t.prachValid j (t.rd (Reg.RXDP_PRACH_CTL j)) = false →
    exec (.prachEnable r j v) s =
      .next (State.endCycle ((((t.setFld (Reg.RXDP_PRACH_CTL j) Fld.RXDP_PRACH_CTL_EN 0).flag (Reg.RXDP_PRACH_CTL j) Fld.RXDP_PRACH_CTL_CFG_ERR).raise 0x4022 j).answer
        r 0 0))) ∧
  (∀ (s s' : State) (j : Fin 4) (inp : RxIn) (x : Section) (w : Word) (cp len reps rep : Nat),
    { s with sections := s.sections.filter (fun y => !(y.standby && prachOf j y && decide ((s.occasionSpan y).2 ≤ s.nowTh))) } = s' →
    s'.firstOccasion j = some x → s.rd (Reg.RXDP_PRACH_CTL j) = w → rep = kvGet (fun _ => 0) s.prachReps j →
    prachTiming (getF w Fld.RXDP_PRACH_CTL_FMT) (getF w Fld.RXDP_PRACH_CTL_MU) (symStart (s.carMu (SecF.carrier x.raw)) x.first) = (cp, len, reps) →
    s.secAir x + ((cp + (rep + 1) * len : Nat) : Int) * 100000 ≤ s.nowTh →
    ¬(getF (s.symRx (Reg.CAR_CTL (SecF.carrier x.raw)) (s.secAir x)) Fld.CAR_CTL_UL_EN = 1 ∧
      getF (s.symRx (Reg.CAR_STATUS (SecF.carrier x.raw)) (s.secAir x)) Fld.CAR_STATUS_TOFF = 0) →
    exec (.prachOccasion j inp) s =
      .next (State.endCycle (if reps ≤ rep + 1 then
          { s' with sections := s'.sections.filter (fun y => y != x), prachReps := kvSet (fun _ => 0) s.prachReps j 0 }
        else { s' with prachReps := kvSet (fun _ => 0) s.prachReps j (rep + 1) }))) ∧
  (∀ (s s' : State) (j : Fin 4) (inp : RxIn) (x : Section) (w : Word) (cp len reps rep : Nat),
    { s with sections := s.sections.filter (fun y => !(y.standby && prachOf j y && decide ((s.occasionSpan y).2 ≤ s.nowTh))) } = s' →
    s'.firstOccasion j = some x → s.rd (Reg.RXDP_PRACH_CTL j) = w → rep = kvGet (fun _ => 0) s.prachReps j →
    prachTiming (getF w Fld.RXDP_PRACH_CTL_FMT) (getF w Fld.RXDP_PRACH_CTL_MU) (symStart (s.carMu (SecF.carrier x.raw)) x.first) = (cp, len, reps) →
    s.secAir x + ((cp + (rep + 1) * len : Nat) : Int) * 100000 ≤ s.nowTh →
    getF (s.symRx (Reg.CAR_CTL (SecF.carrier x.raw)) (s.secAir x)) Fld.CAR_CTL_UL_EN = 1 →
    getF (s.symRx (Reg.CAR_STATUS (SecF.carrier x.raw)) (s.secAir x)) Fld.CAR_STATUS_TOFF = 0 →
    ∃ t : State, exec (.prachOccasion j inp) s = .next t.endCycle ∧
      (⟨j, ulTspec (SecF.carrier x.raw) x.first (SecF.secid x.raw)⟩ : Occasion) ∈ t.occasions) ∧
  (∀ (s : State) (j : Fin 4),
    s.bit (Reg.RXDP_PRACH_CTL j) Fld.RXDP_PRACH_CTL_BUSY = true → s.bit (Reg.RXDP_PRACH_CTL j) Fld.RXDP_PRACH_CTL_EN = false → s.prachLive j = false →
    exec (.prachDrained j) s =
      .next (State.endCycle { s.setFld (Reg.RXDP_PRACH_CTL j) Fld.RXDP_PRACH_CTL_BUSY 0 with occasions := s.occasions.filter (fun o => o.cfg != j.val) })) ∧
  (∀ (s t : State) (c : Fin 8) (b : Th),
    s.nextBoundary c false (s.thAt s.dh.applyAt) = b → s.dh.applyCars.testBit c = true → b ≤ s.nowTh → s.setServe c (s.dhCode c) b = t →
    exec (.dhModeApply c) s =
      .next (State.endCycle (({ t with dh := { t.dh with applyCars := setBitN t.dh.applyCars c false } } : State).updateRole))) ∧
  (∀ (s t u : State) (c : Fin 8) (f : Failover) (b : Th) (v new : Nat),
    s.dh.failover = some f → s.switchBoundary f c = b → f.cars.testBit c = true → b ≤ s.nowTh → s.dh.serve.getD c 2 = v →
    new = (if f.to_ = 2 then 1 - s.servePort c else f.to_) →
    s.bit Reg.LINK_DH_CTL Fld.LINK_DH_CTL_TSEL_FOLLOW = false →
    s.setServe c (if v = 4 ∨ v = 5 then 4 + new else if s.dhMode = 0 then 6 + new else new) b = t →
    { t with
      dh := { t.dh with failover := if setBitN f.cars c false = 0 then none else some { f with cars := setBitN f.cars c false, raised := true } }
      sections := s.sections.flatMap (s.failSection c new b)
      dl := s.dl.flatMap (s.failData c new b) } = u →
    exec (.failover c) s =
      .next (State.endCycle (State.updateRole (
        let u' := if s.dhMode = 2 then u.setFld Reg.LINK_DH_CARMAP ⟨c.val, 1⟩ new else u.setFld Reg.LINK_DH_CTL Fld.LINK_DH_CTL_ACTIVE_B new
        if f.raised then u' else u'.raise 0x3014 new)))) ∧
  (∀ (s s' t : State) (r : Req) (path : Fin 64) (v : Word) (ticket : Nat),
    s.grants r (Reg.OBS_CAP_REQ path) → getF v Fld.OBS_CAP_REQ_GO = 1 → s.entering r = s' →
    s'.capRequest ⟨path, getF v Fld.OBS_CAP_REQ_MIRROR == 1, getF v Fld.OBS_CAP_REQ_NBLK, s'.fld (Reg.OBS_CAP_DEST path) Fld.OBS_CAP_DEST_ADDR,
      false, 0⟩ = (some ticket, t) →
    exec (.obsCapReq r path v) s = .next (State.endCycle (t.answer r 0 0))) ∧
  (∀ (s s' t : State) (r : Req) (path : Fin 64) (v : Word),
    s.grants r (Reg.OBS_CAP_REQ path) → getF v Fld.OBS_CAP_REQ_GO = 1 → s.entering r = s' →
    s'.capRequest ⟨path, getF v Fld.OBS_CAP_REQ_MIRROR == 1, getF v Fld.OBS_CAP_REQ_NBLK, s'.fld (Reg.OBS_CAP_DEST path) Fld.OBS_CAP_DEST_ADDR,
      false, 0⟩ = (none, t) →
    exec (.obsCapReq r path v) s = .next (State.endCycle (s'.answer r 7 0))) ∧
  (∀ (s : State) (a : Fin 72) (q : CapReq) (rest : List CapReq),
    (s.cage a).cur = none → (s.cage a).queue = q :: rest → exec (.captureGrant a) s = .next (State.endCycle (s.capGrant a q rest false))) ∧
  (∀ (s : State) (a : Fin 72),
    (s.cage a).cur.isSome = true → (s.cage a).done = true → (s.cage a).end_ ≤ s.tb →
    exec (.captureGrantEnd a) s = .next (State.endCycle (s.setCage a { s.cage a with cur := none }))) ∧
  (∀ (s : State) (a : Fin 72) (q : CapReq) (y : List (BitVec 32)) (ovr : Bool),
    (s.cage a).cur = some q → q.assay = true → (s.cage a).done = false → (s.cage a).sampleAt + (64 * q.nblk * 2 + 8) / 9 ≤ s.tb →
    exec (.captureDone a y ovr) s =
      .next (State.endCycle (((s.setCage a { s.cage a with done := true }).showGrant q false).capComplete q 0))) ∧
  (∀ (s t : State) (a : Fin 72) (q : CapReq) (y : List (BitVec 32)) (ovr : Bool) (yv : Nat → Int × Int) (pw : Nat),
    (s.cage a).cur = some q → q.assay = false → (s.cage a).done = false → (s.cage a).sampleAt + (64 * q.nblk * 2 + 8) / 9 ≤ s.tb →
    yv = s.capSeen (s.cage a) q (fun i => iq (y.getD i 0)) → pw = capPower yv (64 * q.nblk) →
    ((s.setCage a { s.cage a with done := true }).showGrant q false).stBytes (sharedMem + q.dest + 64) (s.capBlocks (s.cage a) q q.nblk yv) = t →
    exec (.captureDone a y ovr) s =
      .next (State.endCycle (if pw < s.fld (Reg.DPD_PMIN q.path) Fld.DPD_PMIN_PMIN then
          ((t.capHeader (s.cage a) q 0 pw (64 * q.nblk) true ovr).capComplete q 0).capLow q.path
        else ((t.capHeader (s.cage a) q 0 pw (64 * q.nblk) false ovr).capComplete q 0).setFld (Reg.DPD_STATUS q.path) Fld.DPD_STATUS_FROZEN 0))) ∧
  (∀ (s : State) (r : Req) (path : Fin 64) (v : Word),
    s.grants r (Reg.OBS_CAP_CANCEL path) →
    exec (.obsCapCancel r path v) s =
      .next (State.endCycle ((if getF v Fld.OBS_CAP_CANCEL_CANCEL = 1 then (s.entering r).capCancel path (getF v Fld.OBS_CAP_CANCEL_MIRROR == 1)
        else s.entering r).answer r 0 0))) ∧
  (∀ (s : State) (path a : Nat) (mirror : Bool) (q : CapReq),
    a = capArb path mirror → (s.cage a).queue.find? (fun x => !x.assay && x.path == path) = some q →
    s.capCancel path mirror =
      (s.setCage a { s.cage a with queue := (s.cage a).queue.filter (fun x => !(!x.assay && x.path == path)) }).showPend q false) ∧
  (∀ (s u t : State) (path : Fin 64) (seen pred ratio : Nat) (cfg : Word),
    s.power.convOn = true → s.power.dieLost.testBit (path.val / 16) = false → kvGet (fun _ => 0) s.vswrAt path < s.tick / 256 * 256 →
    { s with vswrAt := kvSet (fun _ => 0) s.vswrAt path (s.tick / 256 * 256) } = u →
    pred = (kvGet (fun _ => {}) s.tx path).winPow → pred ≠ 0 → s.fld Reg.OBS_VSWR_PMIN Fld.OBS_VSWR_PMIN_PMIN ≤ pred →
    s.rd (Reg.OBS_VSWR_CFG path) = cfg → getF cfg Fld.OBS_VSWR_CFG_EN = 1 → ratio = Nat.min 65535 (seen * 4096 / pred) →
    ratio * 64 < s.fld (Reg.OBS_VSWR_REF path) Fld.OBS_VSWR_REF_REF * getF cfg Fld.OBS_VSWR_CFG_LO ∨
      s.fld (Reg.OBS_VSWR_REF path) Fld.OBS_VSWR_REF_REF * getF cfg Fld.OBS_VSWR_CFG_HI < ratio * 64 →
    Nat.max 1 (Nat.min 4 (getF cfg Fld.OBS_VSWR_CFG_NWIN)) ≤ kvGet (fun _ => 0) s.vswrRun path + 1 →
    u.setFld (Reg.OBS_VSWR_STAT path) Fld.OBS_VSWR_STAT_RATIO ratio = t →
    exec (.vswrWindow path seen) s =
      .next (State.endCycle (((({ t with vswrRun := kvSet (fun _ => 0) t.vswrRun path 0 } : State).flag (Reg.OBS_VSWR_STAT path) Fld.OBS_VSWR_STAT_ALARM).hwMute
        path Fld.TXDP_MUTE_VSWR).raise 0x4040 path)))

/-- Sub-ADC and DAC cell rotation and retirement, converter alignment, loss of a die. R275, R277, R279, R281, R283, R284, R285, R286. -/
def Obligations.ConvertersAndTheirRepairsTakeEffect : Prop :=
  (∀ (s : State) (u : Fin 72),
    s.adcRotates u = true → s.adcUsed u = false → (s.adc u).rotAt = none → (s.adc u).since + s.dwell ≤ s.tick + rotRun →
    exec (.adcRotationStart u) s = .next (State.endCycle (s.setAdc u { s.adc u with rotAt := some s.tick }))) ∧
  (∀ (s : State) (u : Fin 72) (t0 : Nat) (out : Nat) (rest : List Nat),
    (s.adc u).rotAt = some t0 → t0 + rotRun ≤ s.tick → (s.adc u).since + s.dwell ≤ s.tick → s.adcRotates u = true →
    s.adcOrder u = out :: rest →
    exec (.adcRotationSwap u true) s =
      .next (State.endCycle (((s.adcReplace u out (s.fld (adcStat u) Fld.CONV_RXADC_STAT_CAL)).setFld (adcStat u) Fld.CONV_RXADC_STAT_CAL out).setAdc u
        ⟨rest ++ [s.fld (adcStat u) Fld.CONV_RXADC_STAT_CAL], s.tick, none, 0⟩))) ∧
  (∀ (s : State) (u : Fin 72) (t0 : Nat),
    (s.adc u).rotAt = some t0 → t0 + rotRun ≤ s.tick → (s.adc u).since + s.dwell ≤ s.tick → s.adcRotates u = true →
    exec (.adcRotationSwap u false) s =
      .next (State.endCycle (if (s.adc u).strikes = 0 then s.setAdc u { s.adc u with rotAt := none, since := s.tick, strikes := 1 }
        else s.adcRetire u (s.fld (adcStat u) Fld.CONV_RXADC_STAT_CAL)))) ∧
  (∀ (s : State) (r : Req) (u : Fin 72) (v : Word),
    s.grants r (adcCmd u) → getF v Fld.CONV_RXADC_CMD_RETIRE = 1 → getF v Fld.CONV_RXADC_CMD_SUB ≤ adcSlots u → s.adcUsed u = false →
    exec (.subadcRetire r u v) s = .next (State.endCycle (((s.entering r).adcRetire u (getF v Fld.CONV_RXADC_CMD_SUB)).answer r 0 0))) ∧
  (∀ (s : State) (r : Req) (u : Fin 72) (v : Word),
    s.grants r (adcCmd u) → getF v Fld.CONV_RXADC_CMD_RETIRE = 1 → s.adcUsed u = true →
    exec (.subadcRetire r u v) s = .next (State.endCycle ((s.entering r).answer r 7 0))) ∧
  (∀ (s : State) (path : Fin 64) (pos : Nat) (rest : List Nat),
    s.dieOn (path.val / 16) = true → s.sb.asleepTx.testBit path = false → s.fld (Reg.CONV_DAC_STAT path) Fld.CONV_DAC_STAT_SPARES ≠ 0 → (s.dac path).since + s.dwell ≤ s.tick →
    (s.dac path).ages = pos :: rest →
    exec (.dacCellRotation path) s =
      .next (State.endCycle ((s.setFld (Reg.CONV_DAC_STAT path) Fld.CONV_DAC_STAT_CAL ((s.dac path).cells.getD pos 0)).setDac path
        { s.dac path with
          map := (s.dac path).cells.set pos (s.fld (Reg.CONV_DAC_STAT path) Fld.CONV_DAC_STAT_CAL), order := rest ++ [pos], since := s.tick }))) ∧
  (∀ (s : State) (r : Req) (path : Fin 64) (v : Word),
    s.grants r (Reg.CONV_DAC_CMD path) → getF v Fld.CONV_DAC_CMD_RETIRE = 1 → getF v Fld.CONV_DAC_CMD_CELL ≤ 66 →
    s.cellRetired path (getF v Fld.CONV_DAC_CMD_CELL) = false →
    exec (.dacCellRetire r path v) s = .next (State.endCycle (((s.entering r).cellRetire path (some (getF v Fld.CONV_DAC_CMD_CELL))).answer r 0 0))) ∧
  (∀ (s : State) (r : Req) (v : Word),
    s.grants r Reg.CONV_ALIGN_CTL → getF v Fld.CONV_ALIGN_CTL_SOFT = 1 → s.pstate = 5 ∨ s.pstate = 6 →
    exec (.softAlign r v) s = .next (State.endCycle ((s.entering r).startAlign.answer r 0 0))) ∧
  (∀ s : State, s.bit Reg.TIME_ALIGN_CTL Fld.TIME_ALIGN_CTL_ARM = true → s.tclk = true →
    exec (.alignCapture false) s = .next (State.endCycle { s with time := { s.time with alignLow := true } })) ∧
  (∀ s t : State, s.bit Reg.TIME_ALIGN_CTL Fld.TIME_ALIGN_CTL_ARM = true → s.tclk = true → s.time.alignLow = true →
    (s.wr Reg.TIME_ALIGN_CTL (setF (setF (s.rd Reg.TIME_ALIGN_CTL) Fld.TIME_ALIGN_CTL_ARM 0) Fld.TIME_ALIGN_CTL_CAPTURED 1)).wr64 Reg.TIME_ALIGN_CAP s.tb = t →
    exec (.alignCapture true) s =
      .next (State.endCycle (let u := (({ t with time := { t.time with alignLow := false } } : State).evSource 0x61).raise 0xC005 0xFF
        if s.pstate = 5 ∨ s.pstate = 6 then u.startAlign else u))) ∧
  (∀ (s t : State) (err : BitVec 8) (t0 : Nat),
    s.align.at_ = some t0 → t0 + 1024 ≤ s.tick →
    ({ s with align := { s.align with
      at_ := if s.bit Reg.CONV_ALIGN_STAT Fld.CONV_ALIGN_STAT_PEND then some (s.tick + 4) else none } } : State).setFld
        Reg.CONV_ALIGN_STAT Fld.CONV_ALIGN_STAT_PEND 0 = t →
    s.pstate = 5 → exec (.converterAlignment err) s = .next t.alignReset.endCycle) ∧
  (∀ (s t : State) (err : BitVec 8) (t0 : Nat),
    s.align.at_ = some t0 → t0 + 1024 ≤ s.tick →
    ({ s with align := { s.align with
      at_ := if s.bit Reg.CONV_ALIGN_STAT Fld.CONV_ALIGN_STAT_PEND then some (s.tick + 4) else none } } : State).setFld
        Reg.CONV_ALIGN_STAT Fld.CONV_ALIGN_STAT_PEND 0 = t →
    s.pstate = 6 → err ≠ 0 →
    exec (.converterAlignment err) s =
      .next (State.endCycle ((t.wr Reg.CONV_ALIGN_STAT (setF (setF (t.rd Reg.CONV_ALIGN_STAT) Fld.CONV_ALIGN_STAT_CHECK 1) Fld.CONV_ALIGN_STAT_ERR err.toNat)).raise
        0x4051 0xFF))) ∧
  (∀ (s t : State) (die : Fin 4), s.dieOn die = true →
    (List.range 16).foldl (fun (u : State) i =>
        ((u.hwMute (16 * die.val + i) Fld.TXDP_MUTE_DIE).flag (Reg.RXDP_OVR (16 * die.val + i)) Fld.RXDP_OVR_DIE).setZero (16 * die.val + i) 4 true u.nowTh)
      { s with power := { s.power with dieLost := setBitN s.power.dieLost die true } } = t →
    exec (.dieLinkLost die) s = .next (State.endCycle ((t.cageDieOff die).raise 0x6001 die)))

/-- Auxiliary DACs, calibration results and blobs, monitor entries, sensor updates and safety: each command's effect. R382, R385, R394, R395, R401, R405, R410, R411, R413, R434, R437, R438. -/
def Obligations.CalibrationMonitorAndSensorsTakeEffect : Prop :=
  (∀ (s t : State) (r : Req) (n : Fin 72) (v : Word),
    s.grants r (Reg.AUX_DAC n) → (s.entering r).plainWrite (Reg.AUX_DAC n) v = t → t.bit Reg.AUX_CTL Fld.AUX_CTL_PINCLR = false →
    getF v Fld.AUX_DAC_RANGE = (t.auxCh n).rng →
    exec (.auxDacWrite r n v) s =
      .next (State.endCycle ((((t.setFld (Reg.AUX_STAT n) Fld.AUX_STAT_CLEARED 0).setAux n
        (if t.auxCleared n then { t.auxCh n with openAt := t.tick } else t.auxCh n)).auxMove n (getF v Fld.AUX_DAC_CODE)).answer r 0 0))) ∧
  (∀ (s t t1 : State) (r : Req) (n : Fin 72) (v : Word) (x : AuxCh),
    s.grants r (Reg.AUX_DAC n) → (s.entering r).plainWrite (Reg.AUX_DAC n) v = t → t.bit Reg.AUX_CTL Fld.AUX_CTL_PINCLR = false →
    getF v Fld.AUX_DAC_RANGE ≠ (t.auxCh n).rng → x = (if t.auxCleared n then { t.auxCh n with openAt := t.tick } else t.auxCh n) →
    (t.setFld (Reg.AUX_STAT n) Fld.AUX_STAT_CLEARED 0).setAux n x = t1 →
    exec (.auxDacWrite r n v) s =
      .next (State.endCycle (((t1.setAux n { x with
        out := t1.auxDrive n (t1.auxClrCode n), rng := getF v Fld.AUX_DAC_RANGE, next := t1.auxDrive n (getF v Fld.AUX_DAC_CODE), holdAt := none,
        rangeAt := some t1.tick }).setHold n true).answer r 0 0))) ∧
  (∀ (s t : State) (r : Req) (n : Fin 72) (v : Word),
    s.grants r (Reg.AUX_DAC n) → (s.entering r).plainWrite (Reg.AUX_DAC n) v = t → t.bit Reg.AUX_CTL Fld.AUX_CTL_PINCLR = true →
    exec (.auxDacWrite r n v) s = .next (State.endCycle (t.answer r 0 0))) ∧
  (∀ (s : State) (n : Fin 72) (t : Nat), (s.auxCh n).holdAt = some t → t + 197 ≤ s.tick →
    exec (.auxHoldEnd n) s = .next (State.endCycle ((s.setAux n { s.auxCh n with out := (s.auxCh n).next, holdAt := none }).setHold n false))) ∧
  (∀ (s : State) (n : Fin 72) (t : Nat), (s.auxCh n).rangeAt = some t → t + usTicks 5 ≤ s.tick →
    exec (.auxRangeChangeEnd n) s = .next (State.endCycle ((s.setAux n { s.auxCh n with out := (s.auxCh n).next, rangeAt := none }).setHold n false))) ∧
  (∀ (s t : State) (r : Req) (n : Fin 72) (v : Word),
    s.grants r (Reg.AUX_CLRCODE n) → (s.entering r).plainWrite (Reg.AUX_CLRCODE n) v = t →
    exec (.auxClrcodeWrite r n v) s = .next (State.endCycle ((if t.auxCleared n then t.auxMove n (t.auxClrCode n) else t).answer r 0 0))) ∧
  (∀ s : State, s.bit Reg.AUX_CTL Fld.AUX_CTL_PINCLR = false → s.held = false →
    exec .auxClrNFall s =
      .next (State.endCycle ((s.setFld Reg.AUX_CTL Fld.AUX_CTL_PINCLR 1).auxClearAll.raise 0xB012 0xFF))) ∧
  (∀ s : State, exec .auxClrNRise s = .next (State.endCycle (s.setFld Reg.AUX_CTL Fld.AUX_CTL_PINCLR 0))) ∧
  (∀ (s : State) (r : Req) (v : Word), s.grants r Reg.AUX_CTL → getF v Fld.AUX_CTL_CLRALL = 1 →
    exec (.clrall r v) s = .next (State.endCycle ((s.entering r).auxClearAll.answer r 0 0))) ∧
  (∀ (s : State) (n : Fin 72), s.dieOn (auxDie n) = true → (s.auxCh n).shortAt + usTicks 10 ≤ s.tick →
    exec (.auxShort n) s =
      .next (State.endCycle (((s.setAux n { s.auxCh n with shortAt := s.tick }).flag (Reg.AUX_FAULT n) Fld.AUX_FAULT_SHORT).raiseLim 10 0xB010 n))) ∧
  (∀ (s : State) (n : Fin 72), s.dieOn (auxDie n) = true → s.fld (Reg.AUX_LOAD n) Fld.AUX_LOAD_OPENMIN ≠ 0 → s.auxCleared n = false →
    (s.auxCh n).openAt + usTicks 100 ≤ s.tick →
    exec (.auxOpen n) s =
      .next (State.endCycle (((s.setAux n { s.auxCh n with openAt := s.tick }).flag (Reg.AUX_FAULT n) Fld.AUX_FAULT_OPEN).raiseLim 10 0xB011 n))) ∧
  (∀ (s t : State) (item : Fin 9) (unit : Fin 72) (elem : Fin 128) (q : List Int) (power val nblk : Nat),
    s.assayRuns item = true → unit.val < (assayUnits item).1 → s.assayElem item unit elem = true → elem.val ≠ 127 → item.val ≠ 6 →
    s.assayFrom item unit + s.assayPeriod item ≤ s.tick → s.assayNotRun item unit power (kvGet (fun _ => 0) s.assay.caps unit) = false →
    s.assay.op = none → s.assayEnds item unit = t →
    exec (.assayResult item unit elem (some q) power val nblk) s =
      .next (State.endCycle (if assayPlausible item q then t.assayPassed item unit elem val else t.assayFailed item unit elem))) ∧
  (∀ (s : State) (unit : Fin 72) (elem : Fin 128) (meas : Option (List Int)) (power val nblk : Nat),
    s.assayRuns 6 = true → unit.val < (assayUnits 6).1 → s.assayElem 6 unit elem = true → s.assayFrom 6 unit + s.assayPeriod 6 ≤ s.tick →
    kvGet (fun _ => 0) s.assay.caps unit = 0 →
    exec (.assayResult 6 unit elem meas power val nblk) s =
      .next (State.endCycle (s.capRequest ⟨8 * unit, false, nblk, 0, true, 0⟩).2)) ∧
  (∀ (s : State) (r : Req) (v : Word),
    s.grants r Reg.ASSAY_SAVE → getF v Fld.ASSAY_SAVE_GO = 1 → s.assay.op = none → s.pstate = 5 ∨ s.pstate = 6 →
    exec (.assaySave r v) s =
      .next (State.endCycle ((({ s.entering r with
        assay := { s.assay with op := some (false, getF v Fld.ASSAY_SAVE_ADDR), snap := s.assay.values, snapTb := s.tb } } : State).setFld
          Reg.ASSAY_STAT Fld.ASSAY_STAT_BUSY 1).answer r 0 0))) ∧
  (∀ (s : State) (addr : Nat), s.assay.op = some (false, addr) → blobFits addr = true →
    exec .assaySaveDone s = .next (State.endCycle ((s.stBytes (sharedMem + addr) s.blob).blobEnd false 1))) ∧
  (∀ (s : State) (r : Req) (v : Word),
    s.grants r Reg.ASSAY_RESTORE → getF v Fld.ASSAY_RESTORE_GO = 1 → s.assay.op = none → s.pstate = 5 →
    (s.entering r).blobWord (getF v Fld.ASSAY_RESTORE_ADDR) 0 / 256 = 0x4153 * 256 + 1 →
    exec (.assayRestore r v) s =
      .next (State.endCycle ((({ s.entering r with assay := { s.assay with op := some (true, getF v Fld.ASSAY_RESTORE_ADDR) } } : State).setFld
        Reg.ASSAY_STAT Fld.ASSAY_STAT_BUSY 1).answer r 0 0))) ∧
  (∀ (s : State) (addr : Nat), s.assay.op = some (true, addr) → s.blobCheck addr ≠ 1 →
    exec .assayRestoreDone s = .next (State.endCycle (s.blobEnd true (s.blobCheck addr)))) ∧
  (∀ (s : State) (addr : Nat), s.assay.op = some (true, addr) → s.blobCheck addr = 1 →
    ∃ vals past, exec .assayRestoreDone s =
      .next (State.endCycle ((({ s with assay := { s.assay with values := vals, past := past, counts := [] } } : State).blobEnd true 1).assayRestart.assayConv)) ∧
      vals = ((Config.assayValues (s.ldBytes (sharedMem + addr + 64) assayLen)).filter (fun (e : Nat × Nat) =>
          (Nat.land (s.blobWord addr 5 % 512) (s.fld Reg.ASSAY_CTL Fld.ASSAY_CTL_ITEMS)).testBit (e.1 / 2 ^ 14))).foldl
        (fun (m : List (Nat × Nat)) e => kvSet (fun _ => 0) m e.1 e.2)
        (s.assay.values.filter (fun (e : Nat × Nat) =>
          !(Nat.land (s.blobWord addr 5 % 512) (s.fld Reg.ASSAY_CTL Fld.ASSAY_CTL_ITEMS)).testBit (e.1 / 2 ^ 14)))) ∧
  (∀ (s : State) (x : MonRun) (inputs dev : List Int) (vref : Nat),
    s.mon.run = some x → x.entry.isSome = true → x.stop ≤ s.monSlot → s.dieOn 0 = true →
    exec (.monEntryDone inputs vref dev) s = .next (State.endCycle (s.monDone x (monSamples x.cfg vref inputs dev)))) ∧
  (∀ (s : State) (x : MonRun) (inputs dev : List Int) (vref : Nat),
    s.mon.run = some x → x.entry = none → x.stop ≤ s.monSlot → s.dieOn 0 = true →
    exec (.monUrgDone inputs vref dev) s = .next (State.endCycle (s.monDone x (monSamples x.cfg vref inputs dev)))) ∧
  (∀ (s t : State) (r : Req) (v : Word),
    s.grants r Reg.MON_CTL → s.bit Reg.MON_CTL Fld.MON_CTL_EN = false → (s.entering r).plainWrite Reg.MON_CTL v = t →
    t.bit Reg.MON_CTL Fld.MON_CTL_EN = true → t.mon.run = none →
    exec (.monEnable r v) s =
      .next (State.endCycle ((({ t with mon := { t.mon with last := t.fld Reg.MON_CTL Fld.MON_CTL_LAST, resume := some 0 } } : State).monGo (t.monSlot + 1)).answer r 0 0))) ∧
  (∀ (s : State) (r : Req) (v : Word),
    s.grants r Reg.MON_URG → getF v Fld.MON_URG_GO = 1 → getF v Fld.MON_URG_CH ≤ 47 →
    (s.mon.queue.filter (fun (q : MonReq) => q.req.isSome)).length < 3 →
    exec (.monUrg r v) s = .next (State.endCycle (((s.entering r).monAccept (some r.id) v.toNat).answer r 0 0))) ∧
  (∀ (s : State) (reads : List SensorRead),
    4 ≤ s.pstate → s.pstate ≤ 6 → s.clkOn Fld.SYS_CLK_STATUS_CCLK = true → s.power.canaryAt + usTicks 100 ≤ s.tick →
    ∃ u w, exec (.canaryUpdate reads) s = .next (State.endCycle ((u.wr Reg.CANARY_STAT w).levels u.tmax.2)) ∧
      u = (List.range 40).foldl (fun (t : State) k => t.sensorUpdate k (reads.getD k none))
        (s.setPower (fun (p : PowerSt) => { p with canaryAt := s.tick })) ∧
      w = setF (setF (u.rd Reg.CANARY_STAT) Fld.CANARY_STAT_HOT u.tmax.1) Fld.CANARY_STAT_TMAX (encS 16 u.tmax.2)) ∧
  (∀ (s : State) (r : Req) (v : Word),
    s.grants r Reg.PWR_STATUS → getF v Fld.PWR_STATUS_SAFE = 1 → getF v Fld.PWR_STATUS_ABORTED = 0 →
    s.bit Reg.PWR_STATUS Fld.PWR_STATUS_SAFE = true →
    sext (s.fld Reg.CANARY_STAT Fld.CANARY_STAT_TMAX) 16 < s.thr Fld.CANARY_THR_CRIT - 40 →
    exec (.safeClear r v) s =
      .next (State.endCycle ((((s.entering r).setFld Reg.PWR_STATUS Fld.PWR_STATUS_SAFE 0).setLevel Fld.CANARY_STAT_CRIT false).answer r 0 0))) ∧
  (∀ (s t : State) (low : Bool),
    4 ≤ s.pstate → s.pstate ≤ 6 → s.clkOn Fld.SYS_CLK_STATUS_CCLK = true → s.faultLow = false →
    s.power.faultAt + usTicks 100 ≤ s.tick →
    (s.setLevel Fld.CANARY_STAT_EXTFAULT low).setPower (fun (p : PowerSt) => { p with faultLow := low, faultAt := s.tick }) = t →
    exec (.faultPin low) s = .next (State.endCycle (if low && !s.power.faultLow then t.raise 0x2007 0xFF else t))) ∧
  (∀ s : State, s.bit Reg.CANARY_CTL Fld.CANARY_CTL_SUPCHK = true → s.dieOn 0 = true → s.power.supAt + usTicks 100 ≤ s.tick →
    exec .supplyCheck s =
      .next (State.endCycle ((s.setPower (fun (p : PowerSt) => { p with
        supAt := s.tick, supChan := if s.power.supChan = 39 then 32 else s.power.supChan + 1 })).monAccept none (s.power.supChan + 8 * 4096))))

/-- NOP, HALT, LOOP, ENDL, BR, BRC, CALL, RET, ADDI and MOVI: each issued instruction's whole effect. R156, R159, R160, R168, R170. -/
def Obligations.EngineFlowInstructionsTakeEffect : Prop :=
  (∀ (s t : State) (e : Fin 5) (w i : Nat), s.issues e 0x00 w i → s.issued e i = t →
    exec (.sbNop e) s = .next (State.endCycle (t))) ∧
  (∀ (s t : State) (e : Fin 5) (w i : Nat), s.issues e 0x01 w i → s.issued e i = t →
    exec (.sbHalt e) s = .next (State.endCycle (((t.setSb e 0).setFld (Reg.SB_CTL e) Fld.SB_CTL_RUN 0).raise 0xA005 e))) ∧
  (∀ (s t : State) (e : Fin 5) (w i : Nat) (n : Nat), s.issues e 0x0F w i → s.issued e i = t → n = (if bitAt w 48 then t.g e (sbRa w) % 2 ^ 32 else bitsAt w 0 16) → n ≠ 0 →
    (t.eng e).loops.length ≠ 4 →
    exec (.sbLoop e) s = .next (State.endCycle (t.setStacks e ((t.sbPc e, n) :: (t.eng e).loops) (t.eng e).calls))) ∧
  (∀ (s t : State) (e : Fin 5) (w i : Nat), s.issues e 0x0F w i → s.issued e i = t → (if bitAt w 48 then t.g e (sbRa w) % 2 ^ 32 else bitsAt w 0 16) = 0 →
    (t.eng e).loops.length ≠ 4 →
    exec (.sbLoop e) s = .next (State.endCycle (t.setPc e (bitsAt w 16 12 + 1)))) ∧
  (∀ (s t : State) (e : Fin 5) (w i : Nat), s.issues e 0x0F w i → s.issued e i = t → (t.eng e).loops.length = 4 →
    exec (.sbLoop e) s = .next (State.endCycle (t.sbFaultHere e 3))) ∧
  (∀ (s t : State) (e : Fin 5) (w i : Nat) (a n : Nat) (rest : List (Nat × Nat)), s.issues e 0x10 w i → s.issued e i = t → (t.eng e).loops = (a, n) :: rest →
    n - 1 ≠ 0 →
    exec (.sbEndl e) s = .next (State.endCycle ((t.setStacks e ((a, n - 1) :: rest) (t.eng e).calls).setPc e a))) ∧
  (∀ (s t : State) (e : Fin 5) (w i : Nat) (a : Nat) (rest : List (Nat × Nat)), s.issues e 0x10 w i → s.issued e i = t → (t.eng e).loops = (a, 1) :: rest →
    exec (.sbEndl e) s = .next (State.endCycle (t.setStacks e rest (t.eng e).calls))) ∧
  (∀ (s t : State) (e : Fin 5) (w i : Nat), s.issues e 0x11 w i → s.issued e i = t →
    exec (.sbBr e) s = .next (State.endCycle (t.setPc e (bitsAt w 0 12)))) ∧
  (∀ (s t : State) (e : Fin 5) (w i : Nat), s.issues e 0x12 w i → s.issued e i = t →
    exec (.sbBrc e) s = .next (State.endCycle (if t.sbCond e w then t.setPc e (bitsAt w 0 12) else t))) ∧
  (∀ (s t : State) (e : Fin 5) (w i : Nat), s.issues e 0x13 w i → s.issued e i = t → (t.eng e).calls.length ≠ 8 →
    exec (.sbCall e) s = .next (State.endCycle ((t.setStacks e (t.eng e).loops (t.sbPc e :: (t.eng e).calls)).setPc e (bitsAt w 0 12)))) ∧
  (∀ (s t : State) (e : Fin 5) (w i : Nat), s.issues e 0x13 w i → s.issued e i = t → (t.eng e).calls.length = 8 →
    exec (.sbCall e) s = .next (State.endCycle (t.sbFaultHere e 2))) ∧
  (∀ (s t : State) (e : Fin 5) (w i : Nat) (a : Nat) (rest : List Nat), s.issues e 0x14 w i → s.issued e i = t → (t.eng e).calls = a :: rest →
    exec (.sbRet e) s = .next (State.endCycle ((t.setStacks e (t.eng e).loops rest).setPc e a))) ∧
  (∀ (s t : State) (e : Fin 5) (w i : Nat), s.issues e 0x14 w i → s.issued e i = t → (t.eng e).calls = [] →
    exec (.sbRet e) s = .next (State.endCycle (t.sbFaultHere e 2))) ∧
  (∀ (s t : State) (e : Fin 5) (w i : Nat), s.issues e 0x18 w i → s.issued e i = t →
    exec (.sbAddi e) s = .next (State.endCycle (t.setG e (sbRa w) (encS 64 (t.g e (sbRb w) + sext w 32))))) ∧
  (∀ (s t : State) (e : Fin 5) (w i : Nat), s.issues e 0x19 w i → s.issued e i = t → bitAt w 48 = false →
    exec (.sbMovi e) s = .next (State.endCycle (t.setG e (sbRa w) (encS 64 (sext (bitsAt w 0 32) 32))))) ∧
  (∀ (s t : State) (e : Fin 5) (w i : Nat), s.issues e 0x19 w i → s.issued e i = t → bitAt w 48 = true →
    exec (.sbMovi e) s = .next (State.endCycle (t.setG e (sbRa w) (t.g e (sbRa w) % 2 ^ 32 + bitsAt w 0 32 * 2 ^ 32))))

/-- Waits, staged instructions, work, transfers, messages and signals of an engine: each one's whole effect. R156, R157, R158, R160, R161, R167, R169, R154. -/
def Obligations.EngineWaitsAndStagedInstructionsTakeEffect : Prop :=
  (∀ (s t : State) (e : Fin 5) (w i : Nat), s.issues e 0x02 w i → s.issued e i = t →
    exec (.sbAt e) s = .next (State.endCycle (t.sbTimeWait e w i (t.g e (sbRa w)) (thNs (t.g e (sbRa w)))))) ∧
  (∀ (s t : State) (e : Fin 5) (w i : Nat) (x : Nat), s.issues e 0x03 w i → s.issued e i = t → x = (t.rd64 (Reg.SB_TLAST e) + (if bitAt w 48 then t.g e (sbRa w) else bitsAt w 16 32)) % 2 ^ 64 →
    exec (.sbAfter e) s = .next (State.endCycle (t.sbTimeWait e w i x (thNs x)))) ∧
  (∀ (s t : State) (e : Fin 5) (w i : Nat) (ofs x : Th), s.issues e 0x04 w i → s.issued e i = t → ofs = sext (bitsAt w 16 24) 24 * 196608 →
    x = t.nthBoundary (bitsAt w 45 3) (bitAt w 48) (thNs (t.rd64 (Reg.SB_TLAST e)) - ofs) (Nat.max 1 (bitsAt w 40 5)) + ofs →
    exec (.sbSymwait e) s = .next (State.endCycle (t.sbTimeWait e w i ((-((-x) / 196608)).toNat % 2 ^ 64) x))) ∧
  (∀ (t : State) (e w i x : Nat) (tw : Th), t.stCyc (i + 23) < x →
    t.sbTimeWait e w i x tw =
      (t.setSb e 2).setEng e { t.eng e with wait := .time x tw (if bitAt w 49 then some (bitsAt w 0 12) else none) }) ∧
  (∀ (t : State) (e w i x : Nat) (tw : Th), x ≤ t.stCyc (i + 23) →
    t.sbTimeWait e w i x tw = t.sbLate e i x tw (if bitAt w 49 then some (bitsAt w 0 12) else none)) ∧
  (∀ (s t : State) (e : Fin 5) (w i : Nat), s.issues e 0x15 w i → s.issued e i = t →
    exec (.sbWaitev e) s = .next (State.endCycle ((t.setSb e 3).setEng e { t.eng e with
      wait := .ev (bitsAt w 16 6) (bitAt w 49) (bitAt w 48) (if bitsAt w 32 16 = 0 then none else some (t.tick + usTicks (bitsAt w 32 16))) }))) ∧
  (∀ (s t : State) (e : Fin 5) (w i : Nat), s.issues e 0x17 w i → s.issued e i = t →
    exec (.sbFence e) s = .next (State.endCycle ((t.setSb e 4).setEng e { t.eng e with wait := .fence }))) ∧
  (∀ (s : State) (e : Fin 5) (t : Nat) (tw : Th) (skip : Option Nat),
    s.clkOn Fld.SYS_CLK_STATUS_FCLK = true → (s.eng e).wait = .time t tw skip → s.sbState e = 2 → t ≤ s.stCyc (s.fcyc + 24) → s.stCyc s.fcyc < t →
    exec (.waitRelease e) s = .next (State.endCycle ((s.wr64 (Reg.SB_TLAST e) t).sbRelease e (s.sbMatch t) (some tw)))) ∧
  (∀ (s : State) (e : Fin 5) (flag m : Nat) (lim : Option Nat),
    m = Nat.max (s.evSeen e flag) (s.eng e).cyc →
    s.clkOn Fld.SYS_CLK_STATUS_FCLK = true → (s.eng e).wait = .ev flag false true lim → s.sbState e = 3 →
    bitAt (s.rd64 (Reg.SB_EVF e)) flag = true →
    exec (.waitRelease e) s = .next (State.endCycle (((s.evClearAt e (2 ^ flag) m).setC e true).sbRelease e m none))) ∧
  (∀ (s : State) (e : Fin 5),
    s.clkOn Fld.SYS_CLK_STATUS_FCLK = true → (s.eng e).wait = .fence → s.sbState e = 4 → s.sbStaged e = [] →
    exec (.waitRelease e) s = .next (State.endCycle (s.sbRelease e s.fcyc none))) ∧
  (∀ (s : State) (e : Fin 5) (flag d : Nat) (pol clr : Bool),
    (s.eng e).wait = .ev flag pol clr (some d) → s.sbState e = 3 → d ≤ s.tick → bitAt (s.rd64 (Reg.SB_EVF e)) flag = pol →
    exec (.waitevTimeout e) s = .next (State.endCycle ((s.setC e false).sbRelease e s.fcyc none))) ∧
  (∀ (s t : State) (e : Fin 5) (w i : Nat), s.issues e 0x05 w i → s.issued e i = t →
    exec (.sbSet e) s = .next (State.endCycle (t.sbStage e i (.set (bitsAt w 0 22 * 4) (if bitAt w 49 then bitsAt w 32 16 else t.g e (sbRa w) % 2 ^ 32))))) ∧
  (∀ (s t : State) (e : Fin 5) (w i : Nat), s.issues e 0x06 w i → s.issued e i = t →
    exec (.sbSetw e) s = .next (State.endCycle (t.sbStage e i (.setw (bitsAt w 0 22 * 4) (t.g e (sbRa w)))))) ∧
  (∀ (s t : State) (e : Fin 5) (w i : Nat), s.issues e 0x07 w i → s.issued e i = t →
    exec (.sbSwap e) s = .next (State.endCycle (t.sbStage e i (.swap (bitsAt w 48 2) (bitsAt w 45 3) (bitsAt w 40 4) (bitsAt w 32 7) (t.g e (sbRa w)))))) ∧
  (∀ (s t : State) (e : Fin 5) (w i : Nat), s.issues e 0x08 w i → s.issued e i = t →
    exec (.sbCapture e) s = .next (State.endCycle (t.sbStage e i (.capture (bitAt w 49) (bitsAt w 32 16) (bitsAt w 0 6) (t.g e (sbRa w) % 2 ^ 24) (sbRb w))))) ∧
  (∀ (s t : State) (e : Fin 5) (w i : Nat), s.issues e 0x0C w i → s.issued e i = t →
    exec (.sbGate e) s = .next (State.endCycle (t.sbStage e i (.gate (bitsAt w 48 2) (bitAt w 47) (t.g e (sbRa w)))))) ∧
  (∀ (s t : State) (e : Fin 5) (w i : Nat), s.issues e 0x0D w i → s.issued e i = t →
    exec (.sbFectl e) s = .next (State.endCycle (t.sbStage e i (.fectl (bitsAt w 48 2) (bitsAt w 0 32) (t.g e (sbRa w) % 2 ^ 32))))) ∧
  (∀ (s t : State) (e : Fin 5) (w i : Nat), s.issues e 0x0E w i → s.issued e i = t → bitAt w 49 = false →
    exec (.sbFesend e) s = .next (State.endCycle (t.sbStage e i (.fesend false (bitsAt w 46 2) (Nat.max 7 (bitsAt w 40 6) + 1) (t.g e (sbRa w) % 2 ^ (Nat.max 7 (bitsAt w 40 6) + 1)) (sbRb w))))) ∧
  (∀ (s t : State) (e : Fin 5) (w i : Nat) (u : State), s.issues e 0x0E w i → s.issued e i = t → bitAt w 49 = true →
    t.sbStage e i (.fesend true (bitsAt w 46 2) (Nat.max 7 (bitsAt w 40 6) + 1) (t.g e (sbRa w) % 2 ^ (Nat.max 7 (bitsAt w 40 6) + 1)) (sbRb w)) = u →
    exec (.sbFesend e) s = .next (State.endCycle ((u.setSb e 4).setEng e { u.eng e with wait := .fesend (bitsAt w 46 2) }))) ∧
  (∀ (s t : State) (e : Fin 5) (m : Bool) (w i : Nat) (u : State), s.issues e 0x09 w i → s.issued e i = t → t.wqPush (bitsAt w 47 3) (t.g e (sbRa w) % 2 ^ 24) (t.g e (sbRb w)) (8 + e) = (true, u) →
    exec (.sbDispatch e m) s = .next (State.endCycle ((u.setC e true).sbCompared e m))) ∧
  (∀ (s t : State) (e : Fin 5) (m : Bool) (w i : Nat) (u : State), s.issues e 0x09 w i → s.issued e i = t → t.wqPush (bitsAt w 47 3) (t.g e (sbRa w) % 2 ^ 24) (t.g e (sbRb w)) (8 + e) = (false, u) →
    exec (.sbDispatch e m) s = .next (State.endCycle ((u.sbIssued e false).sbCompared e m))) ∧
  (∀ (s t : State) (e : Fin 5) (m : Bool) (w i : Nat) (u : State), s.issues e 0x0A w i → s.issued e i = t → dmaGoWrite (bitsAt w 0 4) false (setF 0 Fld.DMA_GO_START 1) t = (0, u) →
    exec (.sbDmago e m) s = .next (State.endCycle ((u.setC e true).sbCompared e m))) ∧
  (∀ (s t : State) (e : Fin 5) (m : Bool) (w i : Nat) (u : State), s.issues e 0x0B w i → s.issued e i = t → bitsAt w 0 5 < 24 →
    mbxMessage (bitsAt w 0 5) (8 + e) ((List.range 8).flatMap (fun k => [t.g e (sbRa w + k) % 2 ^ 32, t.g e (sbRa w + k) / 2 ^ 32])) t = (0, u) →
    exec (.sbPost e m) s = .next (State.endCycle ((u.setC e true).sbCompared e m))) ∧
  (∀ (s t : State) (e : Fin 5) (m : Bool) (w i : Nat), s.issues e 0x0B w i → s.issued e i = t → 24 ≤ bitsAt w 0 5 →
    exec (.sbPost e m) s = .next (State.endCycle ((t.sbIssued e false).sbCompared e m))) ∧
  (∀ (s t : State) (e : Fin 5) (m : Bool) (w i : Nat), s.issues e 0x16 w i → s.issued e i = t → bitAt w 46 = false →
    exec (.sbSignal e m) s = .next (State.endCycle (((t.sbTargets (bitsAt w 47 3)).foldl (fun (u : State) k => u.evOrAt k (2 ^ bitsAt w 16 6) i) t).sbCompared e m))) ∧
  (∀ (s t : State) (e : Fin 5) (m : Bool) (w i : Nat), s.issues e 0x16 w i → s.issued e i = t → bitAt w 46 = true →
    exec (.sbSignal e m) s = .next (State.endCycle (((t.sbTargets (bitsAt w 47 3)).foldl (fun (u : State) k => u.evClearAt k (2 ^ bitsAt w 16 6) i) t).sbCompared e m)))

/-- Run, restart, event flags, engine faults, relief, effects and front-end frames: each command's whole effect. R154, R162, R166, R167, R170, R171, R173, R174, R175. -/
def Obligations.EngineControlAndReliefTakeEffect : Prop :=
  (∀ (s : State) (r : Req) (e : Fin 5), s.grants r (Reg.SB_CTL e) → s.engIdle e = true → e ≠ 4 ∨ s.sb.heir = none →
    exec (.run r e true) s = .next (State.endCycle ((((s.entering r).setFld (Reg.SB_CTL e) Fld.SB_CTL_RUN 1).setSb e 1).answer r 0 0))) ∧
  (∀ (s : State) (r : Req) (k : Nat), s.grants r (Reg.SB_CTL 4) → s.engIdle 4 = true → s.sb.heir = some k →
    exec (.run r 4 true) s = .next (State.endCycle (((((s.entering r).setFld (Reg.SB_CTL 4) Fld.SB_CTL_RUN 1).setSb 4 1).sbTaken k).answer r 0 0))) ∧
  (∀ (s t : State) (r : Req) (e : Fin 5), s.grants r (Reg.SB_CTL e) → 1 ≤ s.sbState e → s.sbState e ≤ 4 →
    (s.entering r).setFld (Reg.SB_CTL e) Fld.SB_CTL_RUN 0 = t →
    exec (.run r e false) s = .next (State.endCycle (((t.setSb e 0).setEng e { t.eng e with wait := .none }).answer r 0 0))) ∧
  (∀ (s t u : State) (r : Req) (e : Fin 5), s.grants r (Reg.SB_CTL e) → s.engIdle e = true → e ≠ 4 ∨ s.sb.heir = none →
    ((s.entering r).toEntry e).setC e false = t →
    (t.wr (Reg.SB_STATUS e) (setF (setF (t.rd (Reg.SB_STATUS e)) Fld.SB_STATUS_FAULT 0) Fld.SB_STATUS_STATE 0)).setFld (Reg.SB_CTL e)
      Fld.SB_CTL_RUN 1 = u → u.engIdle e = true →
    exec (.restart r e true) s = .next (State.endCycle ((u.setSb e 1).answer r 0 0))) ∧
  (∀ (s : State) (r : Req) (e : Fin 5) (run : Bool), s.grants r (Reg.SB_CTL e) → s.sbShadows e = false → s.engIdle e = false →
    exec (.restart r e run) s = .next (State.endCycle ((s.entering r).answer r 7 0))) ∧
  (∀ (s : State) (r : Req) (e : Fin 5) (v : DWord), s.grants r (Reg.SB_EVSET e) → s.sbShadows e = false →
    exec (.sbEvset r e v) s = .next (State.endCycle (((s.entering r).evOr e v.toNat).answer r 0 0))) ∧
  (∀ (s : State) (r : Req) (e : Fin 5) (v : DWord), s.grants r (Reg.SB_EVCLR e) → s.sbShadows e = false →
    exec (.sbEvclr r e v) s = .next (State.endCycle (((s.entering r).evClear e v.toNat).answer r 0 0))) ∧
  (∀ (s : State) (r : Req) (run : Bool), s.grants r (Reg.SB_CTL 4) → s.sbShadows 4 = true →
    exec (.run r 4 run) s = .next (State.endCycle ((s.entering r).answer r 0 0)) ∧ exec (.restart r 4 run) s = .next (State.endCycle ((s.entering r).answer r 0 0))) ∧
  (∀ (s : State) (r : Req) (v : Word), s.grants r Reg.SB_FE_SAFE →
    exec (.sbFeSafeWrite r v) s =
      .next (State.endCycle ((((s.entering r).wr Reg.SB_FE_SAFE v).setPins (0xFFFFFFFF - s.sb.reached % 2 ^ 32) v.toNat).answer r 0 0))) ∧
  (∀ (s : State) (e : Fin 5) (par : Bool), s.clkOn Fld.SYS_CLK_STATUS_FCLK = true → 1 ≤ s.sbState e → s.sbState e ≤ 4 →
    exec (.engineFault e (some par)) s =
      .next (State.endCycle (if s.sbSynced && s.sbTarget == some e.val then s.sbTakeover e else s.sbFault e (if par then 5 else 4)))) ∧
  (∀ (s : State) (e : Fin 5), s.clkOn Fld.SYS_CLK_STATUS_FCLK = true → s.sbState e = 1 → s.sbWord e = none →
    exec (.engineFault e none) s = .next (State.endCycle (s.sbFault e 6))) ∧
  (∀ (s : State) (e : Fin 5) (w : Nat), s.clkOn Fld.SYS_CLK_STATUS_FCLK = true → s.sbState e = 1 → s.sbWord e = some w → sbLegal w = false →
    exec (.engineFault e none) s = .next (State.endCycle (s.sbFault e 1))) ∧
  (∀ (s u t : State) (r : Req) (target : BitVec 4) (e : Nat), s.grants r Reg.SB_RELIEF → s.bit Reg.SB_RELIEF Fld.SB_RELIEF_TAKEN = false →
    (s.entering r).sbUnshadow.setFld Reg.SB_RELIEF Fld.SB_RELIEF_TARGET target.toNat = u → { u with sb := { u.sb with heir := none } } = t →
    t.sbTarget = some e → t.sbState e ≠ 5 →
    exec (.sbReliefTarget r target false) s = .next (State.endCycle (({ t with sb := { t.sb with syncing := true } } : State).answer r 0 0))) ∧
  (∀ (s u t v : State) (r : Req) (target : BitVec 4) (e : Nat), s.grants r Reg.SB_RELIEF → s.bit Reg.SB_RELIEF Fld.SB_RELIEF_TAKEN = false →
    (s.entering r).sbUnshadow.setFld Reg.SB_RELIEF Fld.SB_RELIEF_TARGET target.toNat = u → { u with sb := { u.sb with heir := none } } = t →
    t.sbTarget = some e → t.sbState e = 5 →
    ((((t.sbCopyBanks e).setFld (Reg.SB_STATUS 4) Fld.SB_STATUS_ABANK (t.sbActive e)).toEntry 4).setSb 4 0).setFld (Reg.SB_CTL 4) Fld.SB_CTL_RUN 0 = v →
    exec (.sbReliefTarget r target false) s = .next (State.endCycle (({ v with sb := { v.sb with heir := some e } } : State).answer r 0 0))) ∧
  (∀ (s : State) (r : Req) (e : Nat), s.grants r Reg.SB_RELIEF → s.sbTarget = some e → s.sbSynced = true →
    exec (.sbRetire r) s = .next (State.endCycle (((s.entering r).sbTakeover e).answer r 0 0))) ∧
  (∀ (s : State) (r : Req), s.grants r Reg.SB_RELIEF → s.sbSynced = false →
    exec (.sbRetire r) s = .next (State.endCycle ((s.entering r).answer r 7 0))) ∧
  (∀ (s t u : State) (e : Nat), s.sbTarget = some e → s.sb.syncing = true → s.clkOn Fld.SYS_CLK_STATUS_FCLK = true →
    s.sbState e = 0 ∨ (2 ≤ s.sbState e ∧ s.sbState e ≤ 4) → (s.sbCopyBanks e).sbCopyRegs e = t →
    ((t.setEng 4 { t.eng 4 with wait := .none, staged := [] }).setSb 4 7).setFld Reg.SB_RELIEF Fld.SB_RELIEF_SYNCED 1 = u →
    exec .reliefSynced s = .next (State.endCycle (({ u with sb := { u.sb with syncing := false } } : State).raise 0xA009 4))) ∧
  (∀ (s t : State) (e : Fin 5) (d : Nat), firstDue (s.eng e).staged = some d → d ≤ s.fcyc → s.clkOn Fld.SYS_CLK_STATUS_FCLK = true →
    s.setEng e { s.eng e with staged := (s.eng e).staged.filter (fun y => y.due != d) } = t →
    exec (.stagedEffect e false) s =
      .next (State.endCycle ((((s.eng e).staged.filter (fun y => y.due == d)).foldl (fun (t : State) y => t.sbEffect (t.sbActor e) y) t).setsWin.pmuCount (35 + e) 4
        ((s.eng e).staged.filter (fun y => y.due == d)).length))) ∧
  (∀ (s t : State) (p : Fin 4) (sdi : BitVec 64) (f : FeFrame) (rest : List FeFrame), s.feFrames p = f :: rest →
    s.clkOn Fld.SYS_CLK_STATUS_FCLK = true → kvGet (fun _ => 0) s.sb.feAt p + f.nbits * s.fePeriod p ≤ s.fcyc →
    (s.setFe p rest (Nat.max s.fcyc (kvGet (fun _ => 0) s.sb.feAt p + f.nbits * s.fePeriod p) + 2 * s.fePeriod p)).emit
      (.fespi p f.nbits f.data) = t →
    exec (.fespiFrameEnd p sdi) s =
      .next (State.endCycle (if f.r then (t.setG (s.sbActor f.eng) f.rb (sdi.toNat % 2 ^ f.nbits)).feRelease (s.sbActor f.eng) p else t)))

/-- Work queues, items, bundles, traps, bank grants and core relief: each Lode command's whole effect. R304, R308, R309, R311, R312, R321, R323, R324, R325, R329, R338. -/
def Obligations.LodeClusterCommandsTakeEffect : Prop :=
  (∀ (s : State) (r : Req) (q : Fin 8) (v : Word), s.grants r (Reg.LODE_WQ_PUSH q) → wqFull (s.wq q) = false →
    exec (.lodeWqPush r q v) s =
      .next (State.endCycle (((s.entering r).setWq q (wqInsert ⟨getF v Fld.LODE_WQ_PUSH_ADDR % 2 ^ 24, 0, false, r.id, s.tick⟩ (s.wq q))).answer r 0 0))) ∧
  (∀ (s : State) (r : Req) (q : Fin 8) (v : Word), s.grants r (Reg.LODE_WQ_PUSH q) → wqFull (s.wq q) = true →
    exec (.lodeWqPush r q v) s =
      .next (State.endCycle ((((s.entering r).count (Reg.LODE_WQ_FULL_CNT q)).raiseLim 10 0x9005 q).answer r 7 0))) ∧
  (∀ (s : State) (c : Fin 34) (q code : Nat) (it : WorkItem) (rest : List WorkItem),
    s.vclk = true → s.pullsFrom c = some q → s.wq q = it :: rest → (List.range c).any (fun d => s.pullsFrom d == some q) = false →
    s.descBad (it.desc / 64 * 64) = some code →
    exec (.itemPull c) s =
      .next (State.endCycle ((((((s.setWq q rest).addRunning q true).wr (Reg.LODE_ITEM c) (BitVec.ofNat 32 (it.desc / 64 * 64))).wr (Reg.LODE_CORE_STAT c)
        (setF (setF (s.rd (Reg.LODE_CORE_STAT c)) Fld.LODE_CORE_STAT_STATE 1) Fld.LODE_CORE_STAT_QUEUE q)).setCore c
        { s.core c with running := true, queue := q, item := some it, desc := it.desc / 64 * 64, rerun := false, startCyc := s.lodeCyc,
                        ended := some (code, 0), busErr := false }).raiseLim 10 0x9006 q))) ∧
  (∀ (s : State) (c : Fin 34) (q : Nat) (it : WorkItem) (rest : List WorkItem),
    s.vclk = true → s.pullsFrom c = some q → s.wq q = it :: rest → (List.range c).any (fun d => s.pullsFrom d == some q) = false →
    s.descBad (it.desc / 64 * 64) = none →
    ∃ t : State, exec (.itemPull c) s = .next t.endCycle ∧ t.rd (Reg.LODE_CORE_PC c) = BitVec.ofNat 32 (s.descWord (it.desc / 64 * 64) 1 % 2 ^ 24) ∧
      (t.core c).running = true ∧ (t.core c).pc = s.descWord (it.desc / 64 * 64) 1 % 2 ^ 24 ∧ (t.core c).item = some it ∧ (t.core c).ended = none ∧
      kvGet (fun _ => 0) (t.core c).s 0 = it.arg % 2 ^ 32 ∧ kvGet (fun _ => 0) (t.core c).s 1 = it.arg / 2 ^ 32 ∧
      kvGet (fun _ => 0) (t.core c).s 2 = s.coreLogical c ∧ kvGet (fun _ => 0) (t.core c).s 3 = q) ∧
  (∀ (s : State) (c : Fin 34), s.itemRuns c = true → s.wdogDue c = true → exec (.wdog c) s = .next (State.endCycle (s.lodeTrap c 8 (s.core c).pc))) ∧
  (∀ (s : State) (c : Fin 34) (ws : List Nat) (d : LodeDelta),
    s.bundleDue c = true → s.wdogDue c = false → bundleWords (s.lodeFetch c (s.core c)) (s.core c).pc 3 = ws → bundleTrap ws = 0 →
    (s.core c).local_ = false ∨ (s.core c).pc + 4 * ws.length ≤ 0x10000 →
    lodeBundle s c (s.core c) ws (s.bit (Reg.LODE_CFG c) Fld.LODE_CFG_TRUNC) 0 = (0, d) → d.fab = none →
    exec (.lodeBundle c 0) s = .next (State.endCycle (s.bundleDone c (s.core c) ws.length d))) ∧
  (∀ (s : State) (c : Fin 34) (ws : List Nat) (code : Nat),
    s.bundleDue c = true → bundleWords (s.lodeFetch c (s.core c)) (s.core c).pc 3 = ws → bundleTrap ws = code → code ≠ 0 →
    (s.core c).local_ = false →
    exec (.lodeBundle c 0) s = .next (State.endCycle (s.bundleTraps c code (s.core c).pc))) ∧
  (∀ (s : State) (c : Fin 34), s.itemRuns c = true → (s.core c).busErr = true →
    exec (.fstBusError c) s = .next (State.endCycle (s.lodeTrap c 3 (s.core c).lastPc))) ∧
  (∀ (s t : State) (c : Fin 34) (st code : Nat),
    s.vclk = true → (s.core c).ended = some (st, code) → (s.core c).busErr = false → (s.lodeComplete c st code).coreFree c = t →
    exec (.itemComplete c) s =
      .next (State.endCycle (if t.lode.retiring = some c.val then t.beginCopy
        else t.setCoreState c (if t.bit (Reg.LODE_CORE_CTL c) Fld.LODE_CORE_CTL_EN then 0 else 2)))) ∧
  (∀ (s : State) (c : Fin 34), s.vclk = true → s.coreState c = 5 → (s.core c).item = none →
    exec (.coreFault c) s =
      .next (State.endCycle ((((((s.raise 0x9003 c).withdraw (16 + c)).ownerLost (16 + c) 2).coreFree c).setCoreState c 4).clStat))) ∧
  (∀ (s t : State) (c : Fin 34) (u : Nat), s.vclk = true → s.coreState c ≠ 4 → s.coreState c ≠ 5 → (s.core c).item = none →
    (((s.raise 0x9003 c).withdraw (16 + c)).ownerLost (16 + c) 2).coreFree c = t →
    t.lode.copy = none → t.lode.retiring = none → t.spareCore = some u →
    exec (.coreFault c) s = .next (State.endCycle ((t.clearMem (coreMem u) (coreMem u + 0x10000)).takeCore c (some u)))) ∧
  (∀ (s t : State) (r : Req) (v : Word) (c : Nat),
    s.grants r Reg.LODE_RELIEF → getF v Fld.LODE_RELIEF_RETIRE = 1 → c = getF v Fld.LODE_RELIEF_CORE →
    s.bit Reg.LODE_RELIEF Fld.LODE_RELIEF_BUSY = false → c < 34 → s.coreState c < 3 → s.coreLogical c ≠ 0x3F →
    ({ s.entering r with lode := { s.lode with retiring := some c, copy := none } } : State).setFld Reg.LODE_RELIEF Fld.LODE_RELIEF_BUSY 1 = t →
    exec (.lodeReliefRetire r v) s = .next (State.endCycle ((if (s.core c).running then t else t.beginCopy).answer r 0 0))) ∧
  (∀ (s : State) (c : Nat), s.lode.retiring = some c → s.vclk = true → (s.core c).running = false → s.lode.copy = none →
    exec .coreRelief s = .next (State.endCycle (s.endRetire.takeCore c none))) ∧
  (∀ (s t : State) (c u at_ : Nat), s.lode.retiring = some c → s.vclk = true → (s.core c).running = false → s.lode.copy = some (u, at_) →
    at_ + 1024 ≤ s.lodeCyc →
    (s.mem.filter (fun x => decide (coreMem c ≤ x.1 ∧ x.1 < coreMem c + 0x10000))).foldl
      (fun (v : State) x => v.stb (x.1 - coreMem c + coreMem u) x.2) (s.clearMem (coreMem u) (coreMem u + 0x10000)) = t →
    exec .coreRelief s = .next (State.endCycle ((t.endRetire.takeCore c (some u)).ownerLost (16 + c) 2))) ∧
  (∀ (s t : State) (b : Fin 256) (x y : BankArb) (q : Nat), s.vclk = true → s.bank b = x → x.waiting = [] → x.parked = some q →
    { x with cyc := Nat.max s.lodeCyc (x.cyc + 1), tLast := Nat.max x.tLast (Nat.max s.lodeCyc (x.cyc + 1)) } = y →
    { s with lode := { s.lode with banks := kvSet (fun _ => {}) s.lode.banks b y } } = t →
    exec (.sharedBankGrant b [q] []) s = .next (State.endCycle ((t.pmuCount 34 0x01).pmuCount 34 0x04 (b2n (decide (q < 256)))))) ∧
  (∀ (s : State) (b : Fin 256) (arrive leave : List Nat) (q k : Nat) (rest : List (Nat × Nat)), s.vclk = true →
    (s.bank b).waiting = (q, k) :: rest → leave.contains q = false →
    ∃ t : State, exec (.sharedBankGrant b arrive leave) s = .next t.endCycle ∧ (t.bank b).parked = some q ∧ (t.bank b).cyc = Nat.max s.lodeCyc ((s.bank b).cyc + 1))

/-- Beamforming column relief, memory errors, scrub passes, row relief, interrupt acknowledgement, shorted pins. R469, R470, R471, R482. -/
def Obligations.MemoryRepairAndAlarmsTakeEffect : Prop :=
  (∀ (s t : State) (dir : Fin 2) (ant : Fin 64) (car : Fin 8) (re : Nat),
    s.clkOn Fld.SYS_CLK_STATUS_FCLK = true → s.bfOff dir ant = false → s.fld (Reg.REPAIR_BFMAP dir) (bfMapF (ant.val / 16)) = 0x1F →
    { s with bfErr := (dir.val, ant.val, car.val, re) :: s.bfErr } = t →
    exec (.bfColumnRelief dir ant car re) s =
      .next (State.endCycle ((t.setFld (Reg.REPAIR_BFMAP dir) (bfMapF (ant.val / 16)) (ant.val % 16)).raise 0x6002 ant
        (repairWord 4 (dir.val * 4 + ant.val / 16) (ant.val % 16))))) ∧
  (∀ (s t : State) (dir : Fin 2) (ant : Fin 64) (car : Fin 8) (re : Nat),
    s.clkOn Fld.SYS_CLK_STATUS_FCLK = true → s.bfOff dir ant = false → s.fld (Reg.REPAIR_BFMAP dir) (bfMapF (ant.val / 16)) ≠ 0x1F →
    { s with bfErr := (dir.val, ant.val, car.val, re) :: s.bfErr } = t →
    exec (.bfColumnRelief dir ant car re) s =
      .next (State.endCycle ((t.wr64 (Reg.REPAIR_BFFAIL dir) (setBitN (t.rd64 (Reg.REPAIR_BFFAIL dir)) ant true)).raise 0x6003 ant
        (repairWord 4 (dir.val * 4 + ant.val / 16) (ant.val % 16))))) ∧
  (∀ (s t : State) (array : Nat) (row : Fin 128) (addr : Nat),
    s.clkOn Fld.SYS_CLK_STATUS_CCLK = true → s.sram.due.contains (array, row.val) = false → s.sram.failed.contains (array, row.val) = false →
    { s.clearMem (addr / 8 * 8) (addr / 8 * 8 + 8) with sram := { s.sram with due := s.sram.due ++ [(array, row.val)] } } = t →
    exec (.eccUncorrectable array row addr) s = .next (State.endCycle ((t.count Reg.REPAIR_UE_CNT).raise 0x6007 0xFF (repairWord 5 0 row) array))) ∧
  (∀ (s t : State) (array : Nat) (row : Fin 128) (n : Nat),
    s.clkOn Fld.SYS_CLK_STATUS_CCLK = true → s.sram.scrubAt + s.scrubTicks ≤ s.tick → 0 < n → s.sram.suspect.contains (array, row.val) = false →
    { s with sram := { s.sram with suspect := [(array, row.val)], scrubAt := s.tick } } = t →
    exec (.scrubPass [(array, row, n)]) s = .next (State.endCycle ((t.count Reg.REPAIR_CE_CNT n).raiseLim 10 0x6006 0xFF (repairWord 5 0 row) array))) ∧
  (∀ (s t : State) (array : Nat) (row : Fin 128) (n : Nat),
    s.clkOn Fld.SYS_CLK_STATUS_CCLK = true → s.sram.scrubAt + s.scrubTicks ≤ s.tick → 0 < n → s.sram.suspect.contains (array, row.val) = true →
    s.sram.due.contains (array, row.val) = false → s.sram.failed.contains (array, row.val) = false →
    { s with sram := { s.sram with suspect := [(array, row.val)], due := s.sram.due ++ [(array, row.val)], scrubAt := s.tick } } = t →
    exec (.scrubPass [(array, row, n)]) s = .next (State.endCycle ((t.count Reg.REPAIR_CE_CNT n).raiseLim 10 0x6006 0xFF (repairWord 5 0 row) array))) ∧
  (∀ (s : State) (array : Nat) (row : Fin 128),
    s.sram.due.contains (array, row.val) = true → s.clkOn Fld.SYS_CLK_STATUS_CCLK = true → s.rowsUsed array < 2 →
    exec (.sramRowRelief array row) s =
      .next (State.endCycle (({ s with sram := { s.sram with
        due := s.sram.due.filter (fun y => y != (array, row.val)), retired := s.sram.retired ++ [(array, row.val)],
        suspect := s.sram.suspect.filter (fun y => y != (array, row.val)) } } : State).raise 0x6004 0xFF (repairWord 5 0 row) array))) ∧
  (∀ (s : State) (array : Nat) (row : Fin 128),
    s.sram.due.contains (array, row.val) = true → s.clkOn Fld.SYS_CLK_STATUS_CCLK = true → 2 ≤ s.rowsUsed array →
    exec (.sramRowRelief array row) s =
      .next (State.endCycle ((({ s with sram := { s.sram with
        due := s.sram.due.filter (fun y => y != (array, row.val)), failed := (array, row.val) :: s.sram.failed } } : State).flag
          Reg.REPAIR_STAT Fld.REPAIR_STAT_NOROW).raise 0x6005 0xFF (repairWord 5 0 row) array))) ∧
  (∀ (s : State) (r : Req) (v : Word), s.grants r Reg.EVT_IRQ_ACK →
    exec (.evtIrqAck r v) s = .next (State.endCycle (((s.entering r).plainWrite Reg.EVT_IRQ_ACK v).answer r 0 0))) ∧
  (∀ (s : State) (pin : Fin 32), s.held = false → exec (.feShort pin) s = .next (State.endCycle (s.raiseLim 10 0xA00C pin)))

/-- Register writes and reads, held and committed words, 64-bit accesses, management frames: each one's whole effect. R24, R25, R27, R30, R31, R32, R35, R89, R134, R443, R489. -/
def Obligations.BusAccessesTakeEffect : Prop :=
  (∀ (s t : State) (r : Req) (addr v : Word) (code : Nat),
    s.writeCauses r addr.toNat = 0 → s.wordGroup addr.toNat = none → (s.entering r).regWrite r addr.toNat v s.nowTh = (code, t) →
    exec (.registerWrite r addr v) s = .next (State.endCycle (t.answer r code 0))) ∧
  (∀ (s : State) (r : Req) (addr : Word) (code d : Nat) (t : State),
    s.grants r addr.toNat → s.wordGroup addr.toNat = none → s.regRead r addr.toNat = (code, d, t) →
    exec (.rcRegisterRead r addr) s = .next (State.endCycle (t.answer r code d))) ∧
  (∀ (s : State) (r : Req) (addr : Word) (n : Nat),
    s.grants r addr.toNat → s.wordGroup addr.toNat = some (addr.toNat, n, 0) →
    exec (.lowWordRead r addr) s =
      .next (State.endCycle ((s.setBus r.id { s.busOf r.id with
        rdTag := some addr.toNat
        rdHold := (List.range (n - 1)).map (fun k => s.readWord (addr.toNat + 4 * (k + 1)) (s.secureReq r)) }).answer r 0
          (s.readWord addr.toNat (s.secureReq r))))) ∧
  (∀ (s : State) (r : Req) (addr : Word) (base n w : Nat),
    s.grants r addr.toNat → s.wordGroup addr.toNat = some (base, n, w + 1) → (s.busOf r.id).rdTag = some base →
    exec (.rcRegisterRead r addr) s = .next (State.endCycle (s.answer r 0 ((s.busOf r.id).rdHold.getD w 0)))) ∧
  (∀ (s : State) (r : Req) (addr v : Word) (base n w : Nat),
    s.writeCauses r addr.toNat = 0 → s.wordGroup addr.toNat = some (base, n, w) → w + 1 < n →
    exec (.lowWordWrite r addr v) s = .next (State.endCycle ((s.hold r base w v).answer r 0 0))) ∧
  (∀ (s t : State) (r : Req) (addr v : Word) (base n code : Nat),
    s.writeCauses r addr.toNat = 0 → s.wordGroup addr.toNat = some (base, n + 1, n) →
    (s.entering r).regCommit base (s.commitWords r base (n + 1) v) s.nowTh = (code, t) →
    exec (.highWordWrite r addr v) s = .next (State.endCycle (t.answer r code 0))) ∧
  (∀ (s t : State) (r : Req) (addr : Word) (v : DWord) (code : Nat),
    wideReq r = true → s.wideCause r addr.toNat = 0 → (findReg addr.toNat).isSome = true →
    s.regCommit addr.toNat [v.toNat % 2 ^ 32, v.toNat / 2 ^ 32 % 2 ^ 32] s.nowTh = (code, t) →
    exec (.atomic64bitAccess r addr (some v)) s = .next (State.endCycle (t.answer r code 0))) ∧
  (∀ (s : State) (r : Req) (addr : Word), wideReq r = true → s.wideCause r addr.toNat = 0 → (findReg addr.toNat).isSome = true →
    exec (.atomic64bitAccess r addr none) s =
      .next (State.endCycle (s.answer r 0 (s.readWord addr.toNat (s.secureReq r) + 2 ^ 32 * s.readWord (addr.toNat + 4) (s.secureReq r))))) ∧
  (∀ (s : State) (r : Req) (v : Word), s.grants r Reg.SYS_ACCERR →
    exec (.sysAccerrClear r v) s = .next (State.endCycle ((((s.entering r).wr Reg.SYS_ACCERR 0).wr Reg.SYS_ACCERR_ADDR 0).answer r 0 0))) ∧
  (∀ (s : State) (r : Req) (b : Fin 46) (k : Fin 8) (v : Word) (amt : Nat), s.grants r (Reg.PMU_CNT b k) → s.wordGroup (Reg.PMU_CNT b k) = none →
    exec (.pmuCounterWrite r b k v amt) s = .next (State.endCycle (((s.entering r).pmuStore b k v amt).answer r 0 0))) ∧
  (∀ (s t : State) (p : Fin 2) (h : RxHdr) (tag : BitVec 8) (addr v : Word) (code : Nat), s.lstate p = 2 → s.inOrder p h →
    (s.tookBk p h 1 true).busWrite ⟨p + 1, false⟩ addr.toNat v = (code, t) →
    exec (.regWr p h none tag addr v) s = .next (State.endCycle (t.sendCpl p tag.toNat code false 1 [0, 0]))) ∧
  (∀ (s t : State) (p : Fin 2) (h : RxHdr) (tag : BitVec 8) (addr : Word) (code d : Nat), s.lstate p = 2 → s.inOrder p h →
    (s.tookBk p h 1 true).busRead ⟨p + 1, false⟩ addr.toNat = (code, d, t) →
    exec (.regRd p h none tag addr) s = .next (State.endCycle (t.sendCpl p tag.toNat code false 1 [d, 0]))) ∧
  (∀ (s : State) (addr : Word) (words : List Word), s.held = false →
    exec (.mspiWrite addr words) s = .next (State.endCycle (s.mspiFall.mspiWrites addr.toNat (words.take 64)))) ∧
  (∀ (s t : State) (addr : Word) (n : Fin 64) (bs : List Nat), s.held = false → s.mspiFall.mspiReads addr.toNat (n + 1) = (bs, t) →
    exec (.mspiRead addr n) s = .next (State.endCycle (t.emit (.mspi bs)))) ∧
  (∀ (s : State) (code : Nat), s.held = false → s.mspiErr = some code →
    exec .mspiStatus s = .next (State.endCycle (({ s.mspiFall with mspiErr := none } : State).emit (.mspi [0x80 + code])))) ∧
  (∀ s : State, s.held = false → s.mspiErr = none →
    exec .mspiStatus s = .next (State.endCycle (({ s.mspiFall with mspiErr := none } : State).emit (.mspi [0]))))

/-- Power commands, steps, wakes, classes, reference loss, resets and performance counter control: each one's whole effect. R415, R416, R419, R422, R423, R429, R434, R439, R492, R493, R494. -/
def Obligations.PowerAndResetCommandsTakeEffect : Prop :=
  (∀ (s : State) (r : Req) (v : Word), s.grants r Reg.PWR_CMD → s.bit Reg.PWR_STATUS Fld.PWR_STATUS_SAFE = false → s.power.trans = none →
    s.pstate = 4 → getF v Fld.PWR_CMD_TARGET = 5 →
    exec (.pwrCmd r v) s = .next (State.endCycle (((s.entering r).beginTrans ⟨true, 8, 0, s.tick, 5, 4, false⟩).answer r 0 0))) ∧
  (∀ (s : State) (r : Req) (v : Word), s.grants r Reg.PWR_CMD → s.bit Reg.PWR_STATUS Fld.PWR_STATUS_SAFE = false → s.power.trans = none →
    s.pstate = 5 → getF v Fld.PWR_CMD_TARGET = 4 →
    exec (.pwrCmd r v) s = .next (State.endCycle (((s.entering r).beginTrans ⟨false, 12, 0, s.tick, 4, 5, false⟩).answer r 0 0))) ∧
  (∀ (s : State) (r : Req) (v : Word), s.grants r Reg.PWR_CMD → s.bit Reg.PWR_STATUS Fld.PWR_STATUS_SAFE = false → s.power.trans = none →
    s.pstate = 5 → getF v Fld.PWR_CMD_TARGET = 6 →
    exec (.pwrCmd r v) s =
      .next (State.endCycle ((((((s.entering r).setFld Reg.PWR_STATUS Fld.PWR_STATUS_ERR 0).reachState 6).stateMute false)).answer r 0 0))) ∧
  (∀ (s : State) (r : Req) (v : Word), s.grants r Reg.PWR_CMD → s.bit Reg.PWR_STATUS Fld.PWR_STATUS_SAFE = false → s.power.trans = none →
    s.pstate = 4 → 1 ≤ getF v Fld.PWR_CMD_TARGET → getF v Fld.PWR_CMD_TARGET ≤ 3 → s.workInProgress = false →
    exec (.pwrCmd r v) s =
      .next (State.endCycle (((s.entering r).beginTrans ⟨false, if getF v Fld.PWR_CMD_TARGET = 2 then 13 else 14, 0, s.tick, getF v Fld.PWR_CMD_TARGET, 4, false⟩).answer
        r 0 0))) ∧
  (∀ (s : State) (r : Req) (v : Word), s.grants r Reg.PWR_CMD → s.power.trans.isSome = true →
    exec (.pwrCmd r v) s = .next (State.endCycle ((s.entering r).answer r 7 0))) ∧
  (∀ (s : State) (refclk swapped : Bool) (lost : BitVec 7) (t : Trans), s.power.trans = some t → s.held = false → t.at_ + stepTicks t.step ≤ s.tick →
    s.power.safeDue = false →
    exec (.powerStep refclk swapped lost) s = .next (State.endCycle (if t.up then s.upNext t refclk swapped lost.toNat else s.downNext t))) ∧
  (∀ (s : State) (mask : BitVec 4) (src : Nat), src = Nat.land mask.toNat (s.fld Reg.PWR_CTL Fld.PWR_CTL_WAKEEN) → src ≠ 0 → s.held = false →
    s.power.trans = none → 1 ≤ s.pstate → s.pstate ≤ 3 →
    exec (.wake mask) s = .next (State.endCycle ((s.setFld Reg.PWR_WAKESRC Fld.PWR_WAKESRC_SRC src).beginWake))) ∧
  (∀ (s t : State) (p : Fin 2) (src : Nat), s.setPort p { s.port p with beacon := false } = t →
    src = Nat.land (4 * 2 ^ p.val) (s.fld Reg.PWR_CTL Fld.PWR_CTL_WAKEEN) → src ≠ 0 → s.held = false → s.power.trans = none → 1 ≤ s.pstate → s.pstate ≤ 3 →
    exec (.wakeActivity p) s = .next (State.endCycle ((t.setFld Reg.PWR_WAKESRC Fld.PWR_WAKESRC_SRC src).beginWake))) ∧
  (∀ (s : State) (r : Req) (v : Word), s.grants r Reg.PWR_CLASS →
    exec (.pwrClassWrite r v) s =
      .next (State.endCycle (((s.entering r).classChange (getF v Fld.PWR_CLASS_CLASS) (getF v Fld.PWR_CLASS_NOFF) (s.entering r).nowTh).answer r 0 0))) ∧
  (∀ (s : State) (t0 : Nat), s.power.graceAt = some t0 → s.bit Reg.CANARY_STAT Fld.CANARY_STAT_THROT = true → t0 + s.graceTicks ≤ s.tick →
    s.fld Reg.PWR_CLASS Fld.PWR_CLASS_CLASS < 2 →
    exec .throtEnforced s =
      .next (State.endCycle ((s.raise 0x2006 0xFF).classChange (s.fld Reg.PWR_CLASS Fld.PWR_CLASS_CLASS + 1) (s.fld Reg.PWR_CLASS Fld.PWR_CLASS_NOFF) s.nowTh))) ∧
  (∀ (s : State) (t0 : Nat), s.power.graceAt = some t0 → s.bit Reg.CANARY_STAT Fld.CANARY_STAT_THROT = true → t0 + s.graceTicks ≤ s.tick →
    s.fld Reg.PWR_CLASS Fld.PWR_CLASS_CLASS = 2 →
    exec .throtEnforced s = .next (State.endCycle ((s.raise 0x2006 0xFF).classChange 3 1 s.nowTh))) ∧
  (∀ s : State, 4 ≤ s.pstate → s.pstate ≤ 6 → s.clkOn Fld.SYS_CLK_STATUS_REFCLK_LOCK = true →
    exec .refclkLost s =
      .next (State.endCycle (((s.setClk Fld.SYS_CLK_STATUS_REFCLK_LOCK false).setClk Fld.SYS_CLK_STATUS_REFCLK false).raise 0x1011 0xFF))) ∧
  (∀ (s : State) (swapped : Bool), 4 ≤ s.pstate → s.pstate ≤ 6 →
    exec (.refclkRelock swapped) s =
      .next (State.endCycle (((s.setClk Fld.SYS_CLK_STATUS_REFCLK_LOCK true).setClk Fld.SYS_CLK_STATUS_REFCLK true).setClk Fld.SYS_CLK_STATUS_REFCLK_SWAP swapped))) ∧
  (∀ (s t : State) (r : Req) (v : Word), s.grants r Reg.PMU_CTL → (s.entering r).plainWrite Reg.PMU_CTL (setF v Fld.PMU_CTL_SNAP 0) = t →
    (s.entering r).wouldChange Reg.PMU_CTL (setF v Fld.PMU_CTL_SNAP 0) Fld.PMU_CTL_FREEZE = true →
    exec (.freeze r v) s =
      .next (State.endCycle (({ t with pmu := { t.pmu with freeze := t.pmu.freeze ++ [(getF v Fld.PMU_CTL_FREEZE == 1, s.tick + pmuDelay)] } } : State).answer r 0 0))) ∧
  (∀ (s t : State) (r : Req) (v : Word), s.grants r Reg.PMU_CTL → s.bit Reg.PMU_STAT Fld.PMU_STAT_SNAPPING = false →
    (s.entering r).plainWrite Reg.PMU_CTL (setF v Fld.PMU_CTL_SNAP 1) = t →
    (s.entering r).wouldChange Reg.PMU_CTL (setF v Fld.PMU_CTL_SNAP 1) Fld.PMU_CTL_FREEZE = false →
    exec (.snap r v) s =
      .next (State.endCycle ((({ t with pmu := { t.pmu with snapAt := some (s.tick + pmuDelay) } } : State).setFld Reg.PMU_STAT Fld.PMU_STAT_SNAPPING 1).answer r 0 0))) ∧
  (∀ (s : State) (r : Req) (v : Word), s.grants r Reg.PMU_CTL → s.bit Reg.PMU_STAT Fld.PMU_STAT_SNAPPING = true →
    exec (.snap r v) s = .next (State.endCycle ((s.entering r).answer r 7 0))) ∧
  (∀ (s t : State) (r : Req) (b : Fin 46) (k : Fin 8) (v : Word), s.grants r (Reg.PMU_SEL b k) → (s.entering r).plainWrite (Reg.PMU_SEL b k) v = t →
    exec (.pmuSelWrite r b k v) s =
      .next (State.endCycle ((if k.val % 2 = 0 then t.setFld (Reg.PMU_SEL b k) Fld.PMU_SEL_CHAIN 0 else t).answer r 0 0))) ∧
  (∀ (s t : State) (b at_ : Nat) (rest : List (Nat × Nat)), s.pmu.ovfs = (b, at_) :: rest → s.pmu.ovfDue = false →
    s.bit Reg.PMU_STAT Fld.PMU_STAT_FROZEN = false →
    (s.wr Reg.PMU_STAT (setF (setF (s.rd Reg.PMU_STAT) Fld.PMU_STAT_OVFZ 1) Fld.PMU_STAT_OVFBANK b)).setFld Reg.PMU_CTL Fld.PMU_CTL_FREEZE 1 = t →
    exec .pmuOverflowFreeze s =
      .next (State.endCycle { t with pmu := { s.pmu with ovfs := [], freeze := s.pmu.freeze ++ [(true, at_ + pmuDelay)], ovfDue := true } })) ∧
  (∀ (s : State) (por : Bool),
    exec (.resetEntry por) s =
      .next (State.endCycle (s.allReset (!por && !s.power.off) { off := s.power.off, porLow := por || s.power.porLow, rstLow := !por || s.power.rstLow }))) ∧
  (∀ s : State, s.power.off = false → s.power.porLow = false → s.power.rstLow = true →
    exec (.resetExit false) s = .next (State.endCycle (({ s with power := { s.power with rstLow := false } } : State).feSafe))) ∧
  (∀ s : State, s.power.off = false → s.power.porLow = true → s.power.rstLow = false →
    exec (.resetExit true) s = .next (State.endCycle (({ s with power := { s.power with porLow := false } } : State).feSafe))) ∧
  (∀ s : State, exec .vddAonLoss s = .next (State.endCycle { s.allReset false { off := true, porLow := true, rstLow := s.power.rstLow } with tb := 0 })) ∧
  (∀ s : State, s.power.off = true →
    exec .vddAonApply s = .next (State.endCycle { s with tb := 0, power := { s.power with off := false, porLow := true } }))

/-- Boot, firmware swap, attestation and OTP services: each command's whole effect on a request that is served. R440, R441, R446, R451, R454, R457, R459, R462, R463, R472, R477. -/
def Obligations.ServicesAndBootTakeEffect : Prop :=
  (∀ (s t : State) (dst : BitVec 8) (data : List Byte) (t0 st : Nat) (bs : List Byte) (sp : Nat),
    s.sec.adit = .port t0 → s.fld Reg.SEC_BOOTSRC Fld.SEC_BOOTSRC_SPACE = sp → s.portServes (sp - 1) = true →
    s.fetchImage sp (s.rd64 Reg.SEC_BOOTADDR) (s.rd Reg.SEC_BOOTLEN).toNat dst.toNat data = (st, bs, t) → st % 256 ≠ 3 →
    exec (.aditFetch dst data) s =
      .next (State.endCycle (let v := if st ≠ 0 then st else t.verifyImage bs true
        if v ≠ 0 then (t.rejectImage v).aditStep3
        else (t.copyImage 0 bs).setSec (fun (x : SecSt) => { x with adit := .verified (imageOf bs sp (s.rd64 Reg.SEC_BOOTADDR)) none })))) ∧
  (∀ (s : State) (t0 : Nat), s.sec.adit = .port t0 → t0 + msTicks 2000 ≤ s.tick →
    exec .aditWaitTimeout s = .next (State.endCycle (s.setSec (fun (x : SecSt) => { x with adit := .message })))) ∧
  (∀ (s t u : State) (c : Fin 32) (dst : BitVec 8) (data : List Byte) (q : SvcReq) (ws : List Nat) (st : Nat) (bs : List Byte),
    s.serves c 0x01 q ws t → t.sec.adit = .message → spaceOk (reqSpace ws) (reqAddr ws) (ws.getD 4 0) = true →
    t.fetchImage (reqSpace ws) (reqAddr ws) (ws.getD 4 0) dst.toNat data = (st, bs, u) → st % 256 ≠ 3 →
    exec (.load c dst data) s =
      .next (State.endCycle (let v := if st ≠ 0 then st else u.verifyImage bs (!bitAt (ws.getD 5 0) 0)
        if v ≠ 0 then ((u.rejectImage v).svcReply q v).aditStep3
        else (u.copyImage 0 bs).setSec (fun (x : SecSt) => { x with adit := .verified (imageOf bs (reqSpace ws) (reqAddr ws)) (some q) })))) ∧
  (∀ (s : State) (i : Image) (q : Option SvcReq), s.sec.adit = .verified i q →
    exec .bootDone s =
      .next (State.endCycle (((((s.setFld Reg.SEC_FW Fld.SEC_FW_FWSEL 0).recordImage i).setSec (fun (x : SecSt) => { x with adit := .done })).fwRestart q).raise
        0x7001 0xFF))) ∧
  (∀ s : State, s.sec.adit = .done → s.bit Reg.ASSAY_STAT Fld.ASSAY_STAT_FWPAUSE = true → s.sec.fwReply = none →
    exec .firmwareReply s =
      .next (State.endCycle ((s.setFld Reg.ASSAY_STAT Fld.ASSAY_STAT_FWPAUSE 0).setSec (fun (x : SecSt) => { x with fwReply := none, ch15 := false })))) ∧
  (∀ (s : State) (q : SvcReq), s.sec.adit = .done → s.bit Reg.ASSAY_STAT Fld.ASSAY_STAT_FWPAUSE = true → s.sec.fwReply = some q →
    exec .firmwareReply s =
      .next (State.endCycle (((s.svcReply q 0).setFld Reg.ASSAY_STAT Fld.ASSAY_STAT_FWPAUSE 0).setSec (fun (x : SecSt) => { x with fwReply := none, ch15 := false })))) ∧
  (∀ (s t : State), s.clkOn Fld.SYS_CLK_STATUS_CCLK = true → s.ownerLost 4 2 = t →
    exec .foremanLockstep s =
      .next (State.endCycle ((if t.sec.adit = .done then (t.fwRestart none).setSec (fun (x : SecSt) => { x with swapReq := none }) else t.startAdit).raise 0x6010 0xFF))) ∧
  (∀ (s t u : State) (c : Fin 32) (dst : BitVec 8) (data : List Byte) (q : SvcReq) (ws : List Nat) (st : Nat) (bs : List Byte),
    s.serves c 0x02 q ws t → t.bit Reg.SEC_FW Fld.SEC_FW_SWAP_PEND = false → spaceOk (reqSpace ws) (reqAddr ws) (ws.getD 4 0) = true →
    t.fetchImage (reqSpace ws) (reqAddr ws) (ws.getD 4 0) dst.toNat data = (st, bs, u) → st % 256 ≠ 3 →
    exec (.stage c dst data) s =
      .next (State.endCycle (let v0 := if st ≠ 0 then st else u.verifyImage bs false
        let v := if v0 = 0 ∧ bitsAt (byteWord bs 4) 0 6 < u.fld Reg.SEC_SVN Fld.SEC_SVN_RUN then 8 else v0
        if v ≠ 0 then (u.rejectImage v).svcReply q v
        else ((((u.copyImage u.otherBank bs).setFld Reg.SEC_FW Fld.SEC_FW_STAGED 1).setSec (fun (y : SecSt) =>
          { y with staged := some (imageOf bs (reqSpace ws) (reqAddr ws)) })).raise 0x7003 0xFF).svcReply q 0))) ∧
  (∀ (s t : State) (c : Fin 32) (q : SvcReq) (ws : List Nat), s.serves c 0x03 q ws t → t.bit Reg.SEC_FW Fld.SEC_FW_SWAP_PEND = false →
    t.stNow ≤ reqAddr ws → t.sec.staged.isSome = true →
    exec (.fwSwap c) s =
      .next (State.endCycle (((t.setFld Reg.SEC_FW Fld.SEC_FW_SWAP_PEND 1).wr64 Reg.SEC_SWAPT (reqAddr ws)).setSec (fun (x : SecSt) => { x with swapReq := some q })))) ∧
  (∀ (s t : State) (c : Fin 32) (q : SvcReq) (ws : List Nat), s.serves c 0x03 q ws t → t.bit Reg.SEC_FW Fld.SEC_FW_SWAP_PEND = false →
    reqAddr ws < t.stNow → exec (.fwSwap c) s = .next (State.endCycle (t.svcReply q 11))) ∧
  (∀ (s t : State) (i : Image), s.bit Reg.SEC_FW Fld.SEC_FW_SWAP_PEND = true → s.rd64 Reg.SEC_SWAPT ≤ s.stNow →
    s.clkOn Fld.SYS_CLK_STATUS_CCLK = true → s.sec.staged = some i →
    ((s.wr Reg.SEC_FW (setF (setF (setF (s.rd Reg.SEC_FW) Fld.SEC_FW_FWSEL s.otherBank) Fld.SEC_FW_STAGED 0) Fld.SEC_FW_SWAP_PEND 0)).recordImage
      i).fwRestart s.sec.swapReq = t →
    exec .fwSwapped s = .next (State.endCycle ((t.setSec (fun (x : SecSt) => { x with staged := none, swapReq := none })).raise 0x7004 0xFF))) ∧
  (∀ (s t u v : State) (c : Fin 32) (q : SvcReq) (ws : List Nat) (sig : List Byte) (st : Nat), s.serves c 0x10 q ws t →
    spaceOk (reqSpace ws) (reqAddr ws) 1792 = true → t.sec.identity = true → t.idSign (t.report (ws.drop 4)) = (sig, u) →
    u.svcWrite (reqSpace ws) (reqAddr ws) (t.report (ws.drop 4) ++ sig) = (st, v) →
    exec (.attest c) s = .next (State.endCycle (if st ≠ 0 then v.svcReply q (3 + 256 * st) else (v.raise 0x7008 0xFF).svcReply q 0))) ∧
  (∀ (s t : State) (c : Fin 32) (q : SvcReq) (ws : List Nat), s.serves c 0x10 q ws t →
    spaceOk (reqSpace ws) (reqAddr ws) 1792 = true → t.sec.identity = false → exec (.attest c) s = .next (State.endCycle (t.svcReply q 6))) ∧
  (∀ (s t v : State) (c : Fin 32) (q : SvcReq) (ws : List Nat) (st : Nat), s.serves c 0x11 q ws t →
    spaceOk (reqSpace ws) (reqAddr ws) 1793 = true → t.sec.identity = true →
    t.svcWrite (reqSpace ws) (reqAddr ws) (idKey (t.otp.seed.getD 0)) = (st, v) →
    exec (.idGet c) s = .next (State.endCycle (v.svcReply q (if st = 0 then 0 else 3 + 256 * st)))) ∧
  (∀ (s t : State) (c : Fin 32) (q : SvcReq) (ws : List Nat), s.serves c 0x20 q ws t → t.sec.otpOp = none → ws.getD 1 0 < 4 → t.otp.lc < 2 →
    t.otp.prog.testBit (ws.getD 1 0) = false → t.otp.dead.testBit (ws.getD 1 0) = false →
    exec (.rootProg c) s = .next (State.endCycle (t.startOtp q (.slot (ws.getD 1 0) ((List.range 8).map (fun k => ws.getD (k + 2) 0)))))) ∧
  (∀ (s t : State) (c : Fin 32) (q : SvcReq) (ws live : List Nat), s.serves c 0x21 q ws t → t.sec.otpOp = none → ws.getD 1 0 < 4 →
    t.otp.lc ≠ 0 → t.otp.lc ≠ 3 → live = (List.range 4).filter (fun k => t.otp.prog.testBit k && !t.otp.revoked.testBit k) →
    live.contains (ws.getD 1 0) = true → 1 < live.length → exec (.rootRevoke c) s = .next (State.endCycle (t.startOtp q (.revoke (ws.getD 1 0))))) ∧
  (∀ (s t : State) (c : Fin 32) (q : SvcReq) (ws : List Nat), s.serves c 0x22 q ws t → t.sec.otpOp = none → ws.getD 1 0 < 64 →
    ws.getD 1 0 ≤ t.fld Reg.SEC_SVN Fld.SEC_SVN_RUN → exec (.svnCommit c) s = .next (State.endCycle (t.startOtp q (.svn (ws.getD 1 0))))) ∧
  (∀ (s t : State) (c : Fin 32) (q : SvcReq) (ws : List Nat), s.serves c 0x22 q ws t → t.sec.otpOp = none → ws.getD 1 0 < 64 →
    t.fld Reg.SEC_SVN Fld.SEC_SVN_RUN < ws.getD 1 0 → exec (.svnCommit c) s = .next (State.endCycle (t.otpEnd q 8))) ∧
  (∀ (s t : State) (c : Fin 32) (q : SvcReq) (ws : List Nat), s.serves c 0x23 q ws t → t.sec.otpOp = none → ws.getD 1 0 < 4 →
    (t.otp.lc = 0 ∧ ws.getD 1 0 = 1 ∧ t.otp.seed.isSome = true ∧ t.otp.prog ≠ 0) ∨ (t.otp.lc = 1 ∧ (ws.getD 1 0 = 2 ∨ ws.getD 1 0 = 3)) ∨
      (t.otp.lc = 2 ∧ ws.getD 1 0 = 3) → exec (.lcAdvance c) s = .next (State.endCycle (t.startOtp q (.lifecycle (ws.getD 1 0))))) ∧
  (∀ (s t : State) (c : Fin 32) (q : SvcReq) (ws : List Nat) (v : Nat), s.takeFree.2.serves c 0x24 q ws t → s.takeFree.1 = v → t.sec.otpOp = none →
    t.otp.lc = 0 → t.otp.idUsed = false →
    exec (.idGen c) s = .next (State.endCycle (t.startOtp q (.identity v (hashWords 256 (hash256 (idKey v)).toNat))))) ∧
  (∀ (s t : State) (c : Fin 32) (q : SvcReq) (ws : List Nat) (w : Nat), s.serves c 0x25 q ws t → t.sec.otpOp = none → w = ws.getD 1 0 / 256 * 256 →
    t.unitRetired (bitsAt w 28 4) (bitsAt w 20 8) (bitsAt w 8 12) (ws.getD 2 0) = true → t.otp.recs.length < 512 →
    exec (.repairCommit c) s = .next (State.endCycle (t.startOtp q (.repair w (ws.getD 2 0))))) ∧
  (∀ (s t : State) (ok : Bool) (o : OtpOp) (q : SvcReq), s.sec.otpOp = some (o, q) → s.clkOn Fld.SYS_CLK_STATUS_CCLK = true →
    (s.setSec (fun (x : SecSt) => { x with otpOp := none })).setFld Reg.SEC_OTP_STAT Fld.SEC_OTP_STAT_BUSY 0 = t →
    exec (.otpOperationDone ok) s =
      .next (State.endCycle (if ok then (t.otpMark o).otpEnd q 0 else (t.setOtp (fun (x : OtpSt) => x.cut o)).otpEnd q 13)))

/-- HELLO, ENCAP, CLOSE and the handshake timeout: each one's whole effect on a port with SECURE and SEC_EN. R103, R105, R106, R457, R458. -/
def Obligations.SessionMessagesTakeEffect : Prop :=
  (∀ (s t u : State) (p : Fin 2) (h : RxHdr) (tag : BitVec 8) (nonce : BitVec 256) (cert : List Byte),
    s.lstate p = 2 → s.inOrder p h → s.tookBk p h (handshakeLen (32 + cert.length)) true = t → t.hasSecure p = true →
    t.bit (Reg.LINK_CTL p) Fld.LINK_CTL_SEC_EN = true → (t.sessionEnd p).setFld (Reg.LINK_SEC_STAT p) Fld.LINK_SEC_STAT_HS_BUSY 1 = u →
    u.sec.identity = false →
    exec (.hello p h none tag nonce cert) s = .next (State.endCycle ((u.hsFail p 2).sendCpl p tag.toNat 0 false 1 [0, 0]))) ∧
  (∀ (s t u : State) (p : Fin 2) (h : RxHdr) (tag : BitVec 8) (nonce : BitVec 256) (cert : List Byte),
    s.lstate p = 2 → s.inOrder p h → s.tookBk p h (handshakeLen (32 + cert.length)) true = t → t.hasSecure p = true →
    t.bit (Reg.LINK_CTL p) Fld.LINK_CTL_SEC_EN = true → (t.sessionEnd p).setFld (Reg.LINK_SEC_STAT p) Fld.LINK_SEC_STAT_HS_BUSY 1 = u →
    u.sec.identity = true → cert.length ≠ 5056 →
    exec (.hello p h none tag nonce cert) s = .next (State.endCycle ((u.hsFail p 1).sendCpl p tag.toNat 0 false 1 [0, 0]))) ∧
  (∀ (s t u v w x : State) (p : Fin 2) (h : RxHdr) (tag : BitVec 8) (nonce : BitVec 256) (cert own key sig : List Byte) (draw : Nat) (t1 : BitVec 512),
    s.lstate p = 2 → s.inOrder p h → s.tookBk p h (handshakeLen (32 + cert.length)) true = t → t.hasSecure p = true →
    t.bit (Reg.LINK_CTL p) Fld.LINK_CTL_SEC_EN = true → (t.sessionEnd p).setFld (Reg.LINK_SEC_STAT p) Fld.LINK_SEC_STAT_HS_BUSY 1 = u →
    u.sec.identity = true → u.freeBytes 32 = (own, v) → v.takeFree = (draw, w) → key = own ++ kemKey draw →
    t1 = hash512 (natLE 32 nonce.toNat ++ cert ++ key) → w.idSign (hashBytes 512 t1.toNat) = (sig, x) →
    exec (.hello p h none tag nonce cert) s =
      .next (State.endCycle ((if u.certOk cert then
          (x.setLink p { x.link p with hs := some ⟨x.tick, t1, bitsAt (byteWord cert 0) 0 4, slice cert 64 1793, v.free⟩ }).sendHs p 2 (key ++ sig)
        else u.hsFail p 1).sendCpl p tag.toNat 0 false 1 [0, 0]))) ∧
  (∀ (s t : State) (p : Fin 2) (h : RxHdr) (tag : BitVec 8) (ct sig : List Byte),
    s.lstate p = 2 → s.inOrder p h → s.tookBk p h (handshakeLen (ct.length + sig.length)) true = t → t.hasSecure p = true →
    t.bit (Reg.LINK_CTL p) Fld.LINK_CTL_SEC_EN = true → (t.link p).hs = none →
    exec (.encap p h none tag ct sig) s = .next (State.endCycle (t.sendCpl p tag.toNat 0 false 1 [0, 0]))) ∧
  (∀ (s t : State) (p : Fin 2) (h : RxHdr) (tag : BitVec 8) (ct sig : List Byte) (x : Handshake),
    s.lstate p = 2 → s.inOrder p h → s.tookBk p h (handshakeLen (ct.length + sig.length)) true = t → t.hasSecure p = true →
    t.bit (Reg.LINK_CTL p) Fld.LINK_CTL_SEC_EN = true → (t.link p).hs = some x → x.late t.tick = true →
    exec (.encap p h none tag ct sig) s = .next (State.endCycle ((t.hsFail p 4).sendCpl p tag.toNat 0 false 1 [0, 0]))) ∧
  (∀ (s t u v : State) (p : Fin 2) (h : RxHdr) (tag : BitVec 8) (ct sig : List Byte) (x : Handshake) (k kD : BitVec 256) (t2 : BitVec 512),
    s.lstate p = 2 → s.inOrder p h → s.tookBk p h (handshakeLen (ct.length + sig.length)) true = t → t.hasSecure p = true →
    t.bit (Reg.LINK_CTL p) Fld.LINK_CTL_SEC_EN = true → (t.link p).hs = some x → x.late t.tick = false →
    t2 = hash512 (hashBytes 512 x.t1.toNat ++ ct) → k = (kemOpen (Config.freeValue x.kem) ct).getD 0 → kD = sessionKey k t2 true →
    t.setLink p { t.link p with hs := none, keyD2H := kD, keyH2D := sessionKey k t2 false, rxCtr := 0, txCtr := 0 } = u →
    (u.wr (Reg.LINK_SEC_STAT p) (setF (setF (setF (u.rd (Reg.LINK_SEC_STAT p)) Fld.LINK_SEC_STAT_ROOT x.slot) Fld.LINK_SEC_STAT_HS_BUSY 0)
      Fld.LINK_SEC_STAT_OPEN 1)).setFld (Reg.LINK_STATUS p) Fld.LINK_STATUS_SECURE 1 = v →
    exec (.encap p h none tag ct sig) s =
      .next (State.endCycle ((if falconOk x.hostKey sig (hashBytes 512 t2.toNat) = false then t.hsFail p 2
        else if ct.length ≠ 1568 then t.hsFail p 3
        else (v.sendHs p 4 (natLE 16 (doneTag kD t2).toNat)).raise 0x3016 p).sendCpl p tag.toNat 0 false 1 [0, 0]))) ∧
  (∀ (s t : State) (p : Fin 2) (h : RxHdr) (tag : BitVec 8) (tr : SecTrailer),
    s.lstate p = 2 → s.inOrder p h → s.tookBk p h 3 true = t → t.hasSecure p = true →
    exec (.close p h (some tr) tag) s =
      .next (State.endCycle (if t.trailerOk p tr (securePrefix 0x15 1 h (0xFF * 2 ^ 24 + 5 * 2 ^ 16 + tag.toNat * 256) [0, 0] tr.ctr) then
          (if 2 ^ 48 ≤ tr.ctr.toNat then ((t.takeCtr p tr).sessionEnd p).sessionEnd p else (t.takeCtr p tr).sessionEnd p).sendCpl p tag.toNat 0 true 1 [0, 0]
        else (t.secReject p).sendCpl p tag.toNat 2 false 1 [0, 0]))) ∧
  (∀ (s t : State) (p : Fin 2) (h : RxHdr) (tag : BitVec 8), s.lstate p = 2 → s.inOrder p h → s.tookBk p h 1 true = t →
    exec (.close p h none tag) s = .next (State.endCycle (t.sendCpl p tag.toNat 2 false 1 [0, 0]))) ∧
  (∀ (s : State) (p : Fin 2) (x : Handshake), (s.link p).hs = some x → x.late s.tick = true →
    exec (.handshakeTimeout p) s = .next (State.endCycle (s.hsFail p 4)))

/-- A step takes the command at the front of the queue and answers what exec answers with the queue's rest. -/
def Obligations.StepRunsTheFrontCommand : Prop :=
  (∀ (c : Instr) (s : State) (rest : List Instr), s.pending = c :: rest → step s = exec c { s with pending := rest }) ∧
  (∀ s : State, s.pending = [] → step s = .next s.idleTick)

/-- No command stops the machine: from every state a step answers a next state. R24, R79. -/
def Obligations.EveryStepGoesOn : Prop := ∀ s : State, s.goesOn

/-- No command touches the queue, and as many steps as commands wait run them in the order in which they were queued. R24, R81. -/
def Obligations.CommandsRunFirstInFirstOut : Prop :=
  (∀ (c : Instr) (s t : State), exec c s = .next t → t.pending = s.pending) ∧
  (∀ (cs rest : List Instr) (s : State), s.pending = cs ++ rest → ∃ t, runs cs.length s t ∧ t.pending = rest) ∧
  (∀ (c : Instr) (cs rest : List Instr) (s : State), s.pending = cs ++ c :: rest →
    ∃ t u, runs cs.length s t ∧ exec c { t with pending := rest } = .next u ∧ runs (cs.length + 1) s u)

/-- TB_CNT is set to 0 only when VDD_AON goes or comes: every other command leaves it, and a tick counts one while TCLK runs. R132, R415, R439. -/
def Obligations.OnlyTheAlwaysOnSupplySetsTheCountBack : Prop :=
  (∀ (c : Instr) (s t : State), exec c s = .next t → c ≠ .vddAonLoss → c ≠ .vddAonApply → t.tb = s.tb ∧ t.tick = s.tick) ∧
  (∀ s : State, s.idleTick.tick = s.tick + 1 ∧ s.idleTick.tb = if s.tclk then (s.tb + 1) % 2 ^ 64 else s.tb)

/-- Every step keeps memory in its canonical form: addresses rising, nothing listed that reads as an unlisted byte. R426. -/
def Obligations.MemoryKeepsItsForm : Prop := ∀ s t : State, Memory.wf s.mem = true → step s = .next t → Memory.wf t.mem = true

/-- Right after reset every register reads as its table says, memory lists nothing, the queue is empty. R8, R38, R132, R439, R481. -/
def Obligations.ResetLeavesTheTableValues : Prop :=
  (∀ a, State.reset.rd a = resetWord a) ∧ State.reset.canonical = true ∧ State.reset.pending = [] ∧ State.reset.evs = [] ∧
  State.reset.rd Reg.EVT_NEXT = 0 ∧ State.reset.tb = 0 ∧ (∀ x : Fin 2, State.reset.rd64 (Reg.TD_INC x) = 0x01046AAAAAAB) ∧
  (∀ p : Fin 2, State.reset.lstate p = 0) ∧ State.reset.pstate = 1 ∧ State.reset.held = false ∧
  (∀ r, State.reset.busOf r = ({} : BusUnit))

/-- R135: the domain time at a count is offset plus (count minus anchor) times increment, in units of 2^-16 ns, cut to seconds, nanoseconds and rest. R135. -/
def Obligations.DomainTimeFollowsTheReadEquation : Prop :=
  (∀ (s : State) (x : Fin 2) (tb anchor inc offSec offNs offSubns d q t : Nat),
    anchor = s.rd64 (Reg.TD_ANCHOR x) → anchor ≤ tb → tb < 2 ^ 64 → inc = s.incInForce x → d = tb - anchor → q = (d * inc) >>> 24 →
    offSubns = (s.rd (Reg.TD_OFFSET x)).toNat % 65536 → offNs = (s.rd (Reg.TD_OFFSET x + 4)).toNat →
    offSec = (s.rd (Reg.TD_OFFSET x + 8)).toNat + 2 ^ 32 * ((s.rd (Reg.TD_OFFSET x + 12)).toNat % 65536) →
    t = (offSec * 1000000000 + offNs) * 65536 + offSubns + q →
    s.domAt x tb = t ∧
      timeWords t = [t % 65536, (t / 65536) % 1000000000, t / (1000000000 * 65536) % 2 ^ 32, t / (1000000000 * 65536) / 2 ^ 32 % 65536]) ∧
  (∀ (s : State) (x : Fin 2), 0x010428000000 ≤ s.rd64 (Reg.TD_INC x) → s.rd64 (Reg.TD_INC x) ≤ 0x0104AD555556 →
    s.incInForce x = s.rd64 (Reg.TD_INC x)) ∧
  (∀ x : Fin 2, State.reset.rd64 (Reg.TD_INC x) = 0x01046AAAAAAB) ∧ (0x01046AAAAAAB : Nat) = 1118481066667 ∧
  (1000 * 2 ^ 40 * 100 < 1118481066667 * 98304 ∧ 1118481066666 * 98304 < 1000 * 2 ^ 40 * 100) ∧
  983040000 * 86400 * 10 / (3 * 2 ^ 40) = 257

/-- A committed OFFSET makes the domain read the written value, a STEP moves it by the step, an INC leaves the time where it is. R135, R136, R137. -/
def Obligations.CommittedWritesReanchorTheirDomain : Prop :=
  ∀ (s : State) (x : Fin 2), s.tb < 2 ^ 64 → s.dom x < 2 ^ 48 * uPerSec →
    (∀ t, t < 2 ^ 48 * uPerSec → (s.offsetCommit x t).dom x = t ∧ (s.offsetCommit x t).rd64 (Reg.TD_ANCHOR x) = s.tb ∧
      (s.offsetCommit x t).bit Reg.TIME_STATUS (validFld x) = true) ∧
    (∀ v : DWord, 0 ≤ (s.dom x : Int) + sext v.toNat 64 → (s.dom x : Int) + sext v.toNat 64 < (2 ^ 48 * uPerSec : Nat) →
      ((s.stepCommit x v.toNat).dom x : Int) = s.dom x + sext v.toNat 64 ∧ (s.stepCommit x v.toNat).rd64 (Reg.TD_ANCHOR x) = s.tb) ∧
    (∀ v : DWord, v.toNat < 2 ^ 48 → (s.incCommit x v.toNat).dom x = s.dom x ∧ (s.incCommit x v.toNat).rd64 (Reg.TD_ANCHOR x) = s.tb ∧
      (s.incCommit x v.toNat).rd64 (Reg.TD_INC x) = v.toNat ∧
      ((s.incCommit x v.toNat).bit Reg.TIME_STATUS (clampFld x) = true ↔ v.toNat < 0x010428000000 ∨ 0x0104AD555556 < v.toNat))

/-- A change of the selected domain leaves the output time where it is. R138, R139. -/
def Obligations.OutputTimeDoesNotJumpAtASwitch : Prop :=
  ∀ (s : State) (x : Fin 2),
    (s.setTsel x).outU = s.outU ∧ (s.setTsel x).tsel = x ∧
    (s.tsel ≠ x.val → (s.setTsel x).transU = (s.outU : Int) - s.dom x)

/-- R31: a low word is held for its requester alone, the high word commits both, another address discards it, a lone high word commits alone. R31. -/
def Obligations.LowWordsAreHeldUntilTheHighWordCommits : Prop :=
  (∀ (s : State) (r : Req) (addr v : Word) (base : Nat), s.writeCauses r addr.toNat = 0 → s.wordGroup addr.toNat = some (base, 2, 0) →
    ∃ t : State, exec (.lowWordWrite r addr v) s = .next t.endCycle ∧ (∀ a, a / 0x10000 ≠ Reg.PMU_CTL / 0x10000 → t.rd a = s.rd a) ∧ t.mem = s.mem ∧
      (∀ q, q ≠ r.id → t.busOf q = s.busOf q) ∧ (s.held = false → (t.busOf r.id).wrTag = some base) ∧
      (t.busOf r.id).wrHold.find? (fun x => x.1 == 0) = some (0, v.toNat)) ∧
  (∀ (s : State) (r : Req) (addr v : Word) (base w code : Nat) (u : State), s.writeCauses r addr.toNat = 0 →
    s.wordGroup addr.toNat = some (base, 2, 1) → (s.busOf r.id).wrTag = some base →
    (s.busOf r.id).wrHold.find? (fun x => x.1 == 0) = some (0, w) →
    (s.dropHeld r).regCommit base [w, v.toNat] s.nowTh = (code, u) → exec (.highWordWrite r addr v) s = .next (State.endCycle (u.answer r code 0))) ∧
  (∀ (s : State) (r : Req) (addr v : Word) (base code : Nat) (u : State), s.writeCauses r addr.toNat = 0 →
    s.wordGroup addr.toNat = some (base, 2, 1) → (s.busOf r.id).wrTag ≠ some base →
    (s.dropHeld r).regCommit base [(s.rd base).toNat, v.toNat] s.nowTh = (code, u) →
    exec (.highWordWrite r addr v) s = .next (State.endCycle (u.answer r code 0))) ∧
  (∀ (s : State) (r : Req) (addr v : Word), s.wordGroup addr.toNat = none →
    exec (.registerWrite r addr v) s = exec (.registerWrite r addr v) (s.dropHeld r)) ∧
  (∀ (s : State) (r : Req) (addr v : Word) (base n w : Nat), s.wordGroup addr.toNat = some (base, n, w) → (s.busOf r.id).wrTag ≠ some base →
    exec (.registerWrite r addr v) s = exec (.registerWrite r addr v) (s.dropHeld r)) ∧
  (∀ (s : State) (r : Req), ((s.dropHeld r).busOf r.id).wrTag = none)

/-- R30: a low word's read latches the high word for its requester, a matching high word's read returns it, another returns the live word. R24, R30. -/
def Obligations.LowReadsLatchTheHighWord : Prop :=
  (∀ (s : State) (r : Req) (addr : Word), s.grants r addr.toNat → s.held = false → s.wordGroup addr.toNat = some (addr.toNat, 2, 0) →
    ∃ t : State, exec (.lowWordRead r addr) s = .next t.endCycle ∧ (t.busOf r.id).data = s.readWord addr.toNat (s.secureReq r) ∧ (t.busOf r.id).resp = 0 ∧
      (t.busOf r.id).rdTag = some addr.toNat ∧ (t.busOf r.id).rdHold = [s.readWord (addr.toNat + 4) (s.secureReq r)] ∧
      (∀ q, q ≠ r.id → t.busOf q = s.busOf q)) ∧
  (∀ (s : State) (r : Req) (addr : Word) (base h : Nat), s.grants r addr.toNat → s.held = false → s.wordGroup addr.toNat = some (base, 2, 1) →
    (s.busOf r.id).rdTag = some base → (s.busOf r.id).rdHold = [h] →
    ∃ t : State, exec (.rcRegisterRead r addr) s = .next t.endCycle ∧ (t.busOf r.id).data = h ∧ (t.busOf r.id).resp = 0 ∧ (t.busOf r.id).rdTag = some base ∧
      (t.busOf r.id).rdHold = [h]) ∧
  (∀ (s : State) (r : Req) (addr : Word) (base : Nat), s.grants r addr.toNat → s.held = false → s.wordGroup addr.toNat = some (base, 2, 1) →
    (s.busOf r.id).rdTag ≠ some base →
    ∃ t : State, exec (.rcRegisterRead r addr) s = .next t.endCycle ∧ (t.busOf r.id).data = s.readWord addr.toNat (s.secureReq r) ∧ (t.busOf r.id).resp = 0)

/-- An access that an address-dependent cause refuses answers the first cause in the order of R26 and does nothing else. R24, R26, R33, R35. -/
def Obligations.RefusedAccessesAnswerTheirCause : Prop :=
  (∀ (s : State) (r : Req) (a : Nat), s.causes r a =
    if findReg a = none ∧ (inWindow a = false ∨ s.unmapped a = true) then 3
    else if securePage a = true ∧ s.secureReq r = false then 2
    else if a % 4 ≠ 0 then 5
    else if s.offline a = true then 1
    else if s.sec.ch15 = true ∧ r.id ≠ 4 ∧ Reg.DMA_GO 15 / 0x100 = a / 0x100 then 7 else 0) ∧
  (∀ (s : State) (r : Req) (addr v : Word) (c : Nat), s.held = false → s.writeCauses r addr.toNat = c → c ≠ 0 → (c = 7 → s.holds addr.toNat = none) →
    ∃ t : State, exec (.registerWrite r addr v) s = .next t.endCycle ∧ (t.busOf r.id).resp = c ∧ t.mem = s.mem ∧
      ∀ a, logWord a = false → a ≠ Reg.SYS_ACCERR → a ≠ Reg.SYS_ACCERR_ADDR → t.rd a = s.rd a) ∧
  (∀ (s : State) (r : Req) (addr : Word) (c : Nat), s.held = false → s.causes r addr.toNat = c → c ≠ 0 →
    ∃ t : State, exec (.rcRegisterRead r addr) s = .next t.endCycle ∧ (t.busOf r.id).resp = c ∧ (t.busOf r.id).data = (if c = 1 then 0x0FF00FF0 else 0) ∧
      t.mem = s.mem ∧ ∀ a, logWord a = false → a ≠ Reg.SYS_ACCERR → a ≠ Reg.SYS_ACCERR_ADDR → t.rd a = s.rd a)

/-- R377: the owner's write of its own ID releases the lock, any other write answers ERR_NOTOWNER and changes no lock. R377. -/
def Obligations.LocksFollowTheirOwner : Prop :=
  (∀ (s : State) (r : Req) (k : Fin 64) (v : Word), s.grants r (Reg.TALLY_LOCK k) → s.held = false → (s.expireLock k).lockOwner k = r.id → r.id ≠ 0 →
    getF v Fld.TALLY_LOCK_OWNER = r.id →
    ∃ t : State, exec (.tallyRelease r k v) s = .next t.endCycle ∧ t.lockOwner k = 0 ∧ (t.busOf r.id).resp = 0 ∧ (∀ j : Fin 64, j ≠ k → t.lockOwner j = s.lockOwner j) ∧
      (∀ q : Req, t.endCycle.grants q (Reg.TALLY_LOCK k) → canOwn q.id = true →
        ∃ u : State, exec (.tallyAcquire q k) t.endCycle = .next u.endCycle ∧ u.lockOwner k = q.id ∧ (u.busOf q.id).data = 0)) ∧
  (∀ (s : State) (r : Req) (k : Fin 64) (v : Word), s.grants r (Reg.TALLY_LOCK k) → s.held = false →
    ((s.expireLock k).lockOwner k ≠ r.id ∨ r.id = 0 ∨ getF v Fld.TALLY_LOCK_OWNER ≠ r.id) →
    ∃ t : State, exec (.tallyRelease r k v) s = .next t.endCycle ∧ (t.busOf r.id).resp = 6 ∧ (∀ j : Fin 64, t.lockOwner j = (s.expireLock k).lockOwner j) ∧ t.locks = (s.expireLock k).locks) ∧
  (∀ (s : State) (k : Fin 64), (s.lockOwner k = 0 ∨ s.tick < (kvGet (fun _ => ({} : LockSt)) s.locks k).at_ +
      usTicks (kvGet (fun _ => ({} : LockSt)) s.locks k).limit) → s.expireLock k = s)

/-- A plain register word takes a write field by field: RW stores, W1C clears, W1S sets, RO, WO and RC keep; reserved bits stay. R6, R9. -/
def Obligations.PlainFieldsTakeWritesByType : Prop :=
  ∀ (s : State) (a : Nat) (v : Word) (row : RegRow) (w : Nat), findReg a = some (row, w) →
    (∀ f ∈ row.fieldsAt w, (s.plainWrite a v).fld a f.fld =
      match f.acc with
      | .rw => getF v f.fld
      | .w1c => getF (s.rd a &&& ~~~ v) f.fld
      | .w1s => getF (s.rd a ||| v) f.fld
      | _ => s.fld a f.fld) ∧
    (∀ i : Nat, i < 32 → (∀ f ∈ row.fieldsAt w, ¬(f.fld.lsb ≤ i ∧ i < f.fld.lsb + f.fld.width)) →
      ((s.plainWrite a v).rd a).getLsbD i = (s.rd a).getLsbD i)

/-- The events of a cycle are logged in the order of R38, each under the next number with the output time, in a ring of 1 024 that marks what it overwrites. R37, R38, R480, R481. -/
def Obligations.LoggedEventsTakeTheNextNumber : Prop :=
  (∀ (s : State) (code unit a6 a7 : Nat), s.raise code unit a6 a7 = { s with raised := ⟨code, unit, a6, a7⟩ :: s.raised }) ∧
  (∀ l : List EvReq, (orderEvents l).Perm l ∧ ((∀ x ∈ l, x.code < 2 ^ 16 ∧ x.unit < 256) →
    (orderEvents l).Pairwise (fun x y => x.base < y.base ∨ (x.base = y.base ∧ (x.code < y.code ∨ (x.code = y.code ∧ x.unit ≤ y.unit)))))) ∧
  (∀ s : State, s.endCycle.evs.map (fun (e : EvRec) => (e.code, e.unit)) =
      (((orderEvents s.raised).reverse.map (fun (x : EvReq) => (x.code, x.unit % 256))) ++ s.evs.map (fun (e : EvRec) => (e.code, e.unit))).take
        (if s.raised = [] then s.evs.length else 1024) ∧
    s.endCycle.rd Reg.EVT_NEXT = s.rd Reg.EVT_NEXT + BitVec.ofNat 32 s.raised.length) ∧
  (∀ (s t : State) (code unit a6 a7 : Nat), s.logEvent ⟨code, unit, a6, a7⟩ = t →
    t.evs = ((⟨(s.rd Reg.EVT_NEXT).toNat, code, unit % 256, s.selValid, s.overrun,
      if s.selValid then timeWords s.outU else [s.tb % 2 ^ 32, s.tb / 2 ^ 32 % 2 ^ 32, 0, 0], a6, a7⟩ : EvRec) :: s.evs).take 1024 ∧
    t.evs.length = Nat.min 1024 (s.evs.length + 1) ∧
    t.rd Reg.EVT_NEXT = s.rd Reg.EVT_NEXT + 1 ∧
    t.rd Reg.EVT_OLDEST = s.rd Reg.EVT_NEXT + 1 - BitVec.ofNat 32 (Nat.min 1024 (s.evs.length + 1)) ∧
    (t.bit Reg.EVT_STAT Fld.EVT_STAT_OVERRUN = true ↔ s.bit Reg.EVT_STAT Fld.EVT_STAT_OVERRUN = true ∨ s.overrun = true))

/-- What a cycle's end and answering an access change: the log, the sent packets, the counters and the requester's record, nothing else. R24, R35, R37, R97, R106, R481, R484. -/
def Obligations.LoggingAndAnsweringLeaveTheRest : Prop :=
  (∀ (s t : State), s.endCycle = t →
    t = { s with regs := t.regs, evs := t.evs, out := t.out, links := t.links, pmu := t.pmu, raised := t.raised, sets := [] } ∧
    (∀ x ∈ t.raised, x.code = 0x3017) ∧
    ∀ a, logWord a = false → (∀ p : Fin 2, a ≠ Reg.LINK_SEC_STAT p ∧ a ≠ Reg.LINK_STATUS p) → t.rd a = s.rd a) ∧
  (∀ (s t : State) (r : Req) (code data : Nat), s.answer r code data = t →
    t = { s with regs := t.regs, bus := t.bus, pmu := t.pmu } ∧ (∀ a, a / 0x10000 ≠ Reg.PMU_CTL / 0x10000 → t.rd a = s.rd a) ∧
    (∀ q, q ≠ r.id → t.busOf q = s.busOf q) ∧
    (s.held = false → t.busOf r.id = { s.busOf r.id with resp := code, data := data }))

/-- A port's transmitter numbers BK packets one after the other and keeps at most 128 unacknowledged. R81, R82. -/
def Obligations.TransmittersKeepTheirWindow : Prop :=
  ∀ (s : State) (p : Nat), (s.link p).unacked.length ≤ 128 → (s.link p).txSeq < 256 →
    (∀ i, i < (s.link p).unacked.length →
      ((s.link p).unacked.map (fun (q : Pkt) => q.seq)).getD i 0 = ((s.link p).txSeq + 256 - (s.link p).unacked.length + i) % 256) →
    ((s.pump p).link p).unacked.length ≤ 128 ∧ ((s.pump p).link p).credits ≤ (s.link p).credits ∧ ((s.pump p).link p).txSeq < 256 ∧
    (∀ i, i < ((s.pump p).link p).unacked.length →
      (((s.pump p).link p).unacked.map (fun (q : Pkt) => q.seq)).getD i 0 =
        (((s.pump p).link p).txSeq + 256 - ((s.pump p).link p).unacked.length + i) % 256)

/-- The headroom of a 16-bit part is the largest shift, up to 15, that loses nothing. R318, R346. -/
def Obligations.HeadroomIsTheLargestLosslessShift : Prop :=
  ∀ v : Int, -32768 ≤ v → v ≤ 32767 →
    headroom v ≤ 15 ∧ -32768 ≤ v * (2 ^ headroom v : Nat) ∧ v * (2 ^ headroom v : Nat) ≤ 32767 ∧
    (headroom v < 15 → v * (2 ^ (headroom v + 1) : Nat) < -32768 ∨ 32767 < v * (2 ^ (headroom v + 1) : Nat))

/-- VADD, VSUB and VBFLY: each part is the exact sum or difference, shifted, rounded half up or truncated, and saturated to 16 bits. R317, R319, R341. -/
def Obligations.VectorSumsRoundAndSaturate : Prop :=
  ∀ (k : LodeCore) (w sh : Nat) (t : Bool) (x y : List Int) (cv : Int → Int),
    x = k.rV (bitsAt w 15 5) → y = k.rV (bitsAt w 10 5) → x.length = 32 → y.length = 32 → sh < 16 →
    (∀ v, cv v = if sh = 0 then v else if t then v / (2 ^ sh : Nat) else (v + (2 ^ (sh - 1) : Nat)) / (2 ^ sh : Nat)) →
    (∃ l, (lodeAddSub k w sh t true false).2.v = [(bitsAt w 20 5, l)] ∧ l.length = 32 ∧
      ∀ i, i < 32 → l.getD i 0 = max (-32768) (min 32767 (cv (x.getD i 0 + y.getD i 0)))) ∧
    (∃ l, (lodeAddSub k w sh t false true).2.v = [(bitsAt w 20 5, l)] ∧ l.length = 32 ∧
      ∀ i, i < 32 → l.getD i 0 = max (-32768) (min 32767 (cv (x.getD i 0 - y.getD i 0)))) ∧
    (lodeAddSub k w sh t true true).2.v = (lodeAddSub k w sh t true false).2.v ++
      (lodeAddSub k w sh t false true).2.v.map (fun z => (z.1 + 1, z.2)) ∧
    (∀ l, l < 16 → ((lodeAddSub k w sh t true false).2.sat.testBit l = true ↔
      ∃ i, (i = 2 * l ∨ i = 2 * l + 1) ∧ (cv (x.getD i 0 + y.getD i 0) < -32768 ∨ 32767 < cv (x.getD i 0 + y.getD i 0))))

/-- VMAC from registers: each accumulator part takes its product, doubled in fractional forms, and is held to 40 bits. R315, R316, R339. -/
def Obligations.AccumulationsSaturateAtFortyBits : Prop :=
  ∀ (s : State) (k : LodeCore) (w : Nat) (err : Bool) (x y a : List Int) (pi pq : Nat → Int) (si sq : Nat → Int) (sc : Int),
    bitAt w 11 = false → bitsAt w 9 2 < 3 → x = k.rV (bitsAt w 17 5) → y = k.rV (bitsAt w 12 5) →
    a = (if bitAt w 7 then zeroVec else k.rA (bitsAt w 22 3)) → x.length = 32 → y.length = 32 → a.length = 32 →
    sc = (if bitAt w 8 then -1 else 1) * (if bitAt w 6 then 1 else 2) →
    (∀ l, pi l = (if bitsAt w 9 2 = 0 then x.getD (2 * l) 0 * y.getD (2 * l) 0 - x.getD (2 * l + 1) 0 * y.getD (2 * l + 1) 0
      else if bitsAt w 9 2 = 1 then x.getD (2 * l) 0 * y.getD (2 * l) 0 + x.getD (2 * l + 1) 0 * y.getD (2 * l + 1) 0
      else x.getD (2 * l) 0 * y.getD (2 * l) 0)) →
    (∀ l, pq l = (if bitsAt w 9 2 = 0 then x.getD (2 * l) 0 * y.getD (2 * l + 1) 0 + x.getD (2 * l + 1) 0 * y.getD (2 * l) 0
      else if bitsAt w 9 2 = 1 then x.getD (2 * l + 1) 0 * y.getD (2 * l) 0 - x.getD (2 * l) 0 * y.getD (2 * l + 1) 0
      else x.getD (2 * l + 1) 0 * y.getD (2 * l + 1) 0)) →
    (∀ l, si l = a.getD (2 * l) 0 + sc * pi l) → (∀ l, sq l = a.getD (2 * l + 1) 0 + sc * pq l) →
    ∃ l d, lodeVmac s k w err = ((if k.trapAov && d.aov != 0 then 5 else 0), d) ∧ d.a = [(bitsAt w 22 3, l)] ∧ d.r = [] ∧ d.v = [] ∧ l.length = 32 ∧
      (∀ i, i < 16 → l.getD (2 * i) 0 = max (-549755813888) (min 549755813887 (si i)) ∧
        l.getD (2 * i + 1) 0 = max (-549755813888) (min 549755813887 (sq i))) ∧
      (∀ i, i < 16 → (d.aov.testBit i = true ↔
        si i < -549755813888 ∨ 549755813887 < si i ∨ sq i < -549755813888 ∨ 549755813887 < sq i))

/-- A circular post-modify keeps a pointer inside its buffer while the modifier is no longer than the buffer. R336. -/
def Obligations.CircularPointersStayInTheirBuffer : Prop :=
  ∀ (k : LodeCore) (pa p b len : Nat) (m : Int), b = k.rB (pa % 8) → len = k.rL (pa % 8) → 0 < len → b + len ≤ 2 ^ 24 → b ≤ p → p < b + len →
    -(len : Int) ≤ m → m ≤ len → 0 ≤ (p : Int) + m → (p : Int) + m < (2 ^ 24 : Nat) →
    b ≤ k.circ pa p m ∧ k.circ pa p m < b + len ∧
    ((k.circ pa p m : Int) = p + m ∨ (k.circ pa p m : Int) = p + m - len ∨ (k.circ pa p m : Int) = p + m + len)

/-- A vector stored and loaded with the same SW bit comes back; with the other one, I and Q are exchanged. R4, R226, R335. -/
def Obligations.StoredVectorsLoadBack : Prop :=
  ∀ (sw : Bool) (v : List Int), v.length = 32 → (∀ x ∈ v, -32768 ≤ x ∧ x ≤ 32767) →
    (vecBytes sw v).length = 64 ∧ vecOfBytes sw (vecBytes sw v) = v ∧
    vecOfBytes (!sw) (vecBytes sw v) = partsOf ((lanesOf v).map (fun z => (z.2, z.1)))

/-- SALU: each function is the 32-bit word operation of its name. R347. -/
def Obligations.ScalarOperationsAreThoseOfWords : Prop :=
  ∀ a b : BitVec 32,
    saluOp 0 a.toNat b.toNat = (a + b).toNat ∧ saluOp 1 a.toNat b.toNat = (a - b).toNat ∧ saluOp 2 a.toNat b.toNat = (a &&& b).toNat ∧
    saluOp 3 a.toNat b.toNat = (a ||| b).toNat ∧ saluOp 4 a.toNat b.toNat = (a ^^^ b).toNat ∧
    saluOp 5 a.toNat b.toNat = (a <<< (b.toNat % 32)).toNat ∧ saluOp 6 a.toNat b.toNat = (a.sshiftRight (b.toNat % 32)).toNat ∧
    saluOp 7 a.toNat b.toNat = (a >>> (b.toNat % 32)).toNat ∧ saluOp 8 a.toNat b.toNat = (if b.toInt < a.toInt then b else a).toNat ∧
    saluOp 9 a.toNat b.toNat = (if a.toInt < b.toInt then b else a).toNat ∧ saluOp 10 a.toNat b.toNat = (if a.toInt < b.toInt then 1 else 0)

/-- The words of the worked kernel decode to the instructions it names, in legal bundles. R327, R328, R332, R333. -/
def Obligations.WorkedKernelWordsAreLegal : Prop :=
  bundleTrap [0x2C000002, 0xD1000000] = 0 ∧ bundleTrap [0x96801094] = 0 ∧ bundleTrap [0x02170080, 0x96C11894] = 0 ∧
  bundleTrap [0x029F2080, 0x9EB08500] = 0 ∧ bundleTrap [0xAC580000] = 0 ∧ bundleTrap [0xA8EC1FFE] = 0 ∧ bundleTrap [0xA6EF1000] = 0 ∧
  lwOp 0x2C000002 = 0x16 ∧ lwE 0x2C000002 = false ∧ bitsAt 0x2C000002 0 4 = 2 ∧
  lwOp 0xD1000000 = 0x28 ∧ lwE 0xD1000000 = true ∧ bitsAt 0xD1000000 21 4 = 8 ∧
  lwOp 0x96801094 = 0x0B ∧ bitsAt 0x96801094 20 5 = 8 ∧ bitsAt 0x96801094 15 5 = 0 ∧ bitsAt 0x96801094 10 5 = 4 ∧ bitsAt 0x96801094 6 4 = 2 ∧
  lwOp 0x02170080 = 0x01 ∧ bitsAt 0x02170080 22 3 = 0 ∧ bitsAt 0x02170080 17 5 = 11 ∧ bitsAt 0x02170080 12 5 = 16 ∧ bitAt 0x02170080 7 = true ∧
  lwOp 0x9EB08500 = 0x0F ∧ bitsAt 0x9EB08500 20 5 = 11 ∧ bitsAt 0x9EB08500 12 5 = 8 ∧ bitsAt 0x9EB08500 8 2 = 1 ∧
  sext (bitsAt 0xA8EC1FFE 0 13) 13 = -2 ∧ lwTrap 0x86000000 = 1 ∧ lwTrap 0xF0000000 = 10

/-- Every mailbox access completes: what a message write, a doorbell, the acknowledging read, a flush and a lapse leave in the channel. R25, R370, R371, R372, R373. -/
def Obligations.MailboxAccessesComplete : Prop :=
  (∀ (s : State) (r : Req) (c : Fin 32) (k : Fin 16) (v : Word), s.grants r (Reg.MBX_MSG c k) → s.held = false → r.id < 256 →
    s.fld (Reg.MBX_STAT c) Fld.MBX_STAT_FULL = 0 →
    (s.fld (Reg.MBX_STAT c) Fld.MBX_STAT_CLAIMED = 0 ∨ s.fld (Reg.MBX_STAT c) Fld.MBX_STAT_CLAIMER = r.id) →
    ∃ t : State, exec (.mbxMsgWrite r c k v) s = .next t.endCycle ∧ (t.busOf r.id).resp = 0 ∧ t.rd (Reg.MBX_MSG c k) = v ∧
      (∀ j : Fin 16, j ≠ k → t.rd (Reg.MBX_MSG c j) = s.rd (Reg.MBX_MSG c j)) ∧ t.fld (Reg.MBX_STAT c) Fld.MBX_STAT_FULL = 0 ∧
      t.fld (Reg.MBX_STAT c) Fld.MBX_STAT_CLAIMED = 1 ∧ t.fld (Reg.MBX_STAT c) Fld.MBX_STAT_CLAIMER = r.id) ∧
  (∀ (s : State) (r : Req) (c : Fin 32) (k : Fin 16) (v : Word), s.grants r (Reg.MBX_MSG c k) → s.held = false →
    (s.fld (Reg.MBX_STAT c) Fld.MBX_STAT_FULL = 1 ∨
      (s.fld (Reg.MBX_STAT c) Fld.MBX_STAT_CLAIMED = 1 ∧ s.fld (Reg.MBX_STAT c) Fld.MBX_STAT_CLAIMER ≠ r.id)) →
    ∃ t : State, exec (.mbxMsgWrite r c k v) s = .next t.endCycle ∧
      (t.busOf r.id).resp = (if v = s.rd (Reg.MBX_MSG c k) then 0 else 7) ∧ ∀ a, a / 0x10000 ≠ Reg.PMU_CTL / 0x10000 → t.rd a = s.rd a) ∧
  (∀ (s : State) (r : Req) (c : Fin 32) (v : Word), s.grants r (Reg.MBX_DOORBELL c) → s.held = false → r.id < 256 →
    getF v Fld.MBX_DOORBELL_RING = 1 → s.fld (Reg.MBX_STAT c) Fld.MBX_STAT_FULL = 0 →
    (s.fld (Reg.MBX_STAT c) Fld.MBX_STAT_CLAIMED = 0 ∨ s.fld (Reg.MBX_STAT c) Fld.MBX_STAT_CLAIMER = r.id) →
    (s.fld (Reg.MBX_CFG c) Fld.MBX_CFG_RX = 0x10 ∨ (1 ≤ s.fld (Reg.MBX_CFG c) Fld.MBX_CFG_RX ∧ s.fld (Reg.MBX_CFG c) Fld.MBX_CFG_RX ≤ 5)) →
    ∃ t : State, exec (.mbxDoorbell r c v) s = .next t.endCycle ∧ (t.busOf r.id).resp = 0 ∧ t.fld (Reg.MBX_STAT c) Fld.MBX_STAT_FULL = 1 ∧
      t.fld (Reg.MBX_STAT c) Fld.MBX_STAT_CLAIMED = 0 ∧ t.fld (Reg.MBX_STAT c) Fld.MBX_STAT_CLAIMER = 0 ∧
      t.fld (Reg.MBX_STAT c) Fld.MBX_STAT_SENDER = r.id ∧
      t.fld (Reg.MBX_STAT c) Fld.MBX_STAT_SEQ = (s.fld (Reg.MBX_STAT c) Fld.MBX_STAT_SEQ + 1) % 256 ∧
      ∀ j : Fin 16, t.rd (Reg.MBX_MSG c j) = s.rd (Reg.MBX_MSG c j)) ∧
  (∀ (s : State) (r : Req) (c : Fin 32) (v : Word), s.grants r (Reg.MBX_DOORBELL c) → s.held = false → getF v Fld.MBX_DOORBELL_RING = 0 →
    ∃ t : State, exec (.mbxDoorbell r c v) s = .next t.endCycle ∧ (t.busOf r.id).resp = 0 ∧
      ∀ a, a / 0x10000 ≠ Reg.PMU_CTL / 0x10000 → t.rd a = s.rd a) ∧
  (∀ (s : State) (r : Req) (c : Fin 32) (rx : Nat), s.grants r (Reg.MBX_MSG c 15) → s.held = false → rx = s.fld (Reg.MBX_CFG c) Fld.MBX_CFG_RX →
    ∃ t : State, exec (.mbxAck r c) s = .next t.endCycle ∧ (t.busOf r.id).resp = 0 ∧ (t.busOf r.id).data = (s.rd (Reg.MBX_MSG c 15)).toNat ∧
      (∀ j : Fin 16, t.rd (Reg.MBX_MSG c j) = s.rd (Reg.MBX_MSG c j)) ∧
      ((rx = r.id ∨ (rx = 0x10 ∧ 16 ≤ r.id ∧ r.id ≤ 49)) → t.fld (Reg.MBX_STAT c) Fld.MBX_STAT_FULL = 0) ∧
      (¬ (rx = r.id ∨ (rx = 0x10 ∧ 16 ≤ r.id ∧ r.id ≤ 49)) → t.rd (Reg.MBX_STAT c) = s.rd (Reg.MBX_STAT c))) ∧
  (∀ (s : State) (r : Req) (c : Fin 32) (v : Word) (rx : Nat), s.grants r (Reg.MBX_FLUSH c) → s.held = false → getF v Fld.MBX_FLUSH_FLUSH = 1 →
    rx = s.fld (Reg.MBX_CFG c) Fld.MBX_CFG_RX → (rx = r.id ∨ (rx = 0x10 ∧ 16 ≤ r.id ∧ r.id ≤ 49)) →
    ∃ t : State, exec (.mbxFlush r c v) s = .next t.endCycle ∧ (t.busOf r.id).resp = 0 ∧ t.fld (Reg.MBX_STAT c) Fld.MBX_STAT_FULL = 0 ∧
      t.fld (Reg.MBX_STAT c) Fld.MBX_STAT_CLAIMED = 0 ∧ ∀ j : Fin 16, t.rd (Reg.MBX_MSG c j) = 0) ∧
  (∀ (s : State) (c : Fin 32), s.fld (Reg.MBX_STAT c) Fld.MBX_STAT_CLAIMED = 1 →
    (kvGet (fun _ => ({} : LockSt)) s.claims c).at_ + usTicks (Nat.max 1 (s.fld Reg.MBX_CLAIM_TMO Fld.MBX_CLAIM_TMO_US)) ≤ s.tick →
    ∃ t : State, exec (.mbxClaimLapsed c) s = .next t.endCycle ∧ t.fld (Reg.MBX_STAT c) Fld.MBX_STAT_CLAIMED = 0 ∧
      t.fld (Reg.MBX_STAT c) Fld.MBX_STAT_CLAIMER = 0 ∧ t.raised = ⟨0x8006, c, 0, 0⟩ :: s.raised ∧
      ∀ j : Fin 16, t.rd (Reg.MBX_MSG c j) = s.rd (Reg.MBX_MSG c j)) ∧
  (∀ (s : State) (c : Fin 32), (s.fld (Reg.MBX_STAT c) Fld.MBX_STAT_CLAIMED = 0 ∨
      s.tick < (kvGet (fun _ => ({} : LockSt)) s.claims c).at_ + usTicks (Nat.max 1 (s.fld Reg.MBX_CLAIM_TMO Fld.MBX_CLAIM_TMO_US))) →
    exec (.mbxClaimLapsed c) s = .next s.endCycle)

end
end

