-- ==== Sys2Proof/Laws/Store.lean ====
section
/-! SUPPORT. The laws of sparse tables: a read after a write, and the canonical form that every table operation keeps. -/
set_option Elab.async false
namespace Sys2Proof.Machine

variable {α : Type}

@[simp] theorem kvGet_nil (d : Nat → α) (k : Nat) : kvGet d [] k = d k := rfl

theorem kvGet_kvErase_same (d : Nat → α) (m : List (Nat × α)) (k : Nat) : kvGet d (kvErase k m) k = d k := by
  induction m with
  | nil => rfl
  | cons e rest ih =>
    obtain ⟨a, v⟩ := e
    by_cases h : a = k <;> simp [kvErase, kvGet, h, ih]

theorem kvGet_kvErase_other (d : Nat → α) (m : List (Nat × α)) {j k : Nat} (h : j ≠ k) : kvGet d (kvErase k m) j = kvGet d m j := by
  induction m with
  | nil => rfl
  | cons e rest ih =>
    obtain ⟨a, v⟩ := e
    by_cases h1 : a = k
    · subst h1; simp [kvErase, kvGet, Ne.symm h, ih]
    · simp [kvErase, kvGet, h1, ih]

theorem kvGet_kvInsert_other (d : Nat → α) (m : List (Nat × α)) {j k : Nat} (x : α) (h : j ≠ k) : kvGet d (kvInsert k x m) j = kvGet d m j := by
  induction m with
  | nil => simp [kvInsert, kvGet, Ne.symm h]
  | cons e rest ih =>
    obtain ⟨a, v⟩ := e
    by_cases h1 : k < a
    · simp [kvInsert, kvGet, h1, Ne.symm h]
    · simp [kvInsert, kvGet, h1, ih]

theorem kvGet_kvInsert_erased (d : Nat → α) (m : List (Nat × α)) (k : Nat) (x : α) : kvGet d (kvInsert k x (kvErase k m)) k = x := by
  induction m with
  | nil => simp [kvErase, kvInsert, kvGet]
  | cons e rest ih =>
    obtain ⟨a, v⟩ := e
    by_cases h1 : a = k
    · simp [kvErase, h1, ih]
    · by_cases h2 : k < a
      · simp [kvErase, h1, kvInsert, h2, kvGet]
      · simp [kvErase, h1, kvInsert, h2, kvGet, ih]

/-- A read after a write of the same key gives what was written. -/
@[simp] theorem kvGet_kvSet_same [DecidableEq α] (d : Nat → α) (m : List (Nat × α)) (k : Nat) (x : α) : kvGet d (kvSet d m k x) k = x := by
  unfold kvSet
  split
  · next h => rw [kvGet_kvErase_same, h]
  · exact kvGet_kvInsert_erased d m k x

/-- A write leaves every other key alone. -/
theorem kvGet_kvSet_other [DecidableEq α] (d : Nat → α) (m : List (Nat × α)) {j k : Nat} (x : α) (h : j ≠ k) :
    kvGet d (kvSet d m k x) j = kvGet d m j := by
  unfold kvSet
  split
  · exact kvGet_kvErase_other d m h
  · rw [kvGet_kvInsert_other d _ x h, kvGet_kvErase_other d m h]

/-! ## The canonical form -/

theorem kvAbove_iff (k : Nat) (m : List (Nat × α)) : kvAbove k m = true ↔ ∀ e ∈ m, k < e.1 := by
  simp [kvAbove]

theorem mem_kvErase {k : Nat} {m : List (Nat × α)} {e : Nat × α} : e ∈ kvErase k m ↔ e ∈ m ∧ e.1 ≠ k := by
  induction m with
  | nil => simp [kvErase]
  | cons x rest ih =>
    obtain ⟨a, v⟩ := x
    by_cases h : a = k
    · simp only [kvErase, h, if_true, ih, List.mem_cons]
      constructor
      · rintro ⟨h1, h2⟩; exact ⟨Or.inr h1, h2⟩
      · rintro ⟨h1 | h1, h2⟩
        · subst h1; exact absurd rfl h2
        · exact ⟨h1, h2⟩
    · simp only [kvErase, h, if_false, List.mem_cons, ih]
      constructor
      · rintro (h1 | ⟨h1, h2⟩)
        · subst h1; exact ⟨Or.inl rfl, h⟩
        · exact ⟨Or.inr h1, h2⟩
      · rintro ⟨h1 | h1, h2⟩
        · exact Or.inl h1
        · exact Or.inr ⟨h1, h2⟩

theorem mem_kvInsert {k : Nat} {x : α} {m : List (Nat × α)} {e : Nat × α} : e ∈ kvInsert k x m ↔ e = (k, x) ∨ e ∈ m := by
  induction m with
  | nil => simp [kvInsert]
  | cons y rest ih =>
    obtain ⟨a, v⟩ := y
    by_cases h : k < a
    · simp [kvInsert, h]
    · simp only [kvInsert, h, if_false, List.mem_cons, ih]; exact or_left_comm

theorem kvWf_cons [DecidableEq α] {d : Nat → α} {a : Nat} {v : α} {m : List (Nat × α)} :
    kvWf d ((a, v) :: m) = true ↔ kvAbove a m = true ∧ v ≠ d a ∧ kvWf d m = true := by
  simp [kvWf, and_assoc]

/-- A sublist that `filter` leaves keeps the form. -/
theorem kvWf_filter [DecidableEq α] {d : Nat → α} (p : Nat × α → Bool) {m : List (Nat × α)} (h : kvWf d m = true) : kvWf d (m.filter p) = true := by
  induction m with
  | nil => rfl
  | cons e rest ih =>
    obtain ⟨a, v⟩ := e
    rw [kvWf_cons] at h
    by_cases hp : p (a, v) = true
    · rw [List.filter_cons_of_pos hp, kvWf_cons]
      refine ⟨?_, h.2.1, ih h.2.2⟩
      rw [kvAbove_iff] at *
      intro e he
      exact h.1 e (List.mem_filter.mp he).1
    · rw [List.filter_cons_of_neg hp]; exact ih h.2.2

theorem kvWf_kvErase [DecidableEq α] {d : Nat → α} (k : Nat) {m : List (Nat × α)} (h : kvWf d m = true) : kvWf d (kvErase k m) = true := by
  induction m with
  | nil => rfl
  | cons e rest ih =>
    obtain ⟨a, v⟩ := e
    rw [kvWf_cons] at h
    by_cases hk : a = k
    · simp only [kvErase, hk, if_true]; exact ih h.2.2
    · simp only [kvErase, hk, if_false, kvWf_cons]
      refine ⟨?_, h.2.1, ih h.2.2⟩
      rw [kvAbove_iff] at *
      intro e he
      exact h.1 e (mem_kvErase.mp he).1

theorem kvWf_kvInsert [DecidableEq α] {d : Nat → α} {k : Nat} {x : α} {m : List (Nat × α)} (h : kvWf d m = true) (hx : x ≠ d k)
    (hk : ∀ e ∈ m, e.1 ≠ k) : kvWf d (kvInsert k x m) = true := by
  induction m with
  | nil => simp [kvInsert, kvWf, kvAbove, hx]
  | cons e rest ih =>
    obtain ⟨a, v⟩ := e
    have hw := h
    rw [kvWf_cons] at h
    have hr : ∀ e ∈ rest, e.1 ≠ k := fun e he => hk e (List.mem_cons_of_mem _ he)
    by_cases hlt : k < a
    · simp only [kvInsert, hlt, if_true]
      rw [kvWf_cons]
      refine ⟨?_, hx, hw⟩
      rw [kvAbove_iff]
      intro e he
      rcases List.mem_cons.mp he with h1 | h1
      · subst h1; exact hlt
      · exact Nat.lt_trans hlt ((kvAbove_iff a rest).mp h.1 e h1)
    · simp only [kvInsert, hlt, if_false]
      rw [kvWf_cons]
      refine ⟨?_, h.2.1, ih h.2.2 hr⟩
      rw [kvAbove_iff]
      intro e he
      rcases mem_kvInsert.mp he with h1 | h1
      · subst h1
        have : a ≠ k := hk (a, v) List.mem_cons_self
        simp only; omega
      · exact (kvAbove_iff a rest).mp h.1 e h1

/-- A write keeps the canonical form. -/
theorem kvWf_kvSet [DecidableEq α] {d : Nat → α} {m : List (Nat × α)} (k : Nat) (x : α) (h : kvWf d m = true) : kvWf d (kvSet d m k x) = true := by
  unfold kvSet
  split
  · exact kvWf_kvErase k h
  · next hx => exact kvWf_kvInsert (kvWf_kvErase k h) hx (fun e he => (mem_kvErase.mp he).2)

end Sys2Proof.Machine
end

