-- ==== Sys2Proof/Laws/Memory.lean ====
section
/-! SUPPORT. The laws of device memory (R4, R426): what a load gives after a store, what a store and a clear leave, and the canonical form that every memory
operation keeps. -/
set_option Elab.async false
namespace Sys2Proof.Machine

/-! ## The canonical form -/

/-- Storing one byte keeps the form. -/
theorem stb_wf {s : State} (h : Memory.wf s.mem = true) (a : Nat) (b : Byte) : Memory.wf (s.stb a b).mem = true := kvWf_kvSet a b h

/-- Storing bytes keeps the form. -/
theorem stBytes_wf {s : State} (h : Memory.wf s.mem = true) (a : Nat) (bs : List Byte) : Memory.wf (s.stBytes a bs).mem = true := by
  induction bs generalizing s a with
  | nil => exact h
  | cons b bs ih => exact ih (stb_wf h a b) (a + 1)

/-- Storing a number keeps the form. -/
theorem stN_wf {s : State} (h : Memory.wf s.mem = true) (a n v : Nat) : Memory.wf (s.stN a n v).mem = true := stBytes_wf h a _

/-- Clearing a range keeps the form. -/
theorem clearMem_wf {s : State} (h : Memory.wf s.mem = true) (lo hi : Nat) : Memory.wf (s.clearMem lo hi).mem = true := kvWf_filter _ h

/-- Losing the memory of groups keeps the form. -/
theorem keepMem_wf {s : State} (h : Memory.wf s.mem = true) (g : Nat) : Memory.wf (s.keepMem g).mem = true := kvWf_filter _ h

/-- Stores of listed cells keep the form (the copies of R175 and R323). -/
theorem foldl_stb_wf {s : State} (h : Memory.wf s.mem = true) (f : Host.Cell → Nat) (cs : List Host.Cell) :
    Memory.wf (cs.foldl (fun (t : State) c => t.stb (f c) c.2) s).mem = true := by
  induction cs generalizing s with
  | nil => exact h
  | cons c cs ih => exact ih (stb_wf h (f c) c.2)

/-- The memory of the reset state has the form. -/
theorem reset_mem_wf : Memory.wf State.reset.mem = true := rfl

/-! ## Loads after stores -/

@[simp] theorem ldb_stb_same (s : State) (a : Nat) (b : Byte) : (s.stb a b).ldb a = b := kvGet_kvSet_same _ _ _ _

theorem ldb_stb_other (s : State) {a c : Nat} (b : Byte) (h : c ≠ a) : (s.stb a b).ldb c = s.ldb c := kvGet_kvSet_other _ _ _ h

/-- A store of bytes leaves every byte outside them. -/
theorem ldb_stBytes_outside (s : State) (a : Nat) (bs : List Byte) (c : Nat) (h : c < a ∨ a + bs.length ≤ c) : (s.stBytes a bs).ldb c = s.ldb c := by
  induction bs generalizing s a with
  | nil => rfl
  | cons b bs ih =>
    simp only [List.length_cons] at h
    show ((s.stb a b).stBytes (a + 1) bs).ldb c = _
    rw [ih (s.stb a b) (a + 1) (by omega), ldb_stb_other s b (by omega)]

/-- The bytes stored are the bytes loaded. -/
theorem ldb_stBytes_inside (s : State) (a : Nat) (bs : List Byte) (i : Nat) (h : i < bs.length) : (s.stBytes a bs).ldb (a + i) = bs.getD i 0 := by
  induction bs generalizing s a i with
  | nil => exact absurd h (Nat.not_lt_zero i)
  | cons b bs ih =>
    show ((s.stb a b).stBytes (a + 1) bs).ldb (a + i) = _
    cases i with
    | zero => rw [ldb_stBytes_outside _ _ _ _ (by omega)]; simp
    | succ i =>
      rw [show a + (i + 1) = a + 1 + i by omega, ih (s.stb a b) (a + 1) i (by simpa using h)]
      simp

/-- The bytes of a range, one by one. -/
theorem ldBytes_eq_map (s : State) (a n : Nat) : s.ldBytes a n = (List.range n).map (fun i => s.ldb (a + i)) := by
  induction n generalizing a with
  | zero => rfl
  | succ n ih =>
    rw [List.range_succ_eq_map]
    simp only [List.map_cons, List.map_map, State.ldBytes, ih]
    congr 1
    apply List.map_congr_left
    intro i _
    simp only [Function.comp]
    congr 1
    omega

@[simp] theorem ldBytes_length (s : State) (a n : Nat) : (s.ldBytes a n).length = n := by simp [ldBytes_eq_map]

/-- Loading a part of what was stored. -/
theorem ldBytes_stBytes (s : State) (a : Nat) (bs : List Byte) (k n : Nat) (h : k + n ≤ bs.length) :
    (s.stBytes a bs).ldBytes (a + k) n = (bs.drop k).take n := by
  rw [ldBytes_eq_map]
  apply List.ext_getElem
  · simp; omega
  · intro i h1 h2
    simp only [List.length_map, List.length_range] at h1
    simp only [List.getElem_map, List.getElem_range, List.getElem_take, List.getElem_drop]
    rw [Nat.add_assoc, ldb_stBytes_inside _ _ _ _ (by omega)]
    simp [List.getD_eq_getElem?_getD, List.getElem?_eq_getElem (show k + i < bs.length by omega)]

/-- A store changes memory alone. -/
theorem stBytes_eq (s : State) (a : Nat) (bs : List Byte) : s.stBytes a bs = { s with mem := (s.stBytes a bs).mem } := by
  induction bs generalizing s a with
  | nil => rfl
  | cons b bs ih =>
    show (s.stb a b).stBytes (a + 1) bs = { s with mem := ((s.stb a b).stBytes (a + 1) bs).mem }
    rw [ih (s.stb a b) (a + 1)]
    rfl

/-! ## Little-endian numbers (R4) -/

@[simp] theorem natLE_length (n v : Nat) : (natLE n v).length = n := by
  induction n generalizing v with
  | zero => rfl
  | succ n ih => simp [natLE, ih]

/-- The bytes of a number give it back. -/
theorem leNat_natLE (n v : Nat) (h : v < 256 ^ n) : leNat (natLE n v) = v := by
  induction n generalizing v with
  | zero => simp only [Nat.pow_zero] at h; show (0 : Nat) = v; omega
  | succ n ih =>
    have h2 : v / 256 < 256 ^ n := by
      rw [Nat.div_lt_iff_lt_mul (by decide)]
      rwa [Nat.pow_succ] at h
    show (BitVec.ofNat 8 v).toNat + 256 * leNat (natLE n (v / 256)) = v
    rw [ih _ h2, BitVec.toNat_ofNat]
    omega

/-- A number stored is the number loaded. -/
theorem ldN_stN (s : State) (a n v : Nat) (h : v < 256 ^ n) : (s.stN a n v).ldN a n = v := by
  unfold State.ldN State.stN
  have := ldBytes_stBytes s a (natLE n v) 0 n (by simp)
  rw [Nat.add_zero] at this
  rw [this, List.drop_zero, List.take_of_length_le (by simp), leNat_natLE n v h]

end Sys2Proof.Machine
end

