-- ==== Sys2Proof/Laws/Assay.lean ====
section
/-! SUPPORT. A calibration blob that a device saves passes the checks of a restore on the same device (R394-R396). -/
set_option Elab.async false
namespace Sys2Proof.Machine

theorem crcByte_lt {c : Nat} (h : c < 2 ^ 32) (b : Byte) : crcByte c b < 2 ^ 32 := by
  have step : ∀ r : Nat, r < 2 ^ 32 → (if r % 2 = 1 then Nat.xor (r / 2) 0x82F63B78 else r / 2) < 2 ^ 32 := by
    intro r hr
    split
    · exact Nat.xor_lt_two_pow (by omega) (by decide)
    · omega
  have fold : ∀ (l : List Nat) (r : Nat), r < 2 ^ 32 →
      l.foldl (fun r _ => if r % 2 = 1 then Nat.xor (r / 2) 0x82F63B78 else r / 2) r < 2 ^ 32 := by
    intro l
    induction l with
    | nil => intro r hr; exact hr
    | cons _ l ih => intro r hr; exact ih _ (step r hr)
  have hb : b.toNat < 2 ^ 32 := by have := b.isLt; omega
  exact fold _ _ (Nat.xor_lt_two_pow h hb)

/-- A CRC-32C is a 32-bit number. -/
theorem crc32c_lt (bs : List Byte) : crc32c bs < 2 ^ 32 := by
  have fold : ∀ (l : List Byte) (c : Nat), c < 2 ^ 32 → l.foldl crcByte c < 2 ^ 32 := by
    intro l
    induction l with
    | nil => intro c hc; exact hc
    | cons b l ih => intro c hc; exact ih _ (crcByte_lt hc b)
  exact Nat.xor_lt_two_pow (fold bs _ (by decide)) (by decide)

@[simp] theorem words32_length (l : List Nat) : (words32 l).length = 4 * l.length := by
  induction l with
  | nil => rfl
  | cons x l ih => simp only [words32, List.flatMap_cons, List.length_append, natLE_length, List.length_cons] at *; omega

/-- Word `k` of a list of words, read back from its bytes. -/
theorem words32_word (l : List Nat) (p : List Byte) (k : Nat) (hk : k < l.length) (hl : ∀ x ∈ l, x < 2 ^ 32) :
    leNat (((words32 l ++ p).drop (4 * k)).take 4) = l.getD k 0 := by
  induction l generalizing k with
  | nil => exact absurd hk (Nat.not_lt_zero k)
  | cons x l ih =>
    have e : words32 (x :: l) ++ p = natLE 4 x ++ (words32 l ++ p) := by simp [words32]
    rw [e]
    cases k with
    | zero =>
      rw [Nat.mul_zero, List.drop_zero, List.take_append_of_le_length (by simp), List.take_of_length_le (by simp)]
      exact leNat_natLE 4 x (hl x (by simp))
    | succ k =>
      rw [show 4 * (k + 1) = (natLE 4 x).length + 4 * k by simp; omega, List.drop_append, List.drop_of_length_le (by simp), List.nil_append,
        Nat.add_sub_cancel_left]
      rw [ih k (by simpa using hk) (fun y hy => hl y (by simp [hy]))]
      simp

/-- The header of a blob, as the words that `State.blob` writes. -/
def State.blobHead (s : State) : List Nat :=
  [0x4153 * 65536 + 256 + s.assayPver, assayLen, s.otp.serial % 2 ^ 32, s.otp.serial / 2 ^ 32, s.fld Reg.SYS_STEP Fld.SYS_STEP_STEP, 0x1FF,
    s.assay.snapTb % 2 ^ 32, s.assay.snapTb / 2 ^ 32, 0, 0, 0, 0, 0, 0, crc32c ((List.range assayLen).map (Config.assayByte s.assay.snap))]

theorem blob_eq (s : State) : s.blob = words32 (s.blobHead ++ [crc32c (words32 s.blobHead)]) ++ (List.range assayLen).map (Config.assayByte s.assay.snap) := rfl

/-- A saved blob passes every check of a restore by the device that saved it (R394, R395, R396). -/
theorem blobCheck_blob (s : State) (addr : Nat) (fits : blobFits addr = true) (hs : s.otp.serial < 2 ^ 64) (ht : s.assay.snapTb < 2 ^ 64) :
    (s.stBytes (sharedMem + addr) s.blob).blobCheck addr = 1 := by
  have hstep : s.fld Reg.SYS_STEP Fld.SYS_STEP_STEP < 256 := Nat.mod_lt _ (by decide)
  have hpv : s.assayPver < 256 := (Config.assayPver (s.rd (Reg.SEC_BOOTREC 0)).toNat).isLt
  have hlen : assayLen < 2 ^ 24 := by
    unfold assayLen; have := Nat.mod_lt Config.assayUnits (show 0 < 3073 by decide); omega
  generalize hW : s.blobHead ++ [crc32c (words32 s.blobHead)] = W
  have hWlen : W.length = 16 := by rw [← hW]; rfl
  have hWlt : ∀ x ∈ W, x < 2 ^ 32 := by
    intro x hx
    rw [← hW] at hx
    simp only [State.blobHead, List.cons_append, List.nil_append, List.mem_cons, List.not_mem_nil, or_false] at hx
    rcases hx with h | h | h | h | h | h | h | h | h | h | h | h | h | h | h | h
    all_goals first
      | (subst h; exact crc32c_lt _)
      | omega
  generalize hp : (List.range assayLen).map (Config.assayByte s.assay.snap) = pay
  have hplen : pay.length = assayLen := by rw [← hp]; simp
  have hb : s.blob = words32 W ++ pay := by rw [blob_eq, hW, hp]
  have hbl : s.blob.length = 64 + assayLen := by rw [hb]; simp [hWlen, hplen]
  have word : ∀ k, k < 16 → (s.stBytes (sharedMem + addr) s.blob).blobWord addr k = W.getD k 0 := by
    intro k hk
    unfold State.blobWord State.ldN
    rw [ldBytes_stBytes _ _ _ _ _ (by omega), hb]
    exact words32_word W pay k (by omega) hWlt
  have head : (s.stBytes (sharedMem + addr) s.blob).ldBytes (sharedMem + addr) 60 = words32 s.blobHead := by
    have h0 := ldBytes_stBytes s (sharedMem + addr) s.blob 0 60 (by omega)
    rw [Nat.add_zero] at h0
    rw [h0, List.drop_zero, hb, ← hW]
    have e : words32 (s.blobHead ++ [crc32c (words32 s.blobHead)]) = words32 s.blobHead ++ natLE 4 (crc32c (words32 s.blobHead)) := by simp [words32]
    rw [e, List.append_assoc, List.take_append_of_le_length (by rw [words32_length]; exact Nat.le_refl 60),
      List.take_of_length_le (by rw [words32_length]; exact Nat.le_refl 60)]
  have body : (s.stBytes (sharedMem + addr) s.blob).ldBytes (sharedMem + addr + 64) assayLen = pay := by
    rw [ldBytes_stBytes _ _ _ _ _ (by omega), hb, List.drop_append, List.drop_of_length_le (Nat.le_of_eq (by rw [words32_length, hWlen])), List.nil_append,
      words32_length, hWlen, Nat.sub_self, List.drop_zero, List.take_of_length_le (by omega)]
  have e := stBytes_eq s (sharedMem + addr) s.blob
  have eo : (s.stBytes (sharedMem + addr) s.blob).otp = s.otp := by rw [e]
  have er : (s.stBytes (sharedMem + addr) s.blob).rd = s.rd := by rw [e]; rfl
  have ef : (s.stBytes (sharedMem + addr) s.blob).fld Reg.SYS_STEP Fld.SYS_STEP_STEP = s.fld Reg.SYS_STEP Fld.SYS_STEP_STEP := by
    unfold State.fld; rw [er]
  have ep : (s.stBytes (sharedMem + addr) s.blob).assayPver = s.assayPver := by unfold State.assayPver; rw [er]
  have w0 : W.getD 0 0 = 0x4153 * 65536 + 256 + s.assayPver := by rw [← hW]; rfl
  have w1 : W.getD 1 0 = assayLen := by rw [← hW]; rfl
  have w2 : W.getD 2 0 = s.otp.serial % 2 ^ 32 := by rw [← hW]; rfl
  have w3 : W.getD 3 0 = s.otp.serial / 2 ^ 32 := by rw [← hW]; rfl
  have w4 : W.getD 4 0 = s.fld Reg.SYS_STEP Fld.SYS_STEP_STEP := by rw [← hW]; rfl
  have w14 : W.getD 14 0 = crc32c pay := by rw [← hW, ← hp]; rfl
  have w15 : W.getD 15 0 = crc32c (words32 s.blobHead) := by rw [← hW]; rfl
  unfold State.blobCheck
  simp only [word 0 (by decide), word 1 (by decide), word 2 (by decide), word 3 (by decide), word 4 (by decide), word 14 (by decide), word 15 (by decide),
    head, body, eo, ef, ep, w0, w1, w2, w3, w4, w14, w15, fits]
  rw [if_neg (by simp), if_neg (by omega), if_neg (by omega), if_neg (by omega), if_neg (by simp), if_neg (by omega)]

end Sys2Proof.Machine
end

