-- ==== Sys2Proof/Laws/Fields.lean ====
section
/-! SUPPORT. The laws of register fields: a field reads what was written to it, other fields and other bits keep their value. -/
set_option Elab.async false
namespace Sys2Proof.Machine

/-- The bits of a field's mask. -/
theorem mask_getLsbD (f : Field) {i : Nat} (hi : i < 32) : f.mask.getLsbD i = (decide (f.lsb ≤ i) && decide (i < f.lsb + f.width)) := by
  simp only [Field.mask, BitVec.getLsbD_ofNat, hi, decide_true, Bool.true_and, Nat.testBit_shiftLeft, Nat.testBit_two_pow_sub_one, ge_iff_le]
  by_cases h : f.lsb ≤ i
  · simp only [h, decide_true, Bool.true_and]
    exact decide_eq_decide.mpr (by omega)
  · simp [h]

/-- The bits of a word after a field is replaced: the field's own from the value, the others as before. -/
theorem setF_getLsbD (w : Word) (f : Field) (v : Nat) {i : Nat} (hi : i < 32) :
    (setF w f v).getLsbD i = if f.lsb ≤ i ∧ i < f.lsb + f.width then v.testBit (i - f.lsb) else w.getLsbD i := by
  simp only [setF, BitVec.getLsbD_or, BitVec.getLsbD_and, BitVec.getLsbD_not, mask_getLsbD f hi, BitVec.getLsbD_ofNat, hi, decide_true, Bool.true_and,
    Nat.testBit_shiftLeft, ge_iff_le]
  by_cases h1 : f.lsb ≤ i <;> by_cases h2 : i < f.lsb + f.width <;> simp [h1, h2]

/-- The bits of a field's value. -/
theorem getF_testBit (w : Word) (f : Field) (j : Nat) : (getF w f).testBit j = (decide (j < f.width) && w.getLsbD (f.lsb + j)) := by
  simp only [getF, bitsAt, Nat.testBit_mod_two_pow, Nat.testBit_shiftRight, BitVec.testBit_toNat]

/-- A field's value fits its width. -/
theorem getF_lt (w : Word) (f : Field) : getF w f < 2 ^ f.width := Nat.mod_lt _ (Nat.two_pow_pos _)

/-- A field reads what was written to it (R3). -/
theorem getF_setF_same (w : Word) (f : Field) (v : Nat) (hf : f.lsb + f.width ≤ 32) : getF (setF w f v) f = v % 2 ^ f.width := by
  apply Nat.eq_of_testBit_eq
  intro j
  rw [getF_testBit, Nat.testBit_mod_two_pow]
  by_cases hj : j < f.width
  · rw [setF_getLsbD w f v (by omega)]
    simp [hj]
  · simp [hj]

/-- Writing one field leaves a field that shares no bit with it alone (R3). -/
theorem getF_setF_other (w : Word) (f g : Field) (v : Nat) (hg : g.lsb + g.width ≤ 32)
    (hd : f.lsb + f.width ≤ g.lsb ∨ g.lsb + g.width ≤ f.lsb) : getF (setF w f v) g = getF w g := by
  apply Nat.eq_of_testBit_eq
  intro j
  rw [getF_testBit, getF_testBit]
  by_cases hj : j < g.width
  · rw [setF_getLsbD w f v (by omega)]
    have : ¬(f.lsb ≤ g.lsb + j ∧ g.lsb + j < f.lsb + f.width) := by omega
    rw [if_neg this]
  · simp [hj]

end Sys2Proof.Machine
end

