-- ==== Sys2Proof/Laws/State.lean ====
section
/-! SUPPORT. One lemma per field per update of the state, so that no proof unfolds a record update; reads after writes of registers, memory bytes and
per-unit records. -/
set_option Elab.async false
namespace Sys2Proof.Machine
variable (s : State)

/-! ## `wr` -/

@[simp] theorem State.pending_wr (a : Nat) (v : Word) : (s.wr a v).pending = s.pending := rfl
@[simp] theorem State.tick_wr (a : Nat) (v : Word) : (s.wr a v).tick = s.tick := rfl
@[simp] theorem State.free_wr (a : Nat) (v : Word) : (s.wr a v).free = s.free := rfl
@[simp] theorem State.mem_wr (a : Nat) (v : Word) : (s.wr a v).mem = s.mem := rfl
@[simp] theorem State.tb_wr (a : Nat) (v : Word) : (s.wr a v).tb = s.tb := rfl
@[simp] theorem State.bus_wr (a : Nat) (v : Word) : (s.wr a v).bus = s.bus := rfl
@[simp] theorem State.evs_wr (a : Nat) (v : Word) : (s.wr a v).evs = s.evs := rfl
@[simp] theorem State.evWin_wr (a : Nat) (v : Word) : (s.wr a v).evWin = s.evWin := rfl
@[simp] theorem State.evFrame_wr (a : Nat) (v : Word) : (s.wr a v).evFrame = s.evFrame := rfl
@[simp] theorem State.raised_wr (a : Nat) (v : Word) : (s.wr a v).raised = s.raised := rfl
@[simp] theorem State.sets_wr (a : Nat) (v : Word) : (s.wr a v).sets = s.sets := rfl
@[simp] theorem State.episodes_wr (a : Nat) (v : Word) : (s.wr a v).episodes = s.episodes := rfl
@[simp] theorem State.out_wr (a : Nat) (v : Word) : (s.wr a v).out = s.out := rfl
@[simp] theorem State.power_wr (a : Nat) (v : Word) : (s.wr a v).power = s.power := rfl
@[simp] theorem State.time_wr (a : Nat) (v : Word) : (s.wr a v).time = s.time := rfl
@[simp] theorem State.lanes_wr (a : Nat) (v : Word) : (s.wr a v).lanes = s.lanes := rfl
@[simp] theorem State.ports_wr (a : Nat) (v : Word) : (s.wr a v).ports = s.ports := rfl
@[simp] theorem State.links_wr (a : Nat) (v : Word) : (s.wr a v).links = s.links := rfl
@[simp] theorem State.dh_wr (a : Nat) (v : Word) : (s.wr a v).dh = s.dh := rfl
@[simp] theorem State.swaps_wr (a : Nat) (v : Word) : (s.wr a v).swaps = s.swaps := rfl
@[simp] theorem State.olds_wr (a : Nat) (v : Word) : (s.wr a v).olds = s.olds := rfl
@[simp] theorem State.sb_wr (a : Nat) (v : Word) : (s.wr a v).sb = s.sb := rfl
@[simp] theorem State.engines_wr (a : Nat) (v : Word) : (s.wr a v).engines = s.engines := rfl
@[simp] theorem State.cws_wr (a : Nat) (v : Word) : (s.wr a v).cws = s.cws := rfl
@[simp] theorem State.srs_wr (a : Nat) (v : Word) : (s.wr a v).srs = s.srs := rfl
@[simp] theorem State.dma_wr (a : Nat) (v : Word) : (s.wr a v).dma = s.dma := rfl
@[simp] theorem State.chans_wr (a : Nat) (v : Word) : (s.wr a v).chans = s.chans := rfl
@[simp] theorem State.claims_wr (a : Nat) (v : Word) : (s.wr a v).claims = s.claims := rfl
@[simp] theorem State.locks_wr (a : Nat) (v : Word) : (s.wr a v).locks = s.locks := rfl
@[simp] theorem State.lode_wr (a : Nat) (v : Word) : (s.wr a v).lode = s.lode := rfl
@[simp] theorem State.cores_wr (a : Nat) (v : Word) : (s.wr a v).cores = s.cores := rfl
@[simp] theorem State.ulq_wr (a : Nat) (v : Word) : (s.wr a v).ulq = s.ulq := rfl
@[simp] theorem State.ulJobs_wr (a : Nat) (v : Word) : (s.wr a v).ulJobs = s.ulJobs := rfl
@[simp] theorem State.sections_wr (a : Nat) (v : Word) : (s.wr a v).sections = s.sections := rfl
@[simp] theorem State.dl_wr (a : Nat) (v : Word) : (s.wr a v).dl = s.dl := rfl
@[simp] theorem State.symHist_wr (a : Nat) (v : Word) : (s.wr a v).symHist = s.symHist := rfl
@[simp] theorem State.cars_wr (a : Nat) (v : Word) : (s.wr a v).cars = s.cars := rfl
@[simp] theorem State.ovrs_wr (a : Nat) (v : Word) : (s.wr a v).ovrs = s.ovrs := rfl
@[simp] theorem State.rxZero_wr (a : Nat) (v : Word) : (s.wr a v).rxZero = s.rxZero := rfl
@[simp] theorem State.rxZeroPast_wr (a : Nat) (v : Word) : (s.wr a v).rxZeroPast = s.rxZeroPast := rfl
@[simp] theorem State.ramps_wr (a : Nat) (v : Word) : (s.wr a v).ramps = s.ramps := rfl
@[simp] theorem State.mutePast_wr (a : Nat) (v : Word) : (s.wr a v).mutePast = s.mutePast := rfl
@[simp] theorem State.spells_wr (a : Nat) (v : Word) : (s.wr a v).spells = s.spells := rfl
@[simp] theorem State.txSyms_wr (a : Nat) (v : Word) : (s.wr a v).txSyms = s.txSyms := rfl
@[simp] theorem State.tx_wr (a : Nat) (v : Word) : (s.wr a v).tx = s.tx := rfl
@[simp] theorem State.dpdPast_wr (a : Nat) (v : Word) : (s.wr a v).dpdPast = s.dpdPast := rfl
@[simp] theorem State.u3Upto_wr (a : Nat) (v : Word) : (s.wr a v).u3Upto = s.u3Upto := rfl
@[simp] theorem State.vswrAt_wr (a : Nat) (v : Word) : (s.wr a v).vswrAt = s.vswrAt := rfl
@[simp] theorem State.slices_wr (a : Nat) (v : Word) : (s.wr a v).slices = s.slices := rfl
@[simp] theorem State.occasions_wr (a : Nat) (v : Word) : (s.wr a v).occasions = s.occasions := rfl
@[simp] theorem State.prachReps_wr (a : Nat) (v : Word) : (s.wr a v).prachReps = s.prachReps := rfl
@[simp] theorem State.cages_wr (a : Nat) (v : Word) : (s.wr a v).cages = s.cages := rfl
@[simp] theorem State.vswrRun_wr (a : Nat) (v : Word) : (s.wr a v).vswrRun = s.vswrRun := rfl
@[simp] theorem State.pmu_wr (a : Nat) (v : Word) : (s.wr a v).pmu = s.pmu := rfl
@[simp] theorem State.adcs_wr (a : Nat) (v : Word) : (s.wr a v).adcs = s.adcs := rfl
@[simp] theorem State.dacs_wr (a : Nat) (v : Word) : (s.wr a v).dacs = s.dacs := rfl
@[simp] theorem State.align_wr (a : Nat) (v : Word) : (s.wr a v).align = s.align := rfl
@[simp] theorem State.assay_wr (a : Nat) (v : Word) : (s.wr a v).assay = s.assay := rfl
@[simp] theorem State.mon_wr (a : Nat) (v : Word) : (s.wr a v).mon = s.mon := rfl
@[simp] theorem State.aux_wr (a : Nat) (v : Word) : (s.wr a v).aux = s.aux := rfl
@[simp] theorem State.bfErr_wr (a : Nat) (v : Word) : (s.wr a v).bfErr = s.bfErr := rfl
@[simp] theorem State.otp_wr (a : Nat) (v : Word) : (s.wr a v).otp = s.otp := rfl
@[simp] theorem State.sec_wr (a : Nat) (v : Word) : (s.wr a v).sec = s.sec := rfl
@[simp] theorem State.sram_wr (a : Nat) (v : Word) : (s.wr a v).sram = s.sram := rfl
@[simp] theorem State.mspiErr_wr (a : Nat) (v : Word) : (s.wr a v).mspiErr = s.mspiErr := rfl

/-! ## `stb` -/

@[simp] theorem State.pending_stb (a : Nat) (b : Byte) : (s.stb a b).pending = s.pending := rfl
@[simp] theorem State.tick_stb (a : Nat) (b : Byte) : (s.stb a b).tick = s.tick := rfl
@[simp] theorem State.free_stb (a : Nat) (b : Byte) : (s.stb a b).free = s.free := rfl
@[simp] theorem State.regs_stb (a : Nat) (b : Byte) : (s.stb a b).regs = s.regs := rfl
@[simp] theorem State.tb_stb (a : Nat) (b : Byte) : (s.stb a b).tb = s.tb := rfl
@[simp] theorem State.bus_stb (a : Nat) (b : Byte) : (s.stb a b).bus = s.bus := rfl
@[simp] theorem State.evs_stb (a : Nat) (b : Byte) : (s.stb a b).evs = s.evs := rfl
@[simp] theorem State.evWin_stb (a : Nat) (b : Byte) : (s.stb a b).evWin = s.evWin := rfl
@[simp] theorem State.evFrame_stb (a : Nat) (b : Byte) : (s.stb a b).evFrame = s.evFrame := rfl
@[simp] theorem State.raised_stb (a : Nat) (b : Byte) : (s.stb a b).raised = s.raised := rfl
@[simp] theorem State.sets_stb (a : Nat) (b : Byte) : (s.stb a b).sets = s.sets := rfl
@[simp] theorem State.episodes_stb (a : Nat) (b : Byte) : (s.stb a b).episodes = s.episodes := rfl
@[simp] theorem State.out_stb (a : Nat) (b : Byte) : (s.stb a b).out = s.out := rfl
@[simp] theorem State.power_stb (a : Nat) (b : Byte) : (s.stb a b).power = s.power := rfl
@[simp] theorem State.time_stb (a : Nat) (b : Byte) : (s.stb a b).time = s.time := rfl
@[simp] theorem State.lanes_stb (a : Nat) (b : Byte) : (s.stb a b).lanes = s.lanes := rfl
@[simp] theorem State.ports_stb (a : Nat) (b : Byte) : (s.stb a b).ports = s.ports := rfl
@[simp] theorem State.links_stb (a : Nat) (b : Byte) : (s.stb a b).links = s.links := rfl
@[simp] theorem State.dh_stb (a : Nat) (b : Byte) : (s.stb a b).dh = s.dh := rfl
@[simp] theorem State.swaps_stb (a : Nat) (b : Byte) : (s.stb a b).swaps = s.swaps := rfl
@[simp] theorem State.olds_stb (a : Nat) (b : Byte) : (s.stb a b).olds = s.olds := rfl
@[simp] theorem State.sb_stb (a : Nat) (b : Byte) : (s.stb a b).sb = s.sb := rfl
@[simp] theorem State.engines_stb (a : Nat) (b : Byte) : (s.stb a b).engines = s.engines := rfl
@[simp] theorem State.cws_stb (a : Nat) (b : Byte) : (s.stb a b).cws = s.cws := rfl
@[simp] theorem State.srs_stb (a : Nat) (b : Byte) : (s.stb a b).srs = s.srs := rfl
@[simp] theorem State.dma_stb (a : Nat) (b : Byte) : (s.stb a b).dma = s.dma := rfl
@[simp] theorem State.chans_stb (a : Nat) (b : Byte) : (s.stb a b).chans = s.chans := rfl
@[simp] theorem State.claims_stb (a : Nat) (b : Byte) : (s.stb a b).claims = s.claims := rfl
@[simp] theorem State.locks_stb (a : Nat) (b : Byte) : (s.stb a b).locks = s.locks := rfl
@[simp] theorem State.lode_stb (a : Nat) (b : Byte) : (s.stb a b).lode = s.lode := rfl
@[simp] theorem State.cores_stb (a : Nat) (b : Byte) : (s.stb a b).cores = s.cores := rfl
@[simp] theorem State.ulq_stb (a : Nat) (b : Byte) : (s.stb a b).ulq = s.ulq := rfl
@[simp] theorem State.ulJobs_stb (a : Nat) (b : Byte) : (s.stb a b).ulJobs = s.ulJobs := rfl
@[simp] theorem State.sections_stb (a : Nat) (b : Byte) : (s.stb a b).sections = s.sections := rfl
@[simp] theorem State.dl_stb (a : Nat) (b : Byte) : (s.stb a b).dl = s.dl := rfl
@[simp] theorem State.symHist_stb (a : Nat) (b : Byte) : (s.stb a b).symHist = s.symHist := rfl
@[simp] theorem State.cars_stb (a : Nat) (b : Byte) : (s.stb a b).cars = s.cars := rfl
@[simp] theorem State.ovrs_stb (a : Nat) (b : Byte) : (s.stb a b).ovrs = s.ovrs := rfl
@[simp] theorem State.rxZero_stb (a : Nat) (b : Byte) : (s.stb a b).rxZero = s.rxZero := rfl
@[simp] theorem State.rxZeroPast_stb (a : Nat) (b : Byte) : (s.stb a b).rxZeroPast = s.rxZeroPast := rfl
@[simp] theorem State.ramps_stb (a : Nat) (b : Byte) : (s.stb a b).ramps = s.ramps := rfl
@[simp] theorem State.mutePast_stb (a : Nat) (b : Byte) : (s.stb a b).mutePast = s.mutePast := rfl
@[simp] theorem State.spells_stb (a : Nat) (b : Byte) : (s.stb a b).spells = s.spells := rfl
@[simp] theorem State.txSyms_stb (a : Nat) (b : Byte) : (s.stb a b).txSyms = s.txSyms := rfl
@[simp] theorem State.tx_stb (a : Nat) (b : Byte) : (s.stb a b).tx = s.tx := rfl
@[simp] theorem State.dpdPast_stb (a : Nat) (b : Byte) : (s.stb a b).dpdPast = s.dpdPast := rfl
@[simp] theorem State.u3Upto_stb (a : Nat) (b : Byte) : (s.stb a b).u3Upto = s.u3Upto := rfl
@[simp] theorem State.vswrAt_stb (a : Nat) (b : Byte) : (s.stb a b).vswrAt = s.vswrAt := rfl
@[simp] theorem State.slices_stb (a : Nat) (b : Byte) : (s.stb a b).slices = s.slices := rfl
@[simp] theorem State.occasions_stb (a : Nat) (b : Byte) : (s.stb a b).occasions = s.occasions := rfl
@[simp] theorem State.prachReps_stb (a : Nat) (b : Byte) : (s.stb a b).prachReps = s.prachReps := rfl
@[simp] theorem State.cages_stb (a : Nat) (b : Byte) : (s.stb a b).cages = s.cages := rfl
@[simp] theorem State.vswrRun_stb (a : Nat) (b : Byte) : (s.stb a b).vswrRun = s.vswrRun := rfl
@[simp] theorem State.pmu_stb (a : Nat) (b : Byte) : (s.stb a b).pmu = s.pmu := rfl
@[simp] theorem State.adcs_stb (a : Nat) (b : Byte) : (s.stb a b).adcs = s.adcs := rfl
@[simp] theorem State.dacs_stb (a : Nat) (b : Byte) : (s.stb a b).dacs = s.dacs := rfl
@[simp] theorem State.align_stb (a : Nat) (b : Byte) : (s.stb a b).align = s.align := rfl
@[simp] theorem State.assay_stb (a : Nat) (b : Byte) : (s.stb a b).assay = s.assay := rfl
@[simp] theorem State.mon_stb (a : Nat) (b : Byte) : (s.stb a b).mon = s.mon := rfl
@[simp] theorem State.aux_stb (a : Nat) (b : Byte) : (s.stb a b).aux = s.aux := rfl
@[simp] theorem State.bfErr_stb (a : Nat) (b : Byte) : (s.stb a b).bfErr = s.bfErr := rfl
@[simp] theorem State.otp_stb (a : Nat) (b : Byte) : (s.stb a b).otp = s.otp := rfl
@[simp] theorem State.sec_stb (a : Nat) (b : Byte) : (s.stb a b).sec = s.sec := rfl
@[simp] theorem State.sram_stb (a : Nat) (b : Byte) : (s.stb a b).sram = s.sram := rfl
@[simp] theorem State.mspiErr_stb (a : Nat) (b : Byte) : (s.stb a b).mspiErr = s.mspiErr := rfl

/-! ## `emit` -/

@[simp] theorem State.pending_emit (o : Out) : (s.emit o).pending = s.pending := rfl
@[simp] theorem State.tick_emit (o : Out) : (s.emit o).tick = s.tick := rfl
@[simp] theorem State.free_emit (o : Out) : (s.emit o).free = s.free := rfl
@[simp] theorem State.regs_emit (o : Out) : (s.emit o).regs = s.regs := rfl
@[simp] theorem State.mem_emit (o : Out) : (s.emit o).mem = s.mem := rfl
@[simp] theorem State.tb_emit (o : Out) : (s.emit o).tb = s.tb := rfl
@[simp] theorem State.bus_emit (o : Out) : (s.emit o).bus = s.bus := rfl
@[simp] theorem State.evs_emit (o : Out) : (s.emit o).evs = s.evs := rfl
@[simp] theorem State.evWin_emit (o : Out) : (s.emit o).evWin = s.evWin := rfl
@[simp] theorem State.evFrame_emit (o : Out) : (s.emit o).evFrame = s.evFrame := rfl
@[simp] theorem State.raised_emit (o : Out) : (s.emit o).raised = s.raised := rfl
@[simp] theorem State.sets_emit (o : Out) : (s.emit o).sets = s.sets := rfl
@[simp] theorem State.episodes_emit (o : Out) : (s.emit o).episodes = s.episodes := rfl
@[simp] theorem State.power_emit (o : Out) : (s.emit o).power = s.power := rfl
@[simp] theorem State.time_emit (o : Out) : (s.emit o).time = s.time := rfl
@[simp] theorem State.lanes_emit (o : Out) : (s.emit o).lanes = s.lanes := rfl
@[simp] theorem State.ports_emit (o : Out) : (s.emit o).ports = s.ports := rfl
@[simp] theorem State.links_emit (o : Out) : (s.emit o).links = s.links := rfl
@[simp] theorem State.dh_emit (o : Out) : (s.emit o).dh = s.dh := rfl
@[simp] theorem State.swaps_emit (o : Out) : (s.emit o).swaps = s.swaps := rfl
@[simp] theorem State.olds_emit (o : Out) : (s.emit o).olds = s.olds := rfl
@[simp] theorem State.sb_emit (o : Out) : (s.emit o).sb = s.sb := rfl
@[simp] theorem State.engines_emit (o : Out) : (s.emit o).engines = s.engines := rfl
@[simp] theorem State.cws_emit (o : Out) : (s.emit o).cws = s.cws := rfl
@[simp] theorem State.srs_emit (o : Out) : (s.emit o).srs = s.srs := rfl
@[simp] theorem State.dma_emit (o : Out) : (s.emit o).dma = s.dma := rfl
@[simp] theorem State.chans_emit (o : Out) : (s.emit o).chans = s.chans := rfl
@[simp] theorem State.claims_emit (o : Out) : (s.emit o).claims = s.claims := rfl
@[simp] theorem State.locks_emit (o : Out) : (s.emit o).locks = s.locks := rfl
@[simp] theorem State.lode_emit (o : Out) : (s.emit o).lode = s.lode := rfl
@[simp] theorem State.cores_emit (o : Out) : (s.emit o).cores = s.cores := rfl
@[simp] theorem State.ulq_emit (o : Out) : (s.emit o).ulq = s.ulq := rfl
@[simp] theorem State.ulJobs_emit (o : Out) : (s.emit o).ulJobs = s.ulJobs := rfl
@[simp] theorem State.sections_emit (o : Out) : (s.emit o).sections = s.sections := rfl
@[simp] theorem State.dl_emit (o : Out) : (s.emit o).dl = s.dl := rfl
@[simp] theorem State.symHist_emit (o : Out) : (s.emit o).symHist = s.symHist := rfl
@[simp] theorem State.cars_emit (o : Out) : (s.emit o).cars = s.cars := rfl
@[simp] theorem State.ovrs_emit (o : Out) : (s.emit o).ovrs = s.ovrs := rfl
@[simp] theorem State.rxZero_emit (o : Out) : (s.emit o).rxZero = s.rxZero := rfl
@[simp] theorem State.rxZeroPast_emit (o : Out) : (s.emit o).rxZeroPast = s.rxZeroPast := rfl
@[simp] theorem State.ramps_emit (o : Out) : (s.emit o).ramps = s.ramps := rfl
@[simp] theorem State.mutePast_emit (o : Out) : (s.emit o).mutePast = s.mutePast := rfl
@[simp] theorem State.spells_emit (o : Out) : (s.emit o).spells = s.spells := rfl
@[simp] theorem State.txSyms_emit (o : Out) : (s.emit o).txSyms = s.txSyms := rfl
@[simp] theorem State.tx_emit (o : Out) : (s.emit o).tx = s.tx := rfl
@[simp] theorem State.dpdPast_emit (o : Out) : (s.emit o).dpdPast = s.dpdPast := rfl
@[simp] theorem State.u3Upto_emit (o : Out) : (s.emit o).u3Upto = s.u3Upto := rfl
@[simp] theorem State.vswrAt_emit (o : Out) : (s.emit o).vswrAt = s.vswrAt := rfl
@[simp] theorem State.slices_emit (o : Out) : (s.emit o).slices = s.slices := rfl
@[simp] theorem State.occasions_emit (o : Out) : (s.emit o).occasions = s.occasions := rfl
@[simp] theorem State.prachReps_emit (o : Out) : (s.emit o).prachReps = s.prachReps := rfl
@[simp] theorem State.cages_emit (o : Out) : (s.emit o).cages = s.cages := rfl
@[simp] theorem State.vswrRun_emit (o : Out) : (s.emit o).vswrRun = s.vswrRun := rfl
@[simp] theorem State.pmu_emit (o : Out) : (s.emit o).pmu = s.pmu := rfl
@[simp] theorem State.adcs_emit (o : Out) : (s.emit o).adcs = s.adcs := rfl
@[simp] theorem State.dacs_emit (o : Out) : (s.emit o).dacs = s.dacs := rfl
@[simp] theorem State.align_emit (o : Out) : (s.emit o).align = s.align := rfl
@[simp] theorem State.assay_emit (o : Out) : (s.emit o).assay = s.assay := rfl
@[simp] theorem State.mon_emit (o : Out) : (s.emit o).mon = s.mon := rfl
@[simp] theorem State.aux_emit (o : Out) : (s.emit o).aux = s.aux := rfl
@[simp] theorem State.bfErr_emit (o : Out) : (s.emit o).bfErr = s.bfErr := rfl
@[simp] theorem State.otp_emit (o : Out) : (s.emit o).otp = s.otp := rfl
@[simp] theorem State.sec_emit (o : Out) : (s.emit o).sec = s.sec := rfl
@[simp] theorem State.sram_emit (o : Out) : (s.emit o).sram = s.sram := rfl
@[simp] theorem State.mspiErr_emit (o : Out) : (s.emit o).mspiErr = s.mspiErr := rfl

/-! ## `setLane` -/

@[simp] theorem State.pending_setLane (p k : Nat) (l : LaneSt) : (s.setLane p k l).pending = s.pending := rfl
@[simp] theorem State.tick_setLane (p k : Nat) (l : LaneSt) : (s.setLane p k l).tick = s.tick := rfl
@[simp] theorem State.free_setLane (p k : Nat) (l : LaneSt) : (s.setLane p k l).free = s.free := rfl
@[simp] theorem State.regs_setLane (p k : Nat) (l : LaneSt) : (s.setLane p k l).regs = s.regs := rfl
@[simp] theorem State.mem_setLane (p k : Nat) (l : LaneSt) : (s.setLane p k l).mem = s.mem := rfl
@[simp] theorem State.tb_setLane (p k : Nat) (l : LaneSt) : (s.setLane p k l).tb = s.tb := rfl
@[simp] theorem State.bus_setLane (p k : Nat) (l : LaneSt) : (s.setLane p k l).bus = s.bus := rfl
@[simp] theorem State.evs_setLane (p k : Nat) (l : LaneSt) : (s.setLane p k l).evs = s.evs := rfl
@[simp] theorem State.evWin_setLane (p k : Nat) (l : LaneSt) : (s.setLane p k l).evWin = s.evWin := rfl
@[simp] theorem State.evFrame_setLane (p k : Nat) (l : LaneSt) : (s.setLane p k l).evFrame = s.evFrame := rfl
@[simp] theorem State.raised_setLane (p k : Nat) (l : LaneSt) : (s.setLane p k l).raised = s.raised := rfl
@[simp] theorem State.sets_setLane (p k : Nat) (l : LaneSt) : (s.setLane p k l).sets = s.sets := rfl
@[simp] theorem State.episodes_setLane (p k : Nat) (l : LaneSt) : (s.setLane p k l).episodes = s.episodes := rfl
@[simp] theorem State.out_setLane (p k : Nat) (l : LaneSt) : (s.setLane p k l).out = s.out := rfl
@[simp] theorem State.power_setLane (p k : Nat) (l : LaneSt) : (s.setLane p k l).power = s.power := rfl
@[simp] theorem State.time_setLane (p k : Nat) (l : LaneSt) : (s.setLane p k l).time = s.time := rfl
@[simp] theorem State.ports_setLane (p k : Nat) (l : LaneSt) : (s.setLane p k l).ports = s.ports := rfl
@[simp] theorem State.links_setLane (p k : Nat) (l : LaneSt) : (s.setLane p k l).links = s.links := rfl
@[simp] theorem State.dh_setLane (p k : Nat) (l : LaneSt) : (s.setLane p k l).dh = s.dh := rfl
@[simp] theorem State.swaps_setLane (p k : Nat) (l : LaneSt) : (s.setLane p k l).swaps = s.swaps := rfl
@[simp] theorem State.olds_setLane (p k : Nat) (l : LaneSt) : (s.setLane p k l).olds = s.olds := rfl
@[simp] theorem State.sb_setLane (p k : Nat) (l : LaneSt) : (s.setLane p k l).sb = s.sb := rfl
@[simp] theorem State.engines_setLane (p k : Nat) (l : LaneSt) : (s.setLane p k l).engines = s.engines := rfl
@[simp] theorem State.cws_setLane (p k : Nat) (l : LaneSt) : (s.setLane p k l).cws = s.cws := rfl
@[simp] theorem State.srs_setLane (p k : Nat) (l : LaneSt) : (s.setLane p k l).srs = s.srs := rfl
@[simp] theorem State.dma_setLane (p k : Nat) (l : LaneSt) : (s.setLane p k l).dma = s.dma := rfl
@[simp] theorem State.chans_setLane (p k : Nat) (l : LaneSt) : (s.setLane p k l).chans = s.chans := rfl
@[simp] theorem State.claims_setLane (p k : Nat) (l : LaneSt) : (s.setLane p k l).claims = s.claims := rfl
@[simp] theorem State.locks_setLane (p k : Nat) (l : LaneSt) : (s.setLane p k l).locks = s.locks := rfl
@[simp] theorem State.lode_setLane (p k : Nat) (l : LaneSt) : (s.setLane p k l).lode = s.lode := rfl
@[simp] theorem State.cores_setLane (p k : Nat) (l : LaneSt) : (s.setLane p k l).cores = s.cores := rfl
@[simp] theorem State.ulq_setLane (p k : Nat) (l : LaneSt) : (s.setLane p k l).ulq = s.ulq := rfl
@[simp] theorem State.ulJobs_setLane (p k : Nat) (l : LaneSt) : (s.setLane p k l).ulJobs = s.ulJobs := rfl
@[simp] theorem State.sections_setLane (p k : Nat) (l : LaneSt) : (s.setLane p k l).sections = s.sections := rfl
@[simp] theorem State.dl_setLane (p k : Nat) (l : LaneSt) : (s.setLane p k l).dl = s.dl := rfl
@[simp] theorem State.symHist_setLane (p k : Nat) (l : LaneSt) : (s.setLane p k l).symHist = s.symHist := rfl
@[simp] theorem State.cars_setLane (p k : Nat) (l : LaneSt) : (s.setLane p k l).cars = s.cars := rfl
@[simp] theorem State.ovrs_setLane (p k : Nat) (l : LaneSt) : (s.setLane p k l).ovrs = s.ovrs := rfl
@[simp] theorem State.rxZero_setLane (p k : Nat) (l : LaneSt) : (s.setLane p k l).rxZero = s.rxZero := rfl
@[simp] theorem State.rxZeroPast_setLane (p k : Nat) (l : LaneSt) : (s.setLane p k l).rxZeroPast = s.rxZeroPast := rfl
@[simp] theorem State.ramps_setLane (p k : Nat) (l : LaneSt) : (s.setLane p k l).ramps = s.ramps := rfl
@[simp] theorem State.mutePast_setLane (p k : Nat) (l : LaneSt) : (s.setLane p k l).mutePast = s.mutePast := rfl
@[simp] theorem State.spells_setLane (p k : Nat) (l : LaneSt) : (s.setLane p k l).spells = s.spells := rfl
@[simp] theorem State.txSyms_setLane (p k : Nat) (l : LaneSt) : (s.setLane p k l).txSyms = s.txSyms := rfl
@[simp] theorem State.tx_setLane (p k : Nat) (l : LaneSt) : (s.setLane p k l).tx = s.tx := rfl
@[simp] theorem State.dpdPast_setLane (p k : Nat) (l : LaneSt) : (s.setLane p k l).dpdPast = s.dpdPast := rfl
@[simp] theorem State.u3Upto_setLane (p k : Nat) (l : LaneSt) : (s.setLane p k l).u3Upto = s.u3Upto := rfl
@[simp] theorem State.vswrAt_setLane (p k : Nat) (l : LaneSt) : (s.setLane p k l).vswrAt = s.vswrAt := rfl
@[simp] theorem State.slices_setLane (p k : Nat) (l : LaneSt) : (s.setLane p k l).slices = s.slices := rfl
@[simp] theorem State.occasions_setLane (p k : Nat) (l : LaneSt) : (s.setLane p k l).occasions = s.occasions := rfl
@[simp] theorem State.prachReps_setLane (p k : Nat) (l : LaneSt) : (s.setLane p k l).prachReps = s.prachReps := rfl
@[simp] theorem State.cages_setLane (p k : Nat) (l : LaneSt) : (s.setLane p k l).cages = s.cages := rfl
@[simp] theorem State.vswrRun_setLane (p k : Nat) (l : LaneSt) : (s.setLane p k l).vswrRun = s.vswrRun := rfl
@[simp] theorem State.pmu_setLane (p k : Nat) (l : LaneSt) : (s.setLane p k l).pmu = s.pmu := rfl
@[simp] theorem State.adcs_setLane (p k : Nat) (l : LaneSt) : (s.setLane p k l).adcs = s.adcs := rfl
@[simp] theorem State.dacs_setLane (p k : Nat) (l : LaneSt) : (s.setLane p k l).dacs = s.dacs := rfl
@[simp] theorem State.align_setLane (p k : Nat) (l : LaneSt) : (s.setLane p k l).align = s.align := rfl
@[simp] theorem State.assay_setLane (p k : Nat) (l : LaneSt) : (s.setLane p k l).assay = s.assay := rfl
@[simp] theorem State.mon_setLane (p k : Nat) (l : LaneSt) : (s.setLane p k l).mon = s.mon := rfl
@[simp] theorem State.aux_setLane (p k : Nat) (l : LaneSt) : (s.setLane p k l).aux = s.aux := rfl
@[simp] theorem State.bfErr_setLane (p k : Nat) (l : LaneSt) : (s.setLane p k l).bfErr = s.bfErr := rfl
@[simp] theorem State.otp_setLane (p k : Nat) (l : LaneSt) : (s.setLane p k l).otp = s.otp := rfl
@[simp] theorem State.sec_setLane (p k : Nat) (l : LaneSt) : (s.setLane p k l).sec = s.sec := rfl
@[simp] theorem State.sram_setLane (p k : Nat) (l : LaneSt) : (s.setLane p k l).sram = s.sram := rfl
@[simp] theorem State.mspiErr_setLane (p k : Nat) (l : LaneSt) : (s.setLane p k l).mspiErr = s.mspiErr := rfl

/-! ## `setPort` -/

@[simp] theorem State.pending_setPort (p : Nat) (l : PortLanes) : (s.setPort p l).pending = s.pending := rfl
@[simp] theorem State.tick_setPort (p : Nat) (l : PortLanes) : (s.setPort p l).tick = s.tick := rfl
@[simp] theorem State.free_setPort (p : Nat) (l : PortLanes) : (s.setPort p l).free = s.free := rfl
@[simp] theorem State.regs_setPort (p : Nat) (l : PortLanes) : (s.setPort p l).regs = s.regs := rfl
@[simp] theorem State.mem_setPort (p : Nat) (l : PortLanes) : (s.setPort p l).mem = s.mem := rfl
@[simp] theorem State.tb_setPort (p : Nat) (l : PortLanes) : (s.setPort p l).tb = s.tb := rfl
@[simp] theorem State.bus_setPort (p : Nat) (l : PortLanes) : (s.setPort p l).bus = s.bus := rfl
@[simp] theorem State.evs_setPort (p : Nat) (l : PortLanes) : (s.setPort p l).evs = s.evs := rfl
@[simp] theorem State.evWin_setPort (p : Nat) (l : PortLanes) : (s.setPort p l).evWin = s.evWin := rfl
@[simp] theorem State.evFrame_setPort (p : Nat) (l : PortLanes) : (s.setPort p l).evFrame = s.evFrame := rfl
@[simp] theorem State.raised_setPort (p : Nat) (l : PortLanes) : (s.setPort p l).raised = s.raised := rfl
@[simp] theorem State.sets_setPort (p : Nat) (l : PortLanes) : (s.setPort p l).sets = s.sets := rfl
@[simp] theorem State.episodes_setPort (p : Nat) (l : PortLanes) : (s.setPort p l).episodes = s.episodes := rfl
@[simp] theorem State.out_setPort (p : Nat) (l : PortLanes) : (s.setPort p l).out = s.out := rfl
@[simp] theorem State.power_setPort (p : Nat) (l : PortLanes) : (s.setPort p l).power = s.power := rfl
@[simp] theorem State.time_setPort (p : Nat) (l : PortLanes) : (s.setPort p l).time = s.time := rfl
@[simp] theorem State.lanes_setPort (p : Nat) (l : PortLanes) : (s.setPort p l).lanes = s.lanes := rfl
@[simp] theorem State.links_setPort (p : Nat) (l : PortLanes) : (s.setPort p l).links = s.links := rfl
@[simp] theorem State.dh_setPort (p : Nat) (l : PortLanes) : (s.setPort p l).dh = s.dh := rfl
@[simp] theorem State.swaps_setPort (p : Nat) (l : PortLanes) : (s.setPort p l).swaps = s.swaps := rfl
@[simp] theorem State.olds_setPort (p : Nat) (l : PortLanes) : (s.setPort p l).olds = s.olds := rfl
@[simp] theorem State.sb_setPort (p : Nat) (l : PortLanes) : (s.setPort p l).sb = s.sb := rfl
@[simp] theorem State.engines_setPort (p : Nat) (l : PortLanes) : (s.setPort p l).engines = s.engines := rfl
@[simp] theorem State.cws_setPort (p : Nat) (l : PortLanes) : (s.setPort p l).cws = s.cws := rfl
@[simp] theorem State.srs_setPort (p : Nat) (l : PortLanes) : (s.setPort p l).srs = s.srs := rfl
@[simp] theorem State.dma_setPort (p : Nat) (l : PortLanes) : (s.setPort p l).dma = s.dma := rfl
@[simp] theorem State.chans_setPort (p : Nat) (l : PortLanes) : (s.setPort p l).chans = s.chans := rfl
@[simp] theorem State.claims_setPort (p : Nat) (l : PortLanes) : (s.setPort p l).claims = s.claims := rfl
@[simp] theorem State.locks_setPort (p : Nat) (l : PortLanes) : (s.setPort p l).locks = s.locks := rfl
@[simp] theorem State.lode_setPort (p : Nat) (l : PortLanes) : (s.setPort p l).lode = s.lode := rfl
@[simp] theorem State.cores_setPort (p : Nat) (l : PortLanes) : (s.setPort p l).cores = s.cores := rfl
@[simp] theorem State.ulq_setPort (p : Nat) (l : PortLanes) : (s.setPort p l).ulq = s.ulq := rfl
@[simp] theorem State.ulJobs_setPort (p : Nat) (l : PortLanes) : (s.setPort p l).ulJobs = s.ulJobs := rfl
@[simp] theorem State.sections_setPort (p : Nat) (l : PortLanes) : (s.setPort p l).sections = s.sections := rfl
@[simp] theorem State.dl_setPort (p : Nat) (l : PortLanes) : (s.setPort p l).dl = s.dl := rfl
@[simp] theorem State.symHist_setPort (p : Nat) (l : PortLanes) : (s.setPort p l).symHist = s.symHist := rfl
@[simp] theorem State.cars_setPort (p : Nat) (l : PortLanes) : (s.setPort p l).cars = s.cars := rfl
@[simp] theorem State.ovrs_setPort (p : Nat) (l : PortLanes) : (s.setPort p l).ovrs = s.ovrs := rfl
@[simp] theorem State.rxZero_setPort (p : Nat) (l : PortLanes) : (s.setPort p l).rxZero = s.rxZero := rfl
@[simp] theorem State.rxZeroPast_setPort (p : Nat) (l : PortLanes) : (s.setPort p l).rxZeroPast = s.rxZeroPast := rfl
@[simp] theorem State.ramps_setPort (p : Nat) (l : PortLanes) : (s.setPort p l).ramps = s.ramps := rfl
@[simp] theorem State.mutePast_setPort (p : Nat) (l : PortLanes) : (s.setPort p l).mutePast = s.mutePast := rfl
@[simp] theorem State.spells_setPort (p : Nat) (l : PortLanes) : (s.setPort p l).spells = s.spells := rfl
@[simp] theorem State.txSyms_setPort (p : Nat) (l : PortLanes) : (s.setPort p l).txSyms = s.txSyms := rfl
@[simp] theorem State.tx_setPort (p : Nat) (l : PortLanes) : (s.setPort p l).tx = s.tx := rfl
@[simp] theorem State.dpdPast_setPort (p : Nat) (l : PortLanes) : (s.setPort p l).dpdPast = s.dpdPast := rfl
@[simp] theorem State.u3Upto_setPort (p : Nat) (l : PortLanes) : (s.setPort p l).u3Upto = s.u3Upto := rfl
@[simp] theorem State.vswrAt_setPort (p : Nat) (l : PortLanes) : (s.setPort p l).vswrAt = s.vswrAt := rfl
@[simp] theorem State.slices_setPort (p : Nat) (l : PortLanes) : (s.setPort p l).slices = s.slices := rfl
@[simp] theorem State.occasions_setPort (p : Nat) (l : PortLanes) : (s.setPort p l).occasions = s.occasions := rfl
@[simp] theorem State.prachReps_setPort (p : Nat) (l : PortLanes) : (s.setPort p l).prachReps = s.prachReps := rfl
@[simp] theorem State.cages_setPort (p : Nat) (l : PortLanes) : (s.setPort p l).cages = s.cages := rfl
@[simp] theorem State.vswrRun_setPort (p : Nat) (l : PortLanes) : (s.setPort p l).vswrRun = s.vswrRun := rfl
@[simp] theorem State.pmu_setPort (p : Nat) (l : PortLanes) : (s.setPort p l).pmu = s.pmu := rfl
@[simp] theorem State.adcs_setPort (p : Nat) (l : PortLanes) : (s.setPort p l).adcs = s.adcs := rfl
@[simp] theorem State.dacs_setPort (p : Nat) (l : PortLanes) : (s.setPort p l).dacs = s.dacs := rfl
@[simp] theorem State.align_setPort (p : Nat) (l : PortLanes) : (s.setPort p l).align = s.align := rfl
@[simp] theorem State.assay_setPort (p : Nat) (l : PortLanes) : (s.setPort p l).assay = s.assay := rfl
@[simp] theorem State.mon_setPort (p : Nat) (l : PortLanes) : (s.setPort p l).mon = s.mon := rfl
@[simp] theorem State.aux_setPort (p : Nat) (l : PortLanes) : (s.setPort p l).aux = s.aux := rfl
@[simp] theorem State.bfErr_setPort (p : Nat) (l : PortLanes) : (s.setPort p l).bfErr = s.bfErr := rfl
@[simp] theorem State.otp_setPort (p : Nat) (l : PortLanes) : (s.setPort p l).otp = s.otp := rfl
@[simp] theorem State.sec_setPort (p : Nat) (l : PortLanes) : (s.setPort p l).sec = s.sec := rfl
@[simp] theorem State.sram_setPort (p : Nat) (l : PortLanes) : (s.setPort p l).sram = s.sram := rfl
@[simp] theorem State.mspiErr_setPort (p : Nat) (l : PortLanes) : (s.setPort p l).mspiErr = s.mspiErr := rfl

/-! ## `setLink` -/

@[simp] theorem State.pending_setLink (p : Nat) (l : PortLink) : (s.setLink p l).pending = s.pending := rfl
@[simp] theorem State.tick_setLink (p : Nat) (l : PortLink) : (s.setLink p l).tick = s.tick := rfl
@[simp] theorem State.free_setLink (p : Nat) (l : PortLink) : (s.setLink p l).free = s.free := rfl
@[simp] theorem State.regs_setLink (p : Nat) (l : PortLink) : (s.setLink p l).regs = s.regs := rfl
@[simp] theorem State.mem_setLink (p : Nat) (l : PortLink) : (s.setLink p l).mem = s.mem := rfl
@[simp] theorem State.tb_setLink (p : Nat) (l : PortLink) : (s.setLink p l).tb = s.tb := rfl
@[simp] theorem State.bus_setLink (p : Nat) (l : PortLink) : (s.setLink p l).bus = s.bus := rfl
@[simp] theorem State.evs_setLink (p : Nat) (l : PortLink) : (s.setLink p l).evs = s.evs := rfl
@[simp] theorem State.evWin_setLink (p : Nat) (l : PortLink) : (s.setLink p l).evWin = s.evWin := rfl
@[simp] theorem State.evFrame_setLink (p : Nat) (l : PortLink) : (s.setLink p l).evFrame = s.evFrame := rfl
@[simp] theorem State.raised_setLink (p : Nat) (l : PortLink) : (s.setLink p l).raised = s.raised := rfl
@[simp] theorem State.sets_setLink (p : Nat) (l : PortLink) : (s.setLink p l).sets = s.sets := rfl
@[simp] theorem State.episodes_setLink (p : Nat) (l : PortLink) : (s.setLink p l).episodes = s.episodes := rfl
@[simp] theorem State.out_setLink (p : Nat) (l : PortLink) : (s.setLink p l).out = s.out := rfl
@[simp] theorem State.power_setLink (p : Nat) (l : PortLink) : (s.setLink p l).power = s.power := rfl
@[simp] theorem State.time_setLink (p : Nat) (l : PortLink) : (s.setLink p l).time = s.time := rfl
@[simp] theorem State.lanes_setLink (p : Nat) (l : PortLink) : (s.setLink p l).lanes = s.lanes := rfl
@[simp] theorem State.ports_setLink (p : Nat) (l : PortLink) : (s.setLink p l).ports = s.ports := rfl
@[simp] theorem State.dh_setLink (p : Nat) (l : PortLink) : (s.setLink p l).dh = s.dh := rfl
@[simp] theorem State.swaps_setLink (p : Nat) (l : PortLink) : (s.setLink p l).swaps = s.swaps := rfl
@[simp] theorem State.olds_setLink (p : Nat) (l : PortLink) : (s.setLink p l).olds = s.olds := rfl
@[simp] theorem State.sb_setLink (p : Nat) (l : PortLink) : (s.setLink p l).sb = s.sb := rfl
@[simp] theorem State.engines_setLink (p : Nat) (l : PortLink) : (s.setLink p l).engines = s.engines := rfl
@[simp] theorem State.cws_setLink (p : Nat) (l : PortLink) : (s.setLink p l).cws = s.cws := rfl
@[simp] theorem State.srs_setLink (p : Nat) (l : PortLink) : (s.setLink p l).srs = s.srs := rfl
@[simp] theorem State.dma_setLink (p : Nat) (l : PortLink) : (s.setLink p l).dma = s.dma := rfl
@[simp] theorem State.chans_setLink (p : Nat) (l : PortLink) : (s.setLink p l).chans = s.chans := rfl
@[simp] theorem State.claims_setLink (p : Nat) (l : PortLink) : (s.setLink p l).claims = s.claims := rfl
@[simp] theorem State.locks_setLink (p : Nat) (l : PortLink) : (s.setLink p l).locks = s.locks := rfl
@[simp] theorem State.lode_setLink (p : Nat) (l : PortLink) : (s.setLink p l).lode = s.lode := rfl
@[simp] theorem State.cores_setLink (p : Nat) (l : PortLink) : (s.setLink p l).cores = s.cores := rfl
@[simp] theorem State.ulq_setLink (p : Nat) (l : PortLink) : (s.setLink p l).ulq = s.ulq := rfl
@[simp] theorem State.ulJobs_setLink (p : Nat) (l : PortLink) : (s.setLink p l).ulJobs = s.ulJobs := rfl
@[simp] theorem State.sections_setLink (p : Nat) (l : PortLink) : (s.setLink p l).sections = s.sections := rfl
@[simp] theorem State.dl_setLink (p : Nat) (l : PortLink) : (s.setLink p l).dl = s.dl := rfl
@[simp] theorem State.symHist_setLink (p : Nat) (l : PortLink) : (s.setLink p l).symHist = s.symHist := rfl
@[simp] theorem State.cars_setLink (p : Nat) (l : PortLink) : (s.setLink p l).cars = s.cars := rfl
@[simp] theorem State.ovrs_setLink (p : Nat) (l : PortLink) : (s.setLink p l).ovrs = s.ovrs := rfl
@[simp] theorem State.rxZero_setLink (p : Nat) (l : PortLink) : (s.setLink p l).rxZero = s.rxZero := rfl
@[simp] theorem State.rxZeroPast_setLink (p : Nat) (l : PortLink) : (s.setLink p l).rxZeroPast = s.rxZeroPast := rfl
@[simp] theorem State.ramps_setLink (p : Nat) (l : PortLink) : (s.setLink p l).ramps = s.ramps := rfl
@[simp] theorem State.mutePast_setLink (p : Nat) (l : PortLink) : (s.setLink p l).mutePast = s.mutePast := rfl
@[simp] theorem State.spells_setLink (p : Nat) (l : PortLink) : (s.setLink p l).spells = s.spells := rfl
@[simp] theorem State.txSyms_setLink (p : Nat) (l : PortLink) : (s.setLink p l).txSyms = s.txSyms := rfl
@[simp] theorem State.tx_setLink (p : Nat) (l : PortLink) : (s.setLink p l).tx = s.tx := rfl
@[simp] theorem State.dpdPast_setLink (p : Nat) (l : PortLink) : (s.setLink p l).dpdPast = s.dpdPast := rfl
@[simp] theorem State.u3Upto_setLink (p : Nat) (l : PortLink) : (s.setLink p l).u3Upto = s.u3Upto := rfl
@[simp] theorem State.vswrAt_setLink (p : Nat) (l : PortLink) : (s.setLink p l).vswrAt = s.vswrAt := rfl
@[simp] theorem State.slices_setLink (p : Nat) (l : PortLink) : (s.setLink p l).slices = s.slices := rfl
@[simp] theorem State.occasions_setLink (p : Nat) (l : PortLink) : (s.setLink p l).occasions = s.occasions := rfl
@[simp] theorem State.prachReps_setLink (p : Nat) (l : PortLink) : (s.setLink p l).prachReps = s.prachReps := rfl
@[simp] theorem State.cages_setLink (p : Nat) (l : PortLink) : (s.setLink p l).cages = s.cages := rfl
@[simp] theorem State.vswrRun_setLink (p : Nat) (l : PortLink) : (s.setLink p l).vswrRun = s.vswrRun := rfl
@[simp] theorem State.pmu_setLink (p : Nat) (l : PortLink) : (s.setLink p l).pmu = s.pmu := rfl
@[simp] theorem State.adcs_setLink (p : Nat) (l : PortLink) : (s.setLink p l).adcs = s.adcs := rfl
@[simp] theorem State.dacs_setLink (p : Nat) (l : PortLink) : (s.setLink p l).dacs = s.dacs := rfl
@[simp] theorem State.align_setLink (p : Nat) (l : PortLink) : (s.setLink p l).align = s.align := rfl
@[simp] theorem State.assay_setLink (p : Nat) (l : PortLink) : (s.setLink p l).assay = s.assay := rfl
@[simp] theorem State.mon_setLink (p : Nat) (l : PortLink) : (s.setLink p l).mon = s.mon := rfl
@[simp] theorem State.aux_setLink (p : Nat) (l : PortLink) : (s.setLink p l).aux = s.aux := rfl
@[simp] theorem State.bfErr_setLink (p : Nat) (l : PortLink) : (s.setLink p l).bfErr = s.bfErr := rfl
@[simp] theorem State.otp_setLink (p : Nat) (l : PortLink) : (s.setLink p l).otp = s.otp := rfl
@[simp] theorem State.sec_setLink (p : Nat) (l : PortLink) : (s.setLink p l).sec = s.sec := rfl
@[simp] theorem State.sram_setLink (p : Nat) (l : PortLink) : (s.setLink p l).sram = s.sram := rfl
@[simp] theorem State.mspiErr_setLink (p : Nat) (l : PortLink) : (s.setLink p l).mspiErr = s.mspiErr := rfl

/-! ## `setBus` -/

@[simp] theorem State.pending_setBus (r : Nat) (b : BusUnit) : (s.setBus r b).pending = s.pending := rfl
@[simp] theorem State.tick_setBus (r : Nat) (b : BusUnit) : (s.setBus r b).tick = s.tick := rfl
@[simp] theorem State.free_setBus (r : Nat) (b : BusUnit) : (s.setBus r b).free = s.free := rfl
@[simp] theorem State.regs_setBus (r : Nat) (b : BusUnit) : (s.setBus r b).regs = s.regs := rfl
@[simp] theorem State.mem_setBus (r : Nat) (b : BusUnit) : (s.setBus r b).mem = s.mem := rfl
@[simp] theorem State.tb_setBus (r : Nat) (b : BusUnit) : (s.setBus r b).tb = s.tb := rfl
@[simp] theorem State.evs_setBus (r : Nat) (b : BusUnit) : (s.setBus r b).evs = s.evs := rfl
@[simp] theorem State.evWin_setBus (r : Nat) (b : BusUnit) : (s.setBus r b).evWin = s.evWin := rfl
@[simp] theorem State.evFrame_setBus (r : Nat) (b : BusUnit) : (s.setBus r b).evFrame = s.evFrame := rfl
@[simp] theorem State.raised_setBus (r : Nat) (b : BusUnit) : (s.setBus r b).raised = s.raised := rfl
@[simp] theorem State.sets_setBus (r : Nat) (b : BusUnit) : (s.setBus r b).sets = s.sets := rfl
@[simp] theorem State.episodes_setBus (r : Nat) (b : BusUnit) : (s.setBus r b).episodes = s.episodes := rfl
@[simp] theorem State.out_setBus (r : Nat) (b : BusUnit) : (s.setBus r b).out = s.out := rfl
@[simp] theorem State.power_setBus (r : Nat) (b : BusUnit) : (s.setBus r b).power = s.power := rfl
@[simp] theorem State.time_setBus (r : Nat) (b : BusUnit) : (s.setBus r b).time = s.time := rfl
@[simp] theorem State.lanes_setBus (r : Nat) (b : BusUnit) : (s.setBus r b).lanes = s.lanes := rfl
@[simp] theorem State.ports_setBus (r : Nat) (b : BusUnit) : (s.setBus r b).ports = s.ports := rfl
@[simp] theorem State.links_setBus (r : Nat) (b : BusUnit) : (s.setBus r b).links = s.links := rfl
@[simp] theorem State.dh_setBus (r : Nat) (b : BusUnit) : (s.setBus r b).dh = s.dh := rfl
@[simp] theorem State.swaps_setBus (r : Nat) (b : BusUnit) : (s.setBus r b).swaps = s.swaps := rfl
@[simp] theorem State.olds_setBus (r : Nat) (b : BusUnit) : (s.setBus r b).olds = s.olds := rfl
@[simp] theorem State.sb_setBus (r : Nat) (b : BusUnit) : (s.setBus r b).sb = s.sb := rfl
@[simp] theorem State.engines_setBus (r : Nat) (b : BusUnit) : (s.setBus r b).engines = s.engines := rfl
@[simp] theorem State.cws_setBus (r : Nat) (b : BusUnit) : (s.setBus r b).cws = s.cws := rfl
@[simp] theorem State.srs_setBus (r : Nat) (b : BusUnit) : (s.setBus r b).srs = s.srs := rfl
@[simp] theorem State.dma_setBus (r : Nat) (b : BusUnit) : (s.setBus r b).dma = s.dma := rfl
@[simp] theorem State.chans_setBus (r : Nat) (b : BusUnit) : (s.setBus r b).chans = s.chans := rfl
@[simp] theorem State.claims_setBus (r : Nat) (b : BusUnit) : (s.setBus r b).claims = s.claims := rfl
@[simp] theorem State.locks_setBus (r : Nat) (b : BusUnit) : (s.setBus r b).locks = s.locks := rfl
@[simp] theorem State.lode_setBus (r : Nat) (b : BusUnit) : (s.setBus r b).lode = s.lode := rfl
@[simp] theorem State.cores_setBus (r : Nat) (b : BusUnit) : (s.setBus r b).cores = s.cores := rfl
@[simp] theorem State.ulq_setBus (r : Nat) (b : BusUnit) : (s.setBus r b).ulq = s.ulq := rfl
@[simp] theorem State.ulJobs_setBus (r : Nat) (b : BusUnit) : (s.setBus r b).ulJobs = s.ulJobs := rfl
@[simp] theorem State.sections_setBus (r : Nat) (b : BusUnit) : (s.setBus r b).sections = s.sections := rfl
@[simp] theorem State.dl_setBus (r : Nat) (b : BusUnit) : (s.setBus r b).dl = s.dl := rfl
@[simp] theorem State.symHist_setBus (r : Nat) (b : BusUnit) : (s.setBus r b).symHist = s.symHist := rfl
@[simp] theorem State.cars_setBus (r : Nat) (b : BusUnit) : (s.setBus r b).cars = s.cars := rfl
@[simp] theorem State.ovrs_setBus (r : Nat) (b : BusUnit) : (s.setBus r b).ovrs = s.ovrs := rfl
@[simp] theorem State.rxZero_setBus (r : Nat) (b : BusUnit) : (s.setBus r b).rxZero = s.rxZero := rfl
@[simp] theorem State.rxZeroPast_setBus (r : Nat) (b : BusUnit) : (s.setBus r b).rxZeroPast = s.rxZeroPast := rfl
@[simp] theorem State.ramps_setBus (r : Nat) (b : BusUnit) : (s.setBus r b).ramps = s.ramps := rfl
@[simp] theorem State.mutePast_setBus (r : Nat) (b : BusUnit) : (s.setBus r b).mutePast = s.mutePast := rfl
@[simp] theorem State.spells_setBus (r : Nat) (b : BusUnit) : (s.setBus r b).spells = s.spells := rfl
@[simp] theorem State.txSyms_setBus (r : Nat) (b : BusUnit) : (s.setBus r b).txSyms = s.txSyms := rfl
@[simp] theorem State.tx_setBus (r : Nat) (b : BusUnit) : (s.setBus r b).tx = s.tx := rfl
@[simp] theorem State.dpdPast_setBus (r : Nat) (b : BusUnit) : (s.setBus r b).dpdPast = s.dpdPast := rfl
@[simp] theorem State.u3Upto_setBus (r : Nat) (b : BusUnit) : (s.setBus r b).u3Upto = s.u3Upto := rfl
@[simp] theorem State.vswrAt_setBus (r : Nat) (b : BusUnit) : (s.setBus r b).vswrAt = s.vswrAt := rfl
@[simp] theorem State.slices_setBus (r : Nat) (b : BusUnit) : (s.setBus r b).slices = s.slices := rfl
@[simp] theorem State.occasions_setBus (r : Nat) (b : BusUnit) : (s.setBus r b).occasions = s.occasions := rfl
@[simp] theorem State.prachReps_setBus (r : Nat) (b : BusUnit) : (s.setBus r b).prachReps = s.prachReps := rfl
@[simp] theorem State.cages_setBus (r : Nat) (b : BusUnit) : (s.setBus r b).cages = s.cages := rfl
@[simp] theorem State.vswrRun_setBus (r : Nat) (b : BusUnit) : (s.setBus r b).vswrRun = s.vswrRun := rfl
@[simp] theorem State.pmu_setBus (r : Nat) (b : BusUnit) : (s.setBus r b).pmu = s.pmu := rfl
@[simp] theorem State.adcs_setBus (r : Nat) (b : BusUnit) : (s.setBus r b).adcs = s.adcs := rfl
@[simp] theorem State.dacs_setBus (r : Nat) (b : BusUnit) : (s.setBus r b).dacs = s.dacs := rfl
@[simp] theorem State.align_setBus (r : Nat) (b : BusUnit) : (s.setBus r b).align = s.align := rfl
@[simp] theorem State.assay_setBus (r : Nat) (b : BusUnit) : (s.setBus r b).assay = s.assay := rfl
@[simp] theorem State.mon_setBus (r : Nat) (b : BusUnit) : (s.setBus r b).mon = s.mon := rfl
@[simp] theorem State.aux_setBus (r : Nat) (b : BusUnit) : (s.setBus r b).aux = s.aux := rfl
@[simp] theorem State.bfErr_setBus (r : Nat) (b : BusUnit) : (s.setBus r b).bfErr = s.bfErr := rfl
@[simp] theorem State.otp_setBus (r : Nat) (b : BusUnit) : (s.setBus r b).otp = s.otp := rfl
@[simp] theorem State.sec_setBus (r : Nat) (b : BusUnit) : (s.setBus r b).sec = s.sec := rfl
@[simp] theorem State.sram_setBus (r : Nat) (b : BusUnit) : (s.setBus r b).sram = s.sram := rfl
@[simp] theorem State.mspiErr_setBus (r : Nat) (b : BusUnit) : (s.setBus r b).mspiErr = s.mspiErr := rfl

/-! ## `setEng` -/

@[simp] theorem State.pending_setEng (e : Nat) (x : Engine) : (s.setEng e x).pending = s.pending := rfl
@[simp] theorem State.tick_setEng (e : Nat) (x : Engine) : (s.setEng e x).tick = s.tick := rfl
@[simp] theorem State.free_setEng (e : Nat) (x : Engine) : (s.setEng e x).free = s.free := rfl
@[simp] theorem State.regs_setEng (e : Nat) (x : Engine) : (s.setEng e x).regs = s.regs := rfl
@[simp] theorem State.mem_setEng (e : Nat) (x : Engine) : (s.setEng e x).mem = s.mem := rfl
@[simp] theorem State.tb_setEng (e : Nat) (x : Engine) : (s.setEng e x).tb = s.tb := rfl
@[simp] theorem State.bus_setEng (e : Nat) (x : Engine) : (s.setEng e x).bus = s.bus := rfl
@[simp] theorem State.evs_setEng (e : Nat) (x : Engine) : (s.setEng e x).evs = s.evs := rfl
@[simp] theorem State.evWin_setEng (e : Nat) (x : Engine) : (s.setEng e x).evWin = s.evWin := rfl
@[simp] theorem State.evFrame_setEng (e : Nat) (x : Engine) : (s.setEng e x).evFrame = s.evFrame := rfl
@[simp] theorem State.raised_setEng (e : Nat) (x : Engine) : (s.setEng e x).raised = s.raised := rfl
@[simp] theorem State.sets_setEng (e : Nat) (x : Engine) : (s.setEng e x).sets = s.sets := rfl
@[simp] theorem State.episodes_setEng (e : Nat) (x : Engine) : (s.setEng e x).episodes = s.episodes := rfl
@[simp] theorem State.out_setEng (e : Nat) (x : Engine) : (s.setEng e x).out = s.out := rfl
@[simp] theorem State.power_setEng (e : Nat) (x : Engine) : (s.setEng e x).power = s.power := rfl
@[simp] theorem State.time_setEng (e : Nat) (x : Engine) : (s.setEng e x).time = s.time := rfl
@[simp] theorem State.lanes_setEng (e : Nat) (x : Engine) : (s.setEng e x).lanes = s.lanes := rfl
@[simp] theorem State.ports_setEng (e : Nat) (x : Engine) : (s.setEng e x).ports = s.ports := rfl
@[simp] theorem State.links_setEng (e : Nat) (x : Engine) : (s.setEng e x).links = s.links := rfl
@[simp] theorem State.dh_setEng (e : Nat) (x : Engine) : (s.setEng e x).dh = s.dh := rfl
@[simp] theorem State.swaps_setEng (e : Nat) (x : Engine) : (s.setEng e x).swaps = s.swaps := rfl
@[simp] theorem State.olds_setEng (e : Nat) (x : Engine) : (s.setEng e x).olds = s.olds := rfl
@[simp] theorem State.sb_setEng (e : Nat) (x : Engine) : (s.setEng e x).sb = s.sb := rfl
@[simp] theorem State.cws_setEng (e : Nat) (x : Engine) : (s.setEng e x).cws = s.cws := rfl
@[simp] theorem State.srs_setEng (e : Nat) (x : Engine) : (s.setEng e x).srs = s.srs := rfl
@[simp] theorem State.dma_setEng (e : Nat) (x : Engine) : (s.setEng e x).dma = s.dma := rfl
@[simp] theorem State.chans_setEng (e : Nat) (x : Engine) : (s.setEng e x).chans = s.chans := rfl
@[simp] theorem State.claims_setEng (e : Nat) (x : Engine) : (s.setEng e x).claims = s.claims := rfl
@[simp] theorem State.locks_setEng (e : Nat) (x : Engine) : (s.setEng e x).locks = s.locks := rfl
@[simp] theorem State.lode_setEng (e : Nat) (x : Engine) : (s.setEng e x).lode = s.lode := rfl
@[simp] theorem State.cores_setEng (e : Nat) (x : Engine) : (s.setEng e x).cores = s.cores := rfl
@[simp] theorem State.ulq_setEng (e : Nat) (x : Engine) : (s.setEng e x).ulq = s.ulq := rfl
@[simp] theorem State.ulJobs_setEng (e : Nat) (x : Engine) : (s.setEng e x).ulJobs = s.ulJobs := rfl
@[simp] theorem State.sections_setEng (e : Nat) (x : Engine) : (s.setEng e x).sections = s.sections := rfl
@[simp] theorem State.dl_setEng (e : Nat) (x : Engine) : (s.setEng e x).dl = s.dl := rfl
@[simp] theorem State.symHist_setEng (e : Nat) (x : Engine) : (s.setEng e x).symHist = s.symHist := rfl
@[simp] theorem State.cars_setEng (e : Nat) (x : Engine) : (s.setEng e x).cars = s.cars := rfl
@[simp] theorem State.ovrs_setEng (e : Nat) (x : Engine) : (s.setEng e x).ovrs = s.ovrs := rfl
@[simp] theorem State.rxZero_setEng (e : Nat) (x : Engine) : (s.setEng e x).rxZero = s.rxZero := rfl
@[simp] theorem State.rxZeroPast_setEng (e : Nat) (x : Engine) : (s.setEng e x).rxZeroPast = s.rxZeroPast := rfl
@[simp] theorem State.ramps_setEng (e : Nat) (x : Engine) : (s.setEng e x).ramps = s.ramps := rfl
@[simp] theorem State.mutePast_setEng (e : Nat) (x : Engine) : (s.setEng e x).mutePast = s.mutePast := rfl
@[simp] theorem State.spells_setEng (e : Nat) (x : Engine) : (s.setEng e x).spells = s.spells := rfl
@[simp] theorem State.txSyms_setEng (e : Nat) (x : Engine) : (s.setEng e x).txSyms = s.txSyms := rfl
@[simp] theorem State.tx_setEng (e : Nat) (x : Engine) : (s.setEng e x).tx = s.tx := rfl
@[simp] theorem State.dpdPast_setEng (e : Nat) (x : Engine) : (s.setEng e x).dpdPast = s.dpdPast := rfl
@[simp] theorem State.u3Upto_setEng (e : Nat) (x : Engine) : (s.setEng e x).u3Upto = s.u3Upto := rfl
@[simp] theorem State.vswrAt_setEng (e : Nat) (x : Engine) : (s.setEng e x).vswrAt = s.vswrAt := rfl
@[simp] theorem State.slices_setEng (e : Nat) (x : Engine) : (s.setEng e x).slices = s.slices := rfl
@[simp] theorem State.occasions_setEng (e : Nat) (x : Engine) : (s.setEng e x).occasions = s.occasions := rfl
@[simp] theorem State.prachReps_setEng (e : Nat) (x : Engine) : (s.setEng e x).prachReps = s.prachReps := rfl
@[simp] theorem State.cages_setEng (e : Nat) (x : Engine) : (s.setEng e x).cages = s.cages := rfl
@[simp] theorem State.vswrRun_setEng (e : Nat) (x : Engine) : (s.setEng e x).vswrRun = s.vswrRun := rfl
@[simp] theorem State.pmu_setEng (e : Nat) (x : Engine) : (s.setEng e x).pmu = s.pmu := rfl
@[simp] theorem State.adcs_setEng (e : Nat) (x : Engine) : (s.setEng e x).adcs = s.adcs := rfl
@[simp] theorem State.dacs_setEng (e : Nat) (x : Engine) : (s.setEng e x).dacs = s.dacs := rfl
@[simp] theorem State.align_setEng (e : Nat) (x : Engine) : (s.setEng e x).align = s.align := rfl
@[simp] theorem State.assay_setEng (e : Nat) (x : Engine) : (s.setEng e x).assay = s.assay := rfl
@[simp] theorem State.mon_setEng (e : Nat) (x : Engine) : (s.setEng e x).mon = s.mon := rfl
@[simp] theorem State.aux_setEng (e : Nat) (x : Engine) : (s.setEng e x).aux = s.aux := rfl
@[simp] theorem State.bfErr_setEng (e : Nat) (x : Engine) : (s.setEng e x).bfErr = s.bfErr := rfl
@[simp] theorem State.otp_setEng (e : Nat) (x : Engine) : (s.setEng e x).otp = s.otp := rfl
@[simp] theorem State.sec_setEng (e : Nat) (x : Engine) : (s.setEng e x).sec = s.sec := rfl
@[simp] theorem State.sram_setEng (e : Nat) (x : Engine) : (s.setEng e x).sram = s.sram := rfl
@[simp] theorem State.mspiErr_setEng (e : Nat) (x : Engine) : (s.setEng e x).mspiErr = s.mspiErr := rfl

/-! ## `setCh` -/

@[simp] theorem State.pending_setCh (c : Nat) (x : DmaCh) : (s.setCh c x).pending = s.pending := rfl
@[simp] theorem State.tick_setCh (c : Nat) (x : DmaCh) : (s.setCh c x).tick = s.tick := rfl
@[simp] theorem State.free_setCh (c : Nat) (x : DmaCh) : (s.setCh c x).free = s.free := rfl
@[simp] theorem State.regs_setCh (c : Nat) (x : DmaCh) : (s.setCh c x).regs = s.regs := rfl
@[simp] theorem State.mem_setCh (c : Nat) (x : DmaCh) : (s.setCh c x).mem = s.mem := rfl
@[simp] theorem State.tb_setCh (c : Nat) (x : DmaCh) : (s.setCh c x).tb = s.tb := rfl
@[simp] theorem State.bus_setCh (c : Nat) (x : DmaCh) : (s.setCh c x).bus = s.bus := rfl
@[simp] theorem State.evs_setCh (c : Nat) (x : DmaCh) : (s.setCh c x).evs = s.evs := rfl
@[simp] theorem State.evWin_setCh (c : Nat) (x : DmaCh) : (s.setCh c x).evWin = s.evWin := rfl
@[simp] theorem State.evFrame_setCh (c : Nat) (x : DmaCh) : (s.setCh c x).evFrame = s.evFrame := rfl
@[simp] theorem State.raised_setCh (c : Nat) (x : DmaCh) : (s.setCh c x).raised = s.raised := rfl
@[simp] theorem State.sets_setCh (c : Nat) (x : DmaCh) : (s.setCh c x).sets = s.sets := rfl
@[simp] theorem State.episodes_setCh (c : Nat) (x : DmaCh) : (s.setCh c x).episodes = s.episodes := rfl
@[simp] theorem State.out_setCh (c : Nat) (x : DmaCh) : (s.setCh c x).out = s.out := rfl
@[simp] theorem State.power_setCh (c : Nat) (x : DmaCh) : (s.setCh c x).power = s.power := rfl
@[simp] theorem State.time_setCh (c : Nat) (x : DmaCh) : (s.setCh c x).time = s.time := rfl
@[simp] theorem State.lanes_setCh (c : Nat) (x : DmaCh) : (s.setCh c x).lanes = s.lanes := rfl
@[simp] theorem State.ports_setCh (c : Nat) (x : DmaCh) : (s.setCh c x).ports = s.ports := rfl
@[simp] theorem State.links_setCh (c : Nat) (x : DmaCh) : (s.setCh c x).links = s.links := rfl
@[simp] theorem State.dh_setCh (c : Nat) (x : DmaCh) : (s.setCh c x).dh = s.dh := rfl
@[simp] theorem State.swaps_setCh (c : Nat) (x : DmaCh) : (s.setCh c x).swaps = s.swaps := rfl
@[simp] theorem State.olds_setCh (c : Nat) (x : DmaCh) : (s.setCh c x).olds = s.olds := rfl
@[simp] theorem State.sb_setCh (c : Nat) (x : DmaCh) : (s.setCh c x).sb = s.sb := rfl
@[simp] theorem State.engines_setCh (c : Nat) (x : DmaCh) : (s.setCh c x).engines = s.engines := rfl
@[simp] theorem State.cws_setCh (c : Nat) (x : DmaCh) : (s.setCh c x).cws = s.cws := rfl
@[simp] theorem State.srs_setCh (c : Nat) (x : DmaCh) : (s.setCh c x).srs = s.srs := rfl
@[simp] theorem State.dma_setCh (c : Nat) (x : DmaCh) : (s.setCh c x).dma = s.dma := rfl
@[simp] theorem State.claims_setCh (c : Nat) (x : DmaCh) : (s.setCh c x).claims = s.claims := rfl
@[simp] theorem State.locks_setCh (c : Nat) (x : DmaCh) : (s.setCh c x).locks = s.locks := rfl
@[simp] theorem State.lode_setCh (c : Nat) (x : DmaCh) : (s.setCh c x).lode = s.lode := rfl
@[simp] theorem State.cores_setCh (c : Nat) (x : DmaCh) : (s.setCh c x).cores = s.cores := rfl
@[simp] theorem State.ulq_setCh (c : Nat) (x : DmaCh) : (s.setCh c x).ulq = s.ulq := rfl
@[simp] theorem State.ulJobs_setCh (c : Nat) (x : DmaCh) : (s.setCh c x).ulJobs = s.ulJobs := rfl
@[simp] theorem State.sections_setCh (c : Nat) (x : DmaCh) : (s.setCh c x).sections = s.sections := rfl
@[simp] theorem State.dl_setCh (c : Nat) (x : DmaCh) : (s.setCh c x).dl = s.dl := rfl
@[simp] theorem State.symHist_setCh (c : Nat) (x : DmaCh) : (s.setCh c x).symHist = s.symHist := rfl
@[simp] theorem State.cars_setCh (c : Nat) (x : DmaCh) : (s.setCh c x).cars = s.cars := rfl
@[simp] theorem State.ovrs_setCh (c : Nat) (x : DmaCh) : (s.setCh c x).ovrs = s.ovrs := rfl
@[simp] theorem State.rxZero_setCh (c : Nat) (x : DmaCh) : (s.setCh c x).rxZero = s.rxZero := rfl
@[simp] theorem State.rxZeroPast_setCh (c : Nat) (x : DmaCh) : (s.setCh c x).rxZeroPast = s.rxZeroPast := rfl
@[simp] theorem State.ramps_setCh (c : Nat) (x : DmaCh) : (s.setCh c x).ramps = s.ramps := rfl
@[simp] theorem State.mutePast_setCh (c : Nat) (x : DmaCh) : (s.setCh c x).mutePast = s.mutePast := rfl
@[simp] theorem State.spells_setCh (c : Nat) (x : DmaCh) : (s.setCh c x).spells = s.spells := rfl
@[simp] theorem State.txSyms_setCh (c : Nat) (x : DmaCh) : (s.setCh c x).txSyms = s.txSyms := rfl
@[simp] theorem State.tx_setCh (c : Nat) (x : DmaCh) : (s.setCh c x).tx = s.tx := rfl
@[simp] theorem State.dpdPast_setCh (c : Nat) (x : DmaCh) : (s.setCh c x).dpdPast = s.dpdPast := rfl
@[simp] theorem State.u3Upto_setCh (c : Nat) (x : DmaCh) : (s.setCh c x).u3Upto = s.u3Upto := rfl
@[simp] theorem State.vswrAt_setCh (c : Nat) (x : DmaCh) : (s.setCh c x).vswrAt = s.vswrAt := rfl
@[simp] theorem State.slices_setCh (c : Nat) (x : DmaCh) : (s.setCh c x).slices = s.slices := rfl
@[simp] theorem State.occasions_setCh (c : Nat) (x : DmaCh) : (s.setCh c x).occasions = s.occasions := rfl
@[simp] theorem State.prachReps_setCh (c : Nat) (x : DmaCh) : (s.setCh c x).prachReps = s.prachReps := rfl
@[simp] theorem State.cages_setCh (c : Nat) (x : DmaCh) : (s.setCh c x).cages = s.cages := rfl
@[simp] theorem State.vswrRun_setCh (c : Nat) (x : DmaCh) : (s.setCh c x).vswrRun = s.vswrRun := rfl
@[simp] theorem State.pmu_setCh (c : Nat) (x : DmaCh) : (s.setCh c x).pmu = s.pmu := rfl
@[simp] theorem State.adcs_setCh (c : Nat) (x : DmaCh) : (s.setCh c x).adcs = s.adcs := rfl
@[simp] theorem State.dacs_setCh (c : Nat) (x : DmaCh) : (s.setCh c x).dacs = s.dacs := rfl
@[simp] theorem State.align_setCh (c : Nat) (x : DmaCh) : (s.setCh c x).align = s.align := rfl
@[simp] theorem State.assay_setCh (c : Nat) (x : DmaCh) : (s.setCh c x).assay = s.assay := rfl
@[simp] theorem State.mon_setCh (c : Nat) (x : DmaCh) : (s.setCh c x).mon = s.mon := rfl
@[simp] theorem State.aux_setCh (c : Nat) (x : DmaCh) : (s.setCh c x).aux = s.aux := rfl
@[simp] theorem State.bfErr_setCh (c : Nat) (x : DmaCh) : (s.setCh c x).bfErr = s.bfErr := rfl
@[simp] theorem State.otp_setCh (c : Nat) (x : DmaCh) : (s.setCh c x).otp = s.otp := rfl
@[simp] theorem State.sec_setCh (c : Nat) (x : DmaCh) : (s.setCh c x).sec = s.sec := rfl
@[simp] theorem State.sram_setCh (c : Nat) (x : DmaCh) : (s.setCh c x).sram = s.sram := rfl
@[simp] theorem State.mspiErr_setCh (c : Nat) (x : DmaCh) : (s.setCh c x).mspiErr = s.mspiErr := rfl

/-! ## `setFld` -/

@[simp] theorem State.pending_setFld (a : Nat) (f : Field) (v : Nat) : (s.setFld a f v).pending = s.pending := rfl
@[simp] theorem State.tick_setFld (a : Nat) (f : Field) (v : Nat) : (s.setFld a f v).tick = s.tick := rfl
@[simp] theorem State.free_setFld (a : Nat) (f : Field) (v : Nat) : (s.setFld a f v).free = s.free := rfl
@[simp] theorem State.mem_setFld (a : Nat) (f : Field) (v : Nat) : (s.setFld a f v).mem = s.mem := rfl
@[simp] theorem State.tb_setFld (a : Nat) (f : Field) (v : Nat) : (s.setFld a f v).tb = s.tb := rfl
@[simp] theorem State.bus_setFld (a : Nat) (f : Field) (v : Nat) : (s.setFld a f v).bus = s.bus := rfl
@[simp] theorem State.evs_setFld (a : Nat) (f : Field) (v : Nat) : (s.setFld a f v).evs = s.evs := rfl
@[simp] theorem State.evWin_setFld (a : Nat) (f : Field) (v : Nat) : (s.setFld a f v).evWin = s.evWin := rfl
@[simp] theorem State.evFrame_setFld (a : Nat) (f : Field) (v : Nat) : (s.setFld a f v).evFrame = s.evFrame := rfl
@[simp] theorem State.raised_setFld (a : Nat) (f : Field) (v : Nat) : (s.setFld a f v).raised = s.raised := rfl
@[simp] theorem State.sets_setFld (a : Nat) (f : Field) (v : Nat) : (s.setFld a f v).sets = s.sets := rfl
@[simp] theorem State.episodes_setFld (a : Nat) (f : Field) (v : Nat) : (s.setFld a f v).episodes = s.episodes := rfl
@[simp] theorem State.out_setFld (a : Nat) (f : Field) (v : Nat) : (s.setFld a f v).out = s.out := rfl
@[simp] theorem State.power_setFld (a : Nat) (f : Field) (v : Nat) : (s.setFld a f v).power = s.power := rfl
@[simp] theorem State.time_setFld (a : Nat) (f : Field) (v : Nat) : (s.setFld a f v).time = s.time := rfl
@[simp] theorem State.lanes_setFld (a : Nat) (f : Field) (v : Nat) : (s.setFld a f v).lanes = s.lanes := rfl
@[simp] theorem State.ports_setFld (a : Nat) (f : Field) (v : Nat) : (s.setFld a f v).ports = s.ports := rfl
@[simp] theorem State.links_setFld (a : Nat) (f : Field) (v : Nat) : (s.setFld a f v).links = s.links := rfl
@[simp] theorem State.dh_setFld (a : Nat) (f : Field) (v : Nat) : (s.setFld a f v).dh = s.dh := rfl
@[simp] theorem State.swaps_setFld (a : Nat) (f : Field) (v : Nat) : (s.setFld a f v).swaps = s.swaps := rfl
@[simp] theorem State.olds_setFld (a : Nat) (f : Field) (v : Nat) : (s.setFld a f v).olds = s.olds := rfl
@[simp] theorem State.sb_setFld (a : Nat) (f : Field) (v : Nat) : (s.setFld a f v).sb = s.sb := rfl
@[simp] theorem State.engines_setFld (a : Nat) (f : Field) (v : Nat) : (s.setFld a f v).engines = s.engines := rfl
@[simp] theorem State.cws_setFld (a : Nat) (f : Field) (v : Nat) : (s.setFld a f v).cws = s.cws := rfl
@[simp] theorem State.srs_setFld (a : Nat) (f : Field) (v : Nat) : (s.setFld a f v).srs = s.srs := rfl
@[simp] theorem State.dma_setFld (a : Nat) (f : Field) (v : Nat) : (s.setFld a f v).dma = s.dma := rfl
@[simp] theorem State.chans_setFld (a : Nat) (f : Field) (v : Nat) : (s.setFld a f v).chans = s.chans := rfl
@[simp] theorem State.claims_setFld (a : Nat) (f : Field) (v : Nat) : (s.setFld a f v).claims = s.claims := rfl
@[simp] theorem State.locks_setFld (a : Nat) (f : Field) (v : Nat) : (s.setFld a f v).locks = s.locks := rfl
@[simp] theorem State.lode_setFld (a : Nat) (f : Field) (v : Nat) : (s.setFld a f v).lode = s.lode := rfl
@[simp] theorem State.cores_setFld (a : Nat) (f : Field) (v : Nat) : (s.setFld a f v).cores = s.cores := rfl
@[simp] theorem State.ulq_setFld (a : Nat) (f : Field) (v : Nat) : (s.setFld a f v).ulq = s.ulq := rfl
@[simp] theorem State.ulJobs_setFld (a : Nat) (f : Field) (v : Nat) : (s.setFld a f v).ulJobs = s.ulJobs := rfl
@[simp] theorem State.sections_setFld (a : Nat) (f : Field) (v : Nat) : (s.setFld a f v).sections = s.sections := rfl
@[simp] theorem State.dl_setFld (a : Nat) (f : Field) (v : Nat) : (s.setFld a f v).dl = s.dl := rfl
@[simp] theorem State.symHist_setFld (a : Nat) (f : Field) (v : Nat) : (s.setFld a f v).symHist = s.symHist := rfl
@[simp] theorem State.cars_setFld (a : Nat) (f : Field) (v : Nat) : (s.setFld a f v).cars = s.cars := rfl
@[simp] theorem State.ovrs_setFld (a : Nat) (f : Field) (v : Nat) : (s.setFld a f v).ovrs = s.ovrs := rfl
@[simp] theorem State.rxZero_setFld (a : Nat) (f : Field) (v : Nat) : (s.setFld a f v).rxZero = s.rxZero := rfl
@[simp] theorem State.rxZeroPast_setFld (a : Nat) (f : Field) (v : Nat) : (s.setFld a f v).rxZeroPast = s.rxZeroPast := rfl
@[simp] theorem State.ramps_setFld (a : Nat) (f : Field) (v : Nat) : (s.setFld a f v).ramps = s.ramps := rfl
@[simp] theorem State.mutePast_setFld (a : Nat) (f : Field) (v : Nat) : (s.setFld a f v).mutePast = s.mutePast := rfl
@[simp] theorem State.spells_setFld (a : Nat) (f : Field) (v : Nat) : (s.setFld a f v).spells = s.spells := rfl
@[simp] theorem State.txSyms_setFld (a : Nat) (f : Field) (v : Nat) : (s.setFld a f v).txSyms = s.txSyms := rfl
@[simp] theorem State.tx_setFld (a : Nat) (f : Field) (v : Nat) : (s.setFld a f v).tx = s.tx := rfl
@[simp] theorem State.dpdPast_setFld (a : Nat) (f : Field) (v : Nat) : (s.setFld a f v).dpdPast = s.dpdPast := rfl
@[simp] theorem State.u3Upto_setFld (a : Nat) (f : Field) (v : Nat) : (s.setFld a f v).u3Upto = s.u3Upto := rfl
@[simp] theorem State.vswrAt_setFld (a : Nat) (f : Field) (v : Nat) : (s.setFld a f v).vswrAt = s.vswrAt := rfl
@[simp] theorem State.slices_setFld (a : Nat) (f : Field) (v : Nat) : (s.setFld a f v).slices = s.slices := rfl
@[simp] theorem State.occasions_setFld (a : Nat) (f : Field) (v : Nat) : (s.setFld a f v).occasions = s.occasions := rfl
@[simp] theorem State.prachReps_setFld (a : Nat) (f : Field) (v : Nat) : (s.setFld a f v).prachReps = s.prachReps := rfl
@[simp] theorem State.cages_setFld (a : Nat) (f : Field) (v : Nat) : (s.setFld a f v).cages = s.cages := rfl
@[simp] theorem State.vswrRun_setFld (a : Nat) (f : Field) (v : Nat) : (s.setFld a f v).vswrRun = s.vswrRun := rfl
@[simp] theorem State.pmu_setFld (a : Nat) (f : Field) (v : Nat) : (s.setFld a f v).pmu = s.pmu := rfl
@[simp] theorem State.adcs_setFld (a : Nat) (f : Field) (v : Nat) : (s.setFld a f v).adcs = s.adcs := rfl
@[simp] theorem State.dacs_setFld (a : Nat) (f : Field) (v : Nat) : (s.setFld a f v).dacs = s.dacs := rfl
@[simp] theorem State.align_setFld (a : Nat) (f : Field) (v : Nat) : (s.setFld a f v).align = s.align := rfl
@[simp] theorem State.assay_setFld (a : Nat) (f : Field) (v : Nat) : (s.setFld a f v).assay = s.assay := rfl
@[simp] theorem State.mon_setFld (a : Nat) (f : Field) (v : Nat) : (s.setFld a f v).mon = s.mon := rfl
@[simp] theorem State.aux_setFld (a : Nat) (f : Field) (v : Nat) : (s.setFld a f v).aux = s.aux := rfl
@[simp] theorem State.bfErr_setFld (a : Nat) (f : Field) (v : Nat) : (s.setFld a f v).bfErr = s.bfErr := rfl
@[simp] theorem State.otp_setFld (a : Nat) (f : Field) (v : Nat) : (s.setFld a f v).otp = s.otp := rfl
@[simp] theorem State.sec_setFld (a : Nat) (f : Field) (v : Nat) : (s.setFld a f v).sec = s.sec := rfl
@[simp] theorem State.sram_setFld (a : Nat) (f : Field) (v : Nat) : (s.setFld a f v).sram = s.sram := rfl
@[simp] theorem State.mspiErr_setFld (a : Nat) (f : Field) (v : Nat) : (s.setFld a f v).mspiErr = s.mspiErr := rfl

/-! ## `wr64` -/

@[simp] theorem State.pending_wr64 (a v : Nat) : (s.wr64 a v).pending = s.pending := rfl
@[simp] theorem State.tick_wr64 (a v : Nat) : (s.wr64 a v).tick = s.tick := rfl
@[simp] theorem State.free_wr64 (a v : Nat) : (s.wr64 a v).free = s.free := rfl
@[simp] theorem State.mem_wr64 (a v : Nat) : (s.wr64 a v).mem = s.mem := rfl
@[simp] theorem State.tb_wr64 (a v : Nat) : (s.wr64 a v).tb = s.tb := rfl
@[simp] theorem State.bus_wr64 (a v : Nat) : (s.wr64 a v).bus = s.bus := rfl
@[simp] theorem State.evs_wr64 (a v : Nat) : (s.wr64 a v).evs = s.evs := rfl
@[simp] theorem State.evWin_wr64 (a v : Nat) : (s.wr64 a v).evWin = s.evWin := rfl
@[simp] theorem State.evFrame_wr64 (a v : Nat) : (s.wr64 a v).evFrame = s.evFrame := rfl
@[simp] theorem State.raised_wr64 (a v : Nat) : (s.wr64 a v).raised = s.raised := rfl
@[simp] theorem State.sets_wr64 (a v : Nat) : (s.wr64 a v).sets = s.sets := rfl
@[simp] theorem State.episodes_wr64 (a v : Nat) : (s.wr64 a v).episodes = s.episodes := rfl
@[simp] theorem State.out_wr64 (a v : Nat) : (s.wr64 a v).out = s.out := rfl
@[simp] theorem State.power_wr64 (a v : Nat) : (s.wr64 a v).power = s.power := rfl
@[simp] theorem State.time_wr64 (a v : Nat) : (s.wr64 a v).time = s.time := rfl
@[simp] theorem State.lanes_wr64 (a v : Nat) : (s.wr64 a v).lanes = s.lanes := rfl
@[simp] theorem State.ports_wr64 (a v : Nat) : (s.wr64 a v).ports = s.ports := rfl
@[simp] theorem State.links_wr64 (a v : Nat) : (s.wr64 a v).links = s.links := rfl
@[simp] theorem State.dh_wr64 (a v : Nat) : (s.wr64 a v).dh = s.dh := rfl
@[simp] theorem State.swaps_wr64 (a v : Nat) : (s.wr64 a v).swaps = s.swaps := rfl
@[simp] theorem State.olds_wr64 (a v : Nat) : (s.wr64 a v).olds = s.olds := rfl
@[simp] theorem State.sb_wr64 (a v : Nat) : (s.wr64 a v).sb = s.sb := rfl
@[simp] theorem State.engines_wr64 (a v : Nat) : (s.wr64 a v).engines = s.engines := rfl
@[simp] theorem State.cws_wr64 (a v : Nat) : (s.wr64 a v).cws = s.cws := rfl
@[simp] theorem State.srs_wr64 (a v : Nat) : (s.wr64 a v).srs = s.srs := rfl
@[simp] theorem State.dma_wr64 (a v : Nat) : (s.wr64 a v).dma = s.dma := rfl
@[simp] theorem State.chans_wr64 (a v : Nat) : (s.wr64 a v).chans = s.chans := rfl
@[simp] theorem State.claims_wr64 (a v : Nat) : (s.wr64 a v).claims = s.claims := rfl
@[simp] theorem State.locks_wr64 (a v : Nat) : (s.wr64 a v).locks = s.locks := rfl
@[simp] theorem State.lode_wr64 (a v : Nat) : (s.wr64 a v).lode = s.lode := rfl
@[simp] theorem State.cores_wr64 (a v : Nat) : (s.wr64 a v).cores = s.cores := rfl
@[simp] theorem State.ulq_wr64 (a v : Nat) : (s.wr64 a v).ulq = s.ulq := rfl
@[simp] theorem State.ulJobs_wr64 (a v : Nat) : (s.wr64 a v).ulJobs = s.ulJobs := rfl
@[simp] theorem State.sections_wr64 (a v : Nat) : (s.wr64 a v).sections = s.sections := rfl
@[simp] theorem State.dl_wr64 (a v : Nat) : (s.wr64 a v).dl = s.dl := rfl
@[simp] theorem State.symHist_wr64 (a v : Nat) : (s.wr64 a v).symHist = s.symHist := rfl
@[simp] theorem State.cars_wr64 (a v : Nat) : (s.wr64 a v).cars = s.cars := rfl
@[simp] theorem State.ovrs_wr64 (a v : Nat) : (s.wr64 a v).ovrs = s.ovrs := rfl
@[simp] theorem State.rxZero_wr64 (a v : Nat) : (s.wr64 a v).rxZero = s.rxZero := rfl
@[simp] theorem State.rxZeroPast_wr64 (a v : Nat) : (s.wr64 a v).rxZeroPast = s.rxZeroPast := rfl
@[simp] theorem State.ramps_wr64 (a v : Nat) : (s.wr64 a v).ramps = s.ramps := rfl
@[simp] theorem State.mutePast_wr64 (a v : Nat) : (s.wr64 a v).mutePast = s.mutePast := rfl
@[simp] theorem State.spells_wr64 (a v : Nat) : (s.wr64 a v).spells = s.spells := rfl
@[simp] theorem State.txSyms_wr64 (a v : Nat) : (s.wr64 a v).txSyms = s.txSyms := rfl
@[simp] theorem State.tx_wr64 (a v : Nat) : (s.wr64 a v).tx = s.tx := rfl
@[simp] theorem State.dpdPast_wr64 (a v : Nat) : (s.wr64 a v).dpdPast = s.dpdPast := rfl
@[simp] theorem State.u3Upto_wr64 (a v : Nat) : (s.wr64 a v).u3Upto = s.u3Upto := rfl
@[simp] theorem State.vswrAt_wr64 (a v : Nat) : (s.wr64 a v).vswrAt = s.vswrAt := rfl
@[simp] theorem State.slices_wr64 (a v : Nat) : (s.wr64 a v).slices = s.slices := rfl
@[simp] theorem State.occasions_wr64 (a v : Nat) : (s.wr64 a v).occasions = s.occasions := rfl
@[simp] theorem State.prachReps_wr64 (a v : Nat) : (s.wr64 a v).prachReps = s.prachReps := rfl
@[simp] theorem State.cages_wr64 (a v : Nat) : (s.wr64 a v).cages = s.cages := rfl
@[simp] theorem State.vswrRun_wr64 (a v : Nat) : (s.wr64 a v).vswrRun = s.vswrRun := rfl
@[simp] theorem State.pmu_wr64 (a v : Nat) : (s.wr64 a v).pmu = s.pmu := rfl
@[simp] theorem State.adcs_wr64 (a v : Nat) : (s.wr64 a v).adcs = s.adcs := rfl
@[simp] theorem State.dacs_wr64 (a v : Nat) : (s.wr64 a v).dacs = s.dacs := rfl
@[simp] theorem State.align_wr64 (a v : Nat) : (s.wr64 a v).align = s.align := rfl
@[simp] theorem State.assay_wr64 (a v : Nat) : (s.wr64 a v).assay = s.assay := rfl
@[simp] theorem State.mon_wr64 (a v : Nat) : (s.wr64 a v).mon = s.mon := rfl
@[simp] theorem State.aux_wr64 (a v : Nat) : (s.wr64 a v).aux = s.aux := rfl
@[simp] theorem State.bfErr_wr64 (a v : Nat) : (s.wr64 a v).bfErr = s.bfErr := rfl
@[simp] theorem State.otp_wr64 (a v : Nat) : (s.wr64 a v).otp = s.otp := rfl
@[simp] theorem State.sec_wr64 (a v : Nat) : (s.wr64 a v).sec = s.sec := rfl
@[simp] theorem State.sram_wr64 (a v : Nat) : (s.wr64 a v).sram = s.sram := rfl
@[simp] theorem State.mspiErr_wr64 (a v : Nat) : (s.wr64 a v).mspiErr = s.mspiErr := rfl

/-! ## Reads after writes -/

/-- A register word reads what was stored in it. -/
@[simp] theorem State.rd_wr_same (a : Nat) (v : Word) : (s.wr a v).rd a = v := kvGet_kvSet_same resetWord s.regs a v

/-- Storing a register word leaves every other word alone. -/
theorem State.rd_wr_other {a b : Nat} (v : Word) (h : b ≠ a) : (s.wr a v).rd b = s.rd b := kvGet_kvSet_other resetWord s.regs v h

/-- Storing a field leaves every other word alone. -/
theorem State.rd_setFld_other {a b : Nat} (f : Field) (v : Nat) (h : b ≠ a) : (s.setFld a f v).rd b = s.rd b := s.rd_wr_other _ h

/-- A field reads what was stored in it. -/
theorem State.fld_setFld_same (a : Nat) (f : Field) (v : Nat) (hf : f.lsb + f.width ≤ 32) : (s.setFld a f v).fld a f = v % 2 ^ f.width := by
  unfold State.setFld State.fld
  rw [State.rd_wr_same, getF_setF_same _ _ _ hf]

/-- Storing a field leaves the fields that share no bit with it alone. -/
theorem State.fld_setFld_other (a : Nat) (f g : Field) (v : Nat) (hg : g.lsb + g.width ≤ 32)
    (hd : f.lsb + f.width ≤ g.lsb ∨ g.lsb + g.width ≤ f.lsb) : (s.setFld a f v).fld a g = s.fld a g := by
  unfold State.setFld State.fld
  rw [State.rd_wr_same, getF_setF_other _ _ _ _ hg hd]

/-- Storing a 64-bit register leaves every other word alone. -/
theorem State.rd_wr64_other {a b : Nat} (v : Nat) (h1 : b ≠ a) (h2 : b ≠ a + 4) : (s.wr64 a v).rd b = s.rd b := by
  unfold State.wr64
  rw [State.rd_wr_other _ _ h2, State.rd_wr_other _ _ h1]

/-- A 64-bit register reads what was stored in it (R29). -/
@[simp] theorem State.rd64_wr64_same (a v : Nat) : (s.wr64 a v).rd64 a = v % 2 ^ 64 := by
  unfold State.rd64 State.wr64
  rw [State.rd_wr_same, State.rd_wr_other _ _ (by omega), State.rd_wr_same, BitVec.toNat_ofNat, BitVec.toNat_ofNat]
  omega

/-- Counting is a store of one word, or of two. -/
theorem State.count_eq_wr (a d : Nat) : s.count a d = s.wr a (BitVec.ofNat 32 (satInc 32 (s.rd a).toNat d)) := rfl
theorem State.count64_eq_wr64 (a d : Nat) : s.count64 a d = s.wr64 a (s.rd64 a + d) := rfl

/-- A counter counts up to its maximum. -/
theorem State.rd_count_same (a d : Nat) : (s.count a d).rd a = BitVec.ofNat 32 (satInc 32 (s.rd a).toNat d) := s.rd_wr_same _ _

/-- A memory byte reads what was stored in it. -/
@[simp] theorem State.ldb_stb_same (a : Nat) (b : Byte) : (s.stb a b).ldb a = b := kvGet_kvSet_same memDefault s.mem a b

/-- Storing a byte leaves every other byte alone. -/
theorem State.ldb_stb_other {a c : Nat} (b : Byte) (h : c ≠ a) : (s.stb a b).ldb c = s.ldb c := kvGet_kvSet_other memDefault s.mem b h

@[simp] theorem State.link_setLink_same (p : Nat) (x : PortLink) : (s.setLink p x).link p = x := kvGet_kvSet_same _ _ _ _
theorem State.link_setLink_other {p j : Nat} (x : PortLink) (h : j ≠ p) : (s.setLink p x).link j = s.link j := kvGet_kvSet_other _ _ _ h
@[simp] theorem State.port_setPort_same (p : Nat) (x : PortLanes) : (s.setPort p x).port p = x := kvGet_kvSet_same _ _ _ _
theorem State.port_setPort_other {p j : Nat} (x : PortLanes) (h : j ≠ p) : (s.setPort p x).port j = s.port j := kvGet_kvSet_other _ _ _ h
@[simp] theorem State.busOf_setBus_same (r : Nat) (x : BusUnit) : (s.setBus r x).busOf r = x := kvGet_kvSet_same _ _ _ _
theorem State.busOf_setBus_other {r j : Nat} (x : BusUnit) (h : j ≠ r) : (s.setBus r x).busOf j = s.busOf j := kvGet_kvSet_other _ _ _ h
@[simp] theorem State.eng_setEng_same (n : Nat) (x : Engine) : (s.setEng n x).eng n = x := kvGet_kvSet_same _ _ _ _
theorem State.eng_setEng_other {n j : Nat} (x : Engine) (h : j ≠ n) : (s.setEng n x).eng j = s.eng j := kvGet_kvSet_other _ _ _ h
@[simp] theorem State.ch_setCh_same (n : Nat) (x : DmaCh) : (s.setCh n x).ch n = x := kvGet_kvSet_same _ _ _ _
theorem State.ch_setCh_other {n j : Nat} (x : DmaCh) (h : j ≠ n) : (s.setCh n x).ch j = s.ch j := kvGet_kvSet_other _ _ _ h

/-! ## Registers under the other updates -/

@[simp] theorem State.rd_stb (a : Nat) (b : Byte) (y : Nat) : (s.stb a b).rd y = s.rd y := rfl
@[simp] theorem State.fld_stb (a : Nat) (b : Byte) (y : Nat) (g : Field) : (s.stb a b).fld y g = s.fld y g := rfl
@[simp] theorem State.bit_stb (a : Nat) (b : Byte) (y : Nat) (g : Field) : (s.stb a b).bit y g = s.bit y g := rfl
@[simp] theorem State.rd_emit (o : Out) (y : Nat) : (s.emit o).rd y = s.rd y := rfl
@[simp] theorem State.fld_emit (o : Out) (y : Nat) (g : Field) : (s.emit o).fld y g = s.fld y g := rfl
@[simp] theorem State.bit_emit (o : Out) (y : Nat) (g : Field) : (s.emit o).bit y g = s.bit y g := rfl
@[simp] theorem State.rd_setLane (p k : Nat) (l : LaneSt) (y : Nat) : (s.setLane p k l).rd y = s.rd y := rfl
@[simp] theorem State.fld_setLane (p k : Nat) (l : LaneSt) (y : Nat) (g : Field) : (s.setLane p k l).fld y g = s.fld y g := rfl
@[simp] theorem State.bit_setLane (p k : Nat) (l : LaneSt) (y : Nat) (g : Field) : (s.setLane p k l).bit y g = s.bit y g := rfl
@[simp] theorem State.rd_setPort (p : Nat) (l : PortLanes) (y : Nat) : (s.setPort p l).rd y = s.rd y := rfl
@[simp] theorem State.fld_setPort (p : Nat) (l : PortLanes) (y : Nat) (g : Field) : (s.setPort p l).fld y g = s.fld y g := rfl
@[simp] theorem State.bit_setPort (p : Nat) (l : PortLanes) (y : Nat) (g : Field) : (s.setPort p l).bit y g = s.bit y g := rfl
@[simp] theorem State.rd_setLink (p : Nat) (l : PortLink) (y : Nat) : (s.setLink p l).rd y = s.rd y := rfl
@[simp] theorem State.fld_setLink (p : Nat) (l : PortLink) (y : Nat) (g : Field) : (s.setLink p l).fld y g = s.fld y g := rfl
@[simp] theorem State.bit_setLink (p : Nat) (l : PortLink) (y : Nat) (g : Field) : (s.setLink p l).bit y g = s.bit y g := rfl
@[simp] theorem State.rd_setBus (r : Nat) (b : BusUnit) (y : Nat) : (s.setBus r b).rd y = s.rd y := rfl
@[simp] theorem State.fld_setBus (r : Nat) (b : BusUnit) (y : Nat) (g : Field) : (s.setBus r b).fld y g = s.fld y g := rfl
@[simp] theorem State.bit_setBus (r : Nat) (b : BusUnit) (y : Nat) (g : Field) : (s.setBus r b).bit y g = s.bit y g := rfl
@[simp] theorem State.rd_setEng (e : Nat) (x : Engine) (y : Nat) : (s.setEng e x).rd y = s.rd y := rfl
@[simp] theorem State.fld_setEng (e : Nat) (x : Engine) (y : Nat) (g : Field) : (s.setEng e x).fld y g = s.fld y g := rfl
@[simp] theorem State.bit_setEng (e : Nat) (x : Engine) (y : Nat) (g : Field) : (s.setEng e x).bit y g = s.bit y g := rfl
@[simp] theorem State.rd_setCh (c : Nat) (x : DmaCh) (y : Nat) : (s.setCh c x).rd y = s.rd y := rfl
@[simp] theorem State.fld_setCh (c : Nat) (x : DmaCh) (y : Nat) (g : Field) : (s.setCh c x).fld y g = s.fld y g := rfl
@[simp] theorem State.bit_setCh (c : Nat) (x : DmaCh) (y : Nat) (g : Field) : (s.setCh c x).bit y g = s.bit y g := rfl

end Sys2Proof.Machine
end

