-- ==== Sys2Proof/Laws/Bus.lean ====
section
/-! SUPPORT. What an access that the bus carries out does, and what receiving a packet does; statements cite these lemmas and need not unfold the bus
or the receiver. -/
set_option Elab.async false
namespace Sys2Proof.Machine

/-- A granted write runs the register's rule on the state without held words, and answers its code (R24, R26). -/
theorem writeBy_grants {s : State} {r : Req} {a : Nat} (h : s.grants r a) (f : State → Nat × State) :
    s.writeBy r a f = (f (s.entering r)).2.answer r (f (s.entering r)).1 0 := by
  have h' : (s.dropHeld r).causes r a = 0 := h
  unfold State.writeBy; simp only [h']

/-- A granted read runs the register's rule and answers its code and data (R24, R26). -/
theorem readBy_grants {s : State} {r : Req} {a : Nat} (h : s.grants r a) (f : State → Nat × Nat × State) :
    s.readBy r a f = (f s).2.2.answer r (f s).1 (f s).2.1 := by
  have h' : s.causes r a = 0 := h
  unfold State.readBy; simp only [h']

/-- An undamaged packet outside a discarded superframe, in a state that receives it, runs its rule (R79). -/
theorem receive_sees {s : State} {p : Nat} {h : RxHdr} {st : Nat → Bool} (hs : st (s.lstate p) = true) (hv : s.sees p h) (f : State → State) :
    s.receive p h st f = f (s.heard p) := by
  obtain ⟨h0, h1, h2⟩ := hv
  have h3 : s.fld (Reg.LANE_PSTAT p) Fld.LANE_PSTAT_PSTATE ≠ 3 := h0
  unfold State.receive State.heard
  simp [hs, h1, h2, h3]

/-- A BK packet in order is accepted, counted and acknowledged before its own effect (R81, R82). -/
theorem rxBk_inOrder {s : State} {p : Nat} {h : RxHdr} {st : Nat → Bool} (hs : st (s.lstate p) = true) (hv : s.inOrder p h) (len : Nat) (q : Bool)
    (f : State → State) : s.rxBk p h st len q f = f (s.tookBk p h len q) := by
  obtain ⟨h1, h2⟩ := hv
  have h3 : (s.heard p).link p = { s.link p with discardSf := none } := by
    exact State.link_setLink_same _ _ _
  unfold State.rxBk
  rw [receive_sees hs h1]
  have h4 : h.seq.toNat = (((s.heard p).link p).rxSeq + 1) % 256 := by rw [h3]; exact h2
  simp only [h1.2.2, h4, true_and, if_true]
  rw [← h4]; rfl

/-- An RT packet that the receiver takes, of a negotiated format, is counted before its own effect (R80, R88). -/
theorem rxRt_takes {s : State} {p : Nat} {h : RxHdr} {type need : Nat} (hv : s.takesRt p h type need) (f : State → State) {fmt : Bool}
    (hf : fmt = true) : s.rxRt p h type need f fmt = f (s.tookRt p h type) := by
  subst hf
  obtain ⟨h0, h1, h2, h3⟩ := hv
  have hl : (s.heard p).link p = { s.link p with discardSf := none } := State.link_setLink_same _ _ _
  have hg : ∀ a f, (s.heard p).fld a f = s.fld a f := fun _ _ => rfl
  unfold State.rxRt
  rw [receive_sees (by simp [h0]) h1]
  have h4 : h.mark = .ok := h1.2.2
  have h5 : ∀ (x : PortLink), ((s.heard p).setLink p x).fld (Reg.LINK_NEG_RES p) Fld.LINK_NEG_RES_FEAT =
      s.fld (Reg.LINK_NEG_RES p) Fld.LINK_NEG_RES_FEAT := fun _ => rfl
  unfold State.tookRt
  simp only [hl]
  cases hq : kvGet (fun _ => none) (s.link p).rtRx type with
  | none =>
    simp only [Bool.false_eq_true, if_false, h4, h5, h3, not_true_eq_false, reduceCtorEq]
  | some q =>
    rw [hq] at h2
    simp only [h2, ne_eq, not_true_eq_false, decide_false, Bool.false_eq_true, if_false, h4, h5, h3, reduceCtorEq]

end Sys2Proof.Machine
end

