-- ==== Sys2Proof/Laws/Cycle.lean ====
section
/-! SUPPORT. What the end of a cycle does: the log takes the events of the cycle, ports put out their packets, and nothing else of the state changes. Statements about a
next state cite these lemmas and need not unfold the log. -/
set_option Elab.async false
namespace Sys2Proof.Machine

/-- A field that register words, packets and the log leave alone. -/
structure Untouched (α : Type) (f : State → α) : Prop where
  regs : ∀ s (r : List (Nat × Word)), f { s with regs := r } = f s
  links : ∀ s l, f { s with links := l } = f s
  out : ∀ s l, f { s with out := l } = f s
  evs : ∀ s l, f { s with evs := l } = f s
  pmu : ∀ s x, f { s with pmu := x } = f s
  raised : ∀ s l, f { s with raised := l } = f s
  sets : ∀ s l, f { s with sets := l } = f s

variable {α : Type} {f : State → α} (h : Untouched α f) (s : State)
include h

theorem Untouched.wr (a : Nat) (v : Word) : f (s.wr a v) = f s := h.regs s _
theorem Untouched.setFld (a : Nat) (g : Field) (v : Nat) : f (s.setFld a g v) = f s := h.regs s _
theorem Untouched.setLink (p : Nat) (l : PortLink) : f (s.setLink p l) = f s := h.links s _
theorem Untouched.emit (o : Out) : f (s.emit o) = f s := h.out s _

theorem Untouched.putPkts (p : Nat) (qs : List Pkt) : f (s.putPkts p qs) = f s := by
  induction qs generalizing s with
  | nil => rfl
  | cons q qs ih => rw [State.putPkts]; exact (ih _).trans ((h.emit _ _).trans (h.setLink _ _ _))

theorem Untouched.pmuFrom (b ev amt k n : Nat) : f (s.pmuFrom b ev amt k n) = f s := by
  induction n generalizing s k with
  | zero => rfl
  | succ n ih =>
    unfold State.pmuFrom
    dsimp only
    repeat' split
    all_goals simp only [ih, h.setFld, h.wr, h.pmu]

theorem Untouched.pmuCount (b ev amt : Nat) : f (s.pmuCount b ev amt) = f s := by
  unfold State.pmuCount; split
  · rfl
  · exact h.pmuFrom s _ _ _ _ _

theorem Untouched.pumpSome (p n : Nat) : f (s.pumpSome p n) = f s := by
  unfold State.pumpSome; simp only [h.pmuCount, h.putPkts, h.setLink]

theorem Untouched.sessionEnd (p : Nat) : f (s.sessionEnd p) = f s := by
  unfold State.sessionEnd; split
  · exact (h.raised _ _).trans ((h.setFld _ _ _ _).trans ((h.setFld _ _ _ _).trans (h.setLink _ _ _)))
  · rfl

theorem Untouched.pump (p : Nat) : f (s.pump p) = f s := by
  unfold State.pump
  generalize (if !s.rtReady p then (s.link p).waiting.length else if 31 ≤ (s.link p).rtRun then 1 else 0) = n
  dsimp only; split
  · exact (h.pumpSome _ _ _).trans ((h.sessionEnd _ _).trans (h.pumpSome _ _ _))
  · exact h.pumpSome _ _ _

theorem Untouched.sendBk (p type len tspec : Nat) (body : List Nat) : f (s.sendBk p type len tspec body) = f s := by
  unfold State.sendBk; split
  · exact (h.pump _ _).trans (h.setLink _ _ _)
  · rfl

theorem Untouched.sendEvent (p : Nat) (e : EvRec) : f (s.sendEvent p e) = f s := by
  unfold State.sendEvent; split
  · exact h.sendBk _ _ _ _ _ _
  · rfl

theorem Untouched.logEvent (r : EvReq) : f (s.logEvent r) = f s := by
  unfold State.logEvent
  simp only [h.sendEvent, h.evs, h.wr]
  split
  · exact h.setFld _ _ _ _
  · rfl

/-- The end of a cycle leaves every such field as it is. -/
theorem Untouched.endCycle : f s.endCycle = f s := by
  have fold : ∀ (l : List EvReq) (t : State), f (l.foldl State.logEvent t) = f t := by
    intro l
    induction l with
    | nil => intro t; rfl
    | cons r l ih => intro t; exact (ih _).trans (h.logEvent t r)
  exact (fold _ _).trans ((h.raised { s with sets := [] } []).trans (h.sets s []))

omit h

/-! ## The fields that the end of a cycle leaves alone -/

@[simp] theorem State.pending_endCycle : s.endCycle.pending = s.pending := Untouched.endCycle (f := State.pending) ⟨fun _ _ => rfl, fun _ _ => rfl, fun _ _ => rfl, fun _ _ => rfl, fun _ _ => rfl, fun _ _ => rfl, fun _ _ => rfl⟩ s
@[simp] theorem State.free_endCycle : s.endCycle.free = s.free := Untouched.endCycle (f := State.free) ⟨fun _ _ => rfl, fun _ _ => rfl, fun _ _ => rfl, fun _ _ => rfl, fun _ _ => rfl, fun _ _ => rfl, fun _ _ => rfl⟩ s
@[simp] theorem State.tick_endCycle : s.endCycle.tick = s.tick := Untouched.endCycle (f := State.tick) ⟨fun _ _ => rfl, fun _ _ => rfl, fun _ _ => rfl, fun _ _ => rfl, fun _ _ => rfl, fun _ _ => rfl, fun _ _ => rfl⟩ s
@[simp] theorem State.mem_endCycle : s.endCycle.mem = s.mem := Untouched.endCycle (f := State.mem) ⟨fun _ _ => rfl, fun _ _ => rfl, fun _ _ => rfl, fun _ _ => rfl, fun _ _ => rfl, fun _ _ => rfl, fun _ _ => rfl⟩ s
@[simp] theorem State.tb_endCycle : s.endCycle.tb = s.tb := Untouched.endCycle (f := State.tb) ⟨fun _ _ => rfl, fun _ _ => rfl, fun _ _ => rfl, fun _ _ => rfl, fun _ _ => rfl, fun _ _ => rfl, fun _ _ => rfl⟩ s
@[simp] theorem State.bus_endCycle : s.endCycle.bus = s.bus := Untouched.endCycle (f := State.bus) ⟨fun _ _ => rfl, fun _ _ => rfl, fun _ _ => rfl, fun _ _ => rfl, fun _ _ => rfl, fun _ _ => rfl, fun _ _ => rfl⟩ s
@[simp] theorem State.evWin_endCycle : s.endCycle.evWin = s.evWin := Untouched.endCycle (f := State.evWin) ⟨fun _ _ => rfl, fun _ _ => rfl, fun _ _ => rfl, fun _ _ => rfl, fun _ _ => rfl, fun _ _ => rfl, fun _ _ => rfl⟩ s
@[simp] theorem State.evFrame_endCycle : s.endCycle.evFrame = s.evFrame := Untouched.endCycle (f := State.evFrame) ⟨fun _ _ => rfl, fun _ _ => rfl, fun _ _ => rfl, fun _ _ => rfl, fun _ _ => rfl, fun _ _ => rfl, fun _ _ => rfl⟩ s
@[simp] theorem State.episodes_endCycle : s.endCycle.episodes = s.episodes := Untouched.endCycle (f := State.episodes) ⟨fun _ _ => rfl, fun _ _ => rfl, fun _ _ => rfl, fun _ _ => rfl, fun _ _ => rfl, fun _ _ => rfl, fun _ _ => rfl⟩ s
@[simp] theorem State.power_endCycle : s.endCycle.power = s.power := Untouched.endCycle (f := State.power) ⟨fun _ _ => rfl, fun _ _ => rfl, fun _ _ => rfl, fun _ _ => rfl, fun _ _ => rfl, fun _ _ => rfl, fun _ _ => rfl⟩ s
@[simp] theorem State.time_endCycle : s.endCycle.time = s.time := Untouched.endCycle (f := State.time) ⟨fun _ _ => rfl, fun _ _ => rfl, fun _ _ => rfl, fun _ _ => rfl, fun _ _ => rfl, fun _ _ => rfl, fun _ _ => rfl⟩ s
@[simp] theorem State.lanes_endCycle : s.endCycle.lanes = s.lanes := Untouched.endCycle (f := State.lanes) ⟨fun _ _ => rfl, fun _ _ => rfl, fun _ _ => rfl, fun _ _ => rfl, fun _ _ => rfl, fun _ _ => rfl, fun _ _ => rfl⟩ s
@[simp] theorem State.ports_endCycle : s.endCycle.ports = s.ports := Untouched.endCycle (f := State.ports) ⟨fun _ _ => rfl, fun _ _ => rfl, fun _ _ => rfl, fun _ _ => rfl, fun _ _ => rfl, fun _ _ => rfl, fun _ _ => rfl⟩ s
@[simp] theorem State.dh_endCycle : s.endCycle.dh = s.dh := Untouched.endCycle (f := State.dh) ⟨fun _ _ => rfl, fun _ _ => rfl, fun _ _ => rfl, fun _ _ => rfl, fun _ _ => rfl, fun _ _ => rfl, fun _ _ => rfl⟩ s
@[simp] theorem State.swaps_endCycle : s.endCycle.swaps = s.swaps := Untouched.endCycle (f := State.swaps) ⟨fun _ _ => rfl, fun _ _ => rfl, fun _ _ => rfl, fun _ _ => rfl, fun _ _ => rfl, fun _ _ => rfl, fun _ _ => rfl⟩ s
@[simp] theorem State.olds_endCycle : s.endCycle.olds = s.olds := Untouched.endCycle (f := State.olds) ⟨fun _ _ => rfl, fun _ _ => rfl, fun _ _ => rfl, fun _ _ => rfl, fun _ _ => rfl, fun _ _ => rfl, fun _ _ => rfl⟩ s
@[simp] theorem State.sb_endCycle : s.endCycle.sb = s.sb := Untouched.endCycle (f := State.sb) ⟨fun _ _ => rfl, fun _ _ => rfl, fun _ _ => rfl, fun _ _ => rfl, fun _ _ => rfl, fun _ _ => rfl, fun _ _ => rfl⟩ s
@[simp] theorem State.engines_endCycle : s.endCycle.engines = s.engines := Untouched.endCycle (f := State.engines) ⟨fun _ _ => rfl, fun _ _ => rfl, fun _ _ => rfl, fun _ _ => rfl, fun _ _ => rfl, fun _ _ => rfl, fun _ _ => rfl⟩ s
@[simp] theorem State.cws_endCycle : s.endCycle.cws = s.cws := Untouched.endCycle (f := State.cws) ⟨fun _ _ => rfl, fun _ _ => rfl, fun _ _ => rfl, fun _ _ => rfl, fun _ _ => rfl, fun _ _ => rfl, fun _ _ => rfl⟩ s
@[simp] theorem State.srs_endCycle : s.endCycle.srs = s.srs := Untouched.endCycle (f := State.srs) ⟨fun _ _ => rfl, fun _ _ => rfl, fun _ _ => rfl, fun _ _ => rfl, fun _ _ => rfl, fun _ _ => rfl, fun _ _ => rfl⟩ s
@[simp] theorem State.dma_endCycle : s.endCycle.dma = s.dma := Untouched.endCycle (f := State.dma) ⟨fun _ _ => rfl, fun _ _ => rfl, fun _ _ => rfl, fun _ _ => rfl, fun _ _ => rfl, fun _ _ => rfl, fun _ _ => rfl⟩ s
@[simp] theorem State.chans_endCycle : s.endCycle.chans = s.chans := Untouched.endCycle (f := State.chans) ⟨fun _ _ => rfl, fun _ _ => rfl, fun _ _ => rfl, fun _ _ => rfl, fun _ _ => rfl, fun _ _ => rfl, fun _ _ => rfl⟩ s
@[simp] theorem State.claims_endCycle : s.endCycle.claims = s.claims := Untouched.endCycle (f := State.claims) ⟨fun _ _ => rfl, fun _ _ => rfl, fun _ _ => rfl, fun _ _ => rfl, fun _ _ => rfl, fun _ _ => rfl, fun _ _ => rfl⟩ s
@[simp] theorem State.locks_endCycle : s.endCycle.locks = s.locks := Untouched.endCycle (f := State.locks) ⟨fun _ _ => rfl, fun _ _ => rfl, fun _ _ => rfl, fun _ _ => rfl, fun _ _ => rfl, fun _ _ => rfl, fun _ _ => rfl⟩ s
@[simp] theorem State.lode_endCycle : s.endCycle.lode = s.lode := Untouched.endCycle (f := State.lode) ⟨fun _ _ => rfl, fun _ _ => rfl, fun _ _ => rfl, fun _ _ => rfl, fun _ _ => rfl, fun _ _ => rfl, fun _ _ => rfl⟩ s
@[simp] theorem State.cores_endCycle : s.endCycle.cores = s.cores := Untouched.endCycle (f := State.cores) ⟨fun _ _ => rfl, fun _ _ => rfl, fun _ _ => rfl, fun _ _ => rfl, fun _ _ => rfl, fun _ _ => rfl, fun _ _ => rfl⟩ s
@[simp] theorem State.ulq_endCycle : s.endCycle.ulq = s.ulq := Untouched.endCycle (f := State.ulq) ⟨fun _ _ => rfl, fun _ _ => rfl, fun _ _ => rfl, fun _ _ => rfl, fun _ _ => rfl, fun _ _ => rfl, fun _ _ => rfl⟩ s
@[simp] theorem State.ulJobs_endCycle : s.endCycle.ulJobs = s.ulJobs := Untouched.endCycle (f := State.ulJobs) ⟨fun _ _ => rfl, fun _ _ => rfl, fun _ _ => rfl, fun _ _ => rfl, fun _ _ => rfl, fun _ _ => rfl, fun _ _ => rfl⟩ s
@[simp] theorem State.sections_endCycle : s.endCycle.sections = s.sections := Untouched.endCycle (f := State.sections) ⟨fun _ _ => rfl, fun _ _ => rfl, fun _ _ => rfl, fun _ _ => rfl, fun _ _ => rfl, fun _ _ => rfl, fun _ _ => rfl⟩ s
@[simp] theorem State.dl_endCycle : s.endCycle.dl = s.dl := Untouched.endCycle (f := State.dl) ⟨fun _ _ => rfl, fun _ _ => rfl, fun _ _ => rfl, fun _ _ => rfl, fun _ _ => rfl, fun _ _ => rfl, fun _ _ => rfl⟩ s
@[simp] theorem State.symHist_endCycle : s.endCycle.symHist = s.symHist := Untouched.endCycle (f := State.symHist) ⟨fun _ _ => rfl, fun _ _ => rfl, fun _ _ => rfl, fun _ _ => rfl, fun _ _ => rfl, fun _ _ => rfl, fun _ _ => rfl⟩ s
@[simp] theorem State.cars_endCycle : s.endCycle.cars = s.cars := Untouched.endCycle (f := State.cars) ⟨fun _ _ => rfl, fun _ _ => rfl, fun _ _ => rfl, fun _ _ => rfl, fun _ _ => rfl, fun _ _ => rfl, fun _ _ => rfl⟩ s
@[simp] theorem State.ovrs_endCycle : s.endCycle.ovrs = s.ovrs := Untouched.endCycle (f := State.ovrs) ⟨fun _ _ => rfl, fun _ _ => rfl, fun _ _ => rfl, fun _ _ => rfl, fun _ _ => rfl, fun _ _ => rfl, fun _ _ => rfl⟩ s
@[simp] theorem State.rxZero_endCycle : s.endCycle.rxZero = s.rxZero := Untouched.endCycle (f := State.rxZero) ⟨fun _ _ => rfl, fun _ _ => rfl, fun _ _ => rfl, fun _ _ => rfl, fun _ _ => rfl, fun _ _ => rfl, fun _ _ => rfl⟩ s
@[simp] theorem State.rxZeroPast_endCycle : s.endCycle.rxZeroPast = s.rxZeroPast := Untouched.endCycle (f := State.rxZeroPast) ⟨fun _ _ => rfl, fun _ _ => rfl, fun _ _ => rfl, fun _ _ => rfl, fun _ _ => rfl, fun _ _ => rfl, fun _ _ => rfl⟩ s
@[simp] theorem State.ramps_endCycle : s.endCycle.ramps = s.ramps := Untouched.endCycle (f := State.ramps) ⟨fun _ _ => rfl, fun _ _ => rfl, fun _ _ => rfl, fun _ _ => rfl, fun _ _ => rfl, fun _ _ => rfl, fun _ _ => rfl⟩ s
@[simp] theorem State.mutePast_endCycle : s.endCycle.mutePast = s.mutePast := Untouched.endCycle (f := State.mutePast) ⟨fun _ _ => rfl, fun _ _ => rfl, fun _ _ => rfl, fun _ _ => rfl, fun _ _ => rfl, fun _ _ => rfl, fun _ _ => rfl⟩ s
@[simp] theorem State.spells_endCycle : s.endCycle.spells = s.spells := Untouched.endCycle (f := State.spells) ⟨fun _ _ => rfl, fun _ _ => rfl, fun _ _ => rfl, fun _ _ => rfl, fun _ _ => rfl, fun _ _ => rfl, fun _ _ => rfl⟩ s
@[simp] theorem State.txSyms_endCycle : s.endCycle.txSyms = s.txSyms := Untouched.endCycle (f := State.txSyms) ⟨fun _ _ => rfl, fun _ _ => rfl, fun _ _ => rfl, fun _ _ => rfl, fun _ _ => rfl, fun _ _ => rfl, fun _ _ => rfl⟩ s
@[simp] theorem State.tx_endCycle : s.endCycle.tx = s.tx := Untouched.endCycle (f := State.tx) ⟨fun _ _ => rfl, fun _ _ => rfl, fun _ _ => rfl, fun _ _ => rfl, fun _ _ => rfl, fun _ _ => rfl, fun _ _ => rfl⟩ s
@[simp] theorem State.dpdPast_endCycle : s.endCycle.dpdPast = s.dpdPast := Untouched.endCycle (f := State.dpdPast) ⟨fun _ _ => rfl, fun _ _ => rfl, fun _ _ => rfl, fun _ _ => rfl, fun _ _ => rfl, fun _ _ => rfl, fun _ _ => rfl⟩ s
@[simp] theorem State.u3Upto_endCycle : s.endCycle.u3Upto = s.u3Upto := Untouched.endCycle (f := State.u3Upto) ⟨fun _ _ => rfl, fun _ _ => rfl, fun _ _ => rfl, fun _ _ => rfl, fun _ _ => rfl, fun _ _ => rfl, fun _ _ => rfl⟩ s
@[simp] theorem State.vswrAt_endCycle : s.endCycle.vswrAt = s.vswrAt := Untouched.endCycle (f := State.vswrAt) ⟨fun _ _ => rfl, fun _ _ => rfl, fun _ _ => rfl, fun _ _ => rfl, fun _ _ => rfl, fun _ _ => rfl, fun _ _ => rfl⟩ s
@[simp] theorem State.slices_endCycle : s.endCycle.slices = s.slices := Untouched.endCycle (f := State.slices) ⟨fun _ _ => rfl, fun _ _ => rfl, fun _ _ => rfl, fun _ _ => rfl, fun _ _ => rfl, fun _ _ => rfl, fun _ _ => rfl⟩ s
@[simp] theorem State.occasions_endCycle : s.endCycle.occasions = s.occasions := Untouched.endCycle (f := State.occasions) ⟨fun _ _ => rfl, fun _ _ => rfl, fun _ _ => rfl, fun _ _ => rfl, fun _ _ => rfl, fun _ _ => rfl, fun _ _ => rfl⟩ s
@[simp] theorem State.prachReps_endCycle : s.endCycle.prachReps = s.prachReps := Untouched.endCycle (f := State.prachReps) ⟨fun _ _ => rfl, fun _ _ => rfl, fun _ _ => rfl, fun _ _ => rfl, fun _ _ => rfl, fun _ _ => rfl, fun _ _ => rfl⟩ s
@[simp] theorem State.cages_endCycle : s.endCycle.cages = s.cages := Untouched.endCycle (f := State.cages) ⟨fun _ _ => rfl, fun _ _ => rfl, fun _ _ => rfl, fun _ _ => rfl, fun _ _ => rfl, fun _ _ => rfl, fun _ _ => rfl⟩ s
@[simp] theorem State.vswrRun_endCycle : s.endCycle.vswrRun = s.vswrRun := Untouched.endCycle (f := State.vswrRun) ⟨fun _ _ => rfl, fun _ _ => rfl, fun _ _ => rfl, fun _ _ => rfl, fun _ _ => rfl, fun _ _ => rfl, fun _ _ => rfl⟩ s
@[simp] theorem State.adcs_endCycle : s.endCycle.adcs = s.adcs := Untouched.endCycle (f := State.adcs) ⟨fun _ _ => rfl, fun _ _ => rfl, fun _ _ => rfl, fun _ _ => rfl, fun _ _ => rfl, fun _ _ => rfl, fun _ _ => rfl⟩ s
@[simp] theorem State.dacs_endCycle : s.endCycle.dacs = s.dacs := Untouched.endCycle (f := State.dacs) ⟨fun _ _ => rfl, fun _ _ => rfl, fun _ _ => rfl, fun _ _ => rfl, fun _ _ => rfl, fun _ _ => rfl, fun _ _ => rfl⟩ s
@[simp] theorem State.align_endCycle : s.endCycle.align = s.align := Untouched.endCycle (f := State.align) ⟨fun _ _ => rfl, fun _ _ => rfl, fun _ _ => rfl, fun _ _ => rfl, fun _ _ => rfl, fun _ _ => rfl, fun _ _ => rfl⟩ s
@[simp] theorem State.assay_endCycle : s.endCycle.assay = s.assay := Untouched.endCycle (f := State.assay) ⟨fun _ _ => rfl, fun _ _ => rfl, fun _ _ => rfl, fun _ _ => rfl, fun _ _ => rfl, fun _ _ => rfl, fun _ _ => rfl⟩ s
@[simp] theorem State.mon_endCycle : s.endCycle.mon = s.mon := Untouched.endCycle (f := State.mon) ⟨fun _ _ => rfl, fun _ _ => rfl, fun _ _ => rfl, fun _ _ => rfl, fun _ _ => rfl, fun _ _ => rfl, fun _ _ => rfl⟩ s
@[simp] theorem State.aux_endCycle : s.endCycle.aux = s.aux := Untouched.endCycle (f := State.aux) ⟨fun _ _ => rfl, fun _ _ => rfl, fun _ _ => rfl, fun _ _ => rfl, fun _ _ => rfl, fun _ _ => rfl, fun _ _ => rfl⟩ s
@[simp] theorem State.bfErr_endCycle : s.endCycle.bfErr = s.bfErr := Untouched.endCycle (f := State.bfErr) ⟨fun _ _ => rfl, fun _ _ => rfl, fun _ _ => rfl, fun _ _ => rfl, fun _ _ => rfl, fun _ _ => rfl, fun _ _ => rfl⟩ s
@[simp] theorem State.otp_endCycle : s.endCycle.otp = s.otp := Untouched.endCycle (f := State.otp) ⟨fun _ _ => rfl, fun _ _ => rfl, fun _ _ => rfl, fun _ _ => rfl, fun _ _ => rfl, fun _ _ => rfl, fun _ _ => rfl⟩ s
@[simp] theorem State.sec_endCycle : s.endCycle.sec = s.sec := Untouched.endCycle (f := State.sec) ⟨fun _ _ => rfl, fun _ _ => rfl, fun _ _ => rfl, fun _ _ => rfl, fun _ _ => rfl, fun _ _ => rfl, fun _ _ => rfl⟩ s
@[simp] theorem State.sram_endCycle : s.endCycle.sram = s.sram := Untouched.endCycle (f := State.sram) ⟨fun _ _ => rfl, fun _ _ => rfl, fun _ _ => rfl, fun _ _ => rfl, fun _ _ => rfl, fun _ _ => rfl, fun _ _ => rfl⟩ s
@[simp] theorem State.mspiErr_endCycle : s.endCycle.mspiErr = s.mspiErr := Untouched.endCycle (f := State.mspiErr) ⟨fun _ _ => rfl, fun _ _ => rfl, fun _ _ => rfl, fun _ _ => rfl, fun _ _ => rfl, fun _ _ => rfl, fun _ _ => rfl⟩ s
end Sys2Proof.Machine
end

