-- ==== Sys2Proof/Laws/PerInstr.lean ====
section
/-! SUPPORT. The family WellFormed: what well-formedness says of a command, one lemma per constructor. -/
namespace Sys2Proof.Laws.WellFormed
set_option Elab.async false

/-- A well-formed access comes from a requester that issues accesses: never from ID 0 and never from an ID above 71 (R18). -/
def Statement (i : Instr) : Prop := i.wf = true → ∀ r, i.requester = some r → 1 ≤ r.id ∧ r.id ≤ 71

theorem req_range {r : Req} (h : r.ok = true) : 1 ≤ r.id ∧ r.id ≤ 71 := by
  simp only [Req.ok, decide_eq_true_eq] at h; omega

theorem vddAonApply : Statement (.vddAonApply) := fun _ _ e => by cases e
theorem resetEntry (por : Bool) : Statement (.resetEntry por) := fun _ _ e => by cases e
theorem resetExit (por : Bool) : Statement (.resetExit por) := fun _ _ e => by cases e
theorem registerWrite (r : Req) (addr : Word) (v : Word) : Statement (.registerWrite r addr v) := fun h _ e => by cases e; exact req_range (by simpa [Instr.wf] using h)
theorem rcRegisterRead (r : Req) (addr : Word) : Statement (.rcRegisterRead r addr) := fun h _ e => by cases e; exact req_range (by simpa [Instr.wf] using h)
theorem lowWordRead (r : Req) (addr : Word) : Statement (.lowWordRead r addr) := fun h _ e => by cases e; exact req_range (by simpa [Instr.wf] using h)
theorem lowWordWrite (r : Req) (addr : Word) (v : Word) : Statement (.lowWordWrite r addr v) := fun h _ e => by cases e; exact req_range (by simpa [Instr.wf] using h)
theorem highWordWrite (r : Req) (addr : Word) (v : Word) : Statement (.highWordWrite r addr v) := fun h _ e => by cases e; exact req_range (by simpa [Instr.wf] using h)
theorem atomic64bitAccess (r : Req) (addr : Word) (v : Option DWord) : Statement (.atomic64bitAccess r addr v) := fun h _ e => by cases e; exact req_range (by simpa [Instr.wf] using h)
theorem sysAccerrClear (r : Req) (v : Word) : Statement (.sysAccerrClear r v) := fun h _ e => by cases e; exact req_range (by simpa [Instr.wf] using h)
theorem dieLinkLost (die : Fin 4) : Statement (.dieLinkLost die) := fun _ _ e => by cases e
theorem trainingStart (r : Req) (p : Fin 2) (v : Word) : Statement (.trainingStart r p v) := fun h _ e => by cases e; exact req_range (by simpa [Instr.wf] using h)
theorem portPowerDown (r : Req) (p : Fin 2) (v : Word) : Statement (.portPowerDown r p v) := fun h _ e => by cases e; exact req_range (by simpa [Instr.wf] using h)
theorem rateChange (r : Req) (p : Fin 2) (rate : Bool) : Statement (.rateChange r p rate) := fun h _ e => by cases e; exact req_range (by simpa [Instr.wf] using h)
theorem signalDetect (p : Fin 2) (k : Fin 9) : Statement (.signalDetect p k) := fun _ _ e => by cases e
theorem clockRecovered (p : Fin 2) (k : Fin 9) : Statement (.clockRecovered p k) := fun _ _ e => by cases e
theorem laneAligned (p : Fin 2) (k : Fin 9) (h : HuntObs) : Statement (.laneAligned p k h) := fun _ _ e => by cases e
theorem tapRequest (p : Fin 2) (k : Fin 9) (word : BitVec 128) : Statement (.tapRequest p k word) := fun _ _ e => by cases e
theorem receiverConverged (p : Fin 2) (k : Fin 9) : Statement (.receiverConverged p k) := fun _ _ e => by cases e
theorem moveRequest (p : Fin 2) (k : Fin 9) (word : BitVec 128) : Statement (.moveRequest p k word) := fun _ _ e => by cases e
theorem deskewDone (p : Fin 2) : Statement (.deskewDone p) := fun _ _ e => by cases e
theorem trainingTimeout (p : Fin 2) (k : Fin 9) : Statement (.trainingTimeout p k) := fun _ _ e => by cases e
theorem attemptTimeout (p : Fin 2) : Statement (.attemptTimeout p) := fun _ _ e => by cases e
theorem alignLost (p : Fin 2) (k : Fin 9) (uncorr : Nat) (missing : Nat) : Statement (.alignLost p k uncorr missing) := fun _ _ e => by cases e
theorem realignWaitExpiry (p : Fin 2) (k : Fin 8) : Statement (.realignWaitExpiry p k) := fun _ _ e => by cases e
theorem deskewRestored (p : Fin 2) : Statement (.deskewRestored p) := fun _ _ e => by cases e
theorem reliefReq (p : Fin 2) (b : BackObs) (k : Fin 8) : Statement (.reliefReq p b k) := fun _ _ e => by cases e
theorem reliefCompareDone (p : Fin 2) (k : Fin 8) (hdr : BitVec 20) (mismatch : Bool) : Statement (.reliefCompareDone p k hdr mismatch) := fun _ _ e => by cases e
theorem reliefSwitched (p : Fin 2) (b : BackObs) (k : Fin 8) : Statement (.reliefSwitched p b k) := fun _ _ e => by cases e
theorem reliefRefuse (p : Fin 2) (b : BackObs) (k : Fin 8) : Statement (.reliefRefuse p b k) := fun _ _ e => by cases e
theorem retrainReq (p : Fin 2) (b : BackObs) (k : Fin 9) : Statement (.retrainReq p b k) := fun _ _ e => by cases e
theorem relieveRx (r : Req) (p : Fin 2) (k : Fin 16) : Statement (.relieveRx r p k) := fun h _ e => by cases e; exact req_range (by simpa [Instr.wf] using h)
theorem relieveTx (r : Req) (p : Fin 2) (k : Fin 16) : Statement (.relieveTx r p k) := fun h _ e => by cases e; exact req_range (by simpa [Instr.wf] using h)
theorem restore (r : Req) (p : Fin 2) (k : Fin 16) : Statement (.restore r p k) := fun h _ e => by cases e; exact req_range (by simpa [Instr.wf] using h)
theorem beaconOn (r : Req) (p : Fin 2) : Statement (.beaconOn r p) := fun h _ e => by cases e; exact req_range (by simpa [Instr.wf] using h)
theorem beaconOff (r : Req) (p : Fin 2) : Statement (.beaconOff r p) := fun h _ e => by cases e; exact req_range (by simpa [Instr.wf] using h)
theorem beaconBurst (p : Fin 2) : Statement (.beaconBurst p) := fun _ _ e => by cases e
theorem marginWindowEnd (p : Fin 2) (k : Fin 9) (corrected : Nat) (uncorr : Nat) : Statement (.marginWindowEnd p k corrected uncorr) := fun _ _ e => by cases e
theorem escanStart (r : Req) (p : Fin 2) (v : Word) : Statement (.escanStart r p v) := fun h _ e => by cases e; exact req_range (by simpa [Instr.wf] using h)
theorem autoEscanPeriod (p : Fin 2) : Statement (.autoEscanPeriod p) := fun _ _ e => by cases e
theorem escanDone (p : Fin 2) (pts : List (List Nat)) : Statement (.escanDone p pts) := fun _ _ e => by cases e
theorem wakeActivity (p : Fin 2) : Statement (.wakeActivity p) := fun _ _ e => by cases e
theorem ack (p : Fin 2) (h : RxHdr) (aseq : BitVec 8) (cred : BitVec 16) : Statement (.ack p h aseq cred) := fun _ _ e => by cases e
theorem nak (p : Fin 2) (h : RxHdr) (aseq : BitVec 8) : Statement (.nak p h aseq) := fun _ _ e => by cases e
theorem bkReplayTimeout (p : Fin 2) : Statement (.bkReplayTimeout p) := fun _ _ e => by cases e
theorem negOffer (p : Fin 2) (h : RxHdr) (pay : NegPay) : Statement (.negOffer p h pay) := fun _ _ e => by cases e
theorem negAccept (p : Fin 2) (h : RxHdr) (pay : NegPay) : Statement (.negAccept p h pay) := fun _ _ e => by cases e
theorem negReject (p : Fin 2) (h : RxHdr) (reason : BitVec 8) : Statement (.negReject p h reason) := fun _ _ e => by cases e
theorem negOfferRepeat (p : Fin 2) : Statement (.negOfferRepeat p) := fun _ _ e => by cases e
theorem negTimeout (p : Fin 2) : Statement (.negTimeout p) := fun _ _ e => by cases e
theorem reneg (r : Req) (p : Fin 2) (v : Word) : Statement (.reneg r p v) := fun h _ e => by cases e; exact req_range (by simpa [Instr.wf] using h)
theorem regWr (p : Fin 2) (h : RxHdr) (sec : Option SecTrailer) (tag : BitVec 8) (addr : Word) (v : Word) : Statement (.regWr p h sec tag addr v) := fun _ _ e => by cases e
theorem regRd (p : Fin 2) (h : RxHdr) (sec : Option SecTrailer) (tag : BitVec 8) (addr : Word) : Statement (.regRd p h sec tag addr) := fun _ _ e => by cases e
theorem memWr (p : Fin 2) (h : RxHdr) (sec : Option SecTrailer) (tag : BitVec 8) (ch : BitVec 8) (addr : BitVec 64) (data : List Byte) : Statement (.memWr p h sec tag ch addr data) := fun _ _ e => by cases e
theorem memRd (p : Fin 2) (h : RxHdr) (sec : Option SecTrailer) (tag : BitVec 8) (flush : Bool) (nblk : BitVec 7) (addr : BitVec 64) : Statement (.memRd p h sec tag flush nblk addr) := fun _ _ e => by cases e
theorem rdCpl (p : Fin 2) (h : RxHdr) (sec : Option SecTrailer) (tag : BitVec 8) (status : BitVec 4) (last : Bool) (offs : BitVec 7) (data : List Byte) : Statement (.rdCpl p h sec tag status last offs data) := fun _ _ e => by cases e
theorem cplTimeout (p : Fin 2) (tag : BitVec 8) : Statement (.cplTimeout p tag) := fun _ _ e => by cases e
theorem msg (p : Fin 2) (h : RxHdr) (sec : Option SecTrailer) (chan : Fin 32) (tag : BitVec 8) (words : List Word) : Statement (.msg p h sec chan tag words) := fun _ _ e => by cases e
theorem hello (p : Fin 2) (h : RxHdr) (sec : Option SecTrailer) (tag : BitVec 8) (nonce : BitVec 256) (cert : List Byte) : Statement (.hello p h sec tag nonce cert) := fun _ _ e => by cases e
theorem encap (p : Fin 2) (h : RxHdr) (sec : Option SecTrailer) (tag : BitVec 8) (ct : List Byte) (sig : List Byte) : Statement (.encap p h sec tag ct sig) := fun _ _ e => by cases e
theorem close (p : Fin 2) (h : RxHdr) (sec : Option SecTrailer) (tag : BitVec 8) : Statement (.close p h sec tag) := fun _ _ e => by cases e
theorem handshakeTimeout (p : Fin 2) : Statement (.handshakeTimeout p) := fun _ _ e => by cases e
theorem switch (r : Req) (v : Word) : Statement (.switch r v) := fun h _ e => by cases e; exact req_range (by simpa [Instr.wf] using h)
theorem failoverStallTimeout (p : Fin 2) : Statement (.failoverStallTimeout p) := fun _ _ e => by cases e
theorem failover (c : Fin 8) : Statement (.failover c) := fun _ _ e => by cases e
theorem dhModeApply (c : Fin 8) : Statement (.dhModeApply c) := fun _ _ e => by cases e
theorem cplane (p : Fin 2) (h : RxHdr) (descs : List (BitVec 128)) : Statement (.cplane p h descs) := fun _ _ e => by cases e
theorem layerDl (p : Fin 2) (h : RxHdr) (car : Fin 8) (sym : BitVec 4) (slot : BitVec 10) (secid : BitVec 12) (poff : BitVec 11) (pcnt : BitVec 11) (cw : BitVec 4) (ant : Bool) (stream : BitVec 7) (data : List Byte) : Statement (.layerDl p h car sym slot secid poff pcnt cw ant stream data) := fun _ _ e => by cases e
theorem sectionLock (c : Fin 8) (dir : Bool) (slot : BitVec 10) (secid : BitVec 12) : Statement (.sectionLock c dir slot secid) := fun _ _ e => by cases e
theorem orphanDiscard (c : Fin 8) : Statement (.orphanDiscard c) := fun _ _ e => by cases e
theorem symbolRead (c : Fin 8) : Statement (.symbolRead c) := fun _ _ e => by cases e
theorem ulSymbol (c : Fin 8) (inp : RxIn) : Statement (.ulSymbol c inp) := fun _ _ e => by cases e
theorem ulPacketSend (p : Fin 2) : Statement (.ulPacketSend p) := fun _ _ e => by cases e
theorem ovrBlock (path : Fin 64) : Statement (.ovrBlock path) := fun _ _ e => by cases e
theorem sync (p : Fin 2) (h : RxHdr) (top : BitVec 4) (tseq : BitVec 16) : Statement (.sync p h top tseq) := fun _ _ e => by cases e
theorem tdOffsetCommit (r : Req) (x : Fin 2) (w0 : Word) (w1 : Word) (w2 : Word) (w3 : Word) : Statement (.tdOffsetCommit r x w0 w1 w2 w3) := fun h _ e => by cases e; exact req_range (by simpa [Instr.wf] using h)
theorem tdStepCommit (r : Req) (x : Fin 2) (v : DWord) : Statement (.tdStepCommit r x v) := fun h _ e => by cases e; exact req_range (by simpa [Instr.wf] using h)
theorem tdIncCommit (r : Req) (x : Fin 2) (v : DWord) : Statement (.tdIncCommit r x v) := fun h _ e => by cases e; exact req_range (by simpa [Instr.wf] using h)
theorem tselSwitch (r : Req) (v : Word) : Statement (.tselSwitch r v) := fun h _ e => by cases e; exact req_range (by simpa [Instr.wf] using h)
theorem slewDone : Statement (.slewDone) := fun _ _ e => by cases e
theorem ppsinCapture : Statement (.ppsinCapture) := fun _ _ e => by cases e
theorem ppsinLost : Statement (.ppsinLost) := fun _ _ e => by cases e
theorem ppsOutRise : Statement (.ppsOutRise) := fun _ _ e => by cases e
theorem ppsOutFall : Statement (.ppsOutFall) := fun _ _ e => by cases e
theorem alignCapture (level : Bool) : Statement (.alignCapture level) := fun _ _ e => by cases e
theorem sbNop (e : Fin 5) : Statement (.sbNop e) := fun _ _ e => by cases e
theorem sbHalt (e : Fin 5) : Statement (.sbHalt e) := fun _ _ e => by cases e
theorem sbAt (e : Fin 5) : Statement (.sbAt e) := fun _ _ e => by cases e
theorem sbAfter (e : Fin 5) : Statement (.sbAfter e) := fun _ _ e => by cases e
theorem sbSymwait (e : Fin 5) : Statement (.sbSymwait e) := fun _ _ e => by cases e
theorem waitRelease (e : Fin 5) : Statement (.waitRelease e) := fun _ _ e => by cases e
theorem sbSet (e : Fin 5) : Statement (.sbSet e) := fun _ _ e => by cases e
theorem sbSetw (e : Fin 5) : Statement (.sbSetw e) := fun _ _ e => by cases e
theorem sbSwap (e : Fin 5) : Statement (.sbSwap e) := fun _ _ e => by cases e
theorem sbCapture (e : Fin 5) : Statement (.sbCapture e) := fun _ _ e => by cases e
theorem sbGate (e : Fin 5) : Statement (.sbGate e) := fun _ _ e => by cases e
theorem sbFectl (e : Fin 5) : Statement (.sbFectl e) := fun _ _ e => by cases e
theorem sbFesend (e : Fin 5) : Statement (.sbFesend e) := fun _ _ e => by cases e
theorem stagedEffect (e : Fin 5) (mismatch : Bool) : Statement (.stagedEffect e mismatch) := fun _ _ e => by cases e
theorem sbDispatch (e : Fin 5) (mismatch : Bool) : Statement (.sbDispatch e mismatch) := fun _ _ e => by cases e
theorem sbDmago (e : Fin 5) (mismatch : Bool) : Statement (.sbDmago e mismatch) := fun _ _ e => by cases e
theorem sbPost (e : Fin 5) (mismatch : Bool) : Statement (.sbPost e mismatch) := fun _ _ e => by cases e
theorem sbLoop (e : Fin 5) : Statement (.sbLoop e) := fun _ _ e => by cases e
theorem sbEndl (e : Fin 5) : Statement (.sbEndl e) := fun _ _ e => by cases e
theorem sbBr (e : Fin 5) : Statement (.sbBr e) := fun _ _ e => by cases e
theorem sbBrc (e : Fin 5) : Statement (.sbBrc e) := fun _ _ e => by cases e
theorem sbCall (e : Fin 5) : Statement (.sbCall e) := fun _ _ e => by cases e
theorem sbRet (e : Fin 5) : Statement (.sbRet e) := fun _ _ e => by cases e
theorem sbWaitev (e : Fin 5) : Statement (.sbWaitev e) := fun _ _ e => by cases e
theorem waitevTimeout (e : Fin 5) : Statement (.waitevTimeout e) := fun _ _ e => by cases e
theorem sbSignal (e : Fin 5) (mismatch : Bool) : Statement (.sbSignal e mismatch) := fun _ _ e => by cases e
theorem sbFence (e : Fin 5) : Statement (.sbFence e) := fun _ _ e => by cases e
theorem sbAddi (e : Fin 5) : Statement (.sbAddi e) := fun _ _ e => by cases e
theorem sbMovi (e : Fin 5) : Statement (.sbMovi e) := fun _ _ e => by cases e
theorem engineFault (e : Fin 5) (hard : Option Bool) : Statement (.engineFault e hard) := fun _ _ e => by cases e
theorem run (r : Req) (e : Fin 5) (run : Bool) : Statement (.run r e run) := fun h _ e => by cases e; exact req_range (by simpa [Instr.wf] using h)
theorem restart (r : Req) (e : Fin 5) (run : Bool) : Statement (.restart r e run) := fun h _ e => by cases e; exact req_range (by simpa [Instr.wf] using h)
theorem sbSwapreq (r : Req) (e : Fin 5) (v : Word) : Statement (.sbSwapreq r e v) := fun h _ e => by cases e; exact req_range (by simpa [Instr.wf] using h)
theorem sbEvset (r : Req) (e : Fin 5) (v : DWord) : Statement (.sbEvset r e v) := fun h _ e => by cases e; exact req_range (by simpa [Instr.wf] using h)
theorem sbEvclr (r : Req) (e : Fin 5) (v : DWord) : Statement (.sbEvclr r e v) := fun h _ e => by cases e; exact req_range (by simpa [Instr.wf] using h)
theorem sbFeSafeWrite (r : Req) (v : Word) : Statement (.sbFeSafeWrite r v) := fun h _ e => by cases e; exact req_range (by simpa [Instr.wf] using h)
theorem sbReliefTarget (r : Req) (target : BitVec 4) (clr : Bool) : Statement (.sbReliefTarget r target clr) := fun h _ e => by cases e; exact req_range (by simpa [Instr.wf] using h)
theorem reliefSynced : Statement (.reliefSynced) := fun _ _ e => by cases e
theorem sbRetire (r : Req) : Statement (.sbRetire r) := fun h _ e => by cases e; exact req_range (by simpa [Instr.wf] using h)
theorem fespiFrameEnd (p : Fin 4) (sdi : BitVec 64) : Statement (.fespiFrameEnd p sdi) := fun _ _ e => by cases e
theorem bankSwap (res : Fin 7) (idx : Fin 128) : Statement (.bankSwap res idx) := fun _ _ e => by cases e
theorem swapDeferRetry (res : Fin 7) (idx : Fin 128) : Statement (.swapDeferRetry res idx) := fun _ _ e => by cases e
theorem oldBankRelease (res : Fin 7) (idx : Fin 256) : Statement (.oldBankRelease res idx) := fun _ _ e => by cases e
theorem carrierEnable (r : Req) (c : Fin 8) (v : Word) : Statement (.carrierEnable r c v) := fun h _ e => by cases e; exact req_range (by simpa [Instr.wf] using h)
theorem carrierDrained (c : Fin 8) : Statement (.carrierDrained c) := fun _ _ e => by cases e
theorem hostMuteRampEnd (path : Fin 64) : Statement (.hostMuteRampEnd path) := fun _ _ e => by cases e
theorem muteSourceClear (r : Req) (path : Fin 64) (v : Word) : Statement (.muteSourceClear r path v) := fun h _ e => by cases e; exact req_range (by simpa [Instr.wf] using h)
theorem sliceReliefTarget (r : Req) (u : Fin 2) (v : Word) : Statement (.sliceReliefTarget r u v) := fun h _ e => by cases e; exact req_range (by simpa [Instr.wf] using h)
theorem sliceSynced (u : Fin 2) (mismatch : Bool) : Statement (.sliceSynced u mismatch) := fun _ _ e => by cases e
theorem sliceRetire (r : Req) (u : Fin 2) (v : Word) : Statement (.sliceRetire r u v) := fun h _ e => by cases e; exact req_range (by simpa [Instr.wf] using h)
theorem sliceFault (slice : Fin 66) : Statement (.sliceFault slice) := fun _ _ e => by cases e
theorem sliceTaken (u : Fin 2) : Statement (.sliceTaken u) := fun _ _ e => by cases e
theorem prachEnable (r : Req) (j : Fin 4) (v : Word) : Statement (.prachEnable r j v) := fun h _ e => by cases e; exact req_range (by simpa [Instr.wf] using h)
theorem prachOccasion (j : Fin 4) (inp : RxIn) : Statement (.prachOccasion j inp) := fun _ _ e => by cases e
theorem prachDrained (j : Fin 4) : Statement (.prachDrained j) := fun _ _ e => by cases e
theorem beamCwArm (r : Req) (v : Word) : Statement (.beamCwArm r v) := fun h _ e => by cases e; exact req_range (by simpa [Instr.wf] using h)
theorem beamCwCancel (r : Req) (v : Word) : Statement (.beamCwCancel r v) := fun h _ e => by cases e; exact req_range (by simpa [Instr.wf] using h)
theorem beamCwCommit (r : Req) (v : Word) : Statement (.beamCwCommit r v) := fun h _ e => by cases e; exact req_range (by simpa [Instr.wf] using h)
theorem cwFlip (dir : Fin 2) (h : Fin 256) : Statement (.cwFlip dir h) := fun _ _ e => by cases e
theorem cwMiss (dir : Fin 2) (h : Fin 256) : Statement (.cwMiss dir h) := fun _ _ e => by cases e
theorem beamSwapreq (r : Req) (v : Word) : Statement (.beamSwapreq r v) := fun h _ e => by cases e; exact req_range (by simpa [Instr.wf] using h)
theorem beamSsClr (r : Req) (v : Word) : Statement (.beamSsClr r v) := fun h _ e => by cases e; exact req_range (by simpa [Instr.wf] using h)
theorem ssAccumulate : Statement (.ssAccumulate) := fun _ _ e => by cases e
theorem dpdSwapreq (r : Req) (v : Word) : Statement (.dpdSwapreq r v) := fun h _ e => by cases e; exact req_range (by simpa [Instr.wf] using h)
theorem obsCapReq (r : Req) (path : Fin 64) (v : Word) : Statement (.obsCapReq r path v) := fun h _ e => by cases e; exact req_range (by simpa [Instr.wf] using h)
theorem captureGrant (a : Fin 72) : Statement (.captureGrant a) := fun _ _ e => by cases e
theorem captureGrantEnd (a : Fin 72) : Statement (.captureGrantEnd a) := fun _ _ e => by cases e
theorem obsCapCancel (r : Req) (path : Fin 64) (v : Word) : Statement (.obsCapCancel r path v) := fun h _ e => by cases e; exact req_range (by simpa [Instr.wf] using h)
theorem captureDone (a : Fin 72) (y : List (BitVec 32)) (ovr : Bool) : Statement (.captureDone a y ovr) := fun _ _ e => by cases e
theorem vswrWindow (path : Fin 64) (seen : Nat) : Statement (.vswrWindow path seen) := fun _ _ e => by cases e
theorem adcRotationStart (u : Fin 72) : Statement (.adcRotationStart u) := fun _ _ e => by cases e
theorem adcRotationSwap (u : Fin 72) (agree : Bool) : Statement (.adcRotationSwap u agree) := fun _ _ e => by cases e
theorem subadcRetire (r : Req) (u : Fin 72) (v : Word) : Statement (.subadcRetire r u v) := fun h _ e => by cases e; exact req_range (by simpa [Instr.wf] using h)
theorem dacCellRotation (path : Fin 64) : Statement (.dacCellRotation path) := fun _ _ e => by cases e
theorem dacCellRetire (r : Req) (path : Fin 64) (v : Word) : Statement (.dacCellRetire r path v) := fun h _ e => by cases e; exact req_range (by simpa [Instr.wf] using h)
theorem softAlign (r : Req) (v : Word) : Statement (.softAlign r v) := fun h _ e => by cases e; exact req_range (by simpa [Instr.wf] using h)
theorem converterAlignment (err : BitVec 8) : Statement (.converterAlignment err) := fun _ _ e => by cases e
theorem lodeWqPush (r : Req) (q : Fin 8) (v : Word) : Statement (.lodeWqPush r q v) := fun h _ e => by cases e; exact req_range (by simpa [Instr.wf] using h)
theorem itemPull (c : Fin 34) : Statement (.itemPull c) := fun _ _ e => by cases e
theorem lodeBundle (c : Fin 34) (ecc : Fin 4) : Statement (.lodeBundle c ecc) := fun _ _ e => by cases e
theorem fstBusError (c : Fin 34) : Statement (.fstBusError c) := fun _ _ e => by cases e
theorem wdog (c : Fin 34) : Statement (.wdog c) := fun _ _ e => by cases e
theorem itemComplete (c : Fin 34) : Statement (.itemComplete c) := fun _ _ e => by cases e
theorem coreFault (c : Fin 34) : Statement (.coreFault c) := fun _ _ e => by cases e
theorem lodeReliefRetire (r : Req) (v : Word) : Statement (.lodeReliefRetire r v) := fun h _ e => by cases e; exact req_range (by simpa [Instr.wf] using h)
theorem coreRelief : Statement (.coreRelief) := fun _ _ e => by cases e
theorem sharedBankGrant (b : Fin 256) (arrive : List Nat) (leave : List Nat) : Statement (.sharedBankGrant b arrive leave) := fun _ _ e => by cases e
theorem dmaStart (r : Req) (c : Fin 16) (v : Word) : Statement (.dmaStart r c v) := fun h _ e => by cases e; exact req_range (by simpa [Instr.wf] using h)
theorem dmaAbort (r : Req) (c : Fin 16) : Statement (.dmaAbort r c) := fun h _ e => by cases e; exact req_range (by simpa [Instr.wf] using h)
theorem dmaTransferEnd (c : Fin 16) (ecc : Option Nat) : Statement (.dmaTransferEnd c ecc) := fun _ _ e => by cases e
theorem dmaRecordWritten (c : Fin 16) : Statement (.dmaRecordWritten c) := fun _ _ e => by cases e
theorem dmaCqHeadWrite (r : Req) (q : Fin 4) (v : Word) : Statement (.dmaCqHeadWrite r q v) := fun h _ e => by cases e; exact req_range (by simpa [Instr.wf] using h)
theorem dmaCqEnable (r : Req) (q : Fin 4) (v : Word) : Statement (.dmaCqEnable r q v) := fun h _ e => by cases e; exact req_range (by simpa [Instr.wf] using h)
theorem mbxMsgWrite (r : Req) (c : Fin 32) (k : Fin 16) (v : Word) : Statement (.mbxMsgWrite r c k v) := fun h _ e => by cases e; exact req_range (by simpa [Instr.wf] using h)
theorem mbxDoorbell (r : Req) (c : Fin 32) (v : Word) : Statement (.mbxDoorbell r c v) := fun h _ e => by cases e; exact req_range (by simpa [Instr.wf] using h)
theorem mbxAck (r : Req) (c : Fin 32) : Statement (.mbxAck r c) := fun h _ e => by cases e; exact req_range (by simpa [Instr.wf] using h)
theorem mbxFlush (r : Req) (c : Fin 32) (v : Word) : Statement (.mbxFlush r c v) := fun h _ e => by cases e; exact req_range (by simpa [Instr.wf] using h)
theorem mbxClaimLapsed (c : Fin 32) : Statement (.mbxClaimLapsed c) := fun _ _ e => by cases e
theorem tallyAcquire (r : Req) (k : Fin 64) : Statement (.tallyAcquire r k) := fun h _ e => by cases e; exact req_range (by simpa [Instr.wf] using h)
theorem tallyRelease (r : Req) (k : Fin 64) (v : Word) : Statement (.tallyRelease r k v) := fun h _ e => by cases e; exact req_range (by simpa [Instr.wf] using h)
theorem tallyHoldExpiry (k : Fin 64) : Statement (.tallyHoldExpiry k) := fun _ _ e => by cases e
theorem portDownLockRelease (p : Fin 2) : Statement (.portDownLockRelease p) := fun _ _ e => by cases e
theorem assayResult (item : Fin 9) (unit : Fin 72) (elem : Fin 128) (meas : Option (List Int)) (power : Nat) (val : Nat) (nblk : Nat) : Statement (.assayResult item unit elem meas power val nblk) := fun _ _ e => by cases e
theorem assaySave (r : Req) (v : Word) : Statement (.assaySave r v) := fun h _ e => by cases e; exact req_range (by simpa [Instr.wf] using h)
theorem assaySaveDone : Statement (.assaySaveDone) := fun _ _ e => by cases e
theorem assayRestore (r : Req) (v : Word) : Statement (.assayRestore r v) := fun h _ e => by cases e; exact req_range (by simpa [Instr.wf] using h)
theorem assayRestoreDone : Statement (.assayRestoreDone) := fun _ _ e => by cases e
theorem monEnable (r : Req) (v : Word) : Statement (.monEnable r v) := fun h _ e => by cases e; exact req_range (by simpa [Instr.wf] using h)
theorem monEntryDone (inputs : List Int) (vref : Nat) (dev : List Int) : Statement (.monEntryDone inputs vref dev) := fun _ _ e => by cases e
theorem monUrg (r : Req) (v : Word) : Statement (.monUrg r v) := fun h _ e => by cases e; exact req_range (by simpa [Instr.wf] using h)
theorem monUrgDone (inputs : List Int) (vref : Nat) (dev : List Int) : Statement (.monUrgDone inputs vref dev) := fun _ _ e => by cases e
theorem auxDacWrite (r : Req) (n : Fin 72) (v : Word) : Statement (.auxDacWrite r n v) := fun h _ e => by cases e; exact req_range (by simpa [Instr.wf] using h)
theorem auxHoldEnd (n : Fin 72) : Statement (.auxHoldEnd n) := fun _ _ e => by cases e
theorem auxRangeChangeEnd (n : Fin 72) : Statement (.auxRangeChangeEnd n) := fun _ _ e => by cases e
theorem auxClrcodeWrite (r : Req) (n : Fin 72) (v : Word) : Statement (.auxClrcodeWrite r n v) := fun h _ e => by cases e; exact req_range (by simpa [Instr.wf] using h)
theorem auxClrNFall : Statement (.auxClrNFall) := fun _ _ e => by cases e
theorem auxClrNRise : Statement (.auxClrNRise) := fun _ _ e => by cases e
theorem clrall (r : Req) (v : Word) : Statement (.clrall r v) := fun h _ e => by cases e; exact req_range (by simpa [Instr.wf] using h)
theorem auxShort (n : Fin 72) : Statement (.auxShort n) := fun _ _ e => by cases e
theorem auxOpen (n : Fin 72) : Statement (.auxOpen n) := fun _ _ e => by cases e
theorem pwrCmd (r : Req) (v : Word) : Statement (.pwrCmd r v) := fun h _ e => by cases e; exact req_range (by simpa [Instr.wf] using h)
theorem powerStep (refclk : Bool) (swapped : Bool) (lost : BitVec 7) : Statement (.powerStep refclk swapped lost) := fun _ _ e => by cases e
theorem wake (mask : BitVec 4) : Statement (.wake mask) := fun _ _ e => by cases e
theorem pwrClassWrite (r : Req) (v : Word) : Statement (.pwrClassWrite r v) := fun h _ e => by cases e; exact req_range (by simpa [Instr.wf] using h)
theorem canaryUpdate (reads : List (Option (BitVec 16 × Bool))) : Statement (.canaryUpdate reads) := fun _ _ e => by cases e
theorem throtEnforced : Statement (.throtEnforced) := fun _ _ e => by cases e
theorem safeClear (r : Req) (v : Word) : Statement (.safeClear r v) := fun h _ e => by cases e; exact req_range (by simpa [Instr.wf] using h)
theorem faultPin (low : Bool) : Statement (.faultPin low) := fun _ _ e => by cases e
theorem supplyCheck : Statement (.supplyCheck) := fun _ _ e => by cases e
theorem refclkLost : Statement (.refclkLost) := fun _ _ e => by cases e
theorem refclkRelock (swapped : Bool) : Statement (.refclkRelock swapped) := fun _ _ e => by cases e
theorem aditFetch (dst : BitVec 8) (data : List Byte) : Statement (.aditFetch dst data) := fun _ _ e => by cases e
theorem aditWaitTimeout : Statement (.aditWaitTimeout) := fun _ _ e => by cases e
theorem bootDone : Statement (.bootDone) := fun _ _ e => by cases e
theorem load (c : Fin 32) (dst : BitVec 8) (data : List Byte) : Statement (.load c dst data) := fun _ _ e => by cases e
theorem stage (c : Fin 32) (dst : BitVec 8) (data : List Byte) : Statement (.stage c dst data) := fun _ _ e => by cases e
theorem fwSwap (c : Fin 32) : Statement (.fwSwap c) := fun _ _ e => by cases e
theorem fwSwapped : Statement (.fwSwapped) := fun _ _ e => by cases e
theorem attest (c : Fin 32) : Statement (.attest c) := fun _ _ e => by cases e
theorem idGet (c : Fin 32) : Statement (.idGet c) := fun _ _ e => by cases e
theorem rootProg (c : Fin 32) : Statement (.rootProg c) := fun _ _ e => by cases e
theorem rootRevoke (c : Fin 32) : Statement (.rootRevoke c) := fun _ _ e => by cases e
theorem svnCommit (c : Fin 32) : Statement (.svnCommit c) := fun _ _ e => by cases e
theorem lcAdvance (c : Fin 32) : Statement (.lcAdvance c) := fun _ _ e => by cases e
theorem idGen (c : Fin 32) : Statement (.idGen c) := fun _ _ e => by cases e
theorem repairCommit (c : Fin 32) : Statement (.repairCommit c) := fun _ _ e => by cases e
theorem otpOperationDone (ok : Bool) : Statement (.otpOperationDone ok) := fun _ _ e => by cases e
theorem mspiWrite (addr : Word) (words : List Word) : Statement (.mspiWrite addr words) := fun _ _ e => by cases e
theorem mspiRead (addr : Word) (n : Fin 64) : Statement (.mspiRead addr n) := fun _ _ e => by cases e
theorem mspiStatus : Statement (.mspiStatus) := fun _ _ e => by cases e
theorem bfColumnRelief (dir : Fin 2) (ant : Fin 64) (car : Fin 8) (re : Nat) : Statement (.bfColumnRelief dir ant car re) := fun _ _ e => by cases e
theorem eccUncorrectable (array : Nat) (row : Fin 128) (addr : Nat) : Statement (.eccUncorrectable array row addr) := fun _ _ e => by cases e
theorem scrubPass (errs : List (Nat × Fin 128 × Nat)) : Statement (.scrubPass errs) := fun _ _ e => by cases e
theorem sramRowRelief (array : Nat) (row : Fin 128) : Statement (.sramRowRelief array row) := fun _ _ e => by cases e
theorem foremanLockstep : Statement (.foremanLockstep) := fun _ _ e => by cases e
theorem evtIrqAck (r : Req) (v : Word) : Statement (.evtIrqAck r v) := fun h _ e => by cases e; exact req_range (by simpa [Instr.wf] using h)
theorem feShort (pin : Fin 32) : Statement (.feShort pin) := fun _ _ e => by cases e
theorem pmuCounterWrite (r : Req) (b : Fin 46) (k : Fin 8) (v : Word) (amt : Nat) : Statement (.pmuCounterWrite r b k v amt) := fun h _ e => by cases e; exact req_range (by simpa [Instr.wf] using h)
theorem pmuSelWrite (r : Req) (b : Fin 46) (k : Fin 8) (v : Word) : Statement (.pmuSelWrite r b k v) := fun h _ e => by cases e; exact req_range (by simpa [Instr.wf] using h)
theorem freeze (r : Req) (v : Word) : Statement (.freeze r v) := fun h _ e => by cases e; exact req_range (by simpa [Instr.wf] using h)
theorem snap (r : Req) (v : Word) : Statement (.snap r v) := fun h _ e => by cases e; exact req_range (by simpa [Instr.wf] using h)
theorem pmuOverflowFreeze : Statement (.pmuOverflowFreeze) := fun _ _ e => by cases e
theorem vddAonLoss : Statement (.vddAonLoss) := fun _ _ e => by cases e
theorem farEndRxrdy (p : Fin 2) (k : Fin 9) (word : BitVec 128) : Statement (.farEndRxrdy p k word) := fun _ _ e => by cases e
theorem firmwareReply : Statement (.firmwareReply) := fun _ _ e => by cases e

end Sys2Proof.Laws.WellFormed
end

