-- ==== Sys2Proof/Machine/Package.lean ====
section
/-! DEFINITION. Fixed data of the package and the ports (21_electrical_package): which ball is what (R514-R519), and the levels that a register field sets (R508, R510).
No command reads them. -/
namespace Sys2Proof.Machine

/-- The row names, from row 1 (R514). -/
def ballRows : List String :=
  let l := ["A", "B", "C", "D", "E", "F", "G", "H", "J", "K", "L", "M", "N", "P", "T", "U", "V", "W", "Y"]
  l ++ l.map (fun x => "A" ++ x) ++ (l.map (fun x => "B" ++ x)).take 16

/-- The supplies (R496, R519). -/
inductive Rail where
  | vddAon | vddIo | vddSram | vddCore | vddSer | vddSerh | vddaClk | vddaConv | vddaHi
  deriving DecidableEq, Repr

/-- A signal ball: the `_N` ball of a differential pair has `neg`; `fespi p k` is CS_N, SCLK, SDO or SDI of port `p`. -/
inductive Pin where
  | txout (n : Nat) (neg : Bool)
  | rxin (n : Nat) (neg : Bool)
  | obsin (n : Nat) (neg : Bool)
  | laneTx (port j : Nat) (neg : Bool)
  | laneRx (port j : Nat) (neg : Bool)
  | auxdac (n : Nat)
  | monIn (n : Nat)
  | feCtl (n : Nat)
  | fespi (p k : Nat)
  | pwrSeq (n : Nat)
  | named (name : String)
  deriving DecidableEq, Repr

/-- What a position of the array is. -/
inductive Ball where
  | vacant
  | gnd
  | rail (r : Rail)
  | signal (p : Pin)
  deriving DecidableEq, Repr

/-- Positions without a ball (R514): the corners of three by three. -/
def ballVacant (row col : Nat) : Bool := decide ((row ≤ 3 ∨ 52 ≤ row) ∧ (col ≤ 3 ∨ 52 ≤ col))

/-- The first row of the band of a die, and whether its rows run upward (R515). -/
def bandRow (die : Nat) : Nat × Bool := ([(1, true), (8, true), (54, false), (47, false)]).getD die (0, true)

/-- The balls of the converter dies (R515): path 16k + i lies at columns 4 + 3i and 5 + 3i, its outputs, inputs and observation inputs in rows 2, 4 and 6 of the band. -/
def rfBall (row col : Nat) : Option Pin :=
  (List.range 4).findSome? (fun die =>
    let (first, up) := bandRow die
    let k := if up then row + 1 - first else first + 1 - row
    let n := 16 * die + (col - 4) / 3
    let neg := (col - 4) % 3 == 1
    if (if up then decide (first ≤ row) else decide (row ≤ first)) && decide (k ≤ 7) && decide (4 ≤ col ∧ col ≤ 51 ∧ (col - 4) % 3 ≠ 2) then
      if k = 2 then some (.txout n neg) else if k = 4 then some (.rxin n neg) else if k = 6 then some (.obsin n neg) else none
    else none)

/-- The lane balls (R516): lane j of port A and B in the row of index 16 + 2j, counted from the left edge and from the right edge. -/
def laneBall (row col : Nat) : Option Pin :=
  let (port, c) := if col ≤ 7 then (0, col) else (1, 55 - col)
  if 16 ≤ row ∧ row ≤ 32 ∧ row % 2 = 0 then
    let j := (row - 16) / 2
    if c = 2 ∨ c = 3 then some (.laneTx port j (c == 3)) else if c = 5 ∨ c = 6 then some (.laneRx port j (c == 6)) else none
  else none

/-- Named balls of the clock, control and management rows, as row name, column, name (R517). -/
def namedBalls : List (String × Nat × String) :=
  [("AT", 2, "REFCLK_P"), ("AT", 3, "REFCLK_N"), ("AT", 5, "ALIGN_IN_P"), ("AT", 6, "ALIGN_IN_N"),
   ("AT", 51, "MSPI_MISO"), ("AT", 52, "MSPI_MOSI"), ("AT", 53, "MSPI_CS_N"), ("AT", 54, "MSPI_SCLK"),
   ("AV", 2, "XTAL32_IN"), ("AV", 3, "XTAL32_OUT"), ("AV", 5, "PPS_IN"), ("AV", 6, "PPS_OUT"),
   ("AV", 50, "TRST_N"), ("AV", 51, "TDO"), ("AV", 52, "TDI"), ("AV", 53, "TMS"), ("AV", 54, "TCK"),
   ("AY", 1, "POR_N"), ("AY", 2, "RST_N"), ("AY", 3, "WAKE_N"), ("AY", 4, "IRQ_N"), ("AY", 5, "FAULT_N"), ("AY", 6, "THROT_N"), ("AY", 7, "AUX_CLR_N"),
   ("AY", 52, "CAL_IO"), ("AY", 54, "VREF_EXT")]

/-- The remaining signal balls and those of `VDD_AON` (R517, R518). -/
def midBall (row col : Nat) : Option Ball :=
  let name := ballRows.getD (row - 1) ""
  let run := fun (a b : Nat) => decide (a ≤ col ∧ col ≤ b)
  match namedBalls.find? (fun e => e.1 == name && e.2.1 == col) with
  | some e => some (.signal (.named e.2.2))
  | none =>
    if name = "T" then (if run 8 39 then some (.signal (.auxdac (col - 8))) else if run 40 43 then some (.signal (.auxdac (col + 24))) else none)
    else if name = "V" then (if run 8 39 then some (.signal (.monIn (col - 8))) else none)
    else if name = "AW" then (if run 8 23 then some (.signal (.fespi ((col - 8) / 4) ((col - 8) % 4))) else none)
    else if name = "AY" then (if run 8 39 then some (.signal (.feCtl (col - 8))) else none)
    else if name = "BA" then
      if run 1 4 then some (.rail .vddAon)
      else if run 8 39 then some (.signal (.auxdac (col + 24)))
      else if run 40 43 then some (.signal (.auxdac (col + 28))) else none
    else if name = "BB" then (if run 1 6 then some (.signal (.pwrSeq (col - 1))) else none)
    else none

/-- The power balls of columns 8-47 (R519). -/
def powerBall (row col : Nat) : Option Rail :=
  let name := ballRows.getD (row - 1) ""
  if col < 8 ∨ 47 < col then none
  else if ["W", "Y", "AT", "AU"].contains name then some .vddaConv
  else if name = "AA" then some (if col ≤ 27 then .vddaClk else .vddaHi)
  else if ["AB", "AC", "AD", "AE", "AF", "AG", "AH", "AJ", "AK"].contains name then some .vddCore
  else if ["AL", "AM"].contains name then some .vddSram
  else if name = "AN" then some .vddSer
  else if name = "AP" then some (if col ≤ 27 then .vddSerh else .vddIo)
  else none

/-- What the position at a row and a column, both counted from 1, is (R514-R519). -/
def ballAt (row col : Nat) : Ball :=
  if ballVacant row col then .vacant
  else match rfBall row col, laneBall row col, midBall row col, powerBall row col with
    | some p, _, _, _ => .signal p
    | none, some p, _, _ => .signal p
    | none, none, some b, _ => b
    | none, none, none, some r => .rail r
    | none, none, none, none => .gnd

/-- How many positions are of a kind. -/
def ballCount (f : Ball → Bool) : Nat := ((List.range 54).map (fun r => (List.range 54).countP (fun c => f (ballAt (r + 1) (c + 1))))).sum

/-- The swing of a lane transmitter with the main tap at 64, in mV peak-to-peak differential, as `LANE_TXCFG.AMP` sets it (R508). -/
def laneSwing (amp : Nat) : Nat := 400 + 100 * amp

/-- The full-scale current of a `TXOUT`, in µA, as `CONV_TX_MODE.FSC` sets it (R510). -/
def txFullScale (fsc : Nat) : Nat := 10000 + 1250 * fsc

/-- The drive of `CAL_IO` in half dBm, as `ASSAY_CALIO.LEVEL` sets it (R510). -/
def calDrive (level : Nat) : Int := -20 - level

end Sys2Proof.Machine
end

