-- ==== Sys2Proof/Tests/Slice0.lean ====
section
/-! SUPPORT. The author's own tests: worked examples of the spec, ill-formed commands, and for every statement with hypotheses a witness that meets
all of them, clause by clause. -/
set_option Elab.async false
set_option maxRecDepth 100000
set_option linter.unusedVariables false
open Sys2Proof Sys2Proof.Machine
namespace Sys2Proof.Tests

/-! ## Small states -/

/-- READY with every clock on, both ports OPERATIONAL with every feature and compression negotiated, a while after reset. -/
def up : State :=
  { State.reset with
    regs := [(Reg.SYS_CLK_STATUS, 0xFFFFFFFF), (Reg.PWR_STATUS, 5), (Reg.LINK_STATUS 0, 0x20000000), (Reg.LINK_NEG_RES 0, 0x7F007F),
      (Reg.LINK_STATUS 1, 0x20000000), (Reg.LINK_NEG_RES 1, 0x7F007F)]
    tick := 10000000000, tb := 1000000000000, power := { convOn := true, bootDue := false, seq := 0x3F } }

/-- The management port, Foreman and the enclave as requesters; a packet in order. -/
def mg : Req := ⟨3, false⟩
def fo : Req := ⟨4, true⟩
def en : Req := ⟨5, true⟩
def hd : RxHdr := ⟨0, 0, .ok⟩

/-- The same with port A trained: lane 8 is the relief lane of both directions, every logical lane is carried by the lane of its number. -/
def tr : State :=
  (((((up.setPst 0 2).setFld (Reg.LANE_PSTAT 0) Fld.LANE_PSTAT_RELIEF_RX 8).setFld (Reg.LANE_PSTAT 0) Fld.LANE_PSTAT_RELIEF_TX 8).wr (Reg.LANE_PMAP_RX 0)
    0x76543210).wr (Reg.LANE_PMAP_TX 0) 0x76543210)

/-- A downlink DATA section of one PRB of carrier 0, slot 5, symbol 6, of one symbol: about 140 us ahead of `up`. -/
def secW : BitVec 128 := BitVec.ofNat 128 (1 + 5 * 2 ^ 15 + 6 * 2 ^ 25 + 2 ^ 40 + 2 ^ 96)

/-- Downlink data that waits for symbol 72 of frame 101725, the one in progress in `up`. -/
def dlW : DlData :=
  { car := 0, frame := 101725, slot := 5, sym := 2, secid := 1, poff := 0, pcnt := 1, cw := 0, ant := false, stream := 0, port := 0, standby := false, held := true, data := [], lateT := 0 }

/-- `up` with a synchronized shadow of path 5 in the first slice relief unit, on slice 64. -/
def synced : State :=
  ((((up.setFld (Reg.TXDP_SLICE_RELIEF 0) Fld.TXDP_SLICE_RELIEF_TARGET 5).setFld (Reg.TXDP_SLICE_RELIEF 0) Fld.TXDP_SLICE_RELIEF_SPARE 64).setFld
    (Reg.TXDP_SLICE_RELIEF 0) Fld.TXDP_SLICE_RELIEF_SYNCED 1)).setSliceSync 0 (some ⟨0, 0, false⟩)

/-- `up` with a valid random access configuration 1, not enabled, for carrier 0, and a past occasion of it. -/
def prach : State := (up.setFld (Reg.CAR_CFG 0) Fld.CAR_CFG_NPRB 100).setFld (Reg.RXDP_PRACH_CTL 1) Fld.RXDP_PRACH_CTL_FMT 0
def prachX : Section := ⟨1 + 2 ^ 29 * 0 + 2 ^ 40 + 2 ^ 89 + 2 * 2 ^ 90 + 2 ^ 96 + 2 ^ 104, 0, 101700, 0, false, false, 0⟩

/-- `up` with engine 0 at the instruction word of an opcode, at place 4 of a program of 100 words. -/
def at_ (op lo : Nat) : State :=
  ((((up.setFld (Reg.SB_STATUS 0) Fld.SB_STATUS_STATE 1).setFld (Reg.SB_CTL 0) Fld.SB_CTL_RUN 1).setPc 0 4).stN (sbBank 0 0) 8 100).stN (sbBank 0 0 + 32) 8
    (op * 2 ^ 58 + lo)

/-- `up` with engine 0 in a wait. -/
def waits (st : Nat) (w : EngWait) : State := (up.setSb 0 st).setEng 0 { up.eng 0 with wait := w }

/-- `up` with valid programs of 100 words in both banks of engine 0. -/
def withProg : State := (up.stN (sbBank 0 0) 8 (0x53420100 * 2 ^ 32 + 4 * 2 ^ 16 + 100)).stN (sbBank 0 1) 8 (0x53420100 * 2 ^ 32 + 4 * 2 ^ 16 + 100)

/-- Work queue 0 full. -/
def fullQ (s : State) : State := s.setWq 0 (List.replicate 64 ⟨0, 0, false, 0, 0⟩)

/-- `up` with core 0 idle and enabled for queue 2, which holds one item whose descriptor is valid or not. -/
def pulling (ok : Bool) : State :=
  let s := ((up.setFld (Reg.LODE_CORE_STAT 0) Fld.LODE_CORE_STAT_STATE 0).setFld (Reg.LODE_CORE_CTL 0) Fld.LODE_CORE_CTL_EN 1).setFld (Reg.LODE_CORE_CTL 0)
    Fld.LODE_CORE_CTL_QMASK 4
  ((s.setFld (Reg.LODE_CORE_STAT 0) Fld.LODE_CORE_STAT_LOGICAL 0).setWq 2 [⟨0x40, 7, false, 0, 0⟩]).stN (sharedMem + 0x40) 8 ((if ok then 0x4B440100 else 0) + 0x800 * 2 ^ 32)

/-- `up` with core 1 running an item in shared memory at 0x800, where an instruction word stands. -/
def runs1 (w : Nat) : State :=
  (up.setCore 1 { up.core 1 with running := true, queue := 2, item := some ⟨0x40, 7, false, 0, 0⟩, desc := 0x40, pc := 0x800 }).stN (sharedMem + 0x800) 4 w

/-- Firmware runs, `up` with the message `ws` in channel `c`, for the enclave (28 to 31) or for Foreman. -/
def msgAt (c : Nat) (ws : List Nat) : State :=
  let s := ((up.setSec (fun (x : SecSt) => { x with adit := .done, identity := true })).setFld (Reg.MBX_CFG c) Fld.MBX_CFG_RX (if 28 ≤ c then 5 else 4)).setFld
    (Reg.MBX_STAT c) Fld.MBX_STAT_FULL 1
  (List.range ws.length).foldl (fun (t : State) k => t.wr (Reg.MBX_MSG c k) (BitVec.ofNat 32 (ws.getD k 0))) s

/-- `up` with firmware that has not replied since its start. -/
def paused (q : Option SvcReq) : State :=
  (up.setSec (fun (x : SecSt) => { x with adit := .done, fwReply := q })).setFld Reg.ASSAY_STAT Fld.ASSAY_STAT_FWPAUSE 1

/-- A verified image. -/
def imageW : Image := ⟨1, 0, 4096, 0, 0, 0, []⟩

/-- `up` with a session allowed on port 0 and an identity or none. -/
def sess (id : Bool) : State :=
  (up.setSec (fun (x : SecSt) => { x with identity := id })).setFld (Reg.LINK_CTL 0) Fld.LINK_CTL_SEC_EN 1

/-- A transfer of channel 2 that writes 64 bytes at an address. -/
def dmaInto (a : Nat) (s : State) : State := { s with chans := [(2, { phase := .move, dst := a, len := 64 })] }

/-! ## Worked examples of the spec -/

/-- 08_receive_path, format B4 at 120 kHz: a CP of 7 488 Tc and 12 repetitions of 16 384 Tc, from 246 528 Tc into the frame. -/
theorem test_prach_format_b4 : prachTiming 8 3 246528 = (7488, 16384, 12) := by decide +kernel

/-- 08_receive_path: slot 1, symbol 0 of a 120 kHz carrier starts 246 528 Tc into the frame. -/
theorem test_symbol_start : symStart 3 14 = 246528 := by decide +kernel

/-- 13_lode_instructions, R336: with L = 512 and M = 256 the offsets 0, 256, 128, 384, 64, 320, 192, 448. -/
theorem test_bit_reversed_order :
    (List.range 8).map (fun i =>
      (List.range i).foldl (fun (p : Nat) _ => ({ p := [(0, p)], l := [(0, 512)], m := [(0, 256)] } : LodeCore).after 4 0 0 64) 0) =
      [0, 256, 128, 384, 64, 320, 192, 448] := by decide +kernel

/-- 12_lode_cluster, one store, three values: half up and truncated. -/
theorem test_store_rounding :
    conv16 0x12348000 16 false = (0x1235, false) ∧ conv16 0x12348000 16 true = (0x1234, false) ∧
    conv16 (-0x12348000) 16 false = (-4660, false) ∧ conv16 (-0x12348000) 16 true = (-4661, false) ∧
    conv16 0x90000000 16 false = (0x7FFF, true) ∧ conv16 0x90000000 16 true = (0x7FFF, true) := by decide +kernel

/-- 09_beams, one synthesized weight: `up` with the geometry and the taper of path 9 in the active banks. -/
def beamW : State :=
  let g := 0x21210800 + up.geomBank 0 * 0x400 + 9 * 16
  let s := (((up.stN g 4 2688).stN (g + 4) 4 1344).stN (0x21210000 + up.taperBank 0 * 0x400 + 2 * 128 + 9 * 2) 2 0x6000)
  ((s.setFld (Reg.CAR_CFG 0) Fld.CAR_CFG_NPRB 273).setFld (Reg.BEAM_FC 0) Fld.BEAM_FC_FC5K 700000)

/-- d is 880 803 840, the frequency offset of group 136 is −6 and the phase 11 635 659. -/
theorem test_synth_phase :
    beamW.pathLen (beamW.geomBank 0) 9 640 3072 = 880803840 ∧ beamW.df25 0 0 0 136 0 = -6 ∧ beamPhase 1399994 880803840 = 11635659 := by decide +kernel

/-- The weight is (−4 268, −11 523). -/
theorem test_synth_weight : beamW.synthWeight 0xA80C00 9 1399994 0 = (-4268, -11523) := by decide +kernel

/-- 10_linearization, tickets on O1: one slot for 1 024 blocks, two for 2 048. -/
theorem test_capture_slots : State.reset.cageSlots 1 1024 = 1 ∧ State.reset.cageSlots 1 2048 = 2 := by decide +kernel

/-- 12_lode_cluster, one bank, three requesters: all three get the tickets 1 001, 1 002, 1 003 in cycle 1 000. -/
theorem test_bank_tickets :
    (match exec (.sharedBankGrant 0x25 [275, 279, 314] []) (({ up with lode := { up.lode with banks := [(0x25, { parked := some 279 })] } } : State).wr64
        Reg.LODE_CYC 1000) with
      | .next t => (t.bank 0x25).waiting
      | _ => []) = [(275, 1001), (279, 1002), (314, 1003)] := by decide +kernel

/-- The same bank alone with its parked owner: granted in its cycle, nothing waits. -/
theorem test_bank_parked :
    (match exec (.sharedBankGrant 0x25 [314] []) (({ up with lode := { up.lode with banks := [(0x25, { parked := some 314 })] } } : State).wr64
        Reg.LODE_CYC 1010) with
      | .next t => (t.bank 0x25).waiting
      | _ => [(0, 0)]) = [] := by decide +kernel

/-- 07_transmit_path: `TXDP_GAIN` of path 5 stands at 0x0020_0504, and a `SET` of it carries WADDR 0x8_0141. -/
theorem test_gain_address : Reg.TXDP_GAIN 5 = 0x200504 ∧ Reg.TXDP_GAIN 5 / 4 = 0x80141 := by decide

/-- 05_timebase: the nominal increment, and 13 422 less, as the host writes it. -/
theorem test_increment : (0x01046AAAAAAB : Nat) - 13422 = 0x01046AAA763D := by decide

/-- 11_converters, carriers at 11.0 GHz: with `MIX` = 1 the first-zone frequency is 1 338 944, in RX zone 3 it is 430 528 and in observation zone 2 454 208. -/
theorem test_carriers_at_11_ghz :
    ((State.reset.setFld Reg.CONV_TX_MODE Fld.CONV_TX_MODE_MIX 1).setFld (Reg.CONV_NCO_TX 0) Fld.CONV_NCO_TX_FC5K 2200000).txF1 0 = 1338944 * 65536 ∧
    zoneF1 2 (2200000 * 65536) = 430528 * 65536 ∧ zoneInverted 2 = false ∧ zoneInverted 1 = true := by decide +kernel

/-- 02_lanes, R47: three commas 696 320 symbols apart with 200 of 255 codewords align a lane, three images align it inverted, 199 codewords do not. -/
theorem test_comma_hunt :
    huntAligned ⟨0, 0x3E5C7, 0x3E5C7, 0x3E5C7, 696320, 696320, 200, BitVec.ofNat 20 (laneHeader 2 0 0 3 1)⟩ = some false ∧
    huntAligned ⟨0, 0x94F6D, 0x94F6D, 0x94F6D, 696320, 696320, 255, BitVec.ofNat 20 (laneHeader 2 0 0 3 1)⟩ = some true ∧
    huntAligned ⟨0, 0x3E5C7, 0x3E5C7, 0x3E5C7, 696320, 696320, 199, BitVec.ofNat 20 (laneHeader 2 0 0 3 1)⟩ = none := by decide +kernel

/-- 02_lanes, R44: the pairs 00, 01, 11, 10 are the levels 0, 1, 2, 3. -/
theorem test_gray_map : pam4Levels [false, false, false, true, true, true, true, false] = [0, 1, 2, 3] := by decide

/-- 21_electrical_package, R515: `TXOUT07_P` is B25 and `TXOUT07_N` is B26, `RXIN37` is at BN19 and BN20, `OBSIN63_P` is BD49. -/
theorem test_converter_balls :
    ["B", "BN", "BD"].map (fun n => ballRows.findIdx (· == n) + 1) = [2, 51, 42] ∧
    ballAt 2 25 = .signal (.txout 7 false) ∧ ballAt 2 26 = .signal (.txout 7 true) ∧ ballAt 51 19 = .signal (.rxin 37 false) ∧
    ballAt 51 20 = .signal (.rxin 37 true) ∧ ballAt 42 49 = .signal (.obsin 63 false) := by decide +kernel

/-! ## The interface -/

/-- The table gives no row any bits, so no word spells a command, and the reset state is left as it is. -/
theorem test_no_word : decodeTableWord 0 0 = none ∧ State.reset.withFetchWord 32 7 = State.reset := by decide +kernel

/-- An unmapped address answers ERR_NOREG, an offline block ERR_OFFLINE with the pattern of R33. -/
theorem test_refusals : State.reset.causes mg 0x7FFFFFFC = 3 ∧ State.reset.causes mg (Reg.TXDP_GAIN 5) = 1 ∧
    (match exec (.rcRegisterRead mg (BitVec.ofNat 32 (Reg.TXDP_GAIN 5))) State.reset with
      | .next t => (t.busOf 3).data
      | _ => 0) = 0x0FF00FF0 := by decide +kernel

/-- A store and a load of four bytes, least significant first (R4). -/
theorem test_memory : ((up.stN sharedMem 4 0x11223344).ldb sharedMem).toNat = 0x44 ∧ (up.stN sharedMem 4 0x11223344).ldN sharedMem 4 = 0x11223344 ∧
    Memory.wf (up.stN sharedMem 4 0x11003344).mem = true ∧ ((up.stN sharedMem 4 0x11003344).stN sharedMem 4 0).mem = [] := by decide +kernel

/-! ## Ill-formed commands are refused, one for each check -/

theorem test_wf_requester : (Instr.registerWrite ⟨6, false⟩ 0 0).wf = false ∧ (Instr.registerWrite ⟨0, false⟩ 0 0).wf = false ∧
    (Instr.registerWrite ⟨72, false⟩ 0 0).wf = false ∧ (Instr.registerWrite ⟨71, false⟩ 0 0).wf = true := by decide
theorem test_wf_blocks : (Instr.memWr 0 hd none 0 0 0 [1]).wf = false ∧ (Instr.memWr 0 hd none 0 0 0 (List.replicate 16 1)).wf = true := by decide
theorem test_wf_message : (Instr.msg 0 hd none 0 0 (List.replicate 15 0)).wf = false ∧ (Instr.msg 0 hd none 0 0 (List.replicate 16 0)).wf = true := by decide
theorem test_wf_sections : (Instr.cplane 0 hd []).wf = false ∧ (Instr.cplane 0 hd [0]).wf = true := by decide
theorem test_wf_negotiation : (Instr.negOffer 0 hd ⟨0, 256, 0, 0, 0, 0⟩).wf = false ∧ (Instr.negOffer 0 hd ⟨0, 255, 0, 0, 0, 0⟩).wf = true := by decide
theorem test_wf_scan : (Instr.escanDone 0 []).wf = false ∧ (Instr.escanDone 0 (List.replicate 108 [])).wf = true := by decide +kernel
theorem test_wf_symbol : (Instr.ulSymbol 0 (.res [(9280, 0, 0, 0)] [])).wf = false ∧ (Instr.ulSymbol 0 (.res [(9279, 0, 0, 0)] [])).wf = true := by decide
theorem test_wf_alignment : (Instr.converterAlignment 72).wf = false ∧ (Instr.converterAlignment 71).wf = true := by decide
theorem test_wf_bank : (Instr.sharedBankGrant 0 [8] []).wf = false ∧ (Instr.sharedBankGrant 0 [7] [327]).wf = true := by decide
theorem test_wf_canary : (Instr.canaryUpdate []).wf = false ∧ (Instr.canaryUpdate (List.replicate 40 none)).wf = true := by decide
theorem test_wf_mspi : (Instr.mspiWrite 0 []).wf = false ∧ (Instr.mspiWrite 0 [1]).wf = true := by decide
theorem test_wf_column : (Instr.bfColumnRelief 0 0 0 3300).wf = false ∧ (Instr.bfColumnRelief 0 0 0 3299).wf = true := by decide
theorem test_wf_array : (Instr.eccUncorrectable (2 ^ 32) 0 0).wf = false ∧ (Instr.eccUncorrectable 7 0 0).wf = true := by decide +kernel

/-! ## Witnesses: for each statement, clause by clause, a state and operands that meet its hypotheses -/

theorem witness_MailboxCommandsTakeEffect :
    (∃ (s : State) (r : Req) (c : Fin 32) (k : Fin 16) (v : Word), (s.grants r (Reg.MBX_MSG c k)) ∧ s.mbxFull c = false ∧ s.mbxTaken c r.id = false) ∧
    (∃ (s : State) (r : Req) (c : Fin 32) (v : Word), (s.grants r (Reg.MBX_DOORBELL c)) ∧ getF v Fld.MBX_DOORBELL_RING = 1 ∧ s.mbxRefuses c r.id = false) ∧
    (∃ (s : State) (r : Req) (c : Fin 32), (s.grants r (Reg.MBX_MSG c 15)) ∧ s.mbxFull c = true ∧ s.mbxIsRx c r.id = true) ∧
    (∃ (s : State) (r : Req) (c : Fin 32) (v : Word), (s.grants r (Reg.MBX_FLUSH c)) ∧ getF v Fld.MBX_FLUSH_FLUSH = 1 ∧ s.mbxIsRx c r.id = true) ∧
    (∃ (s : State) (c : Fin 32), s.mbxClaimed c = true ∧ (kvGet (fun _ => ({} : LockSt)) s.claims c).at_ + usTicks (Nat.max 1 (s.fld Reg.MBX_CLAIM_TMO Fld.MBX_CLAIM_TMO_US)) ≤ s.tick) :=
  ⟨⟨up, mg, 8, 3, 7, by unfold State.grants; decide +kernel, by decide +kernel, by decide +kernel⟩,
   ⟨up, mg, 8, 1, by unfold State.grants; decide +kernel, by decide +kernel, by decide +kernel⟩,
   ⟨up.setFld (Reg.MBX_STAT 0) Fld.MBX_STAT_FULL 1, fo, 0, by unfold State.grants; decide +kernel, by decide +kernel, by decide +kernel⟩,
   ⟨up.setFld (Reg.MBX_STAT 0) Fld.MBX_STAT_FULL 1, fo, 0, 1, by unfold State.grants; decide +kernel, by decide +kernel, by decide +kernel⟩,
   ⟨{ up with claims := [(8, ⟨5, 0⟩)] }.setFld (Reg.MBX_STAT 8) Fld.MBX_STAT_CLAIMED 1, 8, by decide +kernel, by decide +kernel⟩⟩

theorem witness_TallyLocksGoToReadersAndBack :
    (∃ (s : State) (r : Req) (k : Fin 64), (s.grants r (Reg.TALLY_LOCK k)) ∧ (s.expireLock k).lockOwner k = 0 ∧ canOwn r.id = true) ∧
    (∃ (s : State) (r : Req) (k : Fin 64), (s.grants r (Reg.TALLY_LOCK k)) ∧ ((s.expireLock k).lockOwner k ≠ 0)) ∧
    (∃ (s : State) (r : Req) (k : Fin 64) (v : Word), (s.grants r (Reg.TALLY_LOCK k)) ∧ ((s.entering r).expireLock k).lockOwner k = r.id ∧ (r.id ≠ 0) ∧ getF v Fld.TALLY_LOCK_OWNER = r.id) ∧
    (∃ (s : State) (r : Req) (k : Fin 64) (v : Word), (s.grants r (Reg.TALLY_LOCK k)) ∧ ¬(((s.entering r).expireLock k).lockOwner k = r.id ∧ r.id ≠ 0 ∧ getF v Fld.TALLY_LOCK_OWNER = r.id)) ∧
    (∃ (s : State) (k : Fin 64), (s.lockOwner k ≠ 0) ∧ (kvGet (fun _ => ({} : LockSt)) s.locks k).at_ + usTicks (kvGet (fun _ => ({} : LockSt)) s.locks k).limit ≤ s.tick) ∧
    (∃ (s : State) (p : Fin 2) (t : Nat), (s.link p).downAt = some t ∧ (s.link p).locksFreed = false ∧ s.linkUp p = false ∧ (t + msTicks (Nat.max 1 (s.fld (Reg.LINK_DOWN_TMO p) Fld.LINK_DOWN_TMO_MS)) ≤ s.tick)) :=
  ⟨⟨up, mg, 5, by unfold State.grants; decide +kernel, by decide +kernel, by decide +kernel⟩,
   ⟨{ up.setFld (Reg.TALLY_STAT 5) Fld.TALLY_STAT_OWNER 16 with locks := [(5, ⟨10000000000, 100⟩)] }, mg, 5, by unfold State.grants; decide +kernel, by decide +kernel⟩,
   ⟨{ up.setFld (Reg.TALLY_STAT 5) Fld.TALLY_STAT_OWNER 3 with locks := [(5, ⟨10000000000, 100⟩)] }, mg, 5, 3, by unfold State.grants; decide +kernel, by decide +kernel, by decide +kernel, by decide +kernel⟩,
   ⟨up.setFld (Reg.TALLY_STAT 5) Fld.TALLY_STAT_OWNER 16, mg, 5, 3, by unfold State.grants; decide +kernel, by decide +kernel⟩,
   ⟨{ up.setFld (Reg.TALLY_STAT 5) Fld.TALLY_STAT_OWNER 16 with locks := [(5, ⟨7, 100⟩)] }, 5, by decide +kernel, by decide +kernel⟩,
   ⟨(up.setFld (Reg.LINK_STATUS 0) Fld.LINK_STATUS_LSTATE 0).setLink 0 { downAt := some 7 }, 0, 7, by decide +kernel, by decide +kernel, by decide +kernel, by decide +kernel⟩⟩

theorem witness_DmaCommandsTakeEffect :
    (∃ (s : State) (r : Req) (c : Fin 16) (v : Word), (s.grants r (Reg.DMA_GO c)) ∧ ¬(c.val = 15 ∧ s.sec.ch15 = true) ∧ getF v Fld.DMA_GO_ABORT = 0 ∧ (s.ch c).phase = .idle) ∧
    (∃ (s : State) (r : Req) (c : Fin 16) (v : Word), (s.grants r (Reg.DMA_GO c)) ∧ ¬(c.val = 15 ∧ s.sec.ch15 = true) ∧ getF v Fld.DMA_GO_ABORT = 0 ∧ ((s.ch c).phase ≠ .idle) ∧ s.bit (Reg.DMA_STAT c) Fld.DMA_STAT_SHADOW_VALID = false) ∧
    (∃ (s : State) (r : Req) (c : Fin 16), (s.grants r (Reg.DMA_GO c)) ∧ ¬(c.val = 15 ∧ s.sec.ch15 = true)) ∧
    (∃ (s : State) (t : State) (c : Fin 16) (done : Nat), (s.ch c).phase = .move ∧ (s.ch c).sspace = 0 ∧ ((s.ch c).len / 64 ≤ s.dmaCould (s.ch c)) ∧ s.dmaMove c ((s.ch c).len / 64) = (t, done, none)) ∧
    (∃ (s : State) (t : State) (c : Fin 16) (done : Nat) (code : Nat) (a : Nat), (s.ch c).phase = .move ∧ (s.ch c).sspace = 0 ∧ ((s.ch c).len / 64 ≤ s.dmaCould (s.ch c)) ∧ s.dmaMove c ((s.ch c).len / 64) = (t, done, some (code, a))) ∧
    (∃ (s : State) (c : Fin 16) (x : CqRec), (s.ch c).phase = .written ∧ (s.ch c).rec_ = some x ∧ x.status = 0 ∧ (s.ch c).notify = false) ∧
    (∃ (s : State) (r : Req) (q : Fin 4) (v : Word), (s.grants r (Reg.DMA_CQ_HEAD q)) ∧ ((s.cqTail q + 65536 - getF v Fld.DMA_CQ_HEAD_IDX) % 65536 ≤ s.cqSize q)) ∧
    (∃ (s : State) (r : Req) (q : Fin 4) (v : Word), (s.grants r (Reg.DMA_CQ_HEAD q)) ∧ (s.cqSize q < (s.cqTail q + 65536 - getF v Fld.DMA_CQ_HEAD_IDX) % 65536)) ∧
    (∃ (s : State) (r : Req) (q : Fin 4) (v : Word), (s.grants r (Reg.DMA_CQ_CFG q)) ∧ s.bit (Reg.DMA_CQ_CFG q) Fld.DMA_CQ_CFG_EN = false ∧ getF v Fld.DMA_CQ_CFG_EN = 1) ∧
    (∃ (s : State) (p : Fin 2) (tag : BitVec 8) (c : Nat) (m : MemRd), s.findRead p tag.toNat = some (c, m) ∧ m.flush = false ∧ (m.at_ + usTicks (Nat.max 1 (s.fld (Reg.LINK_CPL_TMO p) Fld.LINK_CPL_TMO_US)) ≤ s.tick)) :=
  ⟨⟨up, mg, 2, 1, by unfold State.grants; decide +kernel, by decide +kernel, by decide +kernel, by decide +kernel⟩,
   ⟨up.setCh 2 { phase := .move }, mg, 2, 1, by unfold State.grants; decide +kernel, by decide +kernel, by decide +kernel, by decide +kernel, by decide +kernel⟩,
   ⟨up, mg, 2, by unfold State.grants; decide +kernel, by decide +kernel⟩,
   ⟨up.setCh 2 { phase := .move, src := 0x10000000, dst := 0x10001000, len := 64 }, _, 2, _, by decide +kernel, by decide +kernel, by decide +kernel, rfl⟩,
   ⟨(up.setCh 2 { phase := .move, src := 0x10000000, dst := 0x28000000, len := 64 }).setFld Reg.SYS_CLK_STATUS Fld.SYS_CLK_STATUS_FCLK 0, _, 2, _, 1, 0x28000000, by decide +kernel, by decide +kernel, by decide +kernel, rfl⟩,
   ⟨up.setCh 2 { phase := .written, rec_ := some ⟨0, 64, 5, 0, 0, 0⟩ }, 2, ⟨0, 64, 5, 0, 0, 0⟩, by decide +kernel, by decide +kernel, by decide +kernel, by decide +kernel⟩,
   ⟨up, mg, 1, 0, by unfold State.grants; decide +kernel, by decide +kernel⟩,
   ⟨up, mg, 1, 5, by unfold State.grants; decide +kernel, by decide +kernel⟩,
   ⟨up, mg, 1, BitVec.ofNat 32 (1 <<< Fld.DMA_CQ_CFG_EN.lsb), by unfold State.grants; decide +kernel, by decide +kernel, by decide +kernel⟩,
   ⟨up.setCh 2 { phase := .move, rds := [⟨0, 9, 0, 64, 0, 5, false⟩] }, 0, 9, 2, ⟨0, 9, 0, 64, 0, 5, false⟩, by decide +kernel, by decide +kernel, by decide +kernel⟩⟩

theorem witness_TrainingCommandsTakeEffect :
    (∃ (s : State) (t : State) (r : Req) (p : Fin 2) (v : Word), (s.grants r (Reg.LANE_PCTL p)) ∧ s.bit (Reg.LANE_PCTL p) Fld.LANE_PCTL_EN = false ∧ (s.entering r).plainWrite (Reg.LANE_PCTL p) (setF v Fld.LANE_PCTL_EN 1) = t ∧ t.bit (Reg.LANE_PCTL p) Fld.LANE_PCTL_EN = true) ∧
    (∃ (s : State) (t : State) (r : Req) (p : Fin 2) (v : Word), (s.grants r (Reg.LANE_PCTL p)) ∧ s.bit (Reg.LANE_PCTL p) Fld.LANE_PCTL_EN = true ∧ (s.entering r).plainWrite (Reg.LANE_PCTL p) (setF v Fld.LANE_PCTL_EN 0) = t ∧ t.bit (Reg.LANE_PCTL p) Fld.LANE_PCTL_EN = false) ∧
    (∃ (s : State) (t : State) (r : Req) (p : Fin 2) (rate : Bool), (s.grants r (Reg.LANE_PCTL p)) ∧ s.bit (Reg.LANE_PCTL p) Fld.LANE_PCTL_EN = true ∧ (s.entering r).plainWrite (Reg.LANE_PCTL p) (setF (s.rd (Reg.LANE_PCTL p)) Fld.LANE_PCTL_RATE (b2n rate)) = t ∧ t.bit (Reg.LANE_PCTL p) Fld.LANE_PCTL_EN = true ∧ s.fld (Reg.LANE_PCTL p) Fld.LANE_PCTL_RATE ≠ (t.setPort p { t.port p with beacon := false }).fld (Reg.LANE_PCTL p) Fld.LANE_PCTL_RATE) ∧
    (∃ (s : State) (t : State) (p : Fin 2) (k : Fin 9), s.lst p k = 1 ∧ s.setLst p k 2 = t ∧ (t.lane p k).alone = false ∧ (t.port p).attemptAt = none) ∧
    (∃ (s : State) (p : Fin 2) (k : Fin 9), s.lst p k = 2) ∧
    (∃ (s : State) (p : Fin 2) (k : Fin 9) (h : HuntObs) (inv : Bool), s.lst p k = 3 ∧ huntAligned h = some inv) ∧
    (∃ (s : State) (p : Fin 2) (k : Fin 9) (w : BitVec 128), twVer w.toNat = 2) ∧
    (∃ (s : State) (p : Fin 2) (k : Fin 9) (w : Nat), s.lst p k = 4 ∧ ((s.lane p k).ackSeq ≠ some (twReqSeq w))) ∧
    (∃ (s : State) (p : Fin 2) (k : Fin 9) (w : Nat), s.lst p k = 4 ∧ (s.lane p k).rxRdy = false ∧ twRdy w = true) ∧
    (∃ (s : State) (p : Fin 2) (w : Nat) (q : Nat), s.reliefLane p false = some q ∧ s.pst p = 1 ∧ (twMove w < 8)) ∧
    (∃ (s : State) (p : Fin 2) (k : Fin 9), s.lst p k = 4 ∧ (s.lane p k).farRdy = true) ∧
    (∃ (s : State) (p : Fin 2) (skew : Nat) (base : Nat), s.pst p = 1 ∧ nine.any (fun k => s.lst p k == 6) = true ∧ commaSkew (s.deskewCommas p) = (skew, base) ∧ (skew ≤ 128 * 32)) ∧
    (∃ (s : State) (t : State) (p : Fin 2) (base : Nat) (depth : Nat), ((s.mapReceive p).orderCheck p).lanesUp p = t ∧ ((t.port p).farCap ≠ 4)) ∧
    (∃ (s : State) (p : Fin 2) (skew : Nat) (base : Nat), s.pst p = 1 ∧ nine.any (fun k => s.lst p k == 6) = true ∧ commaSkew (s.deskewCommas p) = (skew, base) ∧ (128 * 32 < skew)) ∧
    (∃ (s : State) (p : Fin 2) (k : Fin 9), s.lanesDue p k = true ∧ (s.lane p k).alone = false ∧ (s.lst p k ≠ 5)) ∧
    (∃ (s : State) (p : Fin 2) (t : Nat), (s.port p).attemptAt = some t ∧ s.pst p = 1 ∧ (t + msTicks 25 ≤ s.tick)) :=
  ⟨⟨up.setFld (Reg.LANE_PCTL 0) Fld.LANE_PCTL_EN 0, _, mg, 0, 0, by unfold State.grants; decide +kernel, by decide +kernel, rfl, by decide +kernel⟩,
   ⟨up.setFld (Reg.LANE_PCTL 0) Fld.LANE_PCTL_EN 1, _, mg, 0, 0, by unfold State.grants; decide +kernel, by decide +kernel, rfl, by decide +kernel⟩,
   ⟨up.setFld (Reg.LANE_PCTL 0) Fld.LANE_PCTL_EN 1, _, mg, 0, !(up.bit (Reg.LANE_PCTL 0) Fld.LANE_PCTL_RATE), by unfold State.grants; decide +kernel, by decide +kernel, rfl, by decide +kernel, by decide +kernel⟩,
   ⟨up.setLst 0 3 1, _, 0, 3, by decide +kernel, rfl, by decide +kernel, by decide +kernel⟩,
   ⟨up.setLst 0 3 2, 0, 3, by decide +kernel⟩,
   ⟨up.setLst 0 3 3, 0, 3, ⟨7, 0x3E5C7, 0x3E5C7, 0x3E5C7, 696320, 696320, 200, 0x400C0⟩, false, by decide +kernel, by decide +kernel⟩,
   ⟨up.setLst 0 3 4, 0, 3, BitVec.ofNat 128 (trainingWord 4 3 5 0 0 1 0 15 8), by decide +kernel⟩,
   ⟨up.setLst 0 3 4, 0, 3, trainingWord 4 3 5 0 0 1 0 15 8, by decide +kernel, by decide +kernel⟩,
   ⟨up.setLst 0 3 4, 0, 3, trainingWord 4 3 5 0 1 1 0 15 8, by decide +kernel, by decide +kernel, by decide +kernel⟩,
   ⟨tr.setPst 0 1, 0, trainingWord 4 3 5 0 1 1 0 2 8, 8, by decide +kernel, by decide +kernel, by decide +kernel⟩,
   ⟨(up.setLst 0 3 4).setLane 0 3 { farRdy := true }, 0, 3, by decide +kernel, by decide +kernel⟩,
   ⟨((up.setPst 0 1).setLst 0 2 6).setLst 0 3 6 |>.setLane 0 3 { commaAt := 4096 }, 0, 4096, 0, by decide +kernel, by decide +kernel, by decide +kernel, by decide +kernel⟩,
   ⟨(up.setPst 0 1).setLst 0 2 6, _, 0, 0, 4096, rfl, by decide +kernel⟩,
   ⟨((up.setPst 0 1).setLst 0 2 6).setLst 0 3 6 |>.setLane 0 3 { commaAt := 4097 }, 0, 4097, 0, by decide +kernel, by decide +kernel, by decide +kernel, by decide +kernel⟩,
   ⟨(up.setLst 0 3 2).setLane 0 3 {}, 0, 3, by decide +kernel, by decide +kernel, by decide +kernel⟩,
   ⟨(up.setPst 0 1).setPort 0 { attemptAt := some 7 }, 0, 7, by decide +kernel, by decide +kernel, by decide +kernel⟩⟩

theorem witness_LaneReliefAndScanCommandsTakeEffect :
    (∃ (s : State) (t : State) (u : State) (p : Fin 2) (k : Fin 9) (uncorr : Nat) (missing : Nat), s.bit (Reg.LANE_LSTAT p k) Fld.LANE_LSTAT_ALIGNED = true ∧ ((s.setFld (Reg.LANE_LSTAT p k) Fld.LANE_LSTAT_ALIGNED 0).setLane p k { s.lane p k with lostAt := s.tick }).raise 0x3003 (laneUnit p k) = t ∧ t.pst p = 2 ∧ (t.carries p k).isSome = true ∧ (t.abandonRx p).setPst p 3 = u ∧ (u.setPort p { u.port p with stallAt := s.tick }).lstate p = 2 ∧ (8 ≤ uncorr ∨ 2 ≤ missing)) ∧
    (∃ (s : State) (p : Fin 2) (k : Fin 8) (q : Nat), s.pst p = 3 ∧ (s.pmap (Reg.LANE_PMAP_RX p) k ≠ 0xF) ∧ s.bit (Reg.LANE_LSTAT p (s.pmap (Reg.LANE_PMAP_RX p) k)) Fld.LANE_LSTAT_ALIGNED = false ∧ (s.lane p (s.pmap (Reg.LANE_PMAP_RX p) k)).lostAt + (if s.fld (Reg.LANE_PCTL p) Fld.LANE_PCTL_RATE = 1 then 25770 else 51540) ≤ s.tick ∧ (s.port p).emergency = none ∧ s.reliefLane p true = some q ∧ s.bit (Reg.LANE_LSTAT p q) Fld.LANE_LSTAT_ALIGNED = true) ∧
    (∃ (s : State) (p : Fin 2), s.pst p = 3 ∧ (s.port p).emergency = none ∧ s.allAligned p = true) ∧
    (∃ (s : State) (t : State) (p : Fin 2) (b : BackObs) (k : Fin 8), s.backTaken p b = true ∧ s.setPort p { s.port p with backSeen := true } = t ∧ t.reliefPossible p k false = true) ∧
    (∃ (s : State) (p : Fin 2) (k : Fin 8) (q : Nat) (h : BitVec 20), s.reliefLane p true = some q ∧ s.pst p = 2 ∧ (s.port p).rxRelief = some k.val ∧ (s.pmap (Reg.LANE_PMAP_RX p) k ≠ 0xF) ∧ hdrType h.toNat = 1 ∧ hdrCmd h.toNat = 2 ∧ hdrArg h.toNat = k ∧ hdrLane h.toNat = k) ∧
    (∃ (s : State) (p : Fin 2) (k : Fin 8) (q : Nat) (h : BitVec 20), s.reliefLane p true = some q ∧ s.pst p = 2 ∧ (s.port p).rxRelief = some k.val ∧ (s.pmap (Reg.LANE_PMAP_RX p) k ≠ 0xF) ∧ hdrType h.toNat = 1 ∧ hdrCmd h.toNat = 2 ∧ hdrArg h.toNat = k ∧ hdrLane h.toNat = k) ∧
    (∃ (s : State) (t : State) (u : State) (p : Fin 2) (b : BackObs) (k : Fin 8) (q : Nat), s.backTaken p b = true ∧ s.setPort p { s.port p with backSeen := true } = t ∧ t.reliefLane p false = some q ∧ (t.port p).txRelief = some k.val ∧ (t.setPmap (Reg.LANE_PMAP_TX p) k q).setFld (Reg.LANE_PSTAT p) Fld.LANE_PSTAT_RELIEF_TX 0xF = u) ∧
    (∃ (s : State) (t : State) (p : Fin 2) (b : BackObs) (k : Fin 8), s.backTaken p b = true ∧ s.setPort p { s.port p with backSeen := true } = t ∧ ((t.port p).emergency ≠ some k.val) ∧ (t.port p).rxRelief = some k.val) ∧
    (∃ (s : State) (t : State) (p : Fin 2) (b : BackObs) (k : Fin 8), s.backTaken p b = true ∧ s.setPort p { s.port p with backSeen := true } = t ∧ (t.port p).emergency = some k.val) ∧
    (∃ (s : State) (t : State) (p : Fin 2) (b : BackObs) (k : Fin 9), s.backTaken p b = true ∧ s.setPort p { s.port p with backSeen := true } = t ∧ t.portUp p = true ∧ t.isRetired p k = true) ∧
    (∃ (s : State) (r : Req) (p : Fin 2) (k : Fin 16), (s.grants r (Reg.LANE_CMD p)) ∧ s.reliefPossible p k true = true) ∧
    (∃ (s : State) (r : Req) (p : Fin 2) (k : Fin 16), (s.grants r (Reg.LANE_CMD p)) ∧ s.reliefPossible p k false = true) ∧
    (∃ (s : State) (r : Req) (p : Fin 2) (k : Fin 16), (s.grants r (Reg.LANE_CMD p)) ∧ s.portUp p = true ∧ (k.val < 9) ∧ s.isRetired p k = true) ∧
    (∃ (s : State) (r : Req) (p : Fin 2), (s.grants r (Reg.LANE_CMD p))) ∧
    (∃ (s : State) (r : Req) (p : Fin 2), (s.grants r (Reg.LANE_CMD p))) ∧
    (∃ (s : State) (p : Fin 2), (s.port p).beacon = true ∧ (s.port p).beaconAt = none) ∧
    (∃ (s : State) (t : State) (p : Fin 2) (k : Fin 9) (corrected : Nat) (uncorr : Nat), s.rxRuns p k = true ∧ ((s.count64 (Reg.LANE_CW_CNT p k) 65536).count64 (Reg.LANE_CORR_CNT p k) corrected).count (Reg.LANE_UNCORR_CNT p k) uncorr = t ∧ (corrected ≤ t.fld (Reg.LANE_THR p) Fld.LANE_THR_SER_LIMIT)) ∧
    (∃ (s : State) (t : State) (r : Req) (p : Fin 2) (v : Word), (s.grants r (Reg.LANE_ESCAN_CTL p)) ∧ getF (setF v Fld.LANE_ESCAN_CTL_START 1) Fld.LANE_ESCAN_CTL_START = 1 ∧ (s.entering r).plainWrite (Reg.LANE_ESCAN_CTL p) (setF v Fld.LANE_ESCAN_CTL_START 1) = t ∧ t.bit (Reg.LANE_ESCAN_CTL p) Fld.LANE_ESCAN_CTL_BUSY = false) ∧
    (∃ (s : State) (t : State) (p : Fin 2) (pts : List (List Nat)), s.bit (Reg.LANE_ESCAN_CTL p) Fld.LANE_ESCAN_CTL_BUSY = true ∧ s.scanOver p pts = true ∧ (s.port p).scanAuto = false ∧ nine.foldl (fun (u : State) k => if (s.port p).scan.testBit k then u.endScan p k false pts else u) s = t) ∧
    (∃ (s : State) (t : State) (p : Fin 2), getF (s.rd (Reg.LANE_PCTL p)) Fld.LANE_PCTL_ESC_AUTO = 1 ∧ s.portUp p = true ∧ ((s.port p).autoScanAt + msTicks (16 * 2 ^ getF (s.rd (Reg.LANE_PCTL p)) Fld.LANE_PCTL_MON_PERIOD) ≤ s.tick) ∧ s.setPort p { s.port p with autoScanAt := s.tick } = t ∧ t.bit (Reg.LANE_ESCAN_CTL p) Fld.LANE_ESCAN_CTL_BUSY = false) :=
  ⟨⟨tr.setFld (Reg.LANE_LSTAT 0 3) Fld.LANE_LSTAT_ALIGNED 1, _, _, 0, 3, 8, 0, by decide +kernel, rfl, by decide +kernel, by decide +kernel, rfl, by decide +kernel, by decide +kernel⟩,
   ⟨(tr.setPst 0 3).setFld (Reg.LANE_LSTAT 0 8) Fld.LANE_LSTAT_ALIGNED 1, 0, 3, 8, by decide +kernel, by decide +kernel, by decide +kernel, by decide +kernel, by decide +kernel, by decide +kernel, by decide +kernel⟩,
   ⟨(nine.foldl (fun (t : State) k => t.setFld (Reg.LANE_LSTAT 0 k) Fld.LANE_LSTAT_ALIGNED 1) up).setPst 0 3, 0, by decide +kernel, by decide +kernel, by decide +kernel⟩,
   ⟨tr, _, 0, ⟨4, true⟩, 3, by decide +kernel, rfl, by decide +kernel⟩,
   ⟨tr.setPort 0 { rxRelief := some 3 }, 0, 3, 8, BitVec.ofNat 20 (laneHeader 1 2 3 3 0), by decide +kernel, by decide +kernel, by decide +kernel, by decide +kernel, by decide +kernel, by decide +kernel, by decide +kernel, by decide +kernel⟩,
   ⟨tr.setPort 0 { rxRelief := some 3 }, 0, 3, 8, BitVec.ofNat 20 (laneHeader 1 2 3 3 0), by decide +kernel, by decide +kernel, by decide +kernel, by decide +kernel, by decide +kernel, by decide +kernel, by decide +kernel, by decide +kernel⟩,
   ⟨tr.setPort 0 { txRelief := some 3 }, _, _, 0, ⟨4, true⟩, 3, 8, by decide +kernel, rfl, by decide +kernel, by decide +kernel, rfl⟩,
   ⟨up.setPort 0 { rxRelief := some 3 }, _, 0, ⟨4, false⟩, 3, by decide +kernel, rfl, by decide +kernel, by decide +kernel⟩,
   ⟨up.setPort 0 { emergency := some 3 }, _, 0, ⟨4, true⟩, 3, by decide +kernel, rfl, by decide +kernel⟩,
   ⟨tr.setLst 0 3 9, _, 0, ⟨5, true⟩, 3, by decide +kernel, rfl, by decide +kernel, by decide +kernel⟩,
   ⟨tr, mg, 0, 3, by unfold State.grants; decide +kernel, by decide +kernel⟩,
   ⟨tr, mg, 0, 3, by unfold State.grants; decide +kernel, by decide +kernel⟩,
   ⟨tr.setLst 0 3 9, mg, 0, 3, by unfold State.grants; decide +kernel, by decide +kernel, by decide +kernel, by decide +kernel⟩,
   ⟨up, mg, 0, by unfold State.grants; decide +kernel⟩,
   ⟨up, mg, 0, by unfold State.grants; decide +kernel⟩,
   ⟨up.setPort 0 { beacon := true }, 0, by decide +kernel, by decide +kernel⟩,
   ⟨up.setLst 0 3 7, _, 0, 3, 0, 0, by decide +kernel, rfl, by decide +kernel⟩,
   ⟨up, _, mg, 0, 0, by unfold State.grants; decide +kernel, by decide +kernel, rfl, by decide +kernel⟩,
   ⟨(up.setFld (Reg.LANE_ESCAN_CTL 0) Fld.LANE_ESCAN_CTL_BUSY 1).setPort 0 { scan := 1 }, _, 0, List.replicate 108 (List.replicate 126 0), by decide +kernel, by decide +kernel, by decide +kernel, rfl⟩,
   ⟨(up.setPst 0 2).setFld (Reg.LANE_PCTL 0) Fld.LANE_PCTL_ESC_AUTO 1, _, 0, by decide +kernel, by decide +kernel, by decide +kernel, rfl, by decide +kernel⟩⟩

theorem witness_LinkPacketsAndNegotiationTakeEffect :
    (∃ (s : State) (t : State) (p : Fin 2) (h : RxHdr) (aseq : BitVec 8) (cred : BitVec 16), upStates (s.lstate p) = true ∧ (s.sees p h) ∧ (s.heard p).acknowledge p aseq.toNat = t) ∧
    (∃ (s : State) (p : Fin 2) (h : RxHdr) (aseq : BitVec 8), upStates (s.lstate p) = true ∧ (s.sees p h)) ∧
    (∃ (s : State) (p : Fin 2), upStates (s.lstate p) = true ∧ (s.pst p ≠ 3) ∧ ((s.link p).unacked ≠ []) ∧ ((s.link p).progressAt + usTicks 8 ≤ s.tick)) ∧
    (∃ (s : State) (p : Fin 2) (h : RxHdr) (pay : NegPay), s.lstate p = 1 ∧ (s.inOrder p h) ∧ (s.tookBk p h 2 false).lstate p = 1) ∧
    (∃ (s : State) (t : State) (p : Fin 2) (h : RxHdr) (pay : NegPay), s.lstate p = 1 ∧ (s.inOrder p h) ∧ s.tookBk p h 2 false = t ∧ t.lstate p = 1) ∧
    (∃ (s : State) (t : State) (p : Fin 2) (h : RxHdr) (reason : BitVec 8), s.lstate p = 1 ∧ (s.inOrder p h) ∧ s.tookBk p h 2 false = t ∧ t.lstate p = 1) ∧
    (∃ (s : State) (p : Fin 2), s.lstate p = 1 ∧ (s.link p).peerOffer = none ∧ ((s.link p).offerAt + usTicks 100 ≤ s.tick)) ∧
    (∃ (s : State) (p : Fin 2), s.lstate p = 1 ∧ ((s.link p).negAt + msTicks 10 ≤ s.tick)) ∧
    (∃ (s : State) (r : Req) (p : Fin 2) (v : Word), (s.grants r (Reg.LINK_CTL p)) ∧ getF (setF v Fld.LINK_CTL_RENEG 1) Fld.LINK_CTL_RENEG = 1) ∧
    (∃ (s : State) (t : State) (r : Req) (v : Word), (s.grants r Reg.LINK_DH_CTL) ∧ getF (setF v Fld.LINK_DH_CTL_SWITCH 1) Fld.LINK_DH_CTL_SWITCH = 1 ∧ s.dh.failover = none ∧ (s.entering r).plainWrite Reg.LINK_DH_CTL (setF v Fld.LINK_DH_CTL_SWITCH 1) = t ∧ (s.entering r).wouldChange Reg.LINK_DH_CTL (setF v Fld.LINK_DH_CTL_SWITCH 1) Fld.LINK_DH_CTL_MODE = false ∧ (s.entering r).wouldChange Reg.LINK_DH_CTL (setF v Fld.LINK_DH_CTL_SWITCH 1) Fld.LINK_DH_CTL_ACTIVE_B = false) ∧
    (∃ (s : State) (p : Fin 2), s.lstate p = 3 ∧ s.bit Reg.LINK_DH_CTL Fld.LINK_DH_CTL_FO_EN = true ∧ s.linkUp (1 - p.val) = true ∧ ((s.port p).stallAt + usTicks (s.failoverStallUs p) < s.tick)) :=
  ⟨⟨up, _, 0, hd, 0, 5, by decide +kernel, by unfold State.sees; decide +kernel, rfl⟩,
   ⟨up, 0, hd, 0, by decide +kernel, by unfold State.sees; decide +kernel⟩,
   ⟨up.setLink 0 { unacked := [⟨2, 0x12, 1, 0, 0, [0, 0]⟩] }, 0, by decide +kernel, by decide +kernel, by decide +kernel, by decide +kernel⟩,
   ⟨up.setFld (Reg.LINK_STATUS 0) Fld.LINK_STATUS_LSTATE 1, 0, hd, ⟨2, 8, 1, 3, 1, 4096⟩, by decide +kernel, by unfold State.inOrder State.sees; decide +kernel, by decide +kernel⟩,
   ⟨up.setFld (Reg.LINK_STATUS 0) Fld.LINK_STATUS_LSTATE 1, _, 0, hd, ⟨2, 8, 1, 3, 1, 4096⟩, by decide +kernel, by unfold State.inOrder State.sees; decide +kernel, rfl, by decide +kernel⟩,
   ⟨up.setFld (Reg.LINK_STATUS 0) Fld.LINK_STATUS_LSTATE 1, _, 0, hd, 1, by decide +kernel, by unfold State.inOrder State.sees; decide +kernel, rfl, by decide +kernel⟩,
   ⟨up.setFld (Reg.LINK_STATUS 0) Fld.LINK_STATUS_LSTATE 1, 0, by decide +kernel, by decide +kernel, by decide +kernel⟩,
   ⟨up.setFld (Reg.LINK_STATUS 0) Fld.LINK_STATUS_LSTATE 1, 0, by decide +kernel, by decide +kernel⟩,
   ⟨up, mg, 0, 0, by unfold State.grants; decide +kernel, by decide +kernel⟩,
   ⟨up.setFld Reg.LINK_DH_CTL Fld.LINK_DH_CTL_MODE 1, _, mg, up.rd Reg.LINK_DH_CTL ||| 1, by unfold State.grants; decide +kernel, by decide +kernel, by decide +kernel, rfl, by decide +kernel, by decide +kernel⟩,
   ⟨((up.setFld (Reg.LINK_STATUS 0) Fld.LINK_STATUS_LSTATE 3).setFld Reg.LINK_DH_CTL Fld.LINK_DH_CTL_FO_EN 1).setFld Reg.LINK_DH_CTL Fld.LINK_DH_CTL_MODE 1, 0, by decide +kernel, by decide +kernel, by decide +kernel, by decide +kernel⟩⟩

theorem witness_HostRequestsAreAnswered :
    (∃ (s : State) (p : Fin 2) (h : RxHdr) (tag : BitVec 8) (ch : BitVec 8) (addr : BitVec 64) (data : List Byte), s.lstate p = 2 ∧ (s.inOrder p h) ∧ (s.tookBk p h (1 + (data.length + 15) / 16) true).hostBlockCause addr.toNat data.length = 0) ∧
    (∃ (s : State) (p : Fin 2) (h : RxHdr) (tag : BitVec 8) (flush : Bool) (nblk : BitVec 7) (addr : BitVec 64), s.lstate p = 2 ∧ (s.inOrder p h) ∧ (s.tookBk p h 1 true).hostBlockCause addr.toNat (64 * nblk.toNat) = 0 ∧ ((s.tookBk p h 1 true).winRead addr.toNat (64 * nblk.toNat)).1 = 0) ∧
    (∃ (s : State) (p : Fin 2) (h : RxHdr) (tag : BitVec 8) (status : BitVec 4) (last : Bool) (offs : BitVec 7) (data : List Byte), s.lstate p = 2 ∧ (s.inOrder p h) ∧ ((s.tookBk p h (1 + (data.length + 15) / 16) false).fld (Reg.LINK_NEG_RES p) Fld.LINK_NEG_RES_FEAT).testBit 6 = true) ∧
    (∃ (s : State) (p : Fin 2) (h : RxHdr) (chan : Fin 32) (tag : BitVec 8) (words : List Word), s.lstate p = 2 ∧ (s.inOrder p h) ∧ (chan.val < 24)) :=
  ⟨⟨up, 0, hd, 9, 0, 0x10000000, List.replicate 64 7, by decide +kernel, by unfold State.inOrder State.sees; decide +kernel, by decide +kernel⟩,
   ⟨up, 0, hd, 9, false, 1, 0x10000000, by decide +kernel, by unfold State.inOrder State.sees; decide +kernel, by decide +kernel, by decide +kernel⟩,
   ⟨up, 0, hd, 9, 0, true, 0, List.replicate 64 7, by decide +kernel, by unfold State.inOrder State.sees; decide +kernel, by decide +kernel⟩,
   ⟨up, 0, hd, 8, 9, List.replicate 16 7, by decide +kernel, by unfold State.inOrder State.sees; decide +kernel, by decide +kernel⟩⟩

theorem witness_TimeCommandsTakeEffect :
    (∃ (s : State) (t : State) (p : Fin 2) (h : RxHdr) (tseq : BitVec 16), (s.takesRt p h 6 0) ∧ s.tookRt p h 6 = t ∧ s.tclk = true ∧ (s.link p).exch = none) ∧
    (∃ (s : State) (p : Fin 2) (due : Nat) (tseq : Nat) (t2 : Nat), s.tclk = true ∧ (s.link p).exch = some (due, tseq, t2) ∧ (due ≤ s.tick)) ∧
    (∃ (s : State) (r : Req) (x : Fin 2) (w0 : Word) (w1 : Word) (w2 : Word) (w3 : Word), (s.grants r (Reg.TD_OFFSET x))) ∧
    (∃ (s : State) (r : Req) (x : Fin 2) (v : DWord), (s.grants r (Reg.TD_STEP x))) ∧
    (∃ (s : State) (r : Req) (x : Fin 2) (v : DWord), (s.grants r (Reg.TD_INC x))) ∧
    (∃ (s : State) (r : Req) (v : Word), (s.grants r Reg.TIME_CTL) ∧ getF v Fld.TIME_CTL_PPSO_EN = 0) ∧
    (∃ (s : State) (r : Req) (v : Word), (s.grants r Reg.TIME_CTL) ∧ getF v Fld.TIME_CTL_PPSO_EN = 1) ∧
    (∃ (s : State), s.time.trans = 0 ∧ s.bit Reg.TIME_STATUS Fld.TIME_STATUS_SLEWING = true) ∧
    (∃ (s : State) (t : State), s.tclk = true ∧ ((∀ b, s.time.ppsAt = some b → 491520000 ≤ (s.tb + 2 ^ 64 - b) % 2 ^ 64)) ∧ ((((s.wrTime (Reg.TIME_PPSIN 0) (s.dom 0)).wrTime (Reg.TIME_PPSIN 1) (s.dom 1)).wr64 Reg.TIME_PPSIN_TB s.tb).setFld
      Reg.TIME_STATUS Fld.TIME_STATUS_PPSIN_LOST 0) = t) ∧
    (∃ (s : State) (b : Nat), s.tclk = true ∧ s.bit Reg.TIME_STATUS Fld.TIME_STATUS_PPSIN_LOST = false ∧ s.time.ppsAt = some b ∧ (1081344000 ≤ (s.tb + 2 ^ 64 - b) % 2 ^ 64)) ∧
    (∃ (s : State), s.tclk = true ∧ s.bit Reg.TIME_CTL Fld.TIME_CTL_PPSO_EN = true ∧ s.time.ppsDue.any (fun d => decide (d ≤ s.tick)) = true) ∧
    (∃ (s : State), s.time.ppsOut = true ∧ (s.time.ppsFallAt ≤ s.tick)) :=
  ⟨⟨up, _, 0, hd, 7, ⟨by decide +kernel, by unfold State.sees; decide +kernel, trivial, by decide +kernel⟩, rfl, by decide +kernel, by decide +kernel⟩,
   ⟨up.setLink 0 { up.link 0 with exch := some (5, 7, 9) }, 0, 5, 7, 9, by decide +kernel, by decide +kernel, by decide +kernel⟩,
   ⟨up, mg, 0, 1, 2, 3, 4, by unfold State.grants; decide +kernel⟩,
   ⟨up, mg, 0, 5, by unfold State.grants; decide +kernel⟩,
   ⟨up, mg, 0, 0x01046AAAAAAB, by unfold State.grants; decide +kernel⟩,
   ⟨up, mg, 0, by unfold State.grants; decide +kernel, by decide +kernel⟩,
   ⟨up.setFld Reg.TIME_CTL Fld.TIME_CTL_PPSO_EN 0, mg, BitVec.ofNat 32 (1 <<< Fld.TIME_CTL_PPSO_EN.lsb), by unfold State.grants; decide +kernel, by decide +kernel⟩,
   ⟨up.setFld Reg.TIME_STATUS Fld.TIME_STATUS_SLEWING 1, by decide +kernel, by decide +kernel⟩,
   ⟨up, _, by decide +kernel, (by have e : up.time.ppsAt = none := (by decide +kernel); intro b h; rw [e] at h; cases h), rfl⟩,
   ⟨(up.setFld Reg.TIME_STATUS Fld.TIME_STATUS_PPSIN_LOST 0) |> (fun (s : State) => { s with time := { ppsAt := some 7 } }), 7, by decide +kernel, by decide +kernel, by decide +kernel, by decide +kernel⟩,
   ⟨(up.setFld Reg.TIME_CTL Fld.TIME_CTL_PPSO_EN 1) |> (fun (s : State) => { s with time := { ppsDue := [7] } }), by decide +kernel, by decide +kernel, by decide +kernel⟩,
   ⟨{ up with time := { ppsOut := true } }, by decide +kernel, by decide +kernel⟩⟩

theorem witness_LayerPacketsAreTaken :
    (∃ (s : State) (p : Fin 2) (h : RxHdr) (descs : List (BitVec 128)), (s.takesRt p h 5 3)) ∧
    (∃ (t : State) (p : Nat) (d : Nat) (x : Section), x = t.sectionOf p d false ∧ t.secMode p d = false ∧ t.secBad p d = false ∧ (thUs (t.secWindow (SecF.carrier d) (SecF.dir d)).1 ≤ t.secAir x - t.nowTh) ∧ (t.secAir x - t.nowTh ≤ thUs (t.secWindow (SecF.carrier d) (SecF.dir d)).2) ∧ t.sections.find? (t.namesake x) = none ∧ ((t.sections.filter (fun y => !t.namesake x y)).filter (fun y => !y.standby)).any (t.secOverlap x) = false ∧ tooMany x ((t.sections.filter (fun y => !t.namesake x y)).filter (fun y => !y.standby)) = false ∧ ((t.sections.filter (fun y => !t.namesake x y)).filter t.secLive).length < 16384) ∧
    (∃ (s : State) (t : State) (p : Fin 2) (h : RxHdr) (car : Fin 8) (sym : BitVec 4) (slot : BitVec 10) (secid : BitVec 12) (poff : BitVec 11) (pcnt : BitVec 11) (cw : BitVec 4) (ant : Bool) (stream : BitVec 7) (data : List Byte) (d : DlData), (s.takesRt p h 1 (s.dlNeed car ant)) ∧ (s.tookRt p h 1).pmuCount (40 + p) 0x02 (1 + data.length / 16) = t ∧ s.comp p cw.toNat = true ∧ t.servePort car = p ∧ d = { car := car, frame := t.resolveFrame car (slot.toNat * 14 + sym.toNat) t.nowTh, slot := slot.toNat, sym := sym.toNat, secid := secid.toNat, poff := poff.toNat, pcnt := pcnt.toNat, cw := cw.toNat, ant := ant, stream := stream.toNat, port := p, standby := false, held := true, data := data.map (·.toNat), lateT := t.dataLate car slot.toNat sym.toNat } ∧ (slot.toNat < t.carSlots car) ∧ (sym.toNat < 14) ∧ (thUs (Nat.max 35 (t.fld (Reg.CAR_DL_WIN car) Fld.CAR_DL_WIN_DL_LATE)) ≤ t.airTime car d.frame (slot.toNat * 14 + sym.toNat) - t.nowTh) ∧ (t.airTime car d.frame (slot.toNat * 14 + sym.toNat) - t.nowTh ≤ thUs (t.fld (Reg.CAR_DL_WIN car) Fld.CAR_DL_WIN_DL_EARLY)) ∧ ((∀ x, t.sections.find? (fun x => x.owns d) = some x → t.dataFits x d = true)) ∧ t.dl.any (dataDup d) = false ∧ (t.dlBytes + data.length ≤ 16777216)) ∧
    (∃ (s : State) (c : Fin 8) (gone : DlData → Bool), gone = (fun d => d.held && d.car == c.val && decide (d.lateT ≤ s.nowTh)) ∧ (s.dl.filter gone ≠ [])) :=
  ⟨⟨up, 0, hd, [secW], ⟨by decide +kernel, by unfold State.sees; decide +kernel, trivial, by decide +kernel⟩⟩,
   ⟨up, 0, secW.toNat, _, rfl, by decide +kernel, by decide +kernel, by decide +kernel, by decide +kernel, by decide +kernel, by decide +kernel, by decide +kernel, by decide +kernel⟩,
   ⟨up, _, 0, hd, 0, 6, 5, 1, 0, 1, 0, false, 0, [], _, ⟨by decide +kernel, by unfold State.sees; decide +kernel, trivial, by decide +kernel⟩, rfl, by decide +kernel, by decide +kernel, rfl, by decide +kernel, by decide +kernel, by decide +kernel, by decide +kernel, by decide +kernel, by decide +kernel, by decide +kernel⟩,
   ⟨{ up with dl := [dlW] }, 0, _, rfl, by decide +kernel⟩⟩

theorem witness_SymbolsAreReadAndDelivered :
    (∃ (s : State) (c : Fin 8) (f : Int) (n : Nat), s.symbolAt c (s.nowTh + thUs 34) = (f, n) ∧ ((∀ d, (s.car c).dlDone = some d → d < symIndex f n)) ∧ s.clkOn Fld.SYS_CLK_STATUS_FCLK = true) ∧
    (∃ (s : State) (t : State) (c : Fin 8) (f : Int) (n : Nat) (m0 : Int), s.symbolAt c (s.nowTh + thUs 34) = (f, n) ∧ ((∀ d, (s.car c).dlDone = some d → d < symIndex f n)) ∧ s.clkOn Fld.SYS_CLK_STATUS_FCLK = true ∧ ¬(getF (s.symVal (Reg.CAR_CTL c) (s.airTime c f n)) Fld.CAR_CTL_DL_EN = 1 ∧ getF (s.symVal (Reg.CAR_STATUS c) (s.airTime c f n)) Fld.CAR_STATUS_TOFF = 0) ∧ (s.car c).frame0 = some (f, m0) ∧ (s.setCar c { s.car c with frame0 := some (f, m0) }).readSymbol c f n [] = t) ∧
    (∃ (s : State) (c : Fin 8) (inp : RxIn) (fc : Int) (f : Int) (nc : Nat) (n : Nat), s.symbolAt c (s.nowTh - thNs 4200) = (fc, nc) ∧ (f, n) = (if nc = 0 then (fc - 1, 140 * 2 ^ s.carMu c - 1) else (fc, nc - 1)) ∧ ((∀ d, (s.car c).ulDone = some d → d < symIndex f n)) ∧ s.clkOn Fld.SYS_CLK_STATUS_FCLK = true) ∧
    (∃ (s : State) (s' : State) (t : State) (p : Fin 2) (u : UlPkt), s.formNext p = s' ∧ s'.ulq.find? (fun v => v.ports.testBit p) = some u ∧ s'.linkUp p = true ∧ s'.sendRt p u.type u.len u.tspec u.body = t) ∧
    (∃ (s : State) (t : State) (path : Fin 64), ((∀ e ∈ s.rxZero, e.1 ≠ 8 * path.val + 1 ∧ e.1 ≠ 8 * path.val + 2 ∧ e.1 ≠ 8 * path.val + 4)) ∧ kvGet (fun _ => 0) s.sb.wokeRx path ≤ s.tick ∧ { s with ovrs := s.ovrs.filter (fun e => decide (s.nowTh < e.2 + thUs 20000)) ++ [(path.val, s.nowTh - ovrBlock)] } = t) ∧
    (∃ (s : State) (r : Req) (v : Word), (s.grants r Reg.BEAM_SS_CLR) ∧ s.ssBusy (getF v Fld.BEAM_SS_CLR_SET) = false) ∧
    (∃ (s : State) (r : Req) (v : Word) (pre : List SrsPend) (post : List SrsPend) (x : SrsPend), (s.grants r Reg.BEAM_SS_CLR) ∧ s.srs = pre ++ x :: post ∧ x.set = getF v Fld.BEAM_SS_CLR_SET ∧ (x.endT + thNs 12200 ≤ s.nowTh) ∧ ((∀ y ∈ post, ¬(y.set = x.set ∧ y.endT + thNs 12200 ≤ s.nowTh)))) ∧
    (∃ (s : State) (t : State) (x : SrsPend) (rest : List SrsPend), s.srs = x :: rest ∧ (x.endT + thNs 32200 ≤ s.nowTh) ∧ ({ s with srs := rest } : State).accumulate x = t) :=
  ⟨⟨up, 0, _, _, rfl, (by have e : (up.car 0).dlDone = none := (by decide +kernel); intro d h; exact absurd (e.symm.trans h) (by simp)), by decide +kernel⟩,
   ⟨up.setCar 0 { up.car 0 with frame0 := some (101725, 0) }, _, 0, 101725, _, 0, rfl, (by have e : ((up.setCar 0 { up.car 0 with frame0 := some (101725, 0) }).car 0).dlDone = none := (by decide +kernel); intro d h; exact absurd (e.symm.trans h) (by simp)), by decide +kernel, by decide +kernel, by decide +kernel, rfl⟩,
   ⟨up, 0, .adc [], _, _, _, _, rfl, rfl, (by have e : (up.car 0).ulDone = none := (by decide +kernel); intro d h; exact absurd (e.symm.trans h) (by simp)), by decide +kernel⟩,
   ⟨{ up with ulq := [⟨1, 0, 1, 1, 0, [0]⟩] }, _, _, 0, ⟨1, 0, 1, 1, 0, [0]⟩, rfl, by decide +kernel, by decide +kernel, rfl⟩,
   ⟨up, _, 3, by decide +kernel, by decide +kernel, rfl⟩,
   ⟨up, mg, 1, by unfold State.grants; decide +kernel, by decide +kernel⟩,
   ⟨{ up with srs := [⟨1, 0, [], 0, [], false⟩] }, mg, 1, [], [], ⟨1, 0, [], 0, [], false⟩, by unfold State.grants; decide +kernel, by decide +kernel, by decide +kernel, by decide +kernel, by decide +kernel⟩,
   ⟨{ up with srs := [⟨1, 0, [], 0, [], true⟩] }, _, ⟨1, 0, [], 0, [], true⟩, [], by decide +kernel, by decide +kernel, rfl⟩⟩

theorem witness_BankSwapsTakeEffect :
    (∃ (s : State) (u : State) (res : Fin 7) (idx : Fin 128) (w : SwapPend), s.findSwap res idx = some w ∧ w.deferred = false ∧ (w.bound - roleLead w.res ≤ s.nowTh) ∧ s.swapDma w.res w.idx = false ∧ s.roleChange w = u) ∧
    (∃ (s : State) (res : Fin 7) (idx : Fin 128) (w : SwapPend), s.findSwap res idx = some w ∧ w.deferred = false ∧ (w.bound - roleLead w.res ≤ s.nowTh) ∧ s.swapDma w.res w.idx = true) ∧
    (∃ (s : State) (res : Fin 7) (idx : Fin 128) (w : SwapPend), s.findSwap res idx = some w ∧ w.deferred = true ∧ (w.bound - roleLead w.res ≤ s.nowTh)) ∧
    (∃ (s : State) (res : Fin 7) (h : Fin 256), (res.val = 1 ∨ res.val = 2) ∧ s.bit (Reg.BEAM_CW_STAT (res.val - 1) h) Fld.BEAM_CW_STAT_OLD_BUSY = true ∧ ((s.cw (res.val - 1) h).oldUntil ≤ s.nowTh)) ∧
    (∃ (s : State) (res : Fin 7) (idx : Fin 256) (o : OldBank), (res.val ≠ 1) ∧ (res.val ≠ 2) ∧ s.olds = [o] ∧ o.res = res.val ∧ o.idx = idx.val ∧ (o.until_ ≤ s.nowTh)) ∧
    (∃ (s : State) (t : State) (u : State) (r : Req) (v : Word), (s.grants r Reg.BEAM_SWAPREQ) ∧ getF v Fld.BEAM_SWAPREQ_REQ = 1 ∧ (getF v Fld.BEAM_SWAPREQ_RES ∈ [1, 2, 4, 5, 6]) ∧ (s.entering r).plainWrite Reg.BEAM_SWAPREQ v = t ∧ t.requestSwap (getF v Fld.BEAM_SWAPREQ_RES) (getF v Fld.BEAM_SWAPREQ_IDX) (getF v Fld.BEAM_SWAPREQ_BND) (getF v Fld.BEAM_SWAPREQ_CARRIER)
      (t.rd64 Reg.BEAM_SWAPT) t.nowTh none = (0, u)) ∧
    (∃ (s : State) (t : State) (u : State) (r : Req) (v : Word) (code : Nat), (s.grants r Reg.BEAM_SWAPREQ) ∧ getF v Fld.BEAM_SWAPREQ_REQ = 1 ∧ (getF v Fld.BEAM_SWAPREQ_RES ∈ [1, 2, 4, 5, 6]) ∧ (s.entering r).plainWrite Reg.BEAM_SWAPREQ v = t ∧ (code ≠ 0) ∧ t.requestSwap (getF v Fld.BEAM_SWAPREQ_RES) (getF v Fld.BEAM_SWAPREQ_IDX) (getF v Fld.BEAM_SWAPREQ_BND) (getF v Fld.BEAM_SWAPREQ_CARRIER)
      (t.rd64 Reg.BEAM_SWAPT) t.nowTh none = (code, u)) ∧
    (∃ (s : State) (t : State) (u : State) (r : Req) (v : Word), (s.grants r Reg.DPD_SWAPREQ) ∧ getF v Fld.DPD_SWAPREQ_REQ = 1 ∧ (s.entering r).plainWrite Reg.DPD_SWAPREQ v = t ∧ t.requestSwap 3 (getF v Fld.DPD_SWAPREQ_IDX) (getF v Fld.DPD_SWAPREQ_BND) (getF v Fld.DPD_SWAPREQ_CARRIER)
      (t.rd64 Reg.DPD_SWAPT) t.nowTh none = (0, u)) ∧
    (∃ (s : State) (t : State) (u : State) (r : Req) (e : Fin 5) (v : Word), (s.grants r (Reg.SB_SWAPREQ e)) ∧ s.sbShadows e = false ∧ getF v Fld.SB_SWAPREQ_REQ = 1 ∧ (s.entering r).plainWrite (Reg.SB_SWAPREQ e) v = t ∧ t.requestSwap 0 e (getF v Fld.SB_SWAPREQ_BND) (getF v Fld.SB_SWAPREQ_CARRIER) (t.rd64 (Reg.SB_SWAPT e)) t.nowTh none = (0, u)) ∧
    (∃ (s : State) (t : State) (r : Req) (v : Word) (dir : Nat) (h : Nat) (f : Th), (s.grants r Reg.BEAM_CW_ARM) ∧ getF v Fld.BEAM_CW_ARM_CANCEL = 0 ∧ dir = getF v Fld.BEAM_CW_ARM_DIR ∧ h = getF v Fld.BEAM_CW_ARM_HANDLE ∧ (s.entering r).cwMiss dir h (s.entering r).nowTh = t ∧ t.swapPending (dir + 1) 0 = false ∧ (getF v Fld.BEAM_CW_ARM_SLOT < t.carSlots (getF v Fld.BEAM_CW_ARM_CARRIER)) ∧ (getF v Fld.BEAM_CW_ARM_SYMBOL ≤ 13) ∧ f = ((s.entering r).nowTh + cwLead dir + 19660800 * 100000 -
      t.airTime (getF v Fld.BEAM_CW_ARM_CARRIER) 0 (getF v Fld.BEAM_CW_ARM_SLOT * 14 + getF v Fld.BEAM_CW_ARM_SYMBOL)) / (19660800 * 100000)) ∧
    (∃ (s : State) (t : State) (r : Req) (v : Word) (dir : Nat) (h : Nat), (s.grants r Reg.BEAM_CW_ARM) ∧ dir = getF v Fld.BEAM_CW_ARM_DIR ∧ h = getF v Fld.BEAM_CW_ARM_HANDLE ∧ (s.entering r).cwMiss dir h (s.entering r).nowTh = t) ∧
    (∃ (s : State) (t : State) (r : Req) (v : Word) (dir : Nat) (h : Nat), (s.grants r Reg.BEAM_CW_COMMIT) ∧ dir = getF v Fld.BEAM_CW_COMMIT_DIR ∧ h = getF v Fld.BEAM_CW_COMMIT_HANDLE ∧ (s.entering r).cwMiss dir h (s.entering r).nowTh = t ∧ getF (t.rd (Reg.BEAM_CW_STAT dir h)) Fld.BEAM_CW_STAT_COMMITTED = 0 ∧ t.swapPending (dir + 1) 0 = false) ∧
    (∃ (s : State) (dir : Fin 2) (h : Fin 256) (b : Th), (s.cw dir h).flipB = some b ∧ (b - cwLead dir ≤ s.nowTh) ∧ s.copyDma dir (1 - s.fld (Reg.BEAM_CW_STAT dir h) Fld.BEAM_CW_STAT_A) h = false) ∧
    (∃ (s : State) (dir : Fin 2) (h : Fin 256) (b : Th), (s.cw dir h).flipB = some b ∧ (b - cwLead dir ≤ s.nowTh) ∧ s.copyDma dir (1 - s.fld (Reg.BEAM_CW_STAT dir h) Fld.BEAM_CW_STAT_A) h = true) ∧
    (∃ (s : State) (dir : Fin 2) (h : Fin 256) (w : Word), s.rd (Reg.BEAM_CW_STAT dir h) = w ∧ getF w Fld.BEAM_CW_STAT_ARMED = 1 ∧ getF w Fld.BEAM_CW_STAT_COMMITTED = 0 ∧ ((s.cw dir h).armB - cwLead dir < s.nowTh)) :=
  ⟨⟨{ up with swaps := [⟨5, 0, 0, 0, 0, none, false⟩] }, _, 5, 0, ⟨5, 0, 0, 0, 0, none, false⟩, by decide +kernel, by decide +kernel, by decide +kernel, by decide +kernel, rfl⟩,
   ⟨dmaInto 0x21210400 { up with swaps := [⟨5, 0, 0, 0, 0, none, false⟩] }, 5, 0, ⟨5, 0, 0, 0, 0, none, false⟩, by decide +kernel, by decide +kernel, by decide +kernel, by decide +kernel⟩,
   ⟨{ up with swaps := [⟨5, 0, 0, 0, 0, none, true⟩] }, 5, 0, ⟨5, 0, 0, 0, 0, none, true⟩, by decide +kernel, by decide +kernel, by decide +kernel⟩,
   ⟨up.setFld (Reg.BEAM_CW_STAT 0 3) Fld.BEAM_CW_STAT_OLD_BUSY 1, 1, 3, by decide +kernel, by decide +kernel, by decide +kernel⟩,
   ⟨{ up with olds := [⟨5, 0, 0, 0, 0⟩] }, 5, 0, ⟨5, 0, 0, 0, 0⟩, by decide +kernel, by decide +kernel, by decide +kernel, by decide +kernel, by decide +kernel, by decide +kernel⟩,
   ⟨up, _, _, mg, BitVec.ofNat 32 ((1 <<< Fld.BEAM_SWAPREQ_REQ.lsb) + (5 <<< Fld.BEAM_SWAPREQ_RES.lsb)), by unfold State.grants; decide +kernel, by decide +kernel, by decide +kernel, rfl, rfl⟩,
   ⟨up, _, _, mg, BitVec.ofNat 32 ((1 <<< Fld.BEAM_SWAPREQ_REQ.lsb) + (5 <<< Fld.BEAM_SWAPREQ_RES.lsb) + (3 <<< Fld.BEAM_SWAPREQ_BND.lsb)), 7, by unfold State.grants; decide +kernel, by decide +kernel, by decide +kernel, rfl, by decide +kernel, rfl⟩,
   ⟨up, _, _, mg, BitVec.ofNat 32 (1 <<< Fld.DPD_SWAPREQ_REQ.lsb), by unfold State.grants; decide +kernel, by decide +kernel, rfl, rfl⟩,
   ⟨withProg, _, _, mg, 0, BitVec.ofNat 32 (1 <<< Fld.SB_SWAPREQ_REQ.lsb), by unfold State.grants; decide +kernel, by decide +kernel, by decide +kernel, rfl, rfl⟩,
   ⟨up, _, mg, 0, _, _, _, by unfold State.grants; decide +kernel, by decide +kernel, rfl, rfl, rfl, by decide +kernel, by decide +kernel, by decide +kernel, rfl⟩,
   ⟨up, _, mg, BitVec.ofNat 32 (1 <<< Fld.BEAM_CW_ARM_CANCEL.lsb), _, _, by unfold State.grants; decide +kernel, rfl, rfl, rfl⟩,
   ⟨up, _, mg, 0, _, _, by unfold State.grants; decide +kernel, rfl, rfl, rfl, by decide +kernel, by decide +kernel⟩,
   ⟨up.setCw 0 3 { up.cw 0 3 with flipB := some 0 }, 0, 3, 0, by decide +kernel, by decide +kernel, by decide +kernel⟩,
   ⟨dmaInto (weightBank 0 1 + 192) (up.setCw 0 3 { up.cw 0 3 with flipB := some 0 }), 0, 3, 0, by decide +kernel, by decide +kernel, by decide +kernel⟩,
   ⟨(up.setFld (Reg.BEAM_CW_STAT 0 3) Fld.BEAM_CW_STAT_ARMED 1), 0, 3, _, rfl, by decide +kernel, by decide +kernel, by decide +kernel⟩⟩

theorem witness_CarriersAndSlicesTakeEffect :
    (∃ (s : State) (path : Fin 64) (x : Ramp), s.ramp path = some x ∧ x.falling = true ∧ rampLevel x s.nowTh = 0) ∧
    (∃ (s : State) (r : Req) (path : Fin 64) (v : Word), (s.grants r (Reg.TXDP_MUTE path))) ∧
    (∃ (s : State) (t : State) (r : Req) (u : Fin 2) (v : Word) (new : Nat), (s.grants r (Reg.TXDP_SLICE_RELIEF u)) ∧ getF v Fld.TXDP_SLICE_RELIEF_RETIRE = 0 ∧ new = getF v Fld.TXDP_SLICE_RELIEF_TARGET ∧ (new < 64) ∧ s.bit (Reg.TXDP_SLICE_RELIEF u) Fld.TXDP_SLICE_RELIEF_TAKEN = false ∧ s.sliceSync u = none ∧ s.bit (Reg.TXDP_SLICE_RELIEF u) Fld.TXDP_SLICE_RELIEF_SYNCED = false ∧ s.bit (Reg.TXDP_SLICE_RELIEF u) Fld.TXDP_SLICE_RELIEF_BUSY = false ∧ s.sliceBad (s.sliceOf new) = false ∧ (s.entering r).plainWrite (Reg.TXDP_SLICE_RELIEF u) (setF v Fld.TXDP_SLICE_RELIEF_RETIRE 0) = t) ∧
    (∃ (s : State) (r : Req) (u : Fin 2) (v : Word), (s.grants r (Reg.TXDP_SLICE_RELIEF u)) ∧ s.bit (Reg.TXDP_SLICE_RELIEF u) Fld.TXDP_SLICE_RELIEF_SYNCED = true ∧ getF v Fld.TXDP_SLICE_RELIEF_TARGET = s.fld (Reg.TXDP_SLICE_RELIEF u) Fld.TXDP_SLICE_RELIEF_TARGET) ∧
    (∃ (s : State) (u : Fin 2) (x : SliceSync) (w : Word), s.sliceSync u = some x ∧ x.faulted = false ∧ s.rd (Reg.TXDP_SLICE_RELIEF u) = w ∧ getF w Fld.TXDP_SLICE_RELIEF_SYNCED = 0 ∧ (List.range 8).any s.carEnabled = true ∧ s.twoBoundaries x.bounds = true ∧ (x.at_ + syncRun ≤ s.nowTh)) ∧
    (∃ (s : State) (u : Fin 2) (x : SliceSync) (w : Word), s.sliceSync u = some x ∧ x.faulted = false ∧ s.rd (Reg.TXDP_SLICE_RELIEF u) = w ∧ getF w Fld.TXDP_SLICE_RELIEF_SYNCED = 0) ∧
    (∃ (s : State) (u : Fin 2) (x : SliceSync) (w : Word), s.sliceSync u = some x ∧ x.faulted = false ∧ s.rd (Reg.TXDP_SLICE_RELIEF u) = w ∧ getF w Fld.TXDP_SLICE_RELIEF_SYNCED = 1) ∧
    (∃ (s : State) (slice : Fin 66) (p : Nat) (u : Nat), s.sliceBad slice = false ∧ s.clkOn Fld.SYS_CLK_STATUS_FCLK = true ∧ s.pathOf slice = some p ∧ [0, 1].find? (fun u => s.bit (Reg.TXDP_SLICE_RELIEF u) Fld.TXDP_SLICE_RELIEF_SYNCED &&
      s.fld (Reg.TXDP_SLICE_RELIEF u) Fld.TXDP_SLICE_RELIEF_TARGET == p) = some u) ∧
    (∃ (s : State) (t : State) (slice : Fin 66) (p : Nat), s.sliceBad slice = false ∧ s.clkOn Fld.SYS_CLK_STATUS_FCLK = true ∧ s.pathOf slice = some p ∧ [0, 1].find? (fun u => s.bit (Reg.TXDP_SLICE_RELIEF u) Fld.TXDP_SLICE_RELIEF_SYNCED &&
      s.fld (Reg.TXDP_SLICE_RELIEF u) Fld.TXDP_SLICE_RELIEF_TARGET == p) = none ∧ ((s.markSlice slice).setFld (Reg.RXDP_OVR p) Fld.RXDP_OVR_SLICE 1).setZero p 3 true (s.nowTh - thNs 1100) = t ∧ ((∀ u ∈ [0, 1], t.fld (Reg.TXDP_SLICE_RELIEF u) Fld.TXDP_SLICE_RELIEF_TARGET ≠ p))) ∧
    (∃ (s : State) (u : Fin 2) (x : SliceSync) (p : Nat), s.sliceSync u = some x ∧ x.faulted = true ∧ s.twoBoundaries x.at_ = true ∧ p = s.fld (Reg.TXDP_SLICE_RELIEF u) Fld.TXDP_SLICE_RELIEF_TARGET) ∧
    (∃ (s : State) (t : State) (r : Req) (c : Fin 8) (v : Word) (new : Word), (s.grants r (Reg.CAR_CTL c)) ∧ (s.entering r).plainValue (Reg.CAR_CTL c) v = new ∧ s.carBusy c = false ∧ s.carValid c = true ∧ (s.rd (Reg.CAR_CTL c)).toNat % 4 = 0 ∧ (new.toNat % 4 ≠ 0) ∧ (s.entering r).symWrite2 (Reg.CAR_CTL c) new s.nowTh = t) ∧
    (∃ (s : State) (c : Nat), s.carEnabled c = true ∧ s.carBusy c = false) ∧
    (∃ (s : State) (t : State) (r : Req) (c : Fin 8) (v : Word) (new : Word), (s.grants r (Reg.CAR_CTL c)) ∧ (s.entering r).plainValue (Reg.CAR_CTL c) v = new ∧ s.carBusy c = false ∧ s.carValid c = false ∧ (s.rd (Reg.CAR_CTL c)).toNat % 4 = 0 ∧ (new.toNat % 4 ≠ 0) ∧ (s.entering r).symWrite2 (Reg.CAR_CTL c) (new &&& ~~~ BitVec.ofNat 32 (Nat.land (new.toNat % 4) 3)) s.nowTh = t) ∧
    (∃ (s : State) (c : Fin 8), s.carBusy c = true ∧ s.carEnabled c = false ∧ ((s.car c).dlEnd ≤ s.nowTh) ∧ ((s.car c).ulEnd ≤ s.nowTh) ∧ s.ulq.any (fun u => u.car == c.val && (u.type == 2 || u.type == 4)) = false ∧ s.ulJobs.any (fun j => j.car == c.val && (j.type == 2 || j.type == 4)) = false) :=
  ⟨⟨{ up with ramps := [(3, ⟨true, 0, 5, 9⟩)] }, 3, ⟨true, 0, 5, 9⟩, by decide +kernel, by decide +kernel, by decide +kernel⟩,
   ⟨(up.setFld (Reg.TXDP_MUTE 3) Fld.TXDP_MUTE_VSWR 1).setFld (Reg.TXDP_MUTE 3) Fld.TXDP_MUTE_MUTED 1, mg, 3, BitVec.ofNat 32 (1 <<< Fld.TXDP_MUTE_VSWR.lsb), by unfold State.grants; decide +kernel⟩,
   ⟨up, _, mg, 0, BitVec.ofNat 32 (5 <<< Fld.TXDP_SLICE_RELIEF_TARGET.lsb), _, by unfold State.grants; decide +kernel, by decide +kernel, rfl, by decide +kernel, by decide +kernel, by decide +kernel, by decide +kernel, by decide +kernel, by decide +kernel, rfl⟩,
   ⟨synced, mg, 0, BitVec.ofNat 32 (5 <<< Fld.TXDP_SLICE_RELIEF_TARGET.lsb), by unfold State.grants; decide +kernel, by decide +kernel, by decide +kernel⟩,
   ⟨(up.setFld (Reg.CAR_CTL 0) Fld.CAR_CTL_DL_EN 1).setSliceSync 0 (some ⟨0, 0, false⟩), 0, ⟨0, 0, false⟩, _, by decide +kernel, by decide +kernel, rfl, by decide +kernel, by decide +kernel, by decide +kernel, by decide +kernel⟩,
   ⟨up.setSliceSync 0 (some ⟨5, 0, false⟩), 0, ⟨5, 0, false⟩, _, by decide +kernel, by decide +kernel, rfl, by decide +kernel⟩,
   ⟨synced, 0, ⟨0, 0, false⟩, _, by decide +kernel, by decide +kernel, rfl, by decide +kernel⟩,
   ⟨synced, 5, 5, 0, by decide +kernel, by decide +kernel, by decide +kernel, by decide +kernel⟩,
   ⟨up, _, 5, 5, by decide +kernel, by decide +kernel, by decide +kernel, by decide +kernel, rfl, (by decide +kernel)⟩,
   ⟨synced.setSliceSync 0 (some ⟨0, 0, true⟩), 0, ⟨0, 0, true⟩, _, by decide +kernel, by decide +kernel, by decide +kernel, rfl⟩,
   ⟨up, _, mg, 0, 1, _, by unfold State.grants; decide +kernel, rfl, by decide +kernel, by decide +kernel, by decide +kernel, by decide +kernel, rfl⟩,
   ⟨up.setFld (Reg.CAR_CTL 0) Fld.CAR_CTL_DL_EN 1, 0, by decide +kernel, by decide +kernel⟩,
   ⟨up.setFld (Reg.CAR_CFG 0) Fld.CAR_CFG_NPRB 0, _, mg, 0, 1, _, by unfold State.grants; decide +kernel, rfl, by decide +kernel, by decide +kernel, by decide +kernel, by decide +kernel, rfl⟩,
   ⟨up.setFld (Reg.CAR_STATUS 0) Fld.CAR_STATUS_BUSY 1, 0, by decide +kernel, by decide +kernel, by decide +kernel, by decide +kernel, by decide +kernel, by decide +kernel⟩⟩

theorem witness_RandomAccessFailoverAndObservationTakeEffect :
    (∃ (s : State) (t : State) (r : Req) (j : Fin 4) (v : Word), (s.grants r (Reg.RXDP_PRACH_CTL j)) ∧ s.bit (Reg.RXDP_PRACH_CTL j) Fld.RXDP_PRACH_CTL_BUSY = false ∧ (s.entering r).plainWrite (Reg.RXDP_PRACH_CTL j) (setF v Fld.RXDP_PRACH_CTL_EN 1) = t ∧ s.bit (Reg.RXDP_PRACH_CTL j) Fld.RXDP_PRACH_CTL_EN = false ∧ t.prachValid j (t.rd (Reg.RXDP_PRACH_CTL j)) = true) ∧
    (∃ (s : State) (t : State) (r : Req) (j : Fin 4) (v : Word), (s.grants r (Reg.RXDP_PRACH_CTL j)) ∧ s.bit (Reg.RXDP_PRACH_CTL j) Fld.RXDP_PRACH_CTL_BUSY = false ∧ (s.entering r).plainWrite (Reg.RXDP_PRACH_CTL j) (setF v Fld.RXDP_PRACH_CTL_EN 1) = t ∧ s.bit (Reg.RXDP_PRACH_CTL j) Fld.RXDP_PRACH_CTL_EN = false ∧ t.prachValid j (t.rd (Reg.RXDP_PRACH_CTL j)) = false) ∧
    (∃ (s : State) (s' : State) (j : Fin 4) (inp : RxIn) (x : Section) (w : Word) (cp : Nat) (len : Nat) (reps : Nat) (rep : Nat), { s with sections := s.sections.filter (fun y => !(y.standby && prachOf j y && decide ((s.occasionSpan y).2 ≤ s.nowTh))) } = s' ∧ s'.firstOccasion j = some x ∧ s.rd (Reg.RXDP_PRACH_CTL j) = w ∧ rep = kvGet (fun _ => 0) s.prachReps j ∧ prachTiming (getF w Fld.RXDP_PRACH_CTL_FMT) (getF w Fld.RXDP_PRACH_CTL_MU) (symStart (s.carMu (SecF.carrier x.raw)) x.first) = (cp, len, reps) ∧ (s.secAir x + ((cp + (rep + 1) * len : Nat) : Int) * 100000 ≤ s.nowTh) ∧ ¬(getF (s.symRx (Reg.CAR_CTL (SecF.carrier x.raw)) (s.secAir x)) Fld.CAR_CTL_UL_EN = 1 ∧
      getF (s.symRx (Reg.CAR_STATUS (SecF.carrier x.raw)) (s.secAir x)) Fld.CAR_STATUS_TOFF = 0)) ∧
    (∃ (s : State) (s' : State) (j : Fin 4) (inp : RxIn) (x : Section) (w : Word) (cp : Nat) (len : Nat) (reps : Nat) (rep : Nat), { s with sections := s.sections.filter (fun y => !(y.standby && prachOf j y && decide ((s.occasionSpan y).2 ≤ s.nowTh))) } = s' ∧ s'.firstOccasion j = some x ∧ s.rd (Reg.RXDP_PRACH_CTL j) = w ∧ rep = kvGet (fun _ => 0) s.prachReps j ∧ prachTiming (getF w Fld.RXDP_PRACH_CTL_FMT) (getF w Fld.RXDP_PRACH_CTL_MU) (symStart (s.carMu (SecF.carrier x.raw)) x.first) = (cp, len, reps) ∧ (s.secAir x + ((cp + (rep + 1) * len : Nat) : Int) * 100000 ≤ s.nowTh) ∧ getF (s.symRx (Reg.CAR_CTL (SecF.carrier x.raw)) (s.secAir x)) Fld.CAR_CTL_UL_EN = 1 ∧ getF (s.symRx (Reg.CAR_STATUS (SecF.carrier x.raw)) (s.secAir x)) Fld.CAR_STATUS_TOFF = 0) ∧
    (∃ (s : State) (j : Fin 4), s.bit (Reg.RXDP_PRACH_CTL j) Fld.RXDP_PRACH_CTL_BUSY = true ∧ s.bit (Reg.RXDP_PRACH_CTL j) Fld.RXDP_PRACH_CTL_EN = false ∧ s.prachLive j = false) ∧
    (∃ (s : State) (t : State) (c : Fin 8) (b : Th), s.nextBoundary c false (s.thAt s.dh.applyAt) = b ∧ s.dh.applyCars.testBit c = true ∧ (b ≤ s.nowTh) ∧ s.setServe c (s.dhCode c) b = t) ∧
    (∃ (s : State) (t : State) (u : State) (c : Fin 8) (f : Failover) (b : Th) (v : Nat) (new : Nat), s.dh.failover = some f ∧ s.switchBoundary f c = b ∧ f.cars.testBit c = true ∧ (b ≤ s.nowTh) ∧ s.dh.serve.getD c 2 = v ∧ new = (if f.to_ = 2 then 1 - s.servePort c else f.to_) ∧ s.bit Reg.LINK_DH_CTL Fld.LINK_DH_CTL_TSEL_FOLLOW = false ∧ (s.setServe c (if v = 4 ∨ v = 5 then 4 + new else if s.dhMode = 0 then 6 + new else new) b = t) ∧ { t with
      dh := { t.dh with failover := if setBitN f.cars c false = 0 then none else some { f with cars := setBitN f.cars c false, raised := true } }
      sections := s.sections.flatMap (s.failSection c new b)
      dl := s.dl.flatMap (s.failData c new b) } = u) ∧
    (∃ (s : State) (s' : State) (t : State) (r : Req) (path : Fin 64) (v : Word) (ticket : Nat), (s.grants r (Reg.OBS_CAP_REQ path)) ∧ getF v Fld.OBS_CAP_REQ_GO = 1 ∧ s.entering r = s' ∧ s'.capRequest ⟨path, getF v Fld.OBS_CAP_REQ_MIRROR == 1, getF v Fld.OBS_CAP_REQ_NBLK, s'.fld (Reg.OBS_CAP_DEST path) Fld.OBS_CAP_DEST_ADDR, false, 0⟩ = (some ticket, t)) ∧
    (∃ (s : State) (s' : State) (t : State) (r : Req) (path : Fin 64) (v : Word), (s.grants r (Reg.OBS_CAP_REQ path)) ∧ getF v Fld.OBS_CAP_REQ_GO = 1 ∧ s.entering r = s' ∧ s'.capRequest ⟨path, getF v Fld.OBS_CAP_REQ_MIRROR == 1, getF v Fld.OBS_CAP_REQ_NBLK, s'.fld (Reg.OBS_CAP_DEST path) Fld.OBS_CAP_DEST_ADDR, false, 0⟩ = (none, t)) ∧
    (∃ (s : State) (a : Fin 72) (q : CapReq) (rest : List CapReq), (s.cage a).cur = none ∧ (s.cage a).queue = q :: rest) ∧
    (∃ (s : State) (a : Fin 72), (s.cage a).cur.isSome = true ∧ (s.cage a).done = true ∧ ((s.cage a).end_ ≤ s.tb)) ∧
    (∃ (s : State) (a : Fin 72) (q : CapReq) (y : List (BitVec 32)) (ovr : Bool), (s.cage a).cur = some q ∧ q.assay = true ∧ (s.cage a).done = false ∧ ((s.cage a).sampleAt + (64 * q.nblk * 2 + 8) / 9 ≤ s.tb)) ∧
    (∃ (s : State) (t : State) (a : Fin 72) (q : CapReq) (y : List (BitVec 32)) (ovr : Bool) (yv : Nat → Int × Int) (pw : Nat), (s.cage a).cur = some q ∧ q.assay = false ∧ (s.cage a).done = false ∧ ((s.cage a).sampleAt + (64 * q.nblk * 2 + 8) / 9 ≤ s.tb) ∧ yv = s.capSeen (s.cage a) q (fun i => iq (y.getD i 0)) ∧ pw = capPower yv (64 * q.nblk) ∧ ((s.setCage a { s.cage a with done := true }).showGrant q false).stBytes (sharedMem + q.dest + 64) (s.capBlocks (s.cage a) q q.nblk yv) = t) ∧
    (∃ (s : State) (r : Req) (path : Fin 64) (v : Word), (s.grants r (Reg.OBS_CAP_CANCEL path))) ∧
    (∃ (s : State) (path : Nat) (a : Nat) (mirror : Bool) (q : CapReq), a = capArb path mirror ∧ (s.cage a).queue.find? (fun x => !x.assay && x.path == path) = some q) ∧
    (∃ (s : State) (u : State) (t : State) (path : Fin 64) (seen : Nat) (pred : Nat) (ratio : Nat) (cfg : Word), s.power.convOn = true ∧ s.power.dieLost.testBit (path.val / 16) = false ∧ kvGet (fun _ => 0) s.vswrAt path < s.tick / 256 * 256 ∧ { s with vswrAt := kvSet (fun _ => 0) s.vswrAt path (s.tick / 256 * 256) } = u ∧ pred = (kvGet (fun _ => {}) s.tx path).winPow ∧ (pred ≠ 0) ∧ (s.fld Reg.OBS_VSWR_PMIN Fld.OBS_VSWR_PMIN_PMIN ≤ pred) ∧ s.rd (Reg.OBS_VSWR_CFG path) = cfg ∧ getF cfg Fld.OBS_VSWR_CFG_EN = 1 ∧ ratio = Nat.min 65535 (seen * 4096 / pred) ∧ (ratio * 64 < s.fld (Reg.OBS_VSWR_REF path) Fld.OBS_VSWR_REF_REF * getF cfg Fld.OBS_VSWR_CFG_LO ∨
      s.fld (Reg.OBS_VSWR_REF path) Fld.OBS_VSWR_REF_REF * getF cfg Fld.OBS_VSWR_CFG_HI < ratio * 64) ∧ Nat.max 1 (Nat.min 4 (getF cfg Fld.OBS_VSWR_CFG_NWIN)) ≤ kvGet (fun _ => 0) s.vswrRun path + 1 ∧ u.setFld (Reg.OBS_VSWR_STAT path) Fld.OBS_VSWR_STAT_RATIO ratio = t) :=
  ⟨⟨prach, _, mg, 1, prach.rd (Reg.RXDP_PRACH_CTL 1), by unfold State.grants; decide +kernel, by decide +kernel, rfl, by decide +kernel, by decide +kernel⟩,
   ⟨up, _, mg, 1, 0xFFFFFFFF, by unfold State.grants; decide +kernel, by decide +kernel, rfl, by decide +kernel, by decide +kernel⟩,
   ⟨{ prach with sections := [prachX] }, _, 1, .res [] [], prachX, _, _, _, _, _, rfl, by decide +kernel, rfl, rfl, rfl, by decide +kernel, by decide +kernel⟩,
   ⟨({ prach with sections := [prachX] } : State).setFld (Reg.CAR_CTL 0) Fld.CAR_CTL_UL_EN 1, _, 1, .res [] [], prachX, _, _, _, _, _, rfl, by decide +kernel, rfl, rfl, rfl, by decide +kernel, by decide +kernel, by decide +kernel⟩,
   ⟨up.setFld (Reg.RXDP_PRACH_CTL 1) Fld.RXDP_PRACH_CTL_BUSY 1, 1, by decide +kernel, by decide +kernel, by decide +kernel⟩,
   ⟨{ up with dh := { up.dh with applyAt := 0, applyCars := 1 } }, _, 0, _, rfl, by decide +kernel, by decide +kernel, rfl⟩,
   ⟨(({ up with dh := { up.dh with failover := some ⟨1, 1, 1, false⟩ } } : State).setFld Reg.LINK_DH_CTL Fld.LINK_DH_CTL_MODE 1).setFld Reg.LINK_DH_CTL Fld.LINK_DH_CTL_TSEL_FOLLOW 0, _, _, 0, ⟨1, 1, 1, false⟩, _, _, _, by decide +kernel, rfl, by decide +kernel, by decide +kernel, rfl, rfl, by decide +kernel, rfl, rfl⟩,
   ⟨up, _, ((up.entering mg).capRequest ⟨3, false, 1, 0, false, 0⟩).2, mg, 3, BitVec.ofNat 32 ((1 <<< Fld.OBS_CAP_REQ_GO.lsb) + (1 <<< Fld.OBS_CAP_REQ_NBLK.lsb)), 0, by unfold State.grants; decide +kernel, by decide +kernel, rfl, rfl⟩,
   ⟨((up.capRequest ⟨3, false, 1, 0, false, 0⟩).2.capRequest ⟨3, false, 1, 0, false, 0⟩).2, _, _, mg, 3, BitVec.ofNat 32 (1 <<< Fld.OBS_CAP_REQ_GO.lsb), by unfold State.grants; decide +kernel, by decide +kernel, rfl, rfl⟩,
   ⟨up.setCage 0 { up.cage 0 with queue := [⟨3, false, 1, 0, false, 0⟩] }, 0, ⟨3, false, 1, 0, false, 0⟩, [], by decide +kernel, by decide +kernel⟩,
   ⟨up.setCage 0 { up.cage 0 with cur := some ⟨3, false, 1, 0, false, 0⟩, done := true }, 0, by decide +kernel, by decide +kernel, by decide +kernel⟩,
   ⟨up.setCage 0 { up.cage 0 with cur := some ⟨3, false, 1, 0, true, 0⟩ }, 0, ⟨3, false, 1, 0, true, 0⟩, [], false, by decide +kernel, by decide +kernel, by decide +kernel, by decide +kernel⟩,
   ⟨up.setCage 0 { up.cage 0 with cur := some ⟨3, false, 1, 0, false, 0⟩ }, _, 0, ⟨3, false, 1, 0, false, 0⟩, List.replicate 64 0x7FFF7FFF, false, _, _, by decide +kernel, by decide +kernel, by decide +kernel, by decide +kernel, rfl, rfl, rfl⟩,
   ⟨up.setCage 0 { up.cage 0 with queue := [⟨3, false, 1, 0, false, 0⟩] }, mg, 3, 0xFFFFFFFF, by unfold State.grants; decide +kernel⟩,
   ⟨up.setCage 0 { up.cage 0 with queue := [⟨3, false, 1, 0, false, 0⟩] }, 3, _, false, ⟨3, false, 1, 0, false, 0⟩, rfl, by decide +kernel⟩,
   ⟨((({ up with tx := [(3, { winPow := 100000000000 })] } : State).setFld (Reg.OBS_VSWR_CFG 3) Fld.OBS_VSWR_CFG_NWIN 1).setFld (Reg.OBS_VSWR_CFG 3) Fld.OBS_VSWR_CFG_EN 1).setFld (Reg.OBS_VSWR_REF 3) Fld.OBS_VSWR_REF_REF 4096, _, _, 3, 5, _, _, _, by decide +kernel, by decide +kernel, by decide +kernel, rfl, rfl, by decide +kernel, by decide +kernel, rfl, by decide +kernel, rfl, by decide +kernel, by decide +kernel, rfl⟩⟩

theorem witness_ConvertersAndTheirRepairsTakeEffect :
    (∃ (s : State) (u : Fin 72), s.adcRotates u = true ∧ s.adcUsed u = false ∧ (s.adc u).rotAt = none ∧ ((s.adc u).since + s.dwell ≤ s.tick + rotRun)) ∧
    (∃ (s : State) (u : Fin 72) (t0 : Nat) (out : Nat) (rest : List Nat), (s.adc u).rotAt = some t0 ∧ (t0 + rotRun ≤ s.tick) ∧ ((s.adc u).since + s.dwell ≤ s.tick) ∧ s.adcRotates u = true ∧ s.adcOrder u = out :: rest) ∧
    (∃ (s : State) (u : Fin 72) (t0 : Nat), (s.adc u).rotAt = some t0 ∧ (t0 + rotRun ≤ s.tick) ∧ ((s.adc u).since + s.dwell ≤ s.tick) ∧ s.adcRotates u = true) ∧
    (∃ (s : State) (r : Req) (u : Fin 72) (v : Word), (s.grants r (adcCmd u)) ∧ getF v Fld.CONV_RXADC_CMD_RETIRE = 1 ∧ (getF v Fld.CONV_RXADC_CMD_SUB ≤ adcSlots u) ∧ s.adcUsed u = false) ∧
    (∃ (s : State) (r : Req) (u : Fin 72) (v : Word), (s.grants r (adcCmd u)) ∧ getF v Fld.CONV_RXADC_CMD_RETIRE = 1 ∧ s.adcUsed u = true) ∧
    (∃ (s : State) (path : Fin 64) (pos : Nat) (rest : List Nat), s.dieOn (path.val / 16) = true ∧ s.sb.asleepTx.testBit path = false ∧ (s.fld (Reg.CONV_DAC_STAT path) Fld.CONV_DAC_STAT_SPARES ≠ 0) ∧ ((s.dac path).since + s.dwell ≤ s.tick) ∧ (s.dac path).ages = pos :: rest) ∧
    (∃ (s : State) (r : Req) (path : Fin 64) (v : Word), (s.grants r (Reg.CONV_DAC_CMD path)) ∧ getF v Fld.CONV_DAC_CMD_RETIRE = 1 ∧ (getF v Fld.CONV_DAC_CMD_CELL ≤ 66) ∧ s.cellRetired path (getF v Fld.CONV_DAC_CMD_CELL) = false) ∧
    (∃ (s : State) (r : Req) (v : Word), (s.grants r Reg.CONV_ALIGN_CTL) ∧ getF v Fld.CONV_ALIGN_CTL_SOFT = 1 ∧ (s.pstate = 5 ∨ s.pstate = 6)) ∧
    (∃ (s : State), s.bit Reg.TIME_ALIGN_CTL Fld.TIME_ALIGN_CTL_ARM = true ∧ s.tclk = true) ∧
    (∃ (s : State) (t : State), s.bit Reg.TIME_ALIGN_CTL Fld.TIME_ALIGN_CTL_ARM = true ∧ s.tclk = true ∧ s.time.alignLow = true ∧ (s.wr Reg.TIME_ALIGN_CTL (setF (setF (s.rd Reg.TIME_ALIGN_CTL) Fld.TIME_ALIGN_CTL_ARM 0) Fld.TIME_ALIGN_CTL_CAPTURED 1)).wr64 Reg.TIME_ALIGN_CAP s.tb = t) ∧
    (∃ (s : State) (t : State) (err : BitVec 8) (t0 : Nat), s.align.at_ = some t0 ∧ (t0 + 1024 ≤ s.tick) ∧ ({ s with align := { s.align with
      at_ := if s.bit Reg.CONV_ALIGN_STAT Fld.CONV_ALIGN_STAT_PEND then some (s.tick + 4) else none } } : State).setFld
        Reg.CONV_ALIGN_STAT Fld.CONV_ALIGN_STAT_PEND 0 = t ∧ s.pstate = 5) ∧
    (∃ (s : State) (t : State) (err : BitVec 8) (t0 : Nat), s.align.at_ = some t0 ∧ (t0 + 1024 ≤ s.tick) ∧ ({ s with align := { s.align with
      at_ := if s.bit Reg.CONV_ALIGN_STAT Fld.CONV_ALIGN_STAT_PEND then some (s.tick + 4) else none } } : State).setFld
        Reg.CONV_ALIGN_STAT Fld.CONV_ALIGN_STAT_PEND 0 = t ∧ s.pstate = 6 ∧ (err ≠ 0)) ∧
    (∃ (s : State) (t : State) (die : Fin 4), s.dieOn die = true ∧ (List.range 16).foldl (fun (u : State) i =>
        ((u.hwMute (16 * die.val + i) Fld.TXDP_MUTE_DIE).flag (Reg.RXDP_OVR (16 * die.val + i)) Fld.RXDP_OVR_DIE).setZero (16 * die.val + i) 4 true u.nowTh)
      { s with power := { s.power with dieLost := setBitN s.power.dieLost die true } } = t) :=
  ⟨⟨up.setAdc 3 { up.adc 3 with since := 0 }, 3, by decide +kernel, by decide +kernel, by decide +kernel, by decide +kernel⟩,
   ⟨up.setAdc 3 { up.adc 3 with since := 0, rotAt := some 0 }, 3, 0, (up.adcOrder 3).getD 0 0, (up.adcOrder 3).drop 1, by decide +kernel, by decide +kernel, by decide +kernel, by decide +kernel, by decide +kernel⟩,
   ⟨up.setAdc 3 { up.adc 3 with since := 0, rotAt := some 0, strikes := 1 }, 3, 0, by decide +kernel, by decide +kernel, by decide +kernel, by decide +kernel⟩,
   ⟨up, mg, 3, BitVec.ofNat 32 ((1 <<< Fld.CONV_RXADC_CMD_RETIRE.lsb) + (2 <<< Fld.CONV_RXADC_CMD_SUB.lsb)), by unfold State.grants; decide +kernel, by decide +kernel, by decide +kernel, by decide +kernel⟩,
   ⟨up.setFld (adcStat 3) Fld.CONV_RXADC_STAT_USED 1, mg, 3, 0xFFFFFFFF, by unfold State.grants; decide +kernel, by decide +kernel, by decide +kernel⟩,
   ⟨up.setDac 3 { up.dac 3 with since := 0 }, 3, ((up.dac 3).ages).getD 0 0, ((up.dac 3).ages).drop 1, by decide +kernel, by decide +kernel, by decide +kernel, by decide +kernel, by decide +kernel⟩,
   ⟨up, mg, 3, BitVec.ofNat 32 ((1 <<< Fld.CONV_DAC_CMD_RETIRE.lsb) + (2 <<< Fld.CONV_DAC_CMD_CELL.lsb)), by unfold State.grants; decide +kernel, by decide +kernel, by decide +kernel, by decide +kernel⟩,
   ⟨up, mg, 0xFFFFFFFF, by unfold State.grants; decide +kernel, by decide +kernel, by decide +kernel⟩,
   ⟨up.setFld Reg.TIME_ALIGN_CTL Fld.TIME_ALIGN_CTL_ARM 1, by decide +kernel, by decide +kernel⟩,
   ⟨({ up with time := { alignLow := true } } : State).setFld Reg.TIME_ALIGN_CTL Fld.TIME_ALIGN_CTL_ARM 1, _, by decide +kernel, by decide +kernel, by decide +kernel, rfl⟩,
   ⟨{ up with align := { up.align with at_ := some 0 } }, _, 5, 0, by decide +kernel, by decide +kernel, rfl, by decide +kernel⟩,
   ⟨({ up with align := { up.align with at_ := some 0 } } : State).setFld Reg.PWR_STATUS Fld.PWR_STATUS_STATE 6, _, 5, 0, by decide +kernel, by decide +kernel, rfl, by decide +kernel, by decide +kernel⟩,
   ⟨up, _, 2, by decide +kernel, rfl⟩⟩

theorem witness_CalibrationMonitorAndSensorsTakeEffect :
    (∃ (s : State) (t : State) (r : Req) (n : Fin 72) (v : Word), (s.grants r (Reg.AUX_DAC n)) ∧ (s.entering r).plainWrite (Reg.AUX_DAC n) v = t ∧ t.bit Reg.AUX_CTL Fld.AUX_CTL_PINCLR = false ∧ getF v Fld.AUX_DAC_RANGE = (t.auxCh n).rng) ∧
    (∃ (s : State) (t : State) (t1 : State) (r : Req) (n : Fin 72) (v : Word) (x : AuxCh), (s.grants r (Reg.AUX_DAC n)) ∧ (s.entering r).plainWrite (Reg.AUX_DAC n) v = t ∧ t.bit Reg.AUX_CTL Fld.AUX_CTL_PINCLR = false ∧ (getF v Fld.AUX_DAC_RANGE ≠ (t.auxCh n).rng) ∧ x = (if t.auxCleared n then { t.auxCh n with openAt := t.tick } else t.auxCh n) ∧ (t.setFld (Reg.AUX_STAT n) Fld.AUX_STAT_CLEARED 0).setAux n x = t1) ∧
    (∃ (s : State) (t : State) (r : Req) (n : Fin 72) (v : Word), (s.grants r (Reg.AUX_DAC n)) ∧ (s.entering r).plainWrite (Reg.AUX_DAC n) v = t ∧ t.bit Reg.AUX_CTL Fld.AUX_CTL_PINCLR = true) ∧
    (∃ (s : State) (n : Fin 72) (t : Nat), (s.auxCh n).holdAt = some t ∧ (t + 197 ≤ s.tick)) ∧
    (∃ (s : State) (n : Fin 72) (t : Nat), (s.auxCh n).rangeAt = some t ∧ (t + usTicks 5 ≤ s.tick)) ∧
    (∃ (s : State) (t : State) (r : Req) (n : Fin 72) (v : Word), (s.grants r (Reg.AUX_CLRCODE n)) ∧ (s.entering r).plainWrite (Reg.AUX_CLRCODE n) v = t) ∧
    (∃ (s : State), s.bit Reg.AUX_CTL Fld.AUX_CTL_PINCLR = false ∧ s.held = false) ∧
    (∃ (s : State) (r : Req) (v : Word), (s.grants r Reg.AUX_CTL) ∧ getF v Fld.AUX_CTL_CLRALL = 1) ∧
    (∃ (s : State) (n : Fin 72), s.dieOn (auxDie n) = true ∧ ((s.auxCh n).shortAt + usTicks 10 ≤ s.tick)) ∧
    (∃ (s : State) (n : Fin 72), s.dieOn (auxDie n) = true ∧ (s.fld (Reg.AUX_LOAD n) Fld.AUX_LOAD_OPENMIN ≠ 0) ∧ s.auxCleared n = false ∧ ((s.auxCh n).openAt + usTicks 100 ≤ s.tick)) ∧
    (∃ (s : State) (t : State) (item : Fin 9) (unit : Fin 72) (elem : Fin 128) (q : List Int) (power : Nat) (val : Nat) (nblk : Nat), s.assayRuns item = true ∧ (unit.val < (assayUnits item).1) ∧ s.assayElem item unit elem = true ∧ (elem.val ≠ 127) ∧ (item.val ≠ 6) ∧ (s.assayFrom item unit + s.assayPeriod item ≤ s.tick) ∧ s.assayNotRun item unit power (kvGet (fun _ => 0) s.assay.caps unit) = false ∧ s.assay.op = none ∧ s.assayEnds item unit = t) ∧
    (∃ (s : State) (unit : Fin 72) (elem : Fin 128) (meas : Option (List Int)) (power : Nat) (val : Nat) (nblk : Nat), s.assayRuns 6 = true ∧ (unit.val < (assayUnits 6).1) ∧ s.assayElem 6 unit elem = true ∧ (s.assayFrom 6 unit + s.assayPeriod 6 ≤ s.tick) ∧ kvGet (fun _ => 0) s.assay.caps unit = 0) ∧
    (∃ (s : State) (r : Req) (v : Word), (s.grants r Reg.ASSAY_SAVE) ∧ getF v Fld.ASSAY_SAVE_GO = 1 ∧ s.assay.op = none ∧ (s.pstate = 5 ∨ s.pstate = 6)) ∧
    (∃ (s : State) (addr : Nat), s.assay.op = some (false, addr) ∧ blobFits addr = true) ∧
    (∃ (s : State) (r : Req) (v : Word), (s.grants r Reg.ASSAY_RESTORE) ∧ getF v Fld.ASSAY_RESTORE_GO = 1 ∧ s.assay.op = none ∧ s.pstate = 5 ∧ (s.entering r).blobWord (getF v Fld.ASSAY_RESTORE_ADDR) 0 / 256 = 0x4153 * 256 + 1) ∧
    (∃ (s : State) (addr : Nat), s.assay.op = some (true, addr) ∧ (s.blobCheck addr ≠ 1)) ∧
    (∃ (s : State) (addr : Nat), s.assay.op = some (true, addr) ∧ s.blobCheck addr = 1) ∧
    (∃ (s : State) (x : MonRun) (inputs : List Int) (dev : List Int) (vref : Nat), s.mon.run = some x ∧ x.entry.isSome = true ∧ (x.stop ≤ s.monSlot) ∧ s.dieOn 0 = true) ∧
    (∃ (s : State) (x : MonRun) (inputs : List Int) (dev : List Int) (vref : Nat), s.mon.run = some x ∧ x.entry = none ∧ (x.stop ≤ s.monSlot) ∧ s.dieOn 0 = true) ∧
    (∃ (s : State) (t : State) (r : Req) (v : Word), (s.grants r Reg.MON_CTL) ∧ s.bit Reg.MON_CTL Fld.MON_CTL_EN = false ∧ (s.entering r).plainWrite Reg.MON_CTL v = t ∧ t.bit Reg.MON_CTL Fld.MON_CTL_EN = true ∧ t.mon.run = none) ∧
    (∃ (s : State) (r : Req) (v : Word), (s.grants r Reg.MON_URG) ∧ getF v Fld.MON_URG_GO = 1 ∧ (getF v Fld.MON_URG_CH ≤ 47) ∧ (s.mon.queue.filter (fun (q : MonReq) => q.req.isSome)).length < 3) ∧
    (∃ (s : State) (reads : List SensorRead), (4 ≤ s.pstate) ∧ (s.pstate ≤ 6) ∧ s.clkOn Fld.SYS_CLK_STATUS_CCLK = true ∧ (s.power.canaryAt + usTicks 100 ≤ s.tick)) ∧
    (∃ (s : State) (r : Req) (v : Word), (s.grants r Reg.PWR_STATUS) ∧ getF v Fld.PWR_STATUS_SAFE = 1 ∧ getF v Fld.PWR_STATUS_ABORTED = 0 ∧ s.bit Reg.PWR_STATUS Fld.PWR_STATUS_SAFE = true ∧ (sext (s.fld Reg.CANARY_STAT Fld.CANARY_STAT_TMAX) 16 < s.thr Fld.CANARY_THR_CRIT - 40)) ∧
    (∃ (s : State) (t : State) (low : Bool), (4 ≤ s.pstate) ∧ (s.pstate ≤ 6) ∧ s.clkOn Fld.SYS_CLK_STATUS_CCLK = true ∧ s.faultLow = false ∧ (s.power.faultAt + usTicks 100 ≤ s.tick) ∧ (s.setLevel Fld.CANARY_STAT_EXTFAULT low).setPower (fun (p : PowerSt) => { p with faultLow := low, faultAt := s.tick }) = t) ∧
    (∃ (s : State), s.bit Reg.CANARY_CTL Fld.CANARY_CTL_SUPCHK = true ∧ s.dieOn 0 = true ∧ (s.power.supAt + usTicks 100 ≤ s.tick)) :=
  ⟨⟨up, _, mg, 3, BitVec.ofNat 32 (0x900 <<< Fld.AUX_DAC_CODE.lsb), by unfold State.grants; decide +kernel, rfl, by decide +kernel, rfl⟩,
   ⟨up, _, _, mg, 3, BitVec.ofNat 32 (1 <<< Fld.AUX_DAC_RANGE.lsb), _, by unfold State.grants; decide +kernel, rfl, by decide +kernel, by decide +kernel, rfl, rfl⟩,
   ⟨up.setFld Reg.AUX_CTL Fld.AUX_CTL_PINCLR 1, _, mg, 3, 0, by unfold State.grants; decide +kernel, rfl, by decide +kernel⟩,
   ⟨up.setAux 3 { up.auxCh 3 with next := 9, holdAt := some 0 }, 3, 0, by decide +kernel, by decide +kernel⟩,
   ⟨up.setAux 3 { up.auxCh 3 with next := 9, rangeAt := some 0 }, 3, 0, by decide +kernel, by decide +kernel⟩,
   ⟨up.setFld (Reg.AUX_STAT 3) Fld.AUX_STAT_CLEARED 1, _, mg, 3, 5, by unfold State.grants; decide +kernel, rfl⟩,
   ⟨up.setFld Reg.AUX_CTL Fld.AUX_CTL_PINCLR 0, by decide +kernel, by decide +kernel⟩,
   ⟨up, mg, BitVec.ofNat 32 (1 <<< Fld.AUX_CTL_CLRALL.lsb), by unfold State.grants; decide +kernel, by decide +kernel⟩,
   ⟨up, 3, by decide +kernel, by decide +kernel⟩,
   ⟨(up.setFld (Reg.AUX_LOAD 3) Fld.AUX_LOAD_OPENMIN 9).setFld (Reg.AUX_STAT 3) Fld.AUX_STAT_CLEARED 0, 3, by decide +kernel, by decide +kernel, by decide +kernel, by decide +kernel⟩,
   ⟨(up.setFld Reg.ASSAY_CTL Fld.ASSAY_CTL_EN 1).setFld Reg.ASSAY_CTL Fld.ASSAY_CTL_ITEMS 0x1FF, _, 5, 2, 0, [], 0, 7, 1, by decide +kernel, by decide +kernel, by decide +kernel, by decide +kernel, by decide +kernel, by decide +kernel, by decide +kernel, by decide +kernel, rfl⟩,
   ⟨(up.setFld Reg.ASSAY_CTL Fld.ASSAY_CTL_EN 1).setFld Reg.ASSAY_CTL Fld.ASSAY_CTL_ITEMS 0x1FF, 2, 0, none, 0, 7, 1, by decide +kernel, by decide +kernel, by decide +kernel, by decide +kernel, by decide +kernel⟩,
   ⟨up, mg, BitVec.ofNat 32 (1 <<< Fld.ASSAY_SAVE_GO.lsb), by unfold State.grants; decide +kernel, by decide +kernel, by decide +kernel, by decide +kernel⟩,
   ⟨{ up with assay := { op := some (false, 0) } }, 0, by decide +kernel, (by unfold blobFits assayLen; have := Nat.mod_lt Config.assayUnits (show 0 < 3073 by decide); simp; omega)⟩,
   ⟨({ up with mem := [] } : State).stBytes sharedMem (words32 [0x41530100]), mg, BitVec.ofNat 32 (1 <<< Fld.ASSAY_RESTORE_GO.lsb), by unfold State.grants; decide +kernel, by decide +kernel, by decide +kernel, by decide +kernel, by decide +kernel⟩,
   ⟨{ up with assay := { op := some (true, 1) } }, 1, by decide +kernel, by decide +kernel⟩,
   ⟨({ up with assay := { op := some (true, 0) } } : State).stBytes (sharedMem + 0) ({ up with assay := { op := some (true, 0) } } : State).blob, 0, (by rw [stBytes_eq]), (blobCheck_blob _ 0 (by unfold blobFits assayLen; have := Nat.mod_lt Config.assayUnits (show 0 < 3073 by decide); simp; omega) (by decide) (by decide))⟩,
   ⟨{ up with mon := { run := some ⟨some 3, none, 0, 0, 0⟩ } }, ⟨some 3, none, 0, 0, 0⟩, [], [], 1200000, by decide +kernel, by decide +kernel, by decide +kernel, by decide +kernel⟩,
   ⟨{ up with mon := { run := some ⟨none, some 3, 0, 0, 0⟩ } }, ⟨none, some 3, 0, 0, 0⟩, [], [], 1200000, by decide +kernel, by decide +kernel, by decide +kernel, by decide +kernel⟩,
   ⟨up.setFld Reg.MON_CTL Fld.MON_CTL_EN 0, _, mg, BitVec.ofNat 32 (1 <<< Fld.MON_CTL_EN.lsb), by unfold State.grants; decide +kernel, by decide +kernel, rfl, by decide +kernel, by decide +kernel⟩,
   ⟨up, mg, BitVec.ofNat 32 ((1 <<< Fld.MON_URG_GO.lsb) + (5 <<< Fld.MON_URG_CH.lsb)), by unfold State.grants; decide +kernel, by decide +kernel, by decide +kernel, by decide +kernel⟩,
   ⟨up, [], by decide +kernel, by decide +kernel, by decide +kernel, by decide +kernel⟩,
   ⟨(up.setFld Reg.PWR_STATUS Fld.PWR_STATUS_SAFE 1).setFld Reg.CANARY_STAT Fld.CANARY_STAT_TMAX 100, mg, BitVec.ofNat 32 (1 <<< Fld.PWR_STATUS_SAFE.lsb), by unfold State.grants; decide +kernel, by decide +kernel, by decide +kernel, by decide +kernel, by decide +kernel⟩,
   ⟨up, _, true, by decide +kernel, by decide +kernel, by decide +kernel, by decide +kernel, by decide +kernel, rfl⟩,
   ⟨up.setFld Reg.CANARY_CTL Fld.CANARY_CTL_SUPCHK 1, by decide +kernel, by decide +kernel, by decide +kernel⟩⟩

theorem witness_EngineFlowInstructionsTakeEffect :
    (∃ (s : State) (t : State) (e : Fin 5) (w : Nat) (i : Nat), (s.issues e 0x00 w i) ∧ s.issued e i = t) ∧
    (∃ (s : State) (t : State) (e : Fin 5) (w : Nat) (i : Nat), (s.issues e 0x01 w i) ∧ s.issued e i = t) ∧
    (∃ (s : State) (t : State) (e : Fin 5) (w : Nat) (i : Nat) (n : Nat), (s.issues e 0x0F w i) ∧ s.issued e i = t ∧ n = (if bitAt w 48 then t.g e (sbRa w) % 2 ^ 32 else bitsAt w 0 16) ∧ (n ≠ 0) ∧ ((t.eng e).loops.length ≠ 4)) ∧
    (∃ (s : State) (t : State) (e : Fin 5) (w : Nat) (i : Nat), (s.issues e 0x0F w i) ∧ s.issued e i = t ∧ (if bitAt w 48 then t.g e (sbRa w) % 2 ^ 32 else bitsAt w 0 16) = 0 ∧ ((t.eng e).loops.length ≠ 4)) ∧
    (∃ (s : State) (t : State) (e : Fin 5) (w : Nat) (i : Nat), (s.issues e 0x0F w i) ∧ s.issued e i = t ∧ (t.eng e).loops.length = 4) ∧
    (∃ (s : State) (t : State) (e : Fin 5) (w : Nat) (i : Nat) (a : Nat) (n : Nat) (rest : List (Nat × Nat)), (s.issues e 0x10 w i) ∧ s.issued e i = t ∧ (t.eng e).loops = (a, n) :: rest ∧ (n - 1 ≠ 0)) ∧
    (∃ (s : State) (t : State) (e : Fin 5) (w : Nat) (i : Nat) (a : Nat) (rest : List (Nat × Nat)), (s.issues e 0x10 w i) ∧ s.issued e i = t ∧ (t.eng e).loops = (a, 1) :: rest) ∧
    (∃ (s : State) (t : State) (e : Fin 5) (w : Nat) (i : Nat), (s.issues e 0x11 w i) ∧ s.issued e i = t) ∧
    (∃ (s : State) (t : State) (e : Fin 5) (w : Nat) (i : Nat), (s.issues e 0x12 w i) ∧ s.issued e i = t) ∧
    (∃ (s : State) (t : State) (e : Fin 5) (w : Nat) (i : Nat), (s.issues e 0x13 w i) ∧ s.issued e i = t ∧ ((t.eng e).calls.length ≠ 8)) ∧
    (∃ (s : State) (t : State) (e : Fin 5) (w : Nat) (i : Nat), (s.issues e 0x13 w i) ∧ s.issued e i = t ∧ (t.eng e).calls.length = 8) ∧
    (∃ (s : State) (t : State) (e : Fin 5) (w : Nat) (i : Nat) (a : Nat) (rest : List Nat), (s.issues e 0x14 w i) ∧ s.issued e i = t ∧ (t.eng e).calls = a :: rest) ∧
    (∃ (s : State) (t : State) (e : Fin 5) (w : Nat) (i : Nat), (s.issues e 0x14 w i) ∧ s.issued e i = t ∧ (t.eng e).calls = []) ∧
    (∃ (s : State) (t : State) (e : Fin 5) (w : Nat) (i : Nat), (s.issues e 0x18 w i) ∧ s.issued e i = t) ∧
    (∃ (s : State) (t : State) (e : Fin 5) (w : Nat) (i : Nat), (s.issues e 0x19 w i) ∧ s.issued e i = t ∧ bitAt w 48 = false) ∧
    (∃ (s : State) (t : State) (e : Fin 5) (w : Nat) (i : Nat), (s.issues e 0x19 w i) ∧ s.issued e i = t ∧ bitAt w 48 = true) :=
  ⟨⟨at_ 0x00 0, _, 0, ((at_ 0x00 0).sbWord 0).getD 0, (at_ 0x00 0).sbCycle 0, ⟨by decide +kernel, by decide +kernel, by decide +kernel, by decide +kernel, rfl⟩, rfl⟩,
   ⟨at_ 0x01 0, _, 0, ((at_ 0x01 0).sbWord 0).getD 0, (at_ 0x01 0).sbCycle 0, ⟨by decide +kernel, by decide +kernel, by decide +kernel, by decide +kernel, rfl⟩, rfl⟩,
   ⟨at_ 0x0F 5, _, 0, ((at_ 0x0F 5).sbWord 0).getD 0, (at_ 0x0F 5).sbCycle 0, 5, ⟨by decide +kernel, by decide +kernel, by decide +kernel, by decide +kernel, rfl⟩, rfl, rfl, by decide +kernel, by decide +kernel⟩,
   ⟨at_ 0x0F 0x30000, _, 0, ((at_ 0x0F 0x30000).sbWord 0).getD 0, (at_ 0x0F 0x30000).sbCycle 0, ⟨by decide +kernel, by decide +kernel, by decide +kernel, by decide +kernel, rfl⟩, rfl, by decide +kernel, by decide +kernel⟩,
   ⟨(at_ 0x0F 5).setStacks 0 [(1,1),(1,1),(1,1),(1,1)] [], _, 0, (((at_ 0x0F 5).setStacks 0 [(1,1),(1,1),(1,1),(1,1)] []).sbWord 0).getD 0, ((at_ 0x0F 5).setStacks 0 [(1,1),(1,1),(1,1),(1,1)] []).sbCycle 0, ⟨by decide +kernel, by decide +kernel, by decide +kernel, by decide +kernel, rfl⟩, rfl, by decide +kernel⟩,
   ⟨(at_ 0x10 0).setStacks 0 [(7, 2)] [], _, 0, (((at_ 0x10 0).setStacks 0 [(7, 2)] []).sbWord 0).getD 0, ((at_ 0x10 0).setStacks 0 [(7, 2)] []).sbCycle 0, 7, 2, [], ⟨by decide +kernel, by decide +kernel, by decide +kernel, by decide +kernel, rfl⟩, rfl, rfl, by decide +kernel⟩,
   ⟨(at_ 0x10 0).setStacks 0 [(7, 1)] [], _, 0, (((at_ 0x10 0).setStacks 0 [(7, 1)] []).sbWord 0).getD 0, ((at_ 0x10 0).setStacks 0 [(7, 1)] []).sbCycle 0, 7, [], ⟨by decide +kernel, by decide +kernel, by decide +kernel, by decide +kernel, rfl⟩, rfl, rfl⟩,
   ⟨at_ 0x11 9, _, 0, ((at_ 0x11 9).sbWord 0).getD 0, (at_ 0x11 9).sbCycle 0, ⟨by decide +kernel, by decide +kernel, by decide +kernel, by decide +kernel, rfl⟩, rfl⟩,
   ⟨at_ 0x12 9, _, 0, ((at_ 0x12 9).sbWord 0).getD 0, (at_ 0x12 9).sbCycle 0, ⟨by decide +kernel, by decide +kernel, by decide +kernel, by decide +kernel, rfl⟩, rfl⟩,
   ⟨at_ 0x13 9, _, 0, ((at_ 0x13 9).sbWord 0).getD 0, (at_ 0x13 9).sbCycle 0, ⟨by decide +kernel, by decide +kernel, by decide +kernel, by decide +kernel, rfl⟩, rfl, by decide +kernel⟩,
   ⟨(at_ 0x13 9).setStacks 0 [] [1,2,3,4,5,6,7,8], _, 0, (((at_ 0x13 9).setStacks 0 [] [1,2,3,4,5,6,7,8]).sbWord 0).getD 0, ((at_ 0x13 9).setStacks 0 [] [1,2,3,4,5,6,7,8]).sbCycle 0, ⟨by decide +kernel, by decide +kernel, by decide +kernel, by decide +kernel, rfl⟩, rfl, by decide +kernel⟩,
   ⟨(at_ 0x14 0).setStacks 0 [] [5], _, 0, (((at_ 0x14 0).setStacks 0 [] [5]).sbWord 0).getD 0, ((at_ 0x14 0).setStacks 0 [] [5]).sbCycle 0, 5, [], ⟨by decide +kernel, by decide +kernel, by decide +kernel, by decide +kernel, rfl⟩, rfl, by decide +kernel⟩,
   ⟨at_ 0x14 0, _, 0, ((at_ 0x14 0).sbWord 0).getD 0, (at_ 0x14 0).sbCycle 0, ⟨by decide +kernel, by decide +kernel, by decide +kernel, by decide +kernel, rfl⟩, rfl, by decide +kernel⟩,
   ⟨at_ 0x18 (2^32 - 1), _, 0, ((at_ 0x18 (2^32 - 1)).sbWord 0).getD 0, (at_ 0x18 (2^32 - 1)).sbCycle 0, ⟨by decide +kernel, by decide +kernel, by decide +kernel, by decide +kernel, rfl⟩, rfl⟩,
   ⟨at_ 0x19 7, _, 0, ((at_ 0x19 7).sbWord 0).getD 0, (at_ 0x19 7).sbCycle 0, ⟨by decide +kernel, by decide +kernel, by decide +kernel, by decide +kernel, rfl⟩, rfl, by decide +kernel⟩,
   ⟨at_ 0x19 (2^48 + 7), _, 0, ((at_ 0x19 (2^48 + 7)).sbWord 0).getD 0, (at_ 0x19 (2^48 + 7)).sbCycle 0, ⟨by decide +kernel, by decide +kernel, by decide +kernel, by decide +kernel, rfl⟩, rfl, by decide +kernel⟩⟩

theorem witness_EngineWaitsAndStagedInstructionsTakeEffect :
    (∃ (s : State) (t : State) (e : Fin 5) (w : Nat) (i : Nat), (s.issues e 0x02 w i) ∧ s.issued e i = t) ∧
    (∃ (s : State) (t : State) (e : Fin 5) (w : Nat) (i : Nat) (x : Nat), (s.issues e 0x03 w i) ∧ s.issued e i = t ∧ x = (t.rd64 (Reg.SB_TLAST e) + (if bitAt w 48 then t.g e (sbRa w) else bitsAt w 16 32)) % 2 ^ 64) ∧
    (∃ (s : State) (t : State) (e : Fin 5) (w : Nat) (i : Nat) (ofs : Th) (x : Th), (s.issues e 0x04 w i) ∧ s.issued e i = t ∧ ofs = sext (bitsAt w 16 24) 24 * 196608 ∧ x = t.nthBoundary (bitsAt w 45 3) (bitAt w 48) (thNs (t.rd64 (Reg.SB_TLAST e)) - ofs) (Nat.max 1 (bitsAt w 40 5)) + ofs) ∧
    (∃ (t : State) (e : Nat) (w : Nat) (i : Nat) (x : Nat) (tw : Th), (t.stCyc (i + 23) < x)) ∧
    (∃ (t : State) (e : Nat) (w : Nat) (i : Nat) (x : Nat) (tw : Th), (x ≤ t.stCyc (i + 23))) ∧
    (∃ (s : State) (t : State) (e : Fin 5) (w : Nat) (i : Nat), (s.issues e 0x15 w i) ∧ s.issued e i = t) ∧
    (∃ (s : State) (t : State) (e : Fin 5) (w : Nat) (i : Nat), (s.issues e 0x17 w i) ∧ s.issued e i = t) ∧
    (∃ (s : State) (e : Fin 5) (t : Nat) (tw : Th) (skip : Option Nat), s.clkOn Fld.SYS_CLK_STATUS_FCLK = true ∧ (s.eng e).wait = .time t tw skip ∧ s.sbState e = 2 ∧ (t ≤ s.stCyc (s.fcyc + 24)) ∧ (s.stCyc s.fcyc < t)) ∧
    (∃ (s : State) (e : Fin 5) (flag : Nat) (m : Nat) (lim : Option Nat), m = Nat.max (s.evSeen e flag) (s.eng e).cyc ∧ s.clkOn Fld.SYS_CLK_STATUS_FCLK = true ∧ (s.eng e).wait = .ev flag false true lim ∧ s.sbState e = 3 ∧ bitAt (s.rd64 (Reg.SB_EVF e)) flag = true) ∧
    (∃ (s : State) (e : Fin 5), s.clkOn Fld.SYS_CLK_STATUS_FCLK = true ∧ (s.eng e).wait = .fence ∧ s.sbState e = 4 ∧ s.sbStaged e = []) ∧
    (∃ (s : State) (e : Fin 5) (flag : Nat) (d : Nat) (pol : Bool) (clr : Bool), (s.eng e).wait = .ev flag pol clr (some d) ∧ s.sbState e = 3 ∧ (d ≤ s.tick) ∧ bitAt (s.rd64 (Reg.SB_EVF e)) flag = pol) ∧
    (∃ (s : State) (t : State) (e : Fin 5) (w : Nat) (i : Nat), (s.issues e 0x05 w i) ∧ s.issued e i = t) ∧
    (∃ (s : State) (t : State) (e : Fin 5) (w : Nat) (i : Nat), (s.issues e 0x06 w i) ∧ s.issued e i = t) ∧
    (∃ (s : State) (t : State) (e : Fin 5) (w : Nat) (i : Nat), (s.issues e 0x07 w i) ∧ s.issued e i = t) ∧
    (∃ (s : State) (t : State) (e : Fin 5) (w : Nat) (i : Nat), (s.issues e 0x08 w i) ∧ s.issued e i = t) ∧
    (∃ (s : State) (t : State) (e : Fin 5) (w : Nat) (i : Nat), (s.issues e 0x0C w i) ∧ s.issued e i = t) ∧
    (∃ (s : State) (t : State) (e : Fin 5) (w : Nat) (i : Nat), (s.issues e 0x0D w i) ∧ s.issued e i = t) ∧
    (∃ (s : State) (t : State) (e : Fin 5) (w : Nat) (i : Nat), (s.issues e 0x0E w i) ∧ s.issued e i = t ∧ bitAt w 49 = false) ∧
    (∃ (s : State) (t : State) (e : Fin 5) (w : Nat) (i : Nat) (u : State), (s.issues e 0x0E w i) ∧ s.issued e i = t ∧ bitAt w 49 = true ∧ t.sbStage e i (.fesend true (bitsAt w 46 2) (Nat.max 7 (bitsAt w 40 6) + 1) (t.g e (sbRa w) % 2 ^ (Nat.max 7 (bitsAt w 40 6) + 1)) (sbRb w)) = u) ∧
    (∃ (s : State) (t : State) (e : Fin 5) (m : Bool) (w : Nat) (i : Nat) (u : State), (s.issues e 0x09 w i) ∧ s.issued e i = t ∧ t.wqPush (bitsAt w 47 3) (t.g e (sbRa w) % 2 ^ 24) (t.g e (sbRb w)) (8 + e) = (true, u)) ∧
    (∃ (s : State) (t : State) (e : Fin 5) (m : Bool) (w : Nat) (i : Nat) (u : State), (s.issues e 0x09 w i) ∧ s.issued e i = t ∧ t.wqPush (bitsAt w 47 3) (t.g e (sbRa w) % 2 ^ 24) (t.g e (sbRb w)) (8 + e) = (false, u)) ∧
    (∃ (s : State) (t : State) (e : Fin 5) (m : Bool) (w : Nat) (i : Nat) (u : State), (s.issues e 0x0A w i) ∧ s.issued e i = t ∧ dmaGoWrite (bitsAt w 0 4) false (setF 0 Fld.DMA_GO_START 1) t = (0, u)) ∧
    (∃ (s : State) (t : State) (e : Fin 5) (m : Bool) (w : Nat) (i : Nat) (u : State), (s.issues e 0x0B w i) ∧ s.issued e i = t ∧ (bitsAt w 0 5 < 24) ∧ mbxMessage (bitsAt w 0 5) (8 + e) ((List.range 8).flatMap (fun k => [t.g e (sbRa w + k) % 2 ^ 32, t.g e (sbRa w + k) / 2 ^ 32])) t = (0, u)) ∧
    (∃ (s : State) (t : State) (e : Fin 5) (m : Bool) (w : Nat) (i : Nat), (s.issues e 0x0B w i) ∧ s.issued e i = t ∧ (24 ≤ bitsAt w 0 5)) ∧
    (∃ (s : State) (t : State) (e : Fin 5) (m : Bool) (w : Nat) (i : Nat), (s.issues e 0x16 w i) ∧ s.issued e i = t ∧ bitAt w 46 = false) ∧
    (∃ (s : State) (t : State) (e : Fin 5) (m : Bool) (w : Nat) (i : Nat), (s.issues e 0x16 w i) ∧ s.issued e i = t ∧ bitAt w 46 = true) :=
  ⟨⟨at_ 0x02 0, _, 0, ((at_ 0x02 0).sbWord 0).getD 0, (at_ 0x02 0).sbCycle 0, ⟨by decide +kernel, by decide +kernel, by decide +kernel, by decide +kernel, rfl⟩, rfl⟩,
   ⟨at_ 0x03 0, _, 0, ((at_ 0x03 0).sbWord 0).getD 0, (at_ 0x03 0).sbCycle 0, _, ⟨by decide +kernel, by decide +kernel, by decide +kernel, by decide +kernel, rfl⟩, rfl, rfl⟩,
   ⟨at_ 0x04 0, _, 0, ((at_ 0x04 0).sbWord 0).getD 0, (at_ 0x04 0).sbCycle 0, _, _, ⟨by decide +kernel, by decide +kernel, by decide +kernel, by decide +kernel, rfl⟩, rfl, rfl, rfl⟩,
   ⟨up, 0, 0, 0, 2^63, 5, by decide +kernel⟩,
   ⟨up, 0, 0, 0, 5, 5, by decide +kernel⟩,
   ⟨at_ 0x15 0x10000, _, 0, ((at_ 0x15 0x10000).sbWord 0).getD 0, (at_ 0x15 0x10000).sbCycle 0, ⟨by decide +kernel, by decide +kernel, by decide +kernel, by decide +kernel, rfl⟩, rfl⟩,
   ⟨at_ 0x17 0, _, 0, ((at_ 0x17 0).sbWord 0).getD 0, (at_ 0x17 0).sbCycle 0, ⟨by decide +kernel, by decide +kernel, by decide +kernel, by decide +kernel, rfl⟩, rfl⟩,
   ⟨waits 2 (.time (up.stCyc (up.fcyc + 1)) 0 none), 0, up.stCyc (up.fcyc + 1), 0, none, by decide +kernel, by decide +kernel, by decide +kernel, by decide +kernel, by decide +kernel⟩,
   ⟨(waits 3 (.ev 1 false true none)).wr64 (Reg.SB_EVF 0) 3, 0, 1, _, none, rfl, by decide +kernel, by decide +kernel, by decide +kernel, by decide +kernel⟩,
   ⟨waits 4 .fence, 0, by decide +kernel, by decide +kernel, by decide +kernel, by decide +kernel⟩,
   ⟨waits 3 (.ev 1 false true (some 0)), 0, 1, 0, false, true, by decide +kernel, by decide +kernel, by decide +kernel, by decide +kernel⟩,
   ⟨at_ 0x05 (2^49 + 3 * 2^32 + 0x1000), _, 0, ((at_ 0x05 (2^49 + 3 * 2^32 + 0x1000)).sbWord 0).getD 0, (at_ 0x05 (2^49 + 3 * 2^32 + 0x1000)).sbCycle 0, ⟨by decide +kernel, by decide +kernel, by decide +kernel, by decide +kernel, rfl⟩, rfl⟩,
   ⟨at_ 0x06 0x1000, _, 0, ((at_ 0x06 0x1000).sbWord 0).getD 0, (at_ 0x06 0x1000).sbCycle 0, ⟨by decide +kernel, by decide +kernel, by decide +kernel, by decide +kernel, rfl⟩, rfl⟩,
   ⟨at_ 0x07 (5 * 2^40), _, 0, ((at_ 0x07 (5 * 2^40)).sbWord 0).getD 0, (at_ 0x07 (5 * 2^40)).sbCycle 0, ⟨by decide +kernel, by decide +kernel, by decide +kernel, by decide +kernel, rfl⟩, rfl⟩,
   ⟨at_ 0x08 (2^32 + 3), _, 0, ((at_ 0x08 (2^32 + 3)).sbWord 0).getD 0, (at_ 0x08 (2^32 + 3)).sbCycle 0, ⟨by decide +kernel, by decide +kernel, by decide +kernel, by decide +kernel, rfl⟩, rfl⟩,
   ⟨at_ 0x0C (2^48), _, 0, ((at_ 0x0C (2^48)).sbWord 0).getD 0, (at_ 0x0C (2^48)).sbCycle 0, ⟨by decide +kernel, by decide +kernel, by decide +kernel, by decide +kernel, rfl⟩, rfl⟩,
   ⟨at_ 0x0D 7, _, 0, ((at_ 0x0D 7).sbWord 0).getD 0, (at_ 0x0D 7).sbCycle 0, ⟨by decide +kernel, by decide +kernel, by decide +kernel, by decide +kernel, rfl⟩, rfl⟩,
   ⟨at_ 0x0E (15 * 2^40), _, 0, ((at_ 0x0E (15 * 2^40)).sbWord 0).getD 0, (at_ 0x0E (15 * 2^40)).sbCycle 0, ⟨by decide +kernel, by decide +kernel, by decide +kernel, by decide +kernel, rfl⟩, rfl, by decide +kernel⟩,
   ⟨at_ 0x0E (2^49 + 15 * 2^40), _, 0, ((at_ 0x0E (2^49 + 15 * 2^40)).sbWord 0).getD 0, (at_ 0x0E (2^49 + 15 * 2^40)).sbCycle 0, _, ⟨by decide +kernel, by decide +kernel, by decide +kernel, by decide +kernel, rfl⟩, rfl, by decide +kernel, rfl⟩,
   ⟨at_ 0x09 0, _, 0, false, ((at_ 0x09 0).sbWord 0).getD 0, (at_ 0x09 0).sbCycle 0, ((at_ 0x09 0).issued 0 ((at_ 0x09 0).sbCycle 0)).wqPush 0 0 0 8 |>.2, ⟨by decide +kernel, by decide +kernel, by decide +kernel, by decide +kernel, rfl⟩, rfl, rfl⟩,
   ⟨fullQ (at_ 0x09 0), _, 0, false, ((fullQ (at_ 0x09 0)).sbWord 0).getD 0, (fullQ (at_ 0x09 0)).sbCycle 0, ((fullQ (at_ 0x09 0)).issued 0 ((fullQ (at_ 0x09 0)).sbCycle 0)).wqPush 0 0 0 8 |>.2, ⟨by decide +kernel, by decide +kernel, by decide +kernel, by decide +kernel, rfl⟩, rfl, rfl⟩,
   ⟨at_ 0x0A 0, _, 0, false, ((at_ 0x0A 0).sbWord 0).getD 0, (at_ 0x0A 0).sbCycle 0, (dmaGoWrite 0 false (setF 0 Fld.DMA_GO_START 1) ((at_ 0x0A 0).issued 0 ((at_ 0x0A 0).sbCycle 0))).2, ⟨by decide +kernel, by decide +kernel, by decide +kernel, by decide +kernel, rfl⟩, rfl, rfl⟩,
   ⟨at_ 0x0B 3, _, 0, false, ((at_ 0x0B 3).sbWord 0).getD 0, (at_ 0x0B 3).sbCycle 0, (mbxMessage 3 8 (List.replicate 16 0) ((at_ 0x0B 3).issued 0 ((at_ 0x0B 3).sbCycle 0))).2, ⟨by decide +kernel, by decide +kernel, by decide +kernel, by decide +kernel, rfl⟩, rfl, by decide +kernel, rfl⟩,
   ⟨at_ 0x0B 30, _, 0, false, ((at_ 0x0B 30).sbWord 0).getD 0, (at_ 0x0B 30).sbCycle 0, ⟨by decide +kernel, by decide +kernel, by decide +kernel, by decide +kernel, rfl⟩, rfl, by decide +kernel⟩,
   ⟨at_ 0x16 (7 * 2^47 + 3 * 2^16), _, 0, false, ((at_ 0x16 (7 * 2^47 + 3 * 2^16)).sbWord 0).getD 0, (at_ 0x16 (7 * 2^47 + 3 * 2^16)).sbCycle 0, ⟨by decide +kernel, by decide +kernel, by decide +kernel, by decide +kernel, rfl⟩, rfl, by decide +kernel⟩,
   ⟨(at_ 0x16 (7 * 2^47 + 2^46 + 3 * 2^16)).wr64 (Reg.SB_EVF 0) 0xFF, _, 0, false, (((at_ 0x16 (7 * 2^47 + 2^46 + 3 * 2^16)).wr64 (Reg.SB_EVF 0) 0xFF).sbWord 0).getD 0, ((at_ 0x16 (7 * 2^47 + 2^46 + 3 * 2^16)).wr64 (Reg.SB_EVF 0) 0xFF).sbCycle 0, ⟨by decide +kernel, by decide +kernel, by decide +kernel, by decide +kernel, rfl⟩, rfl, by decide +kernel⟩⟩

theorem witness_EngineControlAndReliefTakeEffect :
    (∃ (s : State) (r : Req) (e : Fin 5), (s.grants r (Reg.SB_CTL e)) ∧ s.engIdle e = true ∧ (e ≠ 4 ∨ s.sb.heir = none)) ∧
    (∃ (s : State) (r : Req) (k : Nat), (s.grants r (Reg.SB_CTL 4)) ∧ s.engIdle 4 = true ∧ s.sb.heir = some k) ∧
    (∃ (s : State) (t : State) (r : Req) (e : Fin 5), (s.grants r (Reg.SB_CTL e)) ∧ (1 ≤ s.sbState e) ∧ (s.sbState e ≤ 4) ∧ (s.entering r).setFld (Reg.SB_CTL e) Fld.SB_CTL_RUN 0 = t) ∧
    (∃ (s : State) (t : State) (u : State) (r : Req) (e : Fin 5), (s.grants r (Reg.SB_CTL e)) ∧ s.engIdle e = true ∧ (e ≠ 4 ∨ s.sb.heir = none) ∧ ((s.entering r).toEntry e).setC e false = t ∧ (t.wr (Reg.SB_STATUS e) (setF (setF (t.rd (Reg.SB_STATUS e)) Fld.SB_STATUS_FAULT 0) Fld.SB_STATUS_STATE 0)).setFld (Reg.SB_CTL e)
      Fld.SB_CTL_RUN 1 = u ∧ u.engIdle e = true) ∧
    (∃ (s : State) (r : Req) (e : Fin 5) (run : Bool), (s.grants r (Reg.SB_CTL e)) ∧ s.sbShadows e = false ∧ s.engIdle e = false) ∧
    (∃ (s : State) (r : Req) (e : Fin 5) (v : DWord), (s.grants r (Reg.SB_EVSET e)) ∧ s.sbShadows e = false) ∧
    (∃ (s : State) (r : Req) (e : Fin 5) (v : DWord), (s.grants r (Reg.SB_EVCLR e)) ∧ s.sbShadows e = false) ∧
    (∃ (s : State) (r : Req) (run : Bool), (s.grants r (Reg.SB_CTL 4)) ∧ s.sbShadows 4 = true) ∧
    (∃ (s : State) (r : Req) (v : Word), (s.grants r Reg.SB_FE_SAFE)) ∧
    (∃ (s : State) (e : Fin 5) (par : Bool), s.clkOn Fld.SYS_CLK_STATUS_FCLK = true ∧ (1 ≤ s.sbState e) ∧ (s.sbState e ≤ 4)) ∧
    (∃ (s : State) (e : Fin 5), s.clkOn Fld.SYS_CLK_STATUS_FCLK = true ∧ s.sbState e = 1 ∧ s.sbWord e = none) ∧
    (∃ (s : State) (e : Fin 5) (w : Nat), s.clkOn Fld.SYS_CLK_STATUS_FCLK = true ∧ s.sbState e = 1 ∧ s.sbWord e = some w ∧ sbLegal w = false) ∧
    (∃ (s : State) (u : State) (t : State) (r : Req) (target : BitVec 4) (e : Nat), (s.grants r Reg.SB_RELIEF) ∧ s.bit Reg.SB_RELIEF Fld.SB_RELIEF_TAKEN = false ∧ (s.entering r).sbUnshadow.setFld Reg.SB_RELIEF Fld.SB_RELIEF_TARGET target.toNat = u ∧ { u with sb := { u.sb with heir := none } } = t ∧ t.sbTarget = some e ∧ (t.sbState e ≠ 5)) ∧
    (∃ (s : State) (u : State) (t : State) (v : State) (r : Req) (target : BitVec 4) (e : Nat), (s.grants r Reg.SB_RELIEF) ∧ s.bit Reg.SB_RELIEF Fld.SB_RELIEF_TAKEN = false ∧ (s.entering r).sbUnshadow.setFld Reg.SB_RELIEF Fld.SB_RELIEF_TARGET target.toNat = u ∧ { u with sb := { u.sb with heir := none } } = t ∧ t.sbTarget = some e ∧ t.sbState e = 5 ∧ ((((t.sbCopyBanks e).setFld (Reg.SB_STATUS 4) Fld.SB_STATUS_ABANK (t.sbActive e)).toEntry 4).setSb 4 0).setFld (Reg.SB_CTL 4) Fld.SB_CTL_RUN 0 = v) ∧
    (∃ (s : State) (r : Req) (e : Nat), (s.grants r Reg.SB_RELIEF) ∧ s.sbTarget = some e ∧ s.sbSynced = true) ∧
    (∃ (s : State) (r : Req), (s.grants r Reg.SB_RELIEF) ∧ s.sbSynced = false) ∧
    (∃ (s : State) (t : State) (u : State) (e : Nat), s.sbTarget = some e ∧ s.sb.syncing = true ∧ s.clkOn Fld.SYS_CLK_STATUS_FCLK = true ∧ (s.sbState e = 0 ∨ (2 ≤ s.sbState e ∧ s.sbState e ≤ 4)) ∧ (s.sbCopyBanks e).sbCopyRegs e = t ∧ ((t.setEng 4 { t.eng 4 with wait := .none, staged := [] }).setSb 4 7).setFld Reg.SB_RELIEF Fld.SB_RELIEF_SYNCED 1 = u) ∧
    (∃ (s : State) (t : State) (e : Fin 5) (d : Nat), firstDue (s.eng e).staged = some d ∧ (d ≤ s.fcyc) ∧ s.clkOn Fld.SYS_CLK_STATUS_FCLK = true ∧ s.setEng e { s.eng e with staged := (s.eng e).staged.filter (fun y => y.due != d) } = t) ∧
    (∃ (s : State) (t : State) (p : Fin 4) (sdi : BitVec 64) (f : FeFrame) (rest : List FeFrame), s.feFrames p = f :: rest ∧ s.clkOn Fld.SYS_CLK_STATUS_FCLK = true ∧ kvGet (fun _ => 0) s.sb.feAt p + f.nbits * s.fePeriod p ≤ s.fcyc ∧ (s.setFe p rest (Nat.max s.fcyc (kvGet (fun _ => 0) s.sb.feAt p + f.nbits * s.fePeriod p) + 2 * s.fePeriod p)).emit
      (.fespi p f.nbits f.data) = t) :=
  ⟨⟨withProg, mg, 0, by unfold State.grants; decide +kernel, by decide +kernel, by decide +kernel⟩,
   ⟨{ withProg with sb := { withProg.sb with heir := some 0 } }, mg, 0, by unfold State.grants; decide +kernel, by decide +kernel, by decide +kernel⟩,
   ⟨at_ 0 0, _, mg, 0, by unfold State.grants; decide +kernel, by decide +kernel, by decide +kernel, rfl⟩,
   ⟨withProg, _, _, mg, 0, by unfold State.grants; decide +kernel, by decide +kernel, by decide +kernel, rfl, rfl, by decide +kernel⟩,
   ⟨at_ 0 0, mg, 0, true, by unfold State.grants; decide +kernel, by decide +kernel, by decide +kernel⟩,
   ⟨up, mg, 0, 5, by unfold State.grants; decide +kernel, by decide +kernel⟩,
   ⟨up.wr64 (Reg.SB_EVF 0) 0xFF, mg, 0, 5, by unfold State.grants; decide +kernel, by decide +kernel⟩,
   ⟨up.setSb 4 7, mg, true, by unfold State.grants; decide +kernel, by decide +kernel⟩,
   ⟨up, mg, 0x55, by unfold State.grants; decide +kernel⟩,
   ⟨at_ 0 0, 0, true, by decide +kernel, by decide +kernel, by decide +kernel⟩,
   ⟨(at_ 0 0).setPc 0 100, 0, by decide +kernel, by decide +kernel, by decide +kernel⟩,
   ⟨at_ 0x3F 0, 0, 0x3F * 2^58, by decide +kernel, by decide +kernel, by decide +kernel, by decide +kernel⟩,
   ⟨up, _, _, mg, 2, 2, by unfold State.grants; decide +kernel, by decide +kernel, rfl, rfl, by decide +kernel, by decide +kernel⟩,
   ⟨up.setSb 2 5, _, _, _, mg, 2, 2, by unfold State.grants; decide +kernel, by decide +kernel, rfl, rfl, by decide +kernel, by decide +kernel, rfl⟩,
   ⟨(up.setFld Reg.SB_RELIEF Fld.SB_RELIEF_TARGET 2).setFld Reg.SB_RELIEF Fld.SB_RELIEF_SYNCED 1, mg, 2, by unfold State.grants; decide +kernel, by decide +kernel, by decide +kernel⟩,
   ⟨up, mg, by unfold State.grants; decide +kernel, by decide +kernel⟩,
   ⟨(({ up with sb := { up.sb with syncing := true } } : State).setFld Reg.SB_RELIEF Fld.SB_RELIEF_TARGET 2), _, _, 2, by decide +kernel, by decide +kernel, by decide +kernel, by decide +kernel, rfl, rfl⟩,
   ⟨up.setEng 0 { up.eng 0 with staged := [⟨5, .set 0x1000 3, none⟩] }, _, 0, 5, by decide +kernel, by decide +kernel, by decide +kernel, rfl⟩,
   ⟨up.setFe 1 [⟨0, 8, 5, 3, true⟩] 0, _, 1, 0x1FF, ⟨0, 8, 5, 3, true⟩, [], by decide +kernel, by decide +kernel, by decide +kernel, rfl⟩⟩

theorem witness_LodeClusterCommandsTakeEffect :
    (∃ (s : State) (r : Req) (q : Fin 8) (v : Word), (s.grants r (Reg.LODE_WQ_PUSH q)) ∧ wqFull (s.wq q) = false) ∧
    (∃ (s : State) (r : Req) (q : Fin 8) (v : Word), (s.grants r (Reg.LODE_WQ_PUSH q)) ∧ wqFull (s.wq q) = true) ∧
    (∃ (s : State) (c : Fin 34) (q : Nat) (code : Nat) (it : WorkItem) (rest : List WorkItem), s.vclk = true ∧ s.pullsFrom c = some q ∧ s.wq q = it :: rest ∧ (List.range c).any (fun d => s.pullsFrom d == some q) = false ∧ s.descBad (it.desc / 64 * 64) = some code) ∧
    (∃ (s : State) (c : Fin 34) (q : Nat) (it : WorkItem) (rest : List WorkItem), s.vclk = true ∧ s.pullsFrom c = some q ∧ s.wq q = it :: rest ∧ (List.range c).any (fun d => s.pullsFrom d == some q) = false ∧ s.descBad (it.desc / 64 * 64) = none) ∧
    (∃ (s : State) (c : Fin 34), s.itemRuns c = true ∧ s.wdogDue c = true) ∧
    (∃ (s : State) (c : Fin 34) (ws : List Nat) (d : LodeDelta), s.bundleDue c = true ∧ s.wdogDue c = false ∧ bundleWords (s.lodeFetch c (s.core c)) (s.core c).pc 3 = ws ∧ bundleTrap ws = 0 ∧ ((s.core c).local_ = false ∨ (s.core c).pc + 4 * ws.length ≤ 0x10000) ∧ lodeBundle s c (s.core c) ws (s.bit (Reg.LODE_CFG c) Fld.LODE_CFG_TRUNC) 0 = (0, d) ∧ d.fab = none) ∧
    (∃ (s : State) (c : Fin 34) (ws : List Nat) (code : Nat), s.bundleDue c = true ∧ bundleWords (s.lodeFetch c (s.core c)) (s.core c).pc 3 = ws ∧ bundleTrap ws = code ∧ (code ≠ 0) ∧ (s.core c).local_ = false) ∧
    (∃ (s : State) (c : Fin 34), s.itemRuns c = true ∧ (s.core c).busErr = true) ∧
    (∃ (s : State) (t : State) (c : Fin 34) (st : Nat) (code : Nat), s.vclk = true ∧ (s.core c).ended = some (st, code) ∧ (s.core c).busErr = false ∧ (s.lodeComplete c st code).coreFree c = t) ∧
    (∃ (s : State) (c : Fin 34), s.vclk = true ∧ s.coreState c = 5 ∧ (s.core c).item = none) ∧
    (∃ (s : State) (t : State) (c : Fin 34) (u : Nat), s.vclk = true ∧ (s.coreState c ≠ 4) ∧ (s.coreState c ≠ 5) ∧ (s.core c).item = none ∧ (((s.raise 0x9003 c).withdraw (16 + c)).ownerLost (16 + c) 2).coreFree c = t ∧ t.lode.copy = none ∧ t.lode.retiring = none ∧ t.spareCore = some u) ∧
    (∃ (s : State) (t : State) (r : Req) (v : Word) (c : Nat), (s.grants r Reg.LODE_RELIEF) ∧ getF v Fld.LODE_RELIEF_RETIRE = 1 ∧ c = getF v Fld.LODE_RELIEF_CORE ∧ s.bit Reg.LODE_RELIEF Fld.LODE_RELIEF_BUSY = false ∧ (c < 34) ∧ (s.coreState c < 3) ∧ (s.coreLogical c ≠ 0x3F) ∧ ({ s.entering r with lode := { s.lode with retiring := some c, copy := none } } : State).setFld Reg.LODE_RELIEF Fld.LODE_RELIEF_BUSY 1 = t) ∧
    (∃ (s : State) (c : Nat), s.lode.retiring = some c ∧ s.vclk = true ∧ (s.core c).running = false ∧ s.lode.copy = none) ∧
    (∃ (s : State) (t : State) (c : Nat) (u : Nat) (at_ : Nat), s.lode.retiring = some c ∧ s.vclk = true ∧ (s.core c).running = false ∧ s.lode.copy = some (u, at_) ∧ (at_ + 1024 ≤ s.lodeCyc) ∧ (s.mem.filter (fun x => decide (coreMem c ≤ x.1 ∧ x.1 < coreMem c + 0x10000))).foldl
      (fun (v : State) x => v.stb (x.1 - coreMem c + coreMem u) x.2) (s.clearMem (coreMem u) (coreMem u + 0x10000)) = t) ∧
    (∃ (s : State) (t : State) (b : Fin 256) (x : BankArb) (y : BankArb) (q : Nat), s.vclk = true ∧ s.bank b = x ∧ x.waiting = [] ∧ x.parked = some q ∧ { x with cyc := Nat.max s.lodeCyc (x.cyc + 1), tLast := Nat.max x.tLast (Nat.max s.lodeCyc (x.cyc + 1)) } = y ∧ { s with lode := { s.lode with banks := kvSet (fun _ => {}) s.lode.banks b y } } = t) ∧
    (∃ (s : State) (b : Fin 256) (arrive : List Nat) (leave : List Nat) (q : Nat) (k : Nat) (rest : List (Nat × Nat)), s.vclk = true ∧ (s.bank b).waiting = (q, k) :: rest ∧ leave.contains q = false) :=
  ⟨⟨up, mg, 3, 0x40, by unfold State.grants; decide +kernel, by decide +kernel⟩,
   ⟨fullQ up, mg, 0, 0x40, by unfold State.grants; decide +kernel, by decide +kernel⟩,
   ⟨pulling false, 0, 2, 3, ⟨0x40, 7, false, 0, 0⟩, [], by decide +kernel, by decide +kernel, by decide +kernel, by decide +kernel, by decide +kernel⟩,
   ⟨pulling true, 0, 2, ⟨0x40, 7, false, 0, 0⟩, [], by decide +kernel, by decide +kernel, by decide +kernel, by decide +kernel, by decide +kernel⟩,
   ⟨(runs1 0).setCore 1 { (runs1 0).core 1 with wdog := 1, startCyc := 0 } |>.wr64 Reg.LODE_CYC 5000, 1, by decide +kernel, by decide +kernel⟩,
   ⟨runs1 0x80000000, 1, _, (lodeBundle (runs1 0x80000000) 1 ((runs1 0x80000000).core 1) [0x80000000] ((runs1 0x80000000).bit (Reg.LODE_CFG 1) Fld.LODE_CFG_TRUNC) 0).2, by decide +kernel, by decide +kernel, rfl, by decide +kernel, by decide +kernel, rfl, by decide +kernel⟩,
   ⟨runs1 0xFFFFFFFF, 1, _, _, by decide +kernel, rfl, rfl, by decide +kernel, by decide +kernel⟩,
   ⟨(runs1 0).setCore 1 { (runs1 0).core 1 with busErr := true }, 1, by decide +kernel, by decide +kernel⟩,
   ⟨(runs1 0).setCore 1 { (runs1 0).core 1 with ended := some (0, 0) }, _, 1, 0, 0, by decide +kernel, by decide +kernel, by decide +kernel, rfl⟩,
   ⟨up.setFld (Reg.LODE_CORE_STAT 33) Fld.LODE_CORE_STAT_STATE 5, 33, by decide +kernel, by decide +kernel, by decide +kernel⟩,
   ⟨(up.setFld (Reg.LODE_CORE_STAT 32) Fld.LODE_CORE_STAT_STATE 5).setFld (Reg.LODE_CORE_STAT 1) Fld.LODE_CORE_STAT_STATE 0, _, 1, 32, by decide +kernel, by decide +kernel, by decide +kernel, by decide +kernel, rfl, by decide +kernel, by decide +kernel, by decide +kernel⟩,
   ⟨up.setFld (Reg.LODE_CORE_STAT 1) Fld.LODE_CORE_STAT_STATE 0, _, mg, BitVec.ofNat 32 ((1 <<< Fld.LODE_RELIEF_RETIRE.lsb) + (1 <<< Fld.LODE_RELIEF_CORE.lsb)), _, by unfold State.grants; decide +kernel, by decide +kernel, rfl, by decide +kernel, by decide +kernel, by decide +kernel, by decide +kernel, rfl⟩,
   ⟨{ up with lode := { up.lode with retiring := some 1 } }, 1, by decide +kernel, by decide +kernel, by decide +kernel, by decide +kernel⟩,
   ⟨({ up with lode := { up.lode with retiring := some 1, copy := some (33, 0) } } : State).wr64 Reg.LODE_CYC 5000, _, 1, 33, 0, by decide +kernel, by decide +kernel, by decide +kernel, by decide +kernel, by decide +kernel, rfl⟩,
   ⟨{ up with lode := { up.lode with banks := [(3, { parked := some 5 })] } }, _, 3, _, _, 5, by decide +kernel, rfl, by decide +kernel, by decide +kernel, rfl, rfl⟩,
   ⟨{ up with lode := { up.lode with banks := [(3, { waiting := [(5, 1)] })] } }, 3, [], [], 5, 1, [], by decide +kernel, by decide +kernel, by decide +kernel⟩⟩

theorem witness_MemoryRepairAndAlarmsTakeEffect :
    (∃ (s : State) (t : State) (dir : Fin 2) (ant : Fin 64) (car : Fin 8) (re : Nat), s.clkOn Fld.SYS_CLK_STATUS_FCLK = true ∧ s.bfOff dir ant = false ∧ s.fld (Reg.REPAIR_BFMAP dir) (bfMapF (ant.val / 16)) = 0x1F ∧ { s with bfErr := (dir.val, ant.val, car.val, re) :: s.bfErr } = t) ∧
    (∃ (s : State) (t : State) (dir : Fin 2) (ant : Fin 64) (car : Fin 8) (re : Nat), s.clkOn Fld.SYS_CLK_STATUS_FCLK = true ∧ s.bfOff dir ant = false ∧ (s.fld (Reg.REPAIR_BFMAP dir) (bfMapF (ant.val / 16)) ≠ 0x1F) ∧ { s with bfErr := (dir.val, ant.val, car.val, re) :: s.bfErr } = t) ∧
    (∃ (s : State) (t : State) (array : Nat) (row : Fin 128) (addr : Nat), s.clkOn Fld.SYS_CLK_STATUS_CCLK = true ∧ s.sram.due.contains (array, row.val) = false ∧ s.sram.failed.contains (array, row.val) = false ∧ { s.clearMem (addr / 8 * 8) (addr / 8 * 8 + 8) with sram := { s.sram with due := s.sram.due ++ [(array, row.val)] } } = t) ∧
    (∃ (s : State) (t : State) (array : Nat) (row : Fin 128) (n : Nat), s.clkOn Fld.SYS_CLK_STATUS_CCLK = true ∧ (s.sram.scrubAt + s.scrubTicks ≤ s.tick) ∧ (0 < n) ∧ s.sram.suspect.contains (array, row.val) = false ∧ { s with sram := { s.sram with suspect := [(array, row.val)], scrubAt := s.tick } } = t) ∧
    (∃ (s : State) (t : State) (array : Nat) (row : Fin 128) (n : Nat), s.clkOn Fld.SYS_CLK_STATUS_CCLK = true ∧ (s.sram.scrubAt + s.scrubTicks ≤ s.tick) ∧ (0 < n) ∧ s.sram.suspect.contains (array, row.val) = true ∧ s.sram.due.contains (array, row.val) = false ∧ s.sram.failed.contains (array, row.val) = false ∧ { s with sram := { s.sram with suspect := [(array, row.val)], due := s.sram.due ++ [(array, row.val)], scrubAt := s.tick } } = t) ∧
    (∃ (s : State) (array : Nat) (row : Fin 128), s.sram.due.contains (array, row.val) = true ∧ s.clkOn Fld.SYS_CLK_STATUS_CCLK = true ∧ (s.rowsUsed array < 2)) ∧
    (∃ (s : State) (array : Nat) (row : Fin 128), s.sram.due.contains (array, row.val) = true ∧ s.clkOn Fld.SYS_CLK_STATUS_CCLK = true ∧ (2 ≤ s.rowsUsed array)) ∧
    (∃ (s : State) (r : Req) (v : Word), (s.grants r Reg.EVT_IRQ_ACK)) ∧
    (∃ (s : State) (pin : Fin 32), s.held = false) :=
  ⟨⟨up.setFld (Reg.REPAIR_BFMAP 0) (bfMapF 0) 0x1F, _, 0, 5, 0, 7, by decide +kernel, by decide +kernel, by decide +kernel, rfl⟩,
   ⟨up.setFld (Reg.REPAIR_BFMAP 0) (bfMapF 0) 3, _, 0, 5, 0, 7, by decide +kernel, by decide +kernel, by decide +kernel, rfl⟩,
   ⟨up, _, 9, 5, 0x10000004, by decide +kernel, by decide +kernel, by decide +kernel, rfl⟩,
   ⟨up, _, 9, 5, 3, by decide +kernel, by decide +kernel, by decide +kernel, by decide +kernel, rfl⟩,
   ⟨{ up with sram := { up.sram with suspect := [(9, 5)] } }, _, 9, 5, 3, by decide +kernel, by decide +kernel, by decide +kernel, by decide +kernel, by decide +kernel, by decide +kernel, rfl⟩,
   ⟨{ up with sram := { up.sram with due := [(9, 5)] } }, 9, 5, by decide +kernel, by decide +kernel, by decide +kernel⟩,
   ⟨{ up with sram := { up.sram with due := [(9, 5)], retired := [(9, 1), (9, 2)] } }, 9, 5, by decide +kernel, by decide +kernel, by decide +kernel⟩,
   ⟨up, mg, 5, by unfold State.grants; decide +kernel⟩,
   ⟨up, 7, by decide +kernel⟩⟩

theorem witness_BusAccessesTakeEffect :
    (∃ (s : State) (t : State) (r : Req) (addr : Word) (v : Word) (code : Nat), s.writeCauses r addr.toNat = 0 ∧ s.wordGroup addr.toNat = none ∧ (s.entering r).regWrite r addr.toNat v s.nowTh = (code, t)) ∧
    (∃ (s : State) (r : Req) (addr : Word) (code : Nat) (d : Nat) (t : State), (s.grants r addr.toNat) ∧ s.wordGroup addr.toNat = none ∧ s.regRead r addr.toNat = (code, d, t)) ∧
    (∃ (s : State) (r : Req) (addr : Word) (n : Nat), (s.grants r addr.toNat) ∧ s.wordGroup addr.toNat = some (addr.toNat, n, 0)) ∧
    (∃ (s : State) (r : Req) (addr : Word) (base : Nat) (n : Nat) (w : Nat), (s.grants r addr.toNat) ∧ s.wordGroup addr.toNat = some (base, n, w + 1) ∧ (s.busOf r.id).rdTag = some base) ∧
    (∃ (s : State) (r : Req) (addr : Word) (v : Word) (base : Nat) (n : Nat) (w : Nat), s.writeCauses r addr.toNat = 0 ∧ s.wordGroup addr.toNat = some (base, n, w) ∧ (w + 1 < n)) ∧
    (∃ (s : State) (t : State) (r : Req) (addr : Word) (v : Word) (base : Nat) (n : Nat) (code : Nat), s.writeCauses r addr.toNat = 0 ∧ s.wordGroup addr.toNat = some (base, n + 1, n) ∧ (s.entering r).regCommit base (s.commitWords r base (n + 1) v) s.nowTh = (code, t)) ∧
    (∃ (s : State) (t : State) (r : Req) (addr : Word) (v : DWord) (code : Nat), wideReq r = true ∧ s.wideCause r addr.toNat = 0 ∧ (findReg addr.toNat).isSome = true ∧ s.regCommit addr.toNat [v.toNat % 2 ^ 32, v.toNat / 2 ^ 32 % 2 ^ 32] s.nowTh = (code, t)) ∧
    (∃ (s : State) (r : Req) (addr : Word), wideReq r = true ∧ s.wideCause r addr.toNat = 0 ∧ (findReg addr.toNat).isSome = true) ∧
    (∃ (s : State) (r : Req) (v : Word), (s.grants r Reg.SYS_ACCERR)) ∧
    (∃ (s : State) (r : Req) (b : Fin 46) (k : Fin 8) (v : Word) (amt : Nat), (s.grants r (Reg.PMU_CNT b k)) ∧ s.wordGroup (Reg.PMU_CNT b k) = none) ∧
    (∃ (s : State) (t : State) (p : Fin 2) (h : RxHdr) (tag : BitVec 8) (addr : Word) (v : Word) (code : Nat), s.lstate p = 2 ∧ (s.inOrder p h) ∧ (s.tookBk p h 1 true).busWrite ⟨p + 1, false⟩ addr.toNat v = (code, t)) ∧
    (∃ (s : State) (t : State) (p : Fin 2) (h : RxHdr) (tag : BitVec 8) (addr : Word) (code : Nat) (d : Nat), s.lstate p = 2 ∧ (s.inOrder p h) ∧ (s.tookBk p h 1 true).busRead ⟨p + 1, false⟩ addr.toNat = (code, d, t)) ∧
    (∃ (s : State) (addr : Word) (words : List Word), s.held = false) ∧
    (∃ (s : State) (t : State) (addr : Word) (n : Fin 64) (bs : List Nat), s.held = false ∧ s.mspiFall.mspiReads addr.toNat (n + 1) = (bs, t)) ∧
    (∃ (s : State) (code : Nat), s.held = false ∧ s.mspiErr = some code) ∧
    (∃ (s : State), s.held = false ∧ s.mspiErr = none) :=
  ⟨⟨up, _, mg, BitVec.ofNat 32 (Reg.DPD_PMIN 3), 7, _, by decide +kernel, by decide +kernel, rfl⟩,
   ⟨up, mg, BitVec.ofNat 32 Reg.SYS_ID, _, _, _, by unfold State.grants; decide +kernel, by decide +kernel, rfl⟩,
   ⟨up, mg, BitVec.ofNat 32 Reg.TIME_TB_CNT, 2, by unfold State.grants; decide +kernel, by decide +kernel⟩,
   ⟨up.setBus 3 { up.busOf 3 with rdTag := some Reg.TIME_TB_CNT, rdHold := [9] }, mg, BitVec.ofNat 32 (Reg.TIME_TB_CNT + 4), Reg.TIME_TB_CNT, 2, 0, by unfold State.grants; decide +kernel, by decide +kernel, by decide +kernel⟩,
   ⟨up, mg, BitVec.ofNat 32 (Reg.SB_SWAPT 0), 7, Reg.SB_SWAPT 0, 2, 0, by decide +kernel, by decide +kernel, by decide +kernel⟩,
   ⟨up, _, mg, BitVec.ofNat 32 (Reg.SB_SWAPT 0 + 4), 7, Reg.SB_SWAPT 0, 1, _, by decide +kernel, by decide +kernel, rfl⟩,
   ⟨up, _, ⟨16, false⟩, BitVec.ofNat 32 (Reg.SB_SWAPT 0), 7, _, by decide +kernel, by decide +kernel, by decide +kernel, rfl⟩,
   ⟨up, ⟨16, false⟩, BitVec.ofNat 32 (Reg.SB_SWAPT 0), by decide +kernel, by decide +kernel, by decide +kernel⟩,
   ⟨up, mg, 1, by unfold State.grants; decide +kernel⟩,
   ⟨up, mg, 0, 0, 5, 1, by unfold State.grants; decide +kernel, by decide +kernel⟩,
   ⟨up, ((up.tookBk 0 hd 1 true).busWrite ⟨1, false⟩ (Reg.SB_SWAPT 0) 5).2, 0, hd, 7, BitVec.ofNat 32 (Reg.SB_SWAPT 0), 5, 0, by decide +kernel, by unfold State.inOrder State.sees; decide +kernel, by decide +kernel⟩,
   ⟨up, ((up.tookBk 0 hd 1 true).busRead ⟨1, false⟩ (Reg.SB_SWAPT 0)).2.2, 0, hd, 7, BitVec.ofNat 32 (Reg.SB_SWAPT 0), 0, 0, by decide +kernel, by unfold State.inOrder State.sees; decide +kernel, by decide +kernel⟩,
   ⟨up, BitVec.ofNat 32 (Reg.SB_SWAPT 0), [5], by decide +kernel⟩,
   ⟨up, _, BitVec.ofNat 32 (Reg.SB_SWAPT 0), 1, _, by decide +kernel, rfl⟩,
   ⟨{ up with mspiErr := some 4 }, 4, by decide +kernel, by decide +kernel⟩,
   ⟨up, by decide +kernel, by decide +kernel⟩⟩

theorem witness_PowerAndResetCommandsTakeEffect :
    (∃ (s : State) (r : Req) (v : Word), (s.grants r Reg.PWR_CMD) ∧ s.bit Reg.PWR_STATUS Fld.PWR_STATUS_SAFE = false ∧ s.power.trans = none ∧ s.pstate = 4 ∧ getF v Fld.PWR_CMD_TARGET = 5) ∧
    (∃ (s : State) (r : Req) (v : Word), (s.grants r Reg.PWR_CMD) ∧ s.bit Reg.PWR_STATUS Fld.PWR_STATUS_SAFE = false ∧ s.power.trans = none ∧ s.pstate = 5 ∧ getF v Fld.PWR_CMD_TARGET = 4) ∧
    (∃ (s : State) (r : Req) (v : Word), (s.grants r Reg.PWR_CMD) ∧ s.bit Reg.PWR_STATUS Fld.PWR_STATUS_SAFE = false ∧ s.power.trans = none ∧ s.pstate = 5 ∧ getF v Fld.PWR_CMD_TARGET = 6) ∧
    (∃ (s : State) (r : Req) (v : Word), (s.grants r Reg.PWR_CMD) ∧ s.bit Reg.PWR_STATUS Fld.PWR_STATUS_SAFE = false ∧ s.power.trans = none ∧ s.pstate = 4 ∧ (1 ≤ getF v Fld.PWR_CMD_TARGET) ∧ (getF v Fld.PWR_CMD_TARGET ≤ 3) ∧ s.workInProgress = false) ∧
    (∃ (s : State) (r : Req) (v : Word), (s.grants r Reg.PWR_CMD) ∧ s.power.trans.isSome = true) ∧
    (∃ (s : State) (refclk : Bool) (swapped : Bool) (lost : BitVec 7) (t : Trans), s.power.trans = some t ∧ s.held = false ∧ (t.at_ + stepTicks t.step ≤ s.tick) ∧ s.power.safeDue = false) ∧
    (∃ (s : State) (mask : BitVec 4) (src : Nat), src = Nat.land mask.toNat (s.fld Reg.PWR_CTL Fld.PWR_CTL_WAKEEN) ∧ (src ≠ 0) ∧ s.held = false ∧ s.power.trans = none ∧ (1 ≤ s.pstate) ∧ (s.pstate ≤ 3)) ∧
    (∃ (s : State) (t : State) (p : Fin 2) (src : Nat), s.setPort p { s.port p with beacon := false } = t ∧ src = Nat.land (4 * 2 ^ p.val) (s.fld Reg.PWR_CTL Fld.PWR_CTL_WAKEEN) ∧ (src ≠ 0) ∧ s.held = false ∧ s.power.trans = none ∧ (1 ≤ s.pstate) ∧ (s.pstate ≤ 3)) ∧
    (∃ (s : State) (r : Req) (v : Word), (s.grants r Reg.PWR_CLASS)) ∧
    (∃ (s : State) (t0 : Nat), s.power.graceAt = some t0 ∧ s.bit Reg.CANARY_STAT Fld.CANARY_STAT_THROT = true ∧ (t0 + s.graceTicks ≤ s.tick) ∧ (s.fld Reg.PWR_CLASS Fld.PWR_CLASS_CLASS < 2)) ∧
    (∃ (s : State) (t0 : Nat), s.power.graceAt = some t0 ∧ s.bit Reg.CANARY_STAT Fld.CANARY_STAT_THROT = true ∧ (t0 + s.graceTicks ≤ s.tick) ∧ s.fld Reg.PWR_CLASS Fld.PWR_CLASS_CLASS = 2) ∧
    (∃ (s : State), (4 ≤ s.pstate) ∧ (s.pstate ≤ 6) ∧ s.clkOn Fld.SYS_CLK_STATUS_REFCLK_LOCK = true) ∧
    (∃ (s : State) (swapped : Bool), (4 ≤ s.pstate) ∧ (s.pstate ≤ 6)) ∧
    (∃ (s : State) (t : State) (r : Req) (v : Word), (s.grants r Reg.PMU_CTL) ∧ (s.entering r).plainWrite Reg.PMU_CTL (setF v Fld.PMU_CTL_SNAP 0) = t ∧ (s.entering r).wouldChange Reg.PMU_CTL (setF v Fld.PMU_CTL_SNAP 0) Fld.PMU_CTL_FREEZE = true) ∧
    (∃ (s : State) (t : State) (r : Req) (v : Word), (s.grants r Reg.PMU_CTL) ∧ s.bit Reg.PMU_STAT Fld.PMU_STAT_SNAPPING = false ∧ (s.entering r).plainWrite Reg.PMU_CTL (setF v Fld.PMU_CTL_SNAP 1) = t ∧ (s.entering r).wouldChange Reg.PMU_CTL (setF v Fld.PMU_CTL_SNAP 1) Fld.PMU_CTL_FREEZE = false) ∧
    (∃ (s : State) (r : Req) (v : Word), (s.grants r Reg.PMU_CTL) ∧ s.bit Reg.PMU_STAT Fld.PMU_STAT_SNAPPING = true) ∧
    (∃ (s : State) (t : State) (r : Req) (b : Fin 46) (k : Fin 8) (v : Word), (s.grants r (Reg.PMU_SEL b k)) ∧ (s.entering r).plainWrite (Reg.PMU_SEL b k) v = t) ∧
    (∃ (s : State) (t : State) (b : Nat) (at_ : Nat) (rest : List (Nat × Nat)), s.pmu.ovfs = (b, at_) :: rest ∧ s.pmu.ovfDue = false ∧ s.bit Reg.PMU_STAT Fld.PMU_STAT_FROZEN = false ∧ (s.wr Reg.PMU_STAT (setF (setF (s.rd Reg.PMU_STAT) Fld.PMU_STAT_OVFZ 1) Fld.PMU_STAT_OVFBANK b)).setFld Reg.PMU_CTL Fld.PMU_CTL_FREEZE 1 = t) ∧
    (∃ (s : State), s.power.off = false ∧ s.power.porLow = false ∧ s.power.rstLow = true) ∧
    (∃ (s : State), s.power.off = false ∧ s.power.porLow = true ∧ s.power.rstLow = false) ∧
    (∃ (s : State), s.power.off = true) :=
  ⟨⟨up.setFld Reg.PWR_STATUS Fld.PWR_STATUS_STATE 4, mg, BitVec.ofNat 32 (5 <<< Fld.PWR_CMD_TARGET.lsb), by unfold State.grants; decide +kernel, by decide +kernel, by decide +kernel, by decide +kernel, by decide +kernel⟩,
   ⟨up, mg, BitVec.ofNat 32 (4 <<< Fld.PWR_CMD_TARGET.lsb), by unfold State.grants; decide +kernel, by decide +kernel, by decide +kernel, by decide +kernel, by decide +kernel⟩,
   ⟨up, mg, BitVec.ofNat 32 (6 <<< Fld.PWR_CMD_TARGET.lsb), by unfold State.grants; decide +kernel, by decide +kernel, by decide +kernel, by decide +kernel, by decide +kernel⟩,
   ⟨up.setFld Reg.PWR_STATUS Fld.PWR_STATUS_STATE 4, mg, BitVec.ofNat 32 (2 <<< Fld.PWR_CMD_TARGET.lsb), by unfold State.grants; decide +kernel, by decide +kernel, by decide +kernel, by decide +kernel, by decide +kernel, by decide +kernel, by decide +kernel⟩,
   ⟨up.setPower (fun (p : PowerSt) => { p with trans := some ⟨false, 12, 0, 0, 4, 5, false⟩ }), mg, 0, by unfold State.grants; decide +kernel, by decide +kernel⟩,
   ⟨up.setPower (fun (p : PowerSt) => { p with trans := some ⟨false, 12, 0, 0, 4, 5, false⟩ }), true, false, 0, ⟨false, 12, 0, 0, 4, 5, false⟩, by decide +kernel, by decide +kernel, by decide +kernel, by decide +kernel⟩,
   ⟨(up.setFld Reg.PWR_STATUS Fld.PWR_STATUS_STATE 2).setFld Reg.PWR_CTL Fld.PWR_CTL_WAKEEN 0xF, 1, _, rfl, by decide +kernel, by decide +kernel, by decide +kernel, by decide +kernel, by decide +kernel⟩,
   ⟨(up.setFld Reg.PWR_STATUS Fld.PWR_STATUS_STATE 2).setFld Reg.PWR_CTL Fld.PWR_CTL_WAKEEN 0xF, _, 1, _, rfl, rfl, by decide +kernel, by decide +kernel, by decide +kernel, by decide +kernel, by decide +kernel⟩,
   ⟨up, mg, BitVec.ofNat 32 (3 <<< Fld.PWR_CLASS_CLASS.lsb), by unfold State.grants; decide +kernel⟩,
   ⟨(up.setPower (fun (p : PowerSt) => { p with graceAt := some 0 })).setFld Reg.CANARY_STAT Fld.CANARY_STAT_THROT 1, 0, by decide +kernel, by decide +kernel, by decide +kernel, by decide +kernel⟩,
   ⟨((up.setPower (fun (p : PowerSt) => { p with graceAt := some 0 })).setFld Reg.CANARY_STAT Fld.CANARY_STAT_THROT 1).setFld Reg.PWR_CLASS Fld.PWR_CLASS_CLASS 2, 0, by decide +kernel, by decide +kernel, by decide +kernel, by decide +kernel⟩,
   ⟨up, by decide +kernel, by decide +kernel, by decide +kernel⟩,
   ⟨up, true, by decide +kernel, by decide +kernel⟩,
   ⟨up, _, mg, BitVec.ofNat 32 (1 <<< Fld.PMU_CTL_FREEZE.lsb), by unfold State.grants; decide +kernel, rfl, by decide +kernel⟩,
   ⟨up, _, mg, 0, by unfold State.grants; decide +kernel, by decide +kernel, rfl, by decide +kernel⟩,
   ⟨up.setFld Reg.PMU_STAT Fld.PMU_STAT_SNAPPING 1, mg, 0, by unfold State.grants; decide +kernel, by decide +kernel⟩,
   ⟨up, _, mg, 3, 2, 5, by unfold State.grants; decide +kernel, rfl⟩,
   ⟨{ up with pmu := { up.pmu with ovfs := [(3, 7)] } }, _, 3, 7, [], by decide +kernel, by decide +kernel, by decide +kernel, rfl⟩,
   ⟨up.setPower (fun (p : PowerSt) => { p with rstLow := true }), by decide +kernel, by decide +kernel, by decide +kernel⟩,
   ⟨up.setPower (fun (p : PowerSt) => { p with porLow := true }), by decide +kernel, by decide +kernel, by decide +kernel⟩,
   ⟨up.setPower (fun (p : PowerSt) => { p with off := true }), by decide +kernel⟩⟩

theorem witness_ServicesAndBootTakeEffect :
    (∃ (s : State) (t : State) (dst : BitVec 8) (data : List Byte) (t0 : Nat) (st : Nat) (bs : List Byte) (sp : Nat), s.sec.adit = .port t0 ∧ s.fld Reg.SEC_BOOTSRC Fld.SEC_BOOTSRC_SPACE = sp ∧ s.portServes (sp - 1) = true ∧ s.fetchImage sp (s.rd64 Reg.SEC_BOOTADDR) (s.rd Reg.SEC_BOOTLEN).toNat dst.toNat data = (st, bs, t) ∧ (st % 256 ≠ 3)) ∧
    (∃ (s : State) (t0 : Nat), s.sec.adit = .port t0 ∧ (t0 + msTicks 2000 ≤ s.tick)) ∧
    (∃ (s : State) (t : State) (u : State) (c : Fin 32) (dst : BitVec 8) (data : List Byte) (q : SvcReq) (ws : List Nat) (st : Nat) (bs : List Byte), (s.serves c 0x01 q ws t) ∧ t.sec.adit = .message ∧ spaceOk (reqSpace ws) (reqAddr ws) (ws.getD 4 0) = true ∧ t.fetchImage (reqSpace ws) (reqAddr ws) (ws.getD 4 0) dst.toNat data = (st, bs, u) ∧ (st % 256 ≠ 3)) ∧
    (∃ (s : State) (i : Image) (q : Option SvcReq), s.sec.adit = .verified i q) ∧
    (∃ (s : State), s.sec.adit = .done ∧ s.bit Reg.ASSAY_STAT Fld.ASSAY_STAT_FWPAUSE = true ∧ s.sec.fwReply = none) ∧
    (∃ (s : State) (q : SvcReq), s.sec.adit = .done ∧ s.bit Reg.ASSAY_STAT Fld.ASSAY_STAT_FWPAUSE = true ∧ s.sec.fwReply = some q) ∧
    (∃ (s : State) (t : State), s.clkOn Fld.SYS_CLK_STATUS_CCLK = true ∧ s.ownerLost 4 2 = t) ∧
    (∃ (s : State) (t : State) (u : State) (c : Fin 32) (dst : BitVec 8) (data : List Byte) (q : SvcReq) (ws : List Nat) (st : Nat) (bs : List Byte), (s.serves c 0x02 q ws t) ∧ t.bit Reg.SEC_FW Fld.SEC_FW_SWAP_PEND = false ∧ spaceOk (reqSpace ws) (reqAddr ws) (ws.getD 4 0) = true ∧ t.fetchImage (reqSpace ws) (reqAddr ws) (ws.getD 4 0) dst.toNat data = (st, bs, u) ∧ (st % 256 ≠ 3)) ∧
    (∃ (s : State) (t : State) (c : Fin 32) (q : SvcReq) (ws : List Nat), (s.serves c 0x03 q ws t) ∧ t.bit Reg.SEC_FW Fld.SEC_FW_SWAP_PEND = false ∧ (t.stNow ≤ reqAddr ws) ∧ t.sec.staged.isSome = true) ∧
    (∃ (s : State) (t : State) (c : Fin 32) (q : SvcReq) (ws : List Nat), (s.serves c 0x03 q ws t) ∧ t.bit Reg.SEC_FW Fld.SEC_FW_SWAP_PEND = false ∧ (reqAddr ws < t.stNow)) ∧
    (∃ (s : State) (t : State) (i : Image), s.bit Reg.SEC_FW Fld.SEC_FW_SWAP_PEND = true ∧ (s.rd64 Reg.SEC_SWAPT ≤ s.stNow) ∧ s.clkOn Fld.SYS_CLK_STATUS_CCLK = true ∧ s.sec.staged = some i ∧ ((s.wr Reg.SEC_FW (setF (setF (setF (s.rd Reg.SEC_FW) Fld.SEC_FW_FWSEL s.otherBank) Fld.SEC_FW_STAGED 0) Fld.SEC_FW_SWAP_PEND 0)).recordImage
      i).fwRestart s.sec.swapReq = t) ∧
    (∃ (s : State) (t : State) (u : State) (v : State) (c : Fin 32) (q : SvcReq) (ws : List Nat) (sig : List Byte) (st : Nat), (s.serves c 0x10 q ws t) ∧ spaceOk (reqSpace ws) (reqAddr ws) 1792 = true ∧ t.sec.identity = true ∧ t.idSign (t.report (ws.drop 4)) = (sig, u) ∧ u.svcWrite (reqSpace ws) (reqAddr ws) (t.report (ws.drop 4) ++ sig) = (st, v)) ∧
    (∃ (s : State) (t : State) (c : Fin 32) (q : SvcReq) (ws : List Nat), (s.serves c 0x10 q ws t) ∧ spaceOk (reqSpace ws) (reqAddr ws) 1792 = true ∧ t.sec.identity = false) ∧
    (∃ (s : State) (t : State) (v : State) (c : Fin 32) (q : SvcReq) (ws : List Nat) (st : Nat), (s.serves c 0x11 q ws t) ∧ spaceOk (reqSpace ws) (reqAddr ws) 1793 = true ∧ t.sec.identity = true ∧ t.svcWrite (reqSpace ws) (reqAddr ws) (idKey (t.otp.seed.getD 0)) = (st, v)) ∧
    (∃ (s : State) (t : State) (c : Fin 32) (q : SvcReq) (ws : List Nat), (s.serves c 0x20 q ws t) ∧ t.sec.otpOp = none ∧ (ws.getD 1 0 < 4) ∧ (t.otp.lc < 2) ∧ t.otp.prog.testBit (ws.getD 1 0) = false ∧ t.otp.dead.testBit (ws.getD 1 0) = false) ∧
    (∃ (s : State) (t : State) (c : Fin 32) (q : SvcReq) (ws : List Nat) (live : List Nat), (s.serves c 0x21 q ws t) ∧ t.sec.otpOp = none ∧ (ws.getD 1 0 < 4) ∧ (t.otp.lc ≠ 0) ∧ (t.otp.lc ≠ 3) ∧ live = (List.range 4).filter (fun k => t.otp.prog.testBit k && !t.otp.revoked.testBit k) ∧ live.contains (ws.getD 1 0) = true ∧ (1 < live.length)) ∧
    (∃ (s : State) (t : State) (c : Fin 32) (q : SvcReq) (ws : List Nat), (s.serves c 0x22 q ws t) ∧ t.sec.otpOp = none ∧ (ws.getD 1 0 < 64) ∧ (ws.getD 1 0 ≤ t.fld Reg.SEC_SVN Fld.SEC_SVN_RUN)) ∧
    (∃ (s : State) (t : State) (c : Fin 32) (q : SvcReq) (ws : List Nat), (s.serves c 0x22 q ws t) ∧ t.sec.otpOp = none ∧ (ws.getD 1 0 < 64) ∧ (t.fld Reg.SEC_SVN Fld.SEC_SVN_RUN < ws.getD 1 0)) ∧
    (∃ (s : State) (t : State) (c : Fin 32) (q : SvcReq) (ws : List Nat), (s.serves c 0x23 q ws t) ∧ t.sec.otpOp = none ∧ (ws.getD 1 0 < 4) ∧ ((t.otp.lc = 0 ∧ ws.getD 1 0 = 1 ∧ t.otp.seed.isSome = true ∧ t.otp.prog ≠ 0) ∨ (t.otp.lc = 1 ∧ (ws.getD 1 0 = 2 ∨ ws.getD 1 0 = 3)) ∨
      (t.otp.lc = 2 ∧ ws.getD 1 0 = 3))) ∧
    (∃ (s : State) (t : State) (c : Fin 32) (q : SvcReq) (ws : List Nat) (v : Nat), (s.takeFree.2.serves c 0x24 q ws t) ∧ s.takeFree.1 = v ∧ t.sec.otpOp = none ∧ t.otp.lc = 0 ∧ t.otp.idUsed = false) ∧
    (∃ (s : State) (t : State) (c : Fin 32) (q : SvcReq) (ws : List Nat) (w : Nat), (s.serves c 0x25 q ws t) ∧ t.sec.otpOp = none ∧ w = ws.getD 1 0 / 256 * 256 ∧ t.unitRetired (bitsAt w 28 4) (bitsAt w 20 8) (bitsAt w 8 12) (ws.getD 2 0) = true ∧ (t.otp.recs.length < 512)) ∧
    (∃ (s : State) (t : State) (ok : Bool) (o : OtpOp) (q : SvcReq), s.sec.otpOp = some (o, q) ∧ s.clkOn Fld.SYS_CLK_STATUS_CCLK = true ∧ (s.setSec (fun (x : SecSt) => { x with otpOp := none })).setFld Reg.SEC_OTP_STAT Fld.SEC_OTP_STAT_BUSY 0 = t) :=
  ⟨⟨((up.setSec (fun (x : SecSt) => { x with adit := .port 0 })).setFld Reg.SEC_BOOTSRC Fld.SEC_BOOTSRC_SPACE 1).wr Reg.SEC_BOOTLEN 4, _, 0, [1, 2, 3, 4], 0, _, _, _, by decide +kernel, rfl, by decide +kernel, rfl, by decide +kernel⟩,
   ⟨up.setSec (fun (x : SecSt) => { x with adit := .port 0 }), 0, by decide +kernel, by decide +kernel⟩,
   ⟨(msgAt 3 [0x01000400, 0, 0, 0, 4]).setSec (fun (x : SecSt) => { x with adit := .message }), (mbxMsgRead ((3 : Fin 32) : Nat) 15 (if 28 ≤ ((3 : Fin 32) : Nat) then 5 else 4) ((msgAt 3 [0x01000400, 0, 0, 0, 4]).setSec (fun (x : SecSt) => { x with adit := .message }))).2.2, _, 3, 0, [], ⟨0x01, ((3 : Fin 32) : Nat), bitsAt ((((msgAt 3 [0x01000400, 0, 0, 0, 4]).setSec (fun (x : SecSt) => { x with adit := .message })).mbxWords ((3 : Fin 32) : Nat)).getD 0 0) 8 5, bitsAt ((((msgAt 3 [0x01000400, 0, 0, 0, 4]).setSec (fun (x : SecSt) => { x with adit := .message })).mbxWords ((3 : Fin 32) : Nat)).getD 0 0) 0 8⟩, ((msgAt 3 [0x01000400, 0, 0, 0, 4]).setSec (fun (x : SecSt) => { x with adit := .message })).mbxWords ((3 : Fin 32) : Nat), _, _, ⟨by decide +kernel, rfl, by decide +kernel, rfl, rfl, by decide +kernel, by decide +kernel⟩, by decide +kernel, by decide +kernel, rfl, by decide +kernel⟩,
   ⟨up.setSec (fun (x : SecSt) => { x with adit := .verified imageW none }), imageW, none, by decide +kernel⟩,
   ⟨paused none, by decide +kernel, by decide +kernel, by decide +kernel⟩,
   ⟨paused (some ⟨1, 3, 4, 9⟩), ⟨1, 3, 4, 9⟩, by decide +kernel, by decide +kernel, by decide +kernel⟩,
   ⟨up, _, by decide +kernel, rfl⟩,
   ⟨msgAt 3 [0x02000400, 0, 0, 0, 4], (mbxMsgRead ((3 : Fin 32) : Nat) 15 (if 28 ≤ ((3 : Fin 32) : Nat) then 5 else 4) (msgAt 3 [0x02000400, 0, 0, 0, 4])).2.2, _, 3, 0, [], ⟨0x02, ((3 : Fin 32) : Nat), bitsAt (((msgAt 3 [0x02000400, 0, 0, 0, 4]).mbxWords ((3 : Fin 32) : Nat)).getD 0 0) 8 5, bitsAt (((msgAt 3 [0x02000400, 0, 0, 0, 4]).mbxWords ((3 : Fin 32) : Nat)).getD 0 0) 0 8⟩, (msgAt 3 [0x02000400, 0, 0, 0, 4]).mbxWords ((3 : Fin 32) : Nat), _, _, ⟨by decide +kernel, rfl, by decide +kernel, rfl, rfl, by decide +kernel, by decide +kernel⟩, by decide +kernel, by decide +kernel, rfl, by decide +kernel⟩,
   ⟨(msgAt 3 [0x03000400, 0, 0xFFFFFFFF, 0x00FFFFFF]).setSec (fun (x : SecSt) => { x with staged := some imageW }), (mbxMsgRead ((3 : Fin 32) : Nat) 15 (if 28 ≤ ((3 : Fin 32) : Nat) then 5 else 4) ((msgAt 3 [0x03000400, 0, 0xFFFFFFFF, 0x00FFFFFF]).setSec (fun (x : SecSt) => { x with staged := some imageW }))).2.2, 3, ⟨0x03, ((3 : Fin 32) : Nat), bitsAt ((((msgAt 3 [0x03000400, 0, 0xFFFFFFFF, 0x00FFFFFF]).setSec (fun (x : SecSt) => { x with staged := some imageW })).mbxWords ((3 : Fin 32) : Nat)).getD 0 0) 8 5, bitsAt ((((msgAt 3 [0x03000400, 0, 0xFFFFFFFF, 0x00FFFFFF]).setSec (fun (x : SecSt) => { x with staged := some imageW })).mbxWords ((3 : Fin 32) : Nat)).getD 0 0) 0 8⟩, ((msgAt 3 [0x03000400, 0, 0xFFFFFFFF, 0x00FFFFFF]).setSec (fun (x : SecSt) => { x with staged := some imageW })).mbxWords ((3 : Fin 32) : Nat), ⟨by decide +kernel, rfl, by decide +kernel, rfl, rfl, by decide +kernel, by decide +kernel⟩, by decide +kernel, by decide +kernel, by decide +kernel⟩,
   ⟨msgAt 3 [0x03000400], (mbxMsgRead ((3 : Fin 32) : Nat) 15 (if 28 ≤ ((3 : Fin 32) : Nat) then 5 else 4) (msgAt 3 [0x03000400])).2.2, 3, ⟨0x03, ((3 : Fin 32) : Nat), bitsAt (((msgAt 3 [0x03000400]).mbxWords ((3 : Fin 32) : Nat)).getD 0 0) 8 5, bitsAt (((msgAt 3 [0x03000400]).mbxWords ((3 : Fin 32) : Nat)).getD 0 0) 0 8⟩, (msgAt 3 [0x03000400]).mbxWords ((3 : Fin 32) : Nat), ⟨by decide +kernel, rfl, by decide +kernel, rfl, rfl, by decide +kernel, by decide +kernel⟩, by decide +kernel, by decide +kernel⟩,
   ⟨(up.setFld Reg.SEC_FW Fld.SEC_FW_SWAP_PEND 1).setSec (fun (x : SecSt) => { x with staged := some imageW }), _, imageW, by decide +kernel, by decide +kernel, by decide +kernel, by decide +kernel, rfl⟩,
   ⟨msgAt 3 [0x10000400], (mbxMsgRead ((3 : Fin 32) : Nat) 15 (if 28 ≤ ((3 : Fin 32) : Nat) then 5 else 4) (msgAt 3 [0x10000400])).2.2, _, _, 3, ⟨0x10, ((3 : Fin 32) : Nat), bitsAt (((msgAt 3 [0x10000400]).mbxWords ((3 : Fin 32) : Nat)).getD 0 0) 8 5, bitsAt (((msgAt 3 [0x10000400]).mbxWords ((3 : Fin 32) : Nat)).getD 0 0) 0 8⟩, (msgAt 3 [0x10000400]).mbxWords ((3 : Fin 32) : Nat), _, _, ⟨by decide +kernel, rfl, by decide +kernel, rfl, rfl, by decide +kernel, by decide +kernel⟩, by decide +kernel, by decide +kernel, rfl, rfl⟩,
   ⟨(msgAt 3 [0x10000400]).setSec (fun (x : SecSt) => { x with identity := false }), (mbxMsgRead ((3 : Fin 32) : Nat) 15 (if 28 ≤ ((3 : Fin 32) : Nat) then 5 else 4) ((msgAt 3 [0x10000400]).setSec (fun (x : SecSt) => { x with identity := false }))).2.2, 3, ⟨0x10, ((3 : Fin 32) : Nat), bitsAt ((((msgAt 3 [0x10000400]).setSec (fun (x : SecSt) => { x with identity := false })).mbxWords ((3 : Fin 32) : Nat)).getD 0 0) 8 5, bitsAt ((((msgAt 3 [0x10000400]).setSec (fun (x : SecSt) => { x with identity := false })).mbxWords ((3 : Fin 32) : Nat)).getD 0 0) 0 8⟩, ((msgAt 3 [0x10000400]).setSec (fun (x : SecSt) => { x with identity := false })).mbxWords ((3 : Fin 32) : Nat), ⟨by decide +kernel, rfl, by decide +kernel, rfl, rfl, by decide +kernel, by decide +kernel⟩, by decide +kernel, by decide +kernel⟩,
   ⟨msgAt 3 [0x11000400], (mbxMsgRead ((3 : Fin 32) : Nat) 15 (if 28 ≤ ((3 : Fin 32) : Nat) then 5 else 4) (msgAt 3 [0x11000400])).2.2, _, 3, ⟨0x11, ((3 : Fin 32) : Nat), bitsAt (((msgAt 3 [0x11000400]).mbxWords ((3 : Fin 32) : Nat)).getD 0 0) 8 5, bitsAt (((msgAt 3 [0x11000400]).mbxWords ((3 : Fin 32) : Nat)).getD 0 0) 0 8⟩, (msgAt 3 [0x11000400]).mbxWords ((3 : Fin 32) : Nat), _, ⟨by decide +kernel, rfl, by decide +kernel, rfl, rfl, by decide +kernel, by decide +kernel⟩, by decide +kernel, by decide +kernel, rfl⟩,
   ⟨msgAt 28 [0x20001D00, 1, 5], (mbxMsgRead ((28 : Fin 32) : Nat) 15 (if 28 ≤ ((28 : Fin 32) : Nat) then 5 else 4) (msgAt 28 [0x20001D00, 1, 5])).2.2, 28, ⟨0x20, ((28 : Fin 32) : Nat), bitsAt (((msgAt 28 [0x20001D00, 1, 5]).mbxWords ((28 : Fin 32) : Nat)).getD 0 0) 8 5, bitsAt (((msgAt 28 [0x20001D00, 1, 5]).mbxWords ((28 : Fin 32) : Nat)).getD 0 0) 0 8⟩, (msgAt 28 [0x20001D00, 1, 5]).mbxWords ((28 : Fin 32) : Nat), ⟨by decide +kernel, rfl, by decide +kernel, rfl, rfl, by decide +kernel, by decide +kernel⟩, by decide +kernel, by decide +kernel, by decide +kernel, by decide +kernel, by decide +kernel⟩,
   ⟨(msgAt 28 [0x21001D00, 1, 5]).setOtp (fun (x : OtpSt) => { x with lc := 1, prog := 3 }), (mbxMsgRead ((28 : Fin 32) : Nat) 15 (if 28 ≤ ((28 : Fin 32) : Nat) then 5 else 4) ((msgAt 28 [0x21001D00, 1, 5]).setOtp (fun (x : OtpSt) => { x with lc := 1, prog := 3 }))).2.2, 28, ⟨0x21, ((28 : Fin 32) : Nat), bitsAt ((((msgAt 28 [0x21001D00, 1, 5]).setOtp (fun (x : OtpSt) => { x with lc := 1, prog := 3 })).mbxWords ((28 : Fin 32) : Nat)).getD 0 0) 8 5, bitsAt ((((msgAt 28 [0x21001D00, 1, 5]).setOtp (fun (x : OtpSt) => { x with lc := 1, prog := 3 })).mbxWords ((28 : Fin 32) : Nat)).getD 0 0) 0 8⟩, ((msgAt 28 [0x21001D00, 1, 5]).setOtp (fun (x : OtpSt) => { x with lc := 1, prog := 3 })).mbxWords ((28 : Fin 32) : Nat), _, ⟨by decide +kernel, rfl, by decide +kernel, rfl, rfl, by decide +kernel, by decide +kernel⟩, by decide +kernel, by decide +kernel, by decide +kernel, by decide +kernel, rfl, by decide +kernel, by decide +kernel⟩,
   ⟨msgAt 28 [0x22001D00], (mbxMsgRead ((28 : Fin 32) : Nat) 15 (if 28 ≤ ((28 : Fin 32) : Nat) then 5 else 4) (msgAt 28 [0x22001D00])).2.2, 28, ⟨0x22, ((28 : Fin 32) : Nat), bitsAt (((msgAt 28 [0x22001D00]).mbxWords ((28 : Fin 32) : Nat)).getD 0 0) 8 5, bitsAt (((msgAt 28 [0x22001D00]).mbxWords ((28 : Fin 32) : Nat)).getD 0 0) 0 8⟩, (msgAt 28 [0x22001D00]).mbxWords ((28 : Fin 32) : Nat), ⟨by decide +kernel, rfl, by decide +kernel, rfl, rfl, by decide +kernel, by decide +kernel⟩, by decide +kernel, by decide +kernel, by decide +kernel⟩,
   ⟨msgAt 28 [0x22001D00, 5], (mbxMsgRead ((28 : Fin 32) : Nat) 15 (if 28 ≤ ((28 : Fin 32) : Nat) then 5 else 4) (msgAt 28 [0x22001D00, 5])).2.2, 28, ⟨0x22, ((28 : Fin 32) : Nat), bitsAt (((msgAt 28 [0x22001D00, 5]).mbxWords ((28 : Fin 32) : Nat)).getD 0 0) 8 5, bitsAt (((msgAt 28 [0x22001D00, 5]).mbxWords ((28 : Fin 32) : Nat)).getD 0 0) 0 8⟩, (msgAt 28 [0x22001D00, 5]).mbxWords ((28 : Fin 32) : Nat), ⟨by decide +kernel, rfl, by decide +kernel, rfl, rfl, by decide +kernel, by decide +kernel⟩, by decide +kernel, by decide +kernel, by decide +kernel⟩,
   ⟨(msgAt 28 [0x23001D00, 2]).setOtp (fun (x : OtpSt) => { x with lc := 1 }), (mbxMsgRead ((28 : Fin 32) : Nat) 15 (if 28 ≤ ((28 : Fin 32) : Nat) then 5 else 4) ((msgAt 28 [0x23001D00, 2]).setOtp (fun (x : OtpSt) => { x with lc := 1 }))).2.2, 28, ⟨0x23, ((28 : Fin 32) : Nat), bitsAt ((((msgAt 28 [0x23001D00, 2]).setOtp (fun (x : OtpSt) => { x with lc := 1 })).mbxWords ((28 : Fin 32) : Nat)).getD 0 0) 8 5, bitsAt ((((msgAt 28 [0x23001D00, 2]).setOtp (fun (x : OtpSt) => { x with lc := 1 })).mbxWords ((28 : Fin 32) : Nat)).getD 0 0) 0 8⟩, ((msgAt 28 [0x23001D00, 2]).setOtp (fun (x : OtpSt) => { x with lc := 1 })).mbxWords ((28 : Fin 32) : Nat), ⟨by decide +kernel, rfl, by decide +kernel, rfl, rfl, by decide +kernel, by decide +kernel⟩, by decide +kernel, by decide +kernel, by decide +kernel⟩,
   ⟨msgAt 28 [0x24001D00, 2], _, 28, _, _, _, ⟨by decide +kernel, rfl, by decide +kernel, rfl, rfl, by decide +kernel, by decide +kernel⟩, rfl, by decide +kernel, by decide +kernel, by decide +kernel⟩,
   ⟨(msgAt 28 [0x25001D00, 0x10100000]).setFld (Reg.LODE_CORE_STAT 1) Fld.LODE_CORE_STAT_STATE 4, (mbxMsgRead ((28 : Fin 32) : Nat) 15 (if 28 ≤ ((28 : Fin 32) : Nat) then 5 else 4) ((msgAt 28 [0x25001D00, 0x10100000]).setFld (Reg.LODE_CORE_STAT 1) Fld.LODE_CORE_STAT_STATE 4)).2.2, 28, ⟨0x25, ((28 : Fin 32) : Nat), bitsAt ((((msgAt 28 [0x25001D00, 0x10100000]).setFld (Reg.LODE_CORE_STAT 1) Fld.LODE_CORE_STAT_STATE 4).mbxWords ((28 : Fin 32) : Nat)).getD 0 0) 8 5, bitsAt ((((msgAt 28 [0x25001D00, 0x10100000]).setFld (Reg.LODE_CORE_STAT 1) Fld.LODE_CORE_STAT_STATE 4).mbxWords ((28 : Fin 32) : Nat)).getD 0 0) 0 8⟩, ((msgAt 28 [0x25001D00, 0x10100000]).setFld (Reg.LODE_CORE_STAT 1) Fld.LODE_CORE_STAT_STATE 4).mbxWords ((28 : Fin 32) : Nat), _, ⟨by decide +kernel, rfl, by decide +kernel, rfl, rfl, by decide +kernel, by decide +kernel⟩, by decide +kernel, rfl, by decide +kernel, by decide +kernel⟩,
   ⟨up.setSec (fun (x : SecSt) => { x with otpOp := some (.svn 3, ⟨0x22, 28, 29, 0⟩) }), _, true, .svn 3, ⟨0x22, 28, 29, 0⟩, by decide +kernel, by decide +kernel, rfl⟩⟩

theorem witness_SessionMessagesTakeEffect :
    (∃ (s : State) (t : State) (u : State) (p : Fin 2) (h : RxHdr) (tag : BitVec 8) (nonce : BitVec 256) (cert : List Byte), s.lstate p = 2 ∧ (s.inOrder p h) ∧ s.tookBk p h (handshakeLen (32 + cert.length)) true = t ∧ t.hasSecure p = true ∧ t.bit (Reg.LINK_CTL p) Fld.LINK_CTL_SEC_EN = true ∧ (t.sessionEnd p).setFld (Reg.LINK_SEC_STAT p) Fld.LINK_SEC_STAT_HS_BUSY 1 = u ∧ u.sec.identity = false) ∧
    (∃ (s : State) (t : State) (u : State) (p : Fin 2) (h : RxHdr) (tag : BitVec 8) (nonce : BitVec 256) (cert : List Byte), s.lstate p = 2 ∧ (s.inOrder p h) ∧ s.tookBk p h (handshakeLen (32 + cert.length)) true = t ∧ t.hasSecure p = true ∧ t.bit (Reg.LINK_CTL p) Fld.LINK_CTL_SEC_EN = true ∧ (t.sessionEnd p).setFld (Reg.LINK_SEC_STAT p) Fld.LINK_SEC_STAT_HS_BUSY 1 = u ∧ u.sec.identity = true ∧ (cert.length ≠ 5056)) ∧
    (∃ (s : State) (t : State) (u : State) (v : State) (w : State) (x : State) (p : Fin 2) (h : RxHdr) (tag : BitVec 8) (nonce : BitVec 256) (cert : List Byte) (own : List Byte) (key : List Byte) (sig : List Byte) (draw : Nat) (t1 : BitVec 512), s.lstate p = 2 ∧ (s.inOrder p h) ∧ s.tookBk p h (handshakeLen (32 + cert.length)) true = t ∧ t.hasSecure p = true ∧ t.bit (Reg.LINK_CTL p) Fld.LINK_CTL_SEC_EN = true ∧ (t.sessionEnd p).setFld (Reg.LINK_SEC_STAT p) Fld.LINK_SEC_STAT_HS_BUSY 1 = u ∧ u.sec.identity = true ∧ u.freeBytes 32 = (own, v) ∧ v.takeFree = (draw, w) ∧ key = own ++ kemKey draw ∧ t1 = hash512 (natLE 32 nonce.toNat ++ cert ++ key) ∧ w.idSign (hashBytes 512 t1.toNat) = (sig, x)) ∧
    (∃ (s : State) (t : State) (p : Fin 2) (h : RxHdr) (tag : BitVec 8) (ct : List Byte) (sig : List Byte), s.lstate p = 2 ∧ (s.inOrder p h) ∧ s.tookBk p h (handshakeLen (ct.length + sig.length)) true = t ∧ t.hasSecure p = true ∧ t.bit (Reg.LINK_CTL p) Fld.LINK_CTL_SEC_EN = true ∧ (t.link p).hs = none) ∧
    (∃ (s : State) (t : State) (p : Fin 2) (h : RxHdr) (tag : BitVec 8) (ct : List Byte) (sig : List Byte) (x : Handshake), s.lstate p = 2 ∧ (s.inOrder p h) ∧ s.tookBk p h (handshakeLen (ct.length + sig.length)) true = t ∧ t.hasSecure p = true ∧ t.bit (Reg.LINK_CTL p) Fld.LINK_CTL_SEC_EN = true ∧ (t.link p).hs = some x ∧ x.late t.tick = true) ∧
    (∃ (s : State) (t : State) (u : State) (v : State) (p : Fin 2) (h : RxHdr) (tag : BitVec 8) (ct : List Byte) (sig : List Byte) (x : Handshake) (k : BitVec 256) (kD : BitVec 256) (t2 : BitVec 512), s.lstate p = 2 ∧ (s.inOrder p h) ∧ s.tookBk p h (handshakeLen (ct.length + sig.length)) true = t ∧ t.hasSecure p = true ∧ t.bit (Reg.LINK_CTL p) Fld.LINK_CTL_SEC_EN = true ∧ (t.link p).hs = some x ∧ x.late t.tick = false ∧ t2 = hash512 (hashBytes 512 x.t1.toNat ++ ct) ∧ k = (kemOpen (Config.freeValue x.kem) ct).getD 0 ∧ kD = sessionKey k t2 true ∧ t.setLink p { t.link p with hs := none, keyD2H := kD, keyH2D := sessionKey k t2 false, rxCtr := 0, txCtr := 0 } = u ∧ (u.wr (Reg.LINK_SEC_STAT p) (setF (setF (setF (u.rd (Reg.LINK_SEC_STAT p)) Fld.LINK_SEC_STAT_ROOT x.slot) Fld.LINK_SEC_STAT_HS_BUSY 0)
      Fld.LINK_SEC_STAT_OPEN 1)).setFld (Reg.LINK_STATUS p) Fld.LINK_STATUS_SECURE 1 = v) ∧
    (∃ (s : State) (t : State) (p : Fin 2) (h : RxHdr) (tag : BitVec 8) (tr : SecTrailer), s.lstate p = 2 ∧ (s.inOrder p h) ∧ s.tookBk p h 3 true = t ∧ t.hasSecure p = true) ∧
    (∃ (s : State) (t : State) (p : Fin 2) (h : RxHdr) (tag : BitVec 8), s.lstate p = 2 ∧ (s.inOrder p h) ∧ s.tookBk p h 1 true = t) ∧
    (∃ (s : State) (p : Fin 2) (x : Handshake), (s.link p).hs = some x ∧ x.late s.tick = true) :=
  ⟨⟨sess false, _, _, 0, hd, 7, 0, [], by decide +kernel, by unfold State.inOrder State.sees; decide +kernel, rfl, by decide +kernel, by decide +kernel, rfl, by decide +kernel⟩,
   ⟨sess true, _, _, 0, hd, 7, 0, [], by decide +kernel, by unfold State.inOrder State.sees; decide +kernel, rfl, by decide +kernel, by decide +kernel, rfl, by decide +kernel, by decide +kernel⟩,
   ⟨sess true, _, _, _, _, _, 0, hd, 7, 0, List.replicate 5056 0, _, _, _, _, _, by decide +kernel, by unfold State.inOrder State.sees; decide +kernel, rfl, by decide +kernel, by decide +kernel, rfl, by decide +kernel, rfl, rfl, rfl, rfl, rfl⟩,
   ⟨sess true, _, 0, hd, 7, [], [], by decide +kernel, by unfold State.inOrder State.sees; decide +kernel, rfl, by decide +kernel, by decide +kernel, by decide +kernel⟩,
   ⟨(sess true).setLink 0 { (sess true).link 0 with hs := some ⟨0, 0, 0, [], 0⟩ }, _, 0, hd, 7, [], [], ⟨0, 0, 0, [], 0⟩, by decide +kernel, by unfold State.inOrder State.sees; decide +kernel, rfl, by decide +kernel, by decide +kernel, by decide +kernel, by decide +kernel⟩,
   ⟨(sess true).setLink 0 { (sess true).link 0 with hs := some ⟨up.tick, 0, 0, [], 0⟩ }, _, _, _, 0, hd, 7, [], [], ⟨up.tick, 0, 0, [], 0⟩, _, _, _, by decide +kernel, by unfold State.inOrder State.sees; decide +kernel, rfl, by decide +kernel, by decide +kernel, by decide +kernel, by decide +kernel, rfl, rfl, rfl, rfl, rfl⟩,
   ⟨sess true, _, 0, hd, 7, ⟨1, 0⟩, by decide +kernel, by unfold State.inOrder State.sees; decide +kernel, rfl, by decide +kernel⟩,
   ⟨sess true, _, 0, hd, 7, by decide +kernel, by unfold State.inOrder State.sees; decide +kernel, rfl⟩,
   ⟨(sess true).setLink 0 { (sess true).link 0 with hs := some ⟨0, 0, 0, [], 0⟩ }, 0, ⟨0, 0, 0, [], 0⟩, by decide +kernel, by decide +kernel⟩⟩

theorem witness_StepRunsTheFrontCommand :
    (∃ (c : Instr) (s : State) (rest : List Instr), s.pending = c :: rest) ∧
    (∃ (s : State), s.pending = []) :=
  ⟨⟨.ppsinCapture, { up with pending := [.ppsinCapture, .ppsinCapture] }, [.ppsinCapture], by decide +kernel⟩,
   ⟨up, by decide +kernel⟩⟩

theorem witness_CommandsRunFirstInFirstOut :
    (∃ (c : Instr) (s : State) (t : State), exec c s = .next t) ∧
    (∃ (cs : List Instr) (rest : List Instr) (s : State), s.pending = cs ++ rest) ∧
    (∃ (c : Instr) (cs : List Instr) (rest : List Instr) (s : State), s.pending = cs ++ c :: rest) :=
  ⟨⟨.ppsinCapture, up, _, (rfl)⟩,
   ⟨[.ppsinCapture], [.auxClrNRise], { up with pending := [.ppsinCapture, .auxClrNRise] }, (rfl)⟩,
   ⟨.auxClrNRise, [.ppsinCapture], [], { up with pending := [.ppsinCapture, .auxClrNRise] }, (rfl)⟩⟩

theorem witness_OnlyTheAlwaysOnSupplySetsTheCountBack :
    (∃ (c : Instr) (s : State) (t : State), exec c s = .next t ∧ (c ≠ .vddAonLoss) ∧ (c ≠ .vddAonApply)) :=
  ⟨.ppsinCapture, up, _, (rfl), (by decide +kernel), (by decide +kernel)⟩

theorem witness_MemoryKeepsItsForm :
    (∃ (s : State) (t : State), Memory.wf s.mem = true ∧ step s = .next t) :=
  ⟨{ up with pending := [.ppsinCapture] }, _, by decide +kernel, (rfl)⟩

theorem witness_DomainTimeFollowsTheReadEquation :
    (∃ (s : State) (x : Fin 2) (tb : Nat) (anchor : Nat) (inc : Nat) (offSec : Nat) (offNs : Nat) (offSubns : Nat) (d : Nat) (q : Nat) (t : Nat), anchor = s.rd64 (Reg.TD_ANCHOR x) ∧ (anchor ≤ tb) ∧ (tb < 2 ^ 64) ∧ inc = s.incInForce x ∧ d = tb - anchor ∧ q = (d * inc) >>> 24 ∧ offSubns = (s.rd (Reg.TD_OFFSET x)).toNat % 65536 ∧ offNs = (s.rd (Reg.TD_OFFSET x + 4)).toNat ∧ offSec = (s.rd (Reg.TD_OFFSET x + 8)).toNat + 2 ^ 32 * ((s.rd (Reg.TD_OFFSET x + 12)).toNat % 65536) ∧ t = (offSec * 1000000000 + offNs) * 65536 + offSubns + q) ∧
    (∃ (s : State) (x : Fin 2), (0x010428000000 ≤ s.rd64 (Reg.TD_INC x)) ∧ (s.rd64 (Reg.TD_INC x) ≤ 0x0104AD555556)) :=
  ⟨⟨up, 1, up.tb, _, _, _, _, _, _, _, _, rfl, by decide +kernel, by decide +kernel, rfl, rfl, rfl, rfl, rfl, rfl, rfl⟩,
   ⟨up, 1, by decide +kernel, by decide +kernel⟩⟩

theorem witness_CommittedWritesReanchorTheirDomain :
    (∃ (s : State) (x : Fin 2), (s.tb < 2 ^ 64) ∧ (s.dom x < 2 ^ 48 * uPerSec)) :=
  ⟨up, 1, by decide +kernel, by decide +kernel⟩

theorem witness_LowWordsAreHeldUntilTheHighWordCommits :
    (∃ (s : State) (r : Req) (addr : Word) (v : Word) (base : Nat), s.writeCauses r addr.toNat = 0 ∧ s.wordGroup addr.toNat = some (base, 2, 0)) ∧
    (∃ (s : State) (r : Req) (addr : Word) (v : Word) (base : Nat) (w : Nat) (code : Nat) (u : State), s.writeCauses r addr.toNat = 0 ∧ s.wordGroup addr.toNat = some (base, 2, 1) ∧ (s.busOf r.id).wrTag = some base ∧ (s.busOf r.id).wrHold.find? (fun x => x.1 == 0) = some (0, w) ∧ (s.dropHeld r).regCommit base [w, v.toNat] s.nowTh = (code, u)) ∧
    (∃ (s : State) (r : Req) (addr : Word) (v : Word) (base : Nat) (code : Nat) (u : State), s.writeCauses r addr.toNat = 0 ∧ s.wordGroup addr.toNat = some (base, 2, 1) ∧ ((s.busOf r.id).wrTag ≠ some base) ∧ (s.dropHeld r).regCommit base [(s.rd base).toNat, v.toNat] s.nowTh = (code, u)) ∧
    (∃ (s : State) (r : Req) (addr : Word) (v : Word), s.wordGroup addr.toNat = none) ∧
    (∃ (s : State) (r : Req) (addr : Word) (v : Word) (base : Nat) (n : Nat) (w : Nat), s.wordGroup addr.toNat = some (base, n, w) ∧ ((s.busOf r.id).wrTag ≠ some base)) :=
  ⟨⟨up, mg, BitVec.ofNat 32 (Reg.SB_SWAPT 0), 7, Reg.SB_SWAPT 0, by decide +kernel, by decide +kernel⟩,
   ⟨up.setBus 3 { up.busOf 3 with wrTag := some (Reg.SB_SWAPT 0), wrHold := [(0, 7)] }, mg, BitVec.ofNat 32 (Reg.SB_SWAPT 0 + 4), 9, Reg.SB_SWAPT 0, 7, _, _, by decide +kernel, by decide +kernel, by decide +kernel, by decide +kernel, rfl⟩,
   ⟨up, mg, BitVec.ofNat 32 (Reg.SB_SWAPT 0 + 4), 9, Reg.SB_SWAPT 0, _, _, by decide +kernel, by decide +kernel, by decide +kernel, rfl⟩,
   ⟨up, mg, BitVec.ofNat 32 (Reg.DPD_PMIN 3), 9, by decide +kernel⟩,
   ⟨up.setBus 3 { up.busOf 3 with wrTag := some (Reg.SB_SWAPT 0), wrHold := [(0, 7)] }, mg, BitVec.ofNat 32 (Reg.SB_SWAPT 1 + 4), 9, Reg.SB_SWAPT 1, 2, 1, by decide +kernel, by decide +kernel⟩⟩

theorem witness_LowReadsLatchTheHighWord :
    (∃ (s : State) (r : Req) (addr : Word), (s.grants r addr.toNat) ∧ s.held = false ∧ s.wordGroup addr.toNat = some (addr.toNat, 2, 0)) ∧
    (∃ (s : State) (r : Req) (addr : Word) (base : Nat) (h : Nat), (s.grants r addr.toNat) ∧ s.held = false ∧ s.wordGroup addr.toNat = some (base, 2, 1) ∧ (s.busOf r.id).rdTag = some base ∧ (s.busOf r.id).rdHold = [h]) ∧
    (∃ (s : State) (r : Req) (addr : Word) (base : Nat), (s.grants r addr.toNat) ∧ s.held = false ∧ s.wordGroup addr.toNat = some (base, 2, 1) ∧ ((s.busOf r.id).rdTag ≠ some base)) :=
  ⟨⟨up, mg, BitVec.ofNat 32 Reg.TIME_TB_CNT, by unfold State.grants; decide +kernel, by decide +kernel, by decide +kernel⟩,
   ⟨up.setBus 3 { up.busOf 3 with rdTag := some Reg.TIME_TB_CNT, rdHold := [9] }, mg, BitVec.ofNat 32 (Reg.TIME_TB_CNT + 4), Reg.TIME_TB_CNT, 9, by unfold State.grants; decide +kernel, by decide +kernel, by decide +kernel, by decide +kernel, by decide +kernel⟩,
   ⟨up, mg, BitVec.ofNat 32 (Reg.TIME_TB_CNT + 4), Reg.TIME_TB_CNT, by unfold State.grants; decide +kernel, by decide +kernel, by decide +kernel, by decide +kernel⟩⟩

theorem witness_RefusedAccessesAnswerTheirCause :
    (∃ (s : State) (r : Req) (addr : Word) (v : Word) (c : Nat), s.held = false ∧ s.writeCauses r addr.toNat = c ∧ (c ≠ 0) ∧ ((c = 7 → s.holds addr.toNat = none))) ∧
    (∃ (s : State) (r : Req) (addr : Word) (c : Nat), s.held = false ∧ s.causes r addr.toNat = c ∧ (c ≠ 0)) :=
  ⟨⟨up, mg, 1, 9, _, by decide +kernel, rfl, by decide +kernel, by decide +kernel⟩,
   ⟨up, mg, 0x7FFFFFFC, _, by decide +kernel, rfl, by decide +kernel⟩⟩

theorem witness_LocksFollowTheirOwner :
    (∃ (s : State) (r : Req) (k : Fin 64) (v : Word), (s.grants r (Reg.TALLY_LOCK k)) ∧ s.held = false ∧ (s.expireLock k).lockOwner k = r.id ∧ (r.id ≠ 0) ∧ getF v Fld.TALLY_LOCK_OWNER = r.id) ∧
    (∃ (s : State) (r : Req) (k : Fin 64) (v : Word), (s.grants r (Reg.TALLY_LOCK k)) ∧ s.held = false ∧ (((s.expireLock k).lockOwner k ≠ r.id ∨ r.id = 0 ∨ getF v Fld.TALLY_LOCK_OWNER ≠ r.id))) ∧
    (∃ (s : State) (k : Fin 64), ((s.lockOwner k = 0 ∨ s.tick < (kvGet (fun _ => ({} : LockSt)) s.locks k).at_ +
      usTicks (kvGet (fun _ => ({} : LockSt)) s.locks k).limit))) :=
  ⟨⟨{ up.setFld (Reg.TALLY_STAT 5) Fld.TALLY_STAT_OWNER 3 with locks := [(5, ⟨10000000000, 100⟩)] }, mg, 5, BitVec.ofNat 32 (3 <<< Fld.TALLY_LOCK_OWNER.lsb), by unfold State.grants; decide +kernel, by decide +kernel, by decide +kernel, by decide +kernel, by decide +kernel⟩,
   ⟨up, mg, 5, 0, by unfold State.grants; decide +kernel, by decide +kernel, by decide +kernel⟩,
   ⟨{ up.setFld (Reg.TALLY_STAT 5) Fld.TALLY_STAT_OWNER 3 with locks := [(5, ⟨10000000000, 100⟩)] }, 5, by decide +kernel⟩⟩

theorem witness_PlainFieldsTakeWritesByType :
    (∃ (s : State) (a : Nat) (v : Word) (row : RegRow) (w : Nat), findReg a = some (row, w)) :=
  ⟨up, Reg.PWR_STATUS, 0xFFFFFFFF, ((findReg Reg.PWR_STATUS).get (by decide +kernel)).1, 0, by decide +kernel⟩

theorem witness_LoggedEventsTakeTheNextNumber :
    (∃ (s : State) (t : State) (code : Nat) (unit : Nat) (a6 : Nat) (a7 : Nat), s.logEvent ⟨code, unit, a6, a7⟩ = t) :=
  ⟨up, _, 0x1001, 0xFF, 0, 0, rfl⟩

theorem witness_LoggingAndAnsweringLeaveTheRest :
    (∃ (s : State) (t : State), s.endCycle = t) ∧
    (∃ (s : State) (t : State) (r : Req) (code : Nat) (data : Nat), s.answer r code data = t) :=
  ⟨⟨up.raise 0x1001 0xFF, _, rfl⟩,
   ⟨up, _, mg, 7, 5, rfl⟩⟩

theorem witness_TransmittersKeepTheirWindow :
    (∃ (s : State) (p : Nat), ((s.link p).unacked.length ≤ 128) ∧ ((s.link p).txSeq < 256) ∧ ((∀ i, i < (s.link p).unacked.length →
      ((s.link p).unacked.map (fun (q : Pkt) => q.seq)).getD i 0 = ((s.link p).txSeq + 256 - (s.link p).unacked.length + i) % 256))) :=
  ⟨up.setLink 0 { up.link 0 with txSeq := 255, unacked := [⟨2, 0x12, 1, 254, 0, [0, 0]⟩] }, 0, by decide +kernel, by decide +kernel, (by intro i hi; have e : ((up.setLink 0 { up.link 0 with txSeq := 255, unacked := [⟨2, 0x12, 1, 254, 0, [0, 0]⟩] }).link 0).unacked.length = 1 := (by decide +kernel); obtain rfl : i = 0 := (by omega); decide +kernel)⟩

theorem witness_HeadroomIsTheLargestLosslessShift :
    (∃ (v : Int), (-32768 ≤ v) ∧ (v ≤ 32767)) :=
  ⟨-5, by decide +kernel, by decide +kernel⟩

theorem witness_VectorSumsRoundAndSaturate :
    (∃ (k : LodeCore) (w : Nat) (sh : Nat) (t : Bool) (x : List Int) (y : List Int) (cv : Int → Int), x = k.rV (bitsAt w 15 5) ∧ y = k.rV (bitsAt w 10 5) ∧ x.length = 32 ∧ y.length = 32 ∧ (sh < 16) ∧ ((∀ v, cv v = if sh = 0 then v else if t then v / (2 ^ sh : Nat) else (v + (2 ^ (sh - 1) : Nat)) / (2 ^ sh : Nat)))) :=
  ⟨{}, 0, 1, false, _, _, fun v => (v + (2 ^ (1 - 1) : Nat)) / (2 ^ 1 : Nat), rfl, rfl, by decide +kernel, by decide +kernel, by decide +kernel, (fun _ => rfl)⟩

theorem witness_AccumulationsSaturateAtFortyBits :
    (∃ (s : State) (k : LodeCore) (w : Nat) (err : Bool) (x : List Int) (y : List Int) (a : List Int) (pi : Nat → Int) (pq : Nat → Int) (si : Nat → Int) (sq : Nat → Int) (sc : Int), bitAt w 11 = false ∧ (bitsAt w 9 2 < 3) ∧ x = k.rV (bitsAt w 17 5) ∧ y = k.rV (bitsAt w 12 5) ∧ a = (if bitAt w 7 then zeroVec else k.rA (bitsAt w 22 3)) ∧ x.length = 32 ∧ y.length = 32 ∧ a.length = 32 ∧ sc = (if bitAt w 8 then -1 else 1) * (if bitAt w 6 then 1 else 2) ∧ ((∀ l, pi l = (if bitsAt w 9 2 = 0 then x.getD (2 * l) 0 * y.getD (2 * l) 0 - x.getD (2 * l + 1) 0 * y.getD (2 * l + 1) 0
      else if bitsAt w 9 2 = 1 then x.getD (2 * l) 0 * y.getD (2 * l) 0 + x.getD (2 * l + 1) 0 * y.getD (2 * l + 1) 0
      else x.getD (2 * l) 0 * y.getD (2 * l) 0))) ∧ ((∀ l, pq l = (if bitsAt w 9 2 = 0 then x.getD (2 * l) 0 * y.getD (2 * l + 1) 0 + x.getD (2 * l + 1) 0 * y.getD (2 * l) 0
      else if bitsAt w 9 2 = 1 then x.getD (2 * l + 1) 0 * y.getD (2 * l) 0 - x.getD (2 * l) 0 * y.getD (2 * l + 1) 0
      else x.getD (2 * l + 1) 0 * y.getD (2 * l + 1) 0))) ∧ ((∀ l, si l = a.getD (2 * l) 0 + sc * pi l)) ∧ ((∀ l, sq l = a.getD (2 * l + 1) 0 + sc * pq l))) :=
  ⟨up, {}, 0, false, _, _, _, _, _, _, _, _, by decide +kernel, by decide +kernel, rfl, rfl, rfl, by decide +kernel, by decide +kernel, by decide +kernel, rfl, (fun _ => rfl), (fun _ => rfl), (fun _ => rfl), (fun _ => rfl)⟩

theorem witness_CircularPointersStayInTheirBuffer :
    (∃ (k : LodeCore) (pa : Nat) (p : Nat) (b : Nat) (len : Nat) (m : Int), b = k.rB (pa % 8) ∧ len = k.rL (pa % 8) ∧ (0 < len) ∧ (b + len ≤ 2 ^ 24) ∧ (b ≤ p) ∧ (p < b + len) ∧ (-(len : Int) ≤ m) ∧ (m ≤ len) ∧ (0 ≤ (p : Int) + m) ∧ ((p : Int) + m < (2 ^ 24 : Nat))) :=
  ⟨{ b := [(1, 64)], l := [(1, 32)] }, 1, 70, _, _, 9, rfl, rfl, by decide +kernel, by decide +kernel, by decide +kernel, by decide +kernel, by decide +kernel, by decide +kernel, by decide +kernel, by decide +kernel⟩

theorem witness_StoredVectorsLoadBack :
    (∃ (sw : Bool) (v : List Int), v.length = 32 ∧ ((∀ x ∈ v, -32768 ≤ x ∧ x ≤ 32767))) :=
  ⟨true, zeroVec, by decide +kernel, (by decide +kernel)⟩

theorem witness_MailboxAccessesComplete :
    (∃ (s : State) (r : Req) (c : Fin 32) (k : Fin 16) (v : Word), (s.grants r (Reg.MBX_MSG c k)) ∧ s.held = false ∧ (r.id < 256) ∧ s.fld (Reg.MBX_STAT c) Fld.MBX_STAT_FULL = 0 ∧ ((s.fld (Reg.MBX_STAT c) Fld.MBX_STAT_CLAIMED = 0 ∨ s.fld (Reg.MBX_STAT c) Fld.MBX_STAT_CLAIMER = r.id))) ∧
    (∃ (s : State) (r : Req) (c : Fin 32) (k : Fin 16) (v : Word), (s.grants r (Reg.MBX_MSG c k)) ∧ s.held = false ∧ ((s.fld (Reg.MBX_STAT c) Fld.MBX_STAT_FULL = 1 ∨
      (s.fld (Reg.MBX_STAT c) Fld.MBX_STAT_CLAIMED = 1 ∧ s.fld (Reg.MBX_STAT c) Fld.MBX_STAT_CLAIMER ≠ r.id)))) ∧
    (∃ (s : State) (r : Req) (c : Fin 32) (v : Word), (s.grants r (Reg.MBX_DOORBELL c)) ∧ s.held = false ∧ (r.id < 256) ∧ getF v Fld.MBX_DOORBELL_RING = 1 ∧ s.fld (Reg.MBX_STAT c) Fld.MBX_STAT_FULL = 0 ∧ ((s.fld (Reg.MBX_STAT c) Fld.MBX_STAT_CLAIMED = 0 ∨ s.fld (Reg.MBX_STAT c) Fld.MBX_STAT_CLAIMER = r.id)) ∧ ((s.fld (Reg.MBX_CFG c) Fld.MBX_CFG_RX = 0x10 ∨ (1 ≤ s.fld (Reg.MBX_CFG c) Fld.MBX_CFG_RX ∧ s.fld (Reg.MBX_CFG c) Fld.MBX_CFG_RX ≤ 5)))) ∧
    (∃ (s : State) (r : Req) (c : Fin 32) (v : Word), (s.grants r (Reg.MBX_DOORBELL c)) ∧ s.held = false ∧ getF v Fld.MBX_DOORBELL_RING = 0) ∧
    (∃ (s : State) (r : Req) (c : Fin 32) (rx : Nat), (s.grants r (Reg.MBX_MSG c 15)) ∧ s.held = false ∧ rx = s.fld (Reg.MBX_CFG c) Fld.MBX_CFG_RX) ∧
    (∃ (s : State) (r : Req) (c : Fin 32) (v : Word) (rx : Nat), (s.grants r (Reg.MBX_FLUSH c)) ∧ s.held = false ∧ getF v Fld.MBX_FLUSH_FLUSH = 1 ∧ rx = s.fld (Reg.MBX_CFG c) Fld.MBX_CFG_RX ∧ ((rx = r.id ∨ (rx = 0x10 ∧ 16 ≤ r.id ∧ r.id ≤ 49)))) ∧
    (∃ (s : State) (c : Fin 32), s.fld (Reg.MBX_STAT c) Fld.MBX_STAT_CLAIMED = 1 ∧ (kvGet (fun _ => ({} : LockSt)) s.claims c).at_ + usTicks (Nat.max 1 (s.fld Reg.MBX_CLAIM_TMO Fld.MBX_CLAIM_TMO_US)) ≤ s.tick) ∧
    (∃ (s : State) (c : Fin 32), ((s.fld (Reg.MBX_STAT c) Fld.MBX_STAT_CLAIMED = 0 ∨
      s.tick < (kvGet (fun _ => ({} : LockSt)) s.claims c).at_ + usTicks (Nat.max 1 (s.fld Reg.MBX_CLAIM_TMO Fld.MBX_CLAIM_TMO_US))))) :=
  ⟨⟨up, mg, 8, 3, 7, by unfold State.grants; decide +kernel, by decide +kernel, by decide +kernel, by decide +kernel, by decide +kernel⟩,
   ⟨up.setFld (Reg.MBX_STAT 8) Fld.MBX_STAT_FULL 1, mg, 8, 3, 7, by unfold State.grants; decide +kernel, by decide +kernel, by decide +kernel⟩,
   ⟨up.setFld (Reg.MBX_CFG 8) Fld.MBX_CFG_RX 4, mg, 8, BitVec.ofNat 32 (1 <<< Fld.MBX_DOORBELL_RING.lsb), by unfold State.grants; decide +kernel, by decide +kernel, by decide +kernel, by decide +kernel, by decide +kernel, by decide +kernel, by decide +kernel⟩,
   ⟨up, mg, 8, 0, by unfold State.grants; decide +kernel, by decide +kernel, by decide +kernel⟩,
   ⟨up.setFld (Reg.MBX_STAT 0) Fld.MBX_STAT_FULL 1, fo, 0, _, by unfold State.grants; decide +kernel, by decide +kernel, rfl⟩,
   ⟨(up.setFld (Reg.MBX_STAT 0) Fld.MBX_STAT_FULL 1).setFld (Reg.MBX_CFG 0) Fld.MBX_CFG_RX 4, fo, 0, BitVec.ofNat 32 (1 <<< Fld.MBX_FLUSH_FLUSH.lsb), _, by unfold State.grants; decide +kernel, by decide +kernel, by decide +kernel, rfl, by decide +kernel⟩,
   ⟨{ up with claims := [(8, ⟨5, 0⟩)] }.setFld (Reg.MBX_STAT 8) Fld.MBX_STAT_CLAIMED 1, 8, by decide +kernel, by decide +kernel⟩,
   ⟨up, 8, by decide +kernel⟩⟩

end Sys2Proof.Tests
end

section
/-! SUPPORT. A plain register write, field by field (R6, R9): the fields of every word of the map share no bit, so each field takes the write by its own type
and the bits outside all fields stay. -/
namespace Sys2Proof.Machine

/-! ## The word a field's bits come from -/

/-- The bit `i` of a word belongs to the field. -/
abbrev Field.covers (f : Field) (i : Nat) : Prop := f.lsb ≤ i ∧ i < f.lsb + f.width

/-- The word whose bits a field holds after a plain write, by its type (R6). -/
def FieldRow.source (f : FieldRow) (old new : Word) : Word :=
  match f.acc with
  | .rw => new
  | .w1c => old &&& ~~~ new
  | .w1s => old ||| new
  | _ => old

/-- A field equals another word's when their bits agree on it. -/
theorem getF_congr {w w' : Word} {f : Field} (h : ∀ i, f.covers i → w.getLsbD i = w'.getLsbD i) : getF w f = getF w' f := by
  apply Nat.eq_of_testBit_eq
  intro j
  rw [getF_testBit, getF_testBit]
  by_cases hj : j < f.width
  · rw [h (f.lsb + j) ⟨by omega, by omega⟩]
  · simp [hj]

/-- Replacing a field by the same field of another word takes that word's bits there and no other. -/
theorem setF_getF_getLsbD (w src : Word) (f : Field) (i : Nat) :
    (setF w f (getF src f)).getLsbD i = if f.covers i then src.getLsbD i else w.getLsbD i := by
  by_cases hi : i < 32
  · rw [setF_getLsbD w f _ hi]
    split
    · next hc =>
      obtain ⟨hlo, hhi⟩ := hc
      rw [getF_testBit, Nat.add_sub_cancel' hlo]
      simp [show i - f.lsb < f.width by omega]
    · rfl
  · simp [BitVec.getLsbD_of_ge _ i (Nat.le_of_not_lt hi)]

/-- Each bit of a field's own source depends on that bit of the old word alone. -/
theorem FieldRow.source_getLsbD_congr (f : FieldRow) {old old' : Word} (new : Word) {i : Nat} (h : old.getLsbD i = old'.getLsbD i) :
    (f.source old new).getLsbD i = (f.source old' new).getLsbD i := by
  unfold FieldRow.source
  split <;> simp [h]

/-! ## One field, then all of them -/

/-- One field of a plain write. -/
theorem applyFields_singleton_getLsbD (old new : Word) (f : FieldRow) (i : Nat) :
    (applyFields old new [f]).getLsbD i = if f.fld.covers i then (f.source old new).getLsbD i else old.getLsbD i := by
  obtain ⟨fld, acc, reset⟩ := f
  cases acc
  case rw | w1c | w1s => exact setF_getF_getLsbD old _ fld i
  case ro | wo | rc => exact (ite_self _).symm

theorem applyFields_cons (old new : Word) (f : FieldRow) (fs : List FieldRow) :
    applyFields old new (f :: fs) = applyFields (applyFields old new [f]) new fs := rfl

/-- A plain write leaves the bits outside the fields (R9). -/
theorem applyFields_getLsbD_outside {fs : List FieldRow} {i : Nat} (old new : Word) (h : ∀ f ∈ fs, ¬ f.fld.covers i) :
    (applyFields old new fs).getLsbD i = old.getLsbD i := by
  induction fs generalizing old with
  | nil => rfl
  | cons f fs ih =>
    rw [List.forall_mem_cons] at h
    rw [applyFields_cons, ih _ h.2, applyFields_singleton_getLsbD, if_neg h.1]

/-- The field `g` lies below the field `f`, as the tables list their fields: they share no bit. -/
abbrev FieldRow.above (f g : FieldRow) : Prop := g.fld.lsb + g.fld.width ≤ f.fld.lsb

/-- Where the fields share no bit, each takes a plain write by its own type (R6). -/
theorem getF_applyFields {fs : List FieldRow} (hfs : fs.Pairwise FieldRow.above) {f : FieldRow} (hf : f ∈ fs) (old new : Word) :
    getF (applyFields old new fs) f.fld = getF (f.source old new) f.fld := by
  induction fs generalizing old with
  | nil => exact absurd hf List.not_mem_nil
  | cons g gs ih =>
    obtain ⟨hg, hgs⟩ := List.pairwise_cons.mp hfs
    rw [applyFields_cons]
    rcases List.mem_cons.mp hf with rfl | hmem
    · refine getF_congr fun i hi => ?_
      have hrest : ∀ x ∈ gs, ¬ x.fld.covers i := fun x hx => by have := hg x hx; omega
      rw [applyFields_getLsbD_outside _ new hrest, applyFields_singleton_getLsbD, if_pos hi]
    · rw [ih hgs hmem]
      refine getF_congr fun i hi => f.source_getLsbD_congr new ?_
      have hout : ¬ g.fld.covers i := by have := hg f hmem; omega
      rw [applyFields_singleton_getLsbD, if_neg hout]

/-! ## The register map -/

/-- A register row lists the fields of its words from the top down, none over another. -/
abbrev RegRow.inOrder (r : RegRow) : Prop := r.fields.Pairwise FieldRow.above ∧ r.later.Pairwise FieldRow.above

theorem RegRow.fieldsAt_inOrder {r : RegRow} (h : r.inOrder) (w : Nat) : (r.fieldsAt w).Pairwise FieldRow.above := by
  unfold RegRow.fieldsAt
  split
  · exact h.1
  · exact h.2

/-- No register of the map has two fields on one bit, block by block. -/
theorem rowsOfBlock_inOrder (block : Nat) : ∀ r ∈ rowsOfBlock block, r.inOrder := by
  unfold rowsOfBlock
  split <;> decide +kernel

/-- What a search of rows finds is one of them. -/
theorem mem_of_findIn {rows : List RegRow} {a : Nat} {row : RegRow} {w : Nat} (h : findIn rows a = some (row, w)) : row ∈ rows := by
  induction rows with
  | nil => cases h
  | cons r rs ih =>
    unfold findIn at h
    split at h
    · cases h; exact List.mem_cons_self
    · exact List.mem_cons_of_mem r (ih h)

/-- The fields of the word at a register address share no bit. -/
theorem findReg_fields_inOrder {a : Nat} {row : RegRow} {w : Nat} (h : findReg a = some (row, w)) :
    (row.fieldsAt w).Pairwise FieldRow.above :=
  RegRow.fieldsAt_inOrder (rowsOfBlock_inOrder _ row (mem_of_findIn h)) w

/-- A plain write stores the word of its fields. -/
theorem State.rd_plainWrite_same (s : State) {a : Nat} {row : RegRow} {w : Nat} (h : findReg a = some (row, w)) (v : Word) :
    (s.plainWrite a v).rd a = applyFields (s.rd a) v (row.fieldsAt w) := by
  simp [State.plainWrite, h]

/-- A field of a plainly written word comes from its source by R6. -/
theorem State.fld_plainWrite_same (s : State) {a : Nat} {row : RegRow} {w : Nat} (h : findReg a = some (row, w)) (v : Word) {f : FieldRow}
    (hf : f ∈ row.fieldsAt w) : (s.plainWrite a v).fld a f.fld = getF (f.source (s.rd a) v) f.fld := by
  unfold State.fld
  rw [s.rd_plainWrite_same h, getF_applyFields (findReg_fields_inOrder h) hf]

/-- Settles O38: the fields of a word share no bit, so each takes the write by its type, and the bits outside them stay. -/
theorem plainFieldsTakeWritesByType : Obligations.PlainFieldsTakeWritesByType := by
  intro s a v row w h
  refine ⟨fun f hf => ?_, fun i _ hout => ?_⟩
  · rw [s.fld_plainWrite_same h v hf]
    obtain ⟨fld, acc, reset⟩ := f
    cases acc <;> rfl
  · rw [s.rd_plainWrite_same h]
    exact applyFields_getLsbD_outside _ v hout

end Sys2Proof.Machine
end

section
/-! SUPPORT. Vectors in memory (R226, R335): a lane's four bytes give back its parts, in the order that `SW` says. -/
namespace Sys2Proof.Machine

/-- A 16-bit part in two's complement (R5). -/
abbrev isPart (x : Int) : Prop := -32768 ≤ x ∧ x ≤ 32767

/-- The two parts of a lane, exchanged. -/
abbrev swapLane (z : Int × Int) : Int × Int := (z.2, z.1)

/-- A part survives its two's-complement encoding. -/
theorem sext_encS_part {x : Int} (hx : isPart x) : sext (encS 16 x) 16 = x := by
  have hlt : encS 16 x < 65536 := by unfold encS; omega
  simp only [sext]
  split <;> unfold encS at * <;> omega

/-- The two bytes of a part give it back. -/
theorem sext_leNat_natLE_part {x : Int} (hx : isPart x) : sext (leNat (natLE 2 (encS 16 x))) 16 = x := by
  rw [leNat_natLE 2 _ (by unfold encS; omega), sext_encS_part hx]

/-- The bytes of a vector begin with those of its first lane. -/
theorem vecBytes_cons (sw : Bool) (i q : Int) (v : List Int) :
    vecBytes sw (i :: q :: v) = natLE 2 (encS 16 (if sw then q else i)) ++ natLE 2 (encS 16 (if sw then i else q)) ++ vecBytes sw v := by
  cases sw <;> rfl

/-- The bytes of two parts read back as one lane, before the lanes of the bytes that follow. -/
theorem vecOfBytes_parts_append (sw : Bool) {x y : Int} (hx : isPart x) (hy : isPart y) (bs : List Byte) :
    vecOfBytes sw (natLE 2 (encS 16 x) ++ natLE 2 (encS 16 y) ++ bs) = (if sw then [y, x] else [x, y]) ++ vecOfBytes sw bs := by
  have hstep : vecOfBytes sw (natLE 2 (encS 16 x) ++ natLE 2 (encS 16 y) ++ bs) =
      (if sw then [sext (leNat (natLE 2 (encS 16 y))) 16, sext (leNat (natLE 2 (encS 16 x))) 16]
        else [sext (leNat (natLE 2 (encS 16 x))) 16, sext (leNat (natLE 2 (encS 16 y))) 16]) ++ vecOfBytes sw bs := rfl
  rw [hstep, sext_leNat_natLE_part hx, sext_leNat_natLE_part hy]

/-- A stored vector loads back lane by lane: as it was under the same `SW`, with I and Q exchanged under the other. -/
theorem vecOfBytes_vecBytes (st ld : Bool) {v : List Int} (hv : ∀ x ∈ v, isPart x) :
    vecOfBytes ld (vecBytes st v) = partsOf ((lanesOf v).map (if st = ld then id else swapLane)) := by
  induction v using lanesOf.induct with
  | case1 i q r ih =>
    simp only [List.forall_mem_cons] at hv
    obtain ⟨hi, hq, hr⟩ := hv
    rw [vecBytes_cons, vecOfBytes_parts_append ld (by split <;> assumption) (by split <;> assumption), ih hr]
    cases st <;> cases ld <;> rfl
  | case2 v hshort =>
    have hnone : lanesOf v = [] := by rw [lanesOf.eq_2 v hshort]
    unfold vecBytes
    rw [hnone]
    rfl

/-- A vector with as many I parts as Q parts is its lanes. -/
theorem partsOf_lanesOf {v : List Int} (hv : v.length % 2 = 0) : partsOf (lanesOf v) = v := by
  induction v using lanesOf.induct with
  | case1 i q r ih =>
    rw [List.length_cons, List.length_cons] at hv
    have hr : r.length % 2 = 0 := by omega
    show i :: q :: partsOf (lanesOf r) = i :: q :: r
    rw [ih hr]
  | case2 v hshort =>
    match v, hshort with
    | [], _ => rfl
    | [x], _ => exact absurd hv Nat.one_ne_zero
    | i :: q :: r, hshort => exact absurd rfl (hshort i q r)

/-- A vector takes four bytes for each of its lanes. -/
theorem length_vecBytes (sw : Bool) (v : List Int) : (vecBytes sw v).length = 4 * (lanesOf v).length := by
  unfold vecBytes
  induction lanesOf v with
  | nil => rfl
  | cons z l ih =>
    rw [List.flatMap_cons, List.length_append, ih, List.length_cons, Nat.mul_succ, Nat.add_comm]
    cases sw <;> rfl

/-- A lane has two parts. -/
theorem length_partsOf (l : List (Int × Int)) : (partsOf l).length = 2 * l.length := by
  induction l with
  | nil => rfl
  | cons z l ih =>
    show (partsOf l).length + 2 = 2 * (l.length + 1)
    rw [ih, Nat.mul_succ]

/-- Settles O46: 32 parts fill 64 bytes, and the same `SW` reads each lane as it was stored, the other one exchanges its parts. -/
theorem storedVectorsLoadBack : Obligations.StoredVectorsLoadBack := by
  intro sw v hlen hv
  have heven : v.length % 2 = 0 := by rw [hlen]
  refine ⟨?_, ?_, ?_⟩
  · have hlanes : 2 * (lanesOf v).length = 32 := by rw [← length_partsOf, partsOf_lanesOf heven, hlen]
    rw [length_vecBytes]
    omega
  · rw [vecOfBytes_vecBytes sw sw hv, if_pos rfl, List.map_id, partsOf_lanesOf heven]
  · rw [vecOfBytes_vecBytes sw (!sw) hv, if_neg (by simp)]

end Sys2Proof.Machine
end

section
/-! SUPPORT. The reset state (R8, R38, R132, R439, R481). -/
namespace Sys2Proof.Machine

/-- With nothing stored, every register word reads as its table's reset value (R8). -/
@[simp] theorem rd_reset (a : Nat) : State.reset.rd a = resetWord a := rfl

/-- The nominal increment of both time domains, as the tables give it (R8). -/
theorem rd64_reset_TD_INC (x : Fin 2) : State.reset.rd64 (Reg.TD_INC x) = 0x01046AAAAAAB := by
  revert x; decide +kernel

/-- Both ports are down at reset. -/
theorem lstate_reset (p : Fin 2) : State.reset.lstate p = 0 := by
  revert p; decide +kernel

/-- Settles O30: the reset state stores nothing, so its words read as their tables say, and every record has its reset value. -/
theorem resetLeavesTheTableValues : Obligations.ResetLeavesTheTableValues :=
  ⟨rd_reset, rfl, rfl, rfl, by decide +kernel, rfl, rd64_reset_TD_INC, lstate_reset, by decide +kernel, rfl, fun _ => rfl⟩

end Sys2Proof.Machine
end

section
/-! SUPPORT. The training of the lanes (02_lanes, R42-R59): each command's effect in the state it belongs to. A command whose meaning is written over cases
takes the case that its hypotheses name. -/
namespace Sys2Proof.Machine

/-! ## Answers of a meaning -/

/-- A meaning that reaches the state `t` answers `t` at the end of the command's cycle. -/
theorem finish_congr {u t : State} (h : u = t) : finish u = .next t.endCycle := congrArg finish h

/-- A granted write whose rule answers a code and a state: that state, with the answer, at the end of the cycle (R24). -/
theorem finish_writeBy {s t : State} {r : Req} {a c : Nat} {rule : State → Nat × State} (hg : s.grants r a) (h : rule (s.entering r) = (c, t)) :
    finish (s.writeBy r a rule) = .next (State.endCycle (t.answer r c 0)) :=
  finish_congr (by rw [writeBy_grants hg, h])

/-! ## Port control (R42, R49) -/

section
variable {s t : State} {p : Nat} {v : Word} (ht : s.plainWrite (Reg.LANE_PCTL p) v = t)
include ht

/-- `EN` from 0 to 1 starts training. -/
theorem lanePctlWrite_enables (h0 : s.bit (Reg.LANE_PCTL p) Fld.LANE_PCTL_EN = false) (h1 : t.bit (Reg.LANE_PCTL p) Fld.LANE_PCTL_EN = true) :
    lanePctlWrite p v s = (0, (t.startTraining p).sayWords p s) := by
  simp only [lanePctlWrite, ht, h0, h1, Bool.not_false, Bool.and_true, if_true]

/-- `EN` from 1 to 0 powers the lanes down. -/
theorem lanePctlWrite_disables (h1 : s.bit (Reg.LANE_PCTL p) Fld.LANE_PCTL_EN = true) (h0 : t.bit (Reg.LANE_PCTL p) Fld.LANE_PCTL_EN = false) :
    lanePctlWrite p v s = (0, (t.lanesOff p).sayWords p s) := by
  simp [lanePctlWrite, ht, h0, h1]

/-- Another `RATE` under `EN` = 1 retrains, with the beacon stopped. -/
theorem lanePctlWrite_changes_rate (h1 : s.bit (Reg.LANE_PCTL p) Fld.LANE_PCTL_EN = true) (h1' : t.bit (Reg.LANE_PCTL p) Fld.LANE_PCTL_EN = true)
    (hr : s.fld (Reg.LANE_PCTL p) Fld.LANE_PCTL_RATE ≠ (t.setPort p { t.port p with beacon := false }).fld (Reg.LANE_PCTL p) Fld.LANE_PCTL_RATE) :
    lanePctlWrite p v s = (0, ((t.setPort p { t.port p with beacon := false }).retrain p).sayWords p s) := by
  have hr' := bne_iff_ne.mpr hr
  simp only [lanePctlWrite, ht, h1, h1', hr', Bool.not_true, Bool.false_and, Bool.and_false, Bool.true_and, Bool.false_eq_true, if_true, if_false]

end

/-! ## Signal, clock and alignment (R47-R50, R57) -/

/-- The first signal of a port starts an attempt, which `TRAIN_TRY` counts on every lane. -/
theorem exec_signalDetect_first {s t : State} {p : Fin 2} {k : Fin 9} (h1 : s.lst p k = 1) (ht : s.setLst p k 2 = t)
    (ha : (t.lane p k).alone = false) (hn : (t.port p).attemptAt = none) :
    exec (.signalDetect p k) s =
      .next (State.endCycle ((nine.foldl (fun (u : State) j => u.setFld (Reg.LANE_LSTAT p j) Fld.LANE_LSTAT_TRAIN_TRY (u.fld (Reg.LANE_LSTAT p j) Fld.LANE_LSTAT_TRAIN_TRY + 1))
        (t.setPort p { t.port p with attempts := (t.port p).attempts + 1, attemptAt := some s.tick })).sayWords p s)) := by
  have hfirst : ¬ ((t.lane p k).alone = true ∨ (t.port p).attemptAt.isSome = true) := by simp [ha, hn]
  subst ht
  exact finish_congr ((if_neg (Decidable.not_not.mpr h1)).trans (congrArg (State.sayWords · p s) (if_neg hfirst)))

theorem exec_clockRecovered_detected {s : State} {p : Fin 2} {k : Fin 9} (h : s.lst p k = 2) :
    exec (.clockRecovered p k) s = .next (State.endCycle ((s.setLst p k 3).sayWords p s)) :=
  finish_congr (if_pos h)

theorem exec_laneAligned_align {s : State} {p : Fin 2} {k : Fin 9} {h : HuntObs} {inv : Bool} (h3 : s.lst p k = 3) (hh : huntAligned h = some inv) :
    exec (.laneAligned p k h) s = .next (State.endCycle (s.alignInTraining p k h inv)) :=
  finish_congr (by simp only [hh, h3, if_true])

/-! ## Control words (R52-R56) -/

/-- A control word of format 2 is taken part by part. -/
theorem takeWord_of_version {s : State} {p k : Nat} {w : BitVec 128} (h : twVer w.toNat = 2) :
    s.takeWord p k w =
      State.sayWords ((((s.takeReq p k w.toNat).takeAck p k w.toNat).takeRdy p k w.toNat).takeMove p w.toNat) p s :=
  if_neg (Decidable.not_not.mpr h)

theorem takeReq_of_new {s : State} {p k w : Nat} (h4 : s.lst p k = 4) (hn : (s.lane p k).ackSeq ≠ some (twReqSeq w)) :
    s.takeReq p k w = (s.wr (Reg.LANE_FFE p k) (applyTaps (s.rd (Reg.LANE_FFE p k)) (twReq w)).1).setLane p k
      { s.lane p k with ackSeq := some (twReqSeq w), sts := (applyTaps (s.rd (Reg.LANE_FFE p k)) (twReq w)).2 } :=
  if_pos ⟨h4, hn⟩

theorem takeRdy_of_unconverged {s : State} {p k w : Nat} (h4 : s.lst p k = 4) (hu : (s.lane p k).rxRdy = false) (hw : twRdy w = true) :
    s.takeRdy p k w = (s.setPort p { s.port p with farCap := if twCap w = 4 then 4 else 8 }).setLane p k { s.lane p k with farRdy := true } := by
  simp [State.takeRdy, h4, hu, hw]

theorem takeMove_of_relief {s : State} {p w q : Nat} (hq : s.reliefLane p false = some q) (h1 : s.pst p = 1) (hw : twMove w < 8) :
    s.takeMove p w = (s.setPmap (Reg.LANE_PMAP_TX p) (twMove w) q).setFld (Reg.LANE_PSTAT p) Fld.LANE_PSTAT_RELIEF_TX 0xF := by
  simp only [State.takeMove, hq, h1, hw, and_self, if_true]

theorem exec_receiverConverged_ready {s : State} {p : Fin 2} {k : Fin 9} (h4 : s.lst p k = 4) (hf : (s.lane p k).farRdy = true) :
    exec (.receiverConverged p k) s = .next (State.endCycle (((s.setLane p k { s.lane p k with rxRdy := true }).laneReady p k).sayWords p s)) :=
  finish_congr ((if_pos h4).trans (congrArg (State.sayWords · p s) (if_pos hf)))

/-! ## Deskew (R58, R59) -/

section
variable {s : State} {p : Fin 2} {skew base : Nat} (h1 : s.pst p = 1) (h6 : nine.any (fun k => s.lst p k == 6) = true)
  (hs : commaSkew (s.deskewCommas p) = (skew, base))
include h1 h6 hs

/-- A training port with a lane in DESKEW weighs its comma skew against the buffer of 128 lane words. -/
theorem exec_deskewDone_measured :
    exec (.deskewDone p) s =
      finish (if 128 * 32 < skew then (s.attemptFails p).sayWords p s else s.portTrained p base ((skew + 31) / 32)) := by
  have hgo : ¬ (s.pst p ≠ 1 ∨ ¬ nine.any (fun k => s.lst p k == 6) = true) := by simp only [h1, h6]; decide
  exact congrArg finish ((if_neg hgo).trans (by rw [hs]))

theorem exec_deskewDone_fits (h : skew ≤ 128 * 32) :
    exec (.deskewDone p) s = .next (State.endCycle (s.portTrained p base ((skew + 31) / 32))) := by
  rw [exec_deskewDone_measured h1 h6 hs, if_neg (Nat.not_lt.mpr h)]; rfl

theorem exec_deskewDone_exceeds (h : 128 * 32 < skew) :
    exec (.deskewDone p) s = .next (State.endCycle ((s.attemptFails p).sayWords p s)) := by
  rw [exec_deskewDone_measured h1 h6 hs, if_pos h]; rfl

end

/-- A port whose far end drives all lanes keeps its transmit map and relief lane when it comes up. -/
theorem portTrained_of_farCap {s t : State} {p : Fin 2} (base depth : Nat) (ht : ((s.mapReceive p).orderCheck p).lanesUp p = t) (hc : (t.port p).farCap ≠ 4) :
    s.portTrained p base depth =
      let u := (t.setPort p { t.port p with attemptAt := none, readyAt := none, autoScanAt := s.tick, move := none, deskew := some (base, depth) }).setPst p 2
      ((u.startStream p (u.nLogical p) u.tick).raise 0x3001 p).startNeg p := by
  simp only [State.portTrained, ht, hc, if_false]

/-! ## Timeouts (R49, R50) -/

theorem exec_trainingTimeout_fails {s : State} {p : Fin 2} {k : Fin 9} (hd : s.lanesDue p k = true) (ha : (s.lane p k).alone = false)
    (h5 : s.lst p k ≠ 5) :
    exec (.trainingTimeout p k) s = .next (State.endCycle (((s.setLst p k 8).attemptFails p).sayWords p s)) :=
  finish_congr (by simp only [hd, ha, h5, Bool.not_true, Bool.false_eq_true, if_false])

theorem exec_attemptTimeout_due {s : State} {p : Fin 2} {t : Nat} (ht : (s.port p).attemptAt = some t) (h1 : s.pst p = 1)
    (hd : t + msTicks 25 ≤ s.tick) :
    exec (.attemptTimeout p) s = .next (State.endCycle ((s.attemptFails p).sayWords p s)) :=
  finish_congr (by simp only [ht, h1, hd, and_self, if_true])

/-- Settles O4: each command's hypotheses name one case of its meaning; the accesses are granted writes of `LANE_PCTL`. -/
theorem trainingCommandsTakeEffect : Obligations.TrainingCommandsTakeEffect :=
  ⟨fun _ _ _ _ _ hg h0 ht h1 => finish_writeBy hg (lanePctlWrite_enables ht h0 h1),
   fun _ _ _ _ _ hg h1 ht h0 => finish_writeBy hg (lanePctlWrite_disables ht h1 h0),
   fun _ _ _ _ _ hg h1 ht h1' hr => finish_writeBy hg (lanePctlWrite_changes_rate ht h1 h1' hr),
   fun _ _ _ _ => exec_signalDetect_first,
   fun _ _ _ => exec_clockRecovered_detected,
   fun _ _ _ _ _ => exec_laneAligned_align,
   fun _ _ _ _ hv => have ht := finish_congr (takeWord_of_version hv); ⟨ht, ht, ht⟩,
   fun _ _ _ _ => takeReq_of_new,
   fun _ _ _ _ => takeRdy_of_unconverged,
   fun _ _ _ _ => takeMove_of_relief,
   fun _ _ _ => exec_receiverConverged_ready,
   fun _ _ _ _ => exec_deskewDone_fits,
   fun _ _ _ base depth => portTrained_of_farCap base depth,
   fun _ _ _ _ => exec_deskewDone_exceeds,
   fun _ _ _ => exec_trainingTimeout_fails,
   fun _ _ _ => exec_attemptTimeout_due⟩

end Sys2Proof.Machine
end

section
/-! SUPPORT. Stalls, relief, beacon and scans of the lanes (02_lanes, R48, R60-R73): each command's effect in the state it belongs to. -/
namespace Sys2Proof.Machine

/-! ## Stalls (R48, R60, R61) -/

/-- A lane that carries traffic and loses alignment stalls its port and an OPERATIONAL link. -/
theorem exec_alignLost_stalls {s t u : State} {p : Fin 2} {k : Fin 9} {uncorr missing : Nat}
    (hal : s.bit (Reg.LANE_LSTAT p k) Fld.LANE_LSTAT_ALIGNED = true)
    (ht : ((s.setFld (Reg.LANE_LSTAT p k) Fld.LANE_LSTAT_ALIGNED 0).setLane p k { s.lane p k with lostAt := s.tick }).raise 0x3003 (laneUnit p k) = t)
    (h2 : t.pst p = 2) (hc : (t.carries p k).isSome = true) (hu : (t.abandonRx p).setPst p 3 = u)
    (hop : (u.setPort p { u.port p with stallAt := s.tick }).lstate p = 2) (hlost : 8 ≤ uncorr ∨ 2 ≤ missing) :
    exec (.alignLost p k uncorr missing) s =
      .next (State.endCycle (((u.setPort p { u.port p with stallAt := s.tick }).setFld (Reg.LINK_STATUS p) Fld.LINK_STATUS_LSTATE 3).raise 0x3004 p)) := by
  have hgo : ¬ ((!s.bit (Reg.LANE_LSTAT p k) Fld.LANE_LSTAT_ALIGNED || (decide (uncorr < 8) && decide (missing < 2))) = true) := by
    simp only [hal, Bool.not_true, Bool.false_or, Bool.and_eq_true, decide_eq_true_eq]; omega
  exact finish_congr ((if_neg hgo).trans (by simp only [ht, h2, hc, hu, hop, and_self, if_true]))

/-- Two superframes without realignment, and a relief lane that is aligned: the receiver asks for emergency relief. -/
theorem exec_realignWaitExpiry_asks {s : State} {p : Fin 2} {k : Fin 8} {q : Nat} (h3 : s.pst p = 3) (hm : s.pmap (Reg.LANE_PMAP_RX p) k ≠ 0xF)
    (hal : s.bit (Reg.LANE_LSTAT p (s.pmap (Reg.LANE_PMAP_RX p) k)) Fld.LANE_LSTAT_ALIGNED = false)
    (hd : (s.lane p (s.pmap (Reg.LANE_PMAP_RX p) k)).lostAt + (if s.fld (Reg.LANE_PCTL p) Fld.LANE_PCTL_RATE = 1 then 25770 else 51540) ≤ s.tick)
    (he : (s.port p).emergency = none) (hq : s.reliefLane p true = some q) (hqal : s.bit (Reg.LANE_LSTAT p q) Fld.LANE_LSTAT_ALIGNED = true) :
    exec (.realignWaitExpiry p k) s = .next (State.endCycle ((s.setPort p { s.port p with emergency := some k }).sendBack p 1 k)) :=
  finish_congr (by simp only [h3, hm, hal, Nat.not_lt.mpr hd, he, hq, hqal, ne_eq, not_true_eq_false, Bool.false_eq_true, Option.isSome_none, or_self, if_false, if_true])

theorem exec_deskewRestored_unstalls {s : State} {p : Fin 2} (h3 : s.pst p = 3) (he : (s.port p).emergency = none) (ha : s.allAligned p = true) :
    exec (.deskewRestored p) s = .next (State.endCycle (s.unstall p)) :=
  finish_congr (by simp only [h3, he, ha, ne_eq, not_true_eq_false, if_false, if_true])

/-! ## The back channel (R63) -/

section
variable {s t : State} {p : Fin 2} {b : BackObs} (hb : s.backTaken p b = true) (ht : s.setPort p { s.port p with backSeen := true } = t)
include hb ht

/-- An accepted command is marked, then runs its rule. -/
theorem onBack_taken (f : State → State) : s.onBack p b f = f t := by
  rw [State.onBack, if_pos hb, ht]

theorem exec_reliefReq_possible {k : Fin 8} (h : t.reliefPossible p k false = true) :
    exec (.reliefReq p b k) s = .next (State.endCycle (t.startTxRelief p k)) :=
  finish_congr ((onBack_taken hb ht _).trans (if_pos h))

theorem exec_reliefSwitched_relieves {u : State} {k : Fin 8} {q : Nat} (hq : t.reliefLane p false = some q) (hk : (t.port p).txRelief = some k.val)
    (hu : (t.setPmap (Reg.LANE_PMAP_TX p) k q).setFld (Reg.LANE_PSTAT p) Fld.LANE_PSTAT_RELIEF_TX 0xF = u) :
    exec (.reliefSwitched p b k) s =
      .next (State.endCycle (((((u.setPort p { t.port p with txRelief := none }).setFld (Reg.LANE_PSTAT p) Fld.LANE_PSTAT_RELIEF_BUSY_TX 0).setFld
        (Reg.LANE_LSTAT p q) Fld.LANE_LSTAT_ROLE 0).retireLane p (t.pmap (Reg.LANE_PMAP_TX p) k) false).raise 0x3007 p)) :=
  finish_congr ((onBack_taken hb ht _).trans (by simp only [hq, hk, hu, if_true]))

theorem exec_reliefRefuse_abandons {k : Fin 8} (he : (t.port p).emergency ≠ some k.val) (hk : (t.port p).rxRelief = some k.val) :
    exec (.reliefRefuse p b k) s = .next (State.endCycle (t.abandonRx p)) :=
  finish_congr ((onBack_taken hb ht _).trans ((if_neg he).trans (if_pos hk)))

theorem exec_reliefRefuse_retrains {k : Fin 8} (he : (t.port p).emergency = some k.val) :
    exec (.reliefRefuse p b k) s = .next (State.endCycle (((t.raise 0x3008 p).retrain p).sayWords p t)) :=
  finish_congr ((onBack_taken hb ht _).trans (if_pos he))

theorem exec_retrainReq_retired {k : Fin 9} (hp : t.portUp p = true) (hk : t.isRetired p k = true) :
    exec (.retrainReq p b k) s = .next (State.endCycle ((t.trainAlone p k).sayWords p t)) :=
  finish_congr ((onBack_taken hb ht _).trans (if_pos (Bool.and_eq_true_iff.mpr ⟨hp, hk⟩)))

end

/-! ## The comparison of a receive relief (R67, R68) -/

/-- With MIRROR_ON headers of the lane that a receive relief copies, the relief ends: by the switch to the relief lane, or abandoned on a mismatch. -/
theorem exec_reliefCompareDone_mirrored {s : State} {p : Fin 2} {k : Fin 8} {q : Nat} {h : BitVec 20} (mismatch : Bool)
    (hq : s.reliefLane p true = some q) (h2 : s.pst p = 2) (hk : (s.port p).rxRelief = some k.val) (hm : s.pmap (Reg.LANE_PMAP_RX p) k ≠ 0xF)
    (ht : hdrType h.toNat = 1) (hc : hdrCmd h.toNat = 2) (ha : hdrArg h.toNat = k) (hl : hdrLane h.toNat = k) :
    exec (.reliefCompareDone p k h mismatch) s =
      let u := (s.setPort p { s.port p with rxRelief := none }).setFld (Reg.LANE_PSTAT p) Fld.LANE_PSTAT_RELIEF_BUSY_RX 0
      .next (State.endCycle (if mismatch then u.raise 0x3008 p else ((u.takeRelief p k q).sendBack p 3 k).raise 0x3007 p)) :=
  finish_congr (by
    simp only [hq, h2, hk, hm, ht, hc, ha, hl, ne_eq, not_true_eq_false, true_or, and_self, or_self, Option.isNone_some, Bool.false_eq_true, if_false])

/-! ## `LANE_CMD` (R68, R70, R73) -/

/-- The operation and the lane that a `LANE_CMD` word carries. -/
@[simp] theorem getF_laneCmd_op (op k : Nat) : getF (laneCmd op k) Fld.LANE_CMD_OP = op % 16 := by
  rw [laneCmd, getF_setF_other _ _ _ _ (by decide) (by decide), getF_setF_same _ _ _ (by decide)]; rfl

@[simp] theorem getF_laneCmd_lane (op : Nat) (k : Fin 16) : getF (laneCmd op k) Fld.LANE_CMD_LANE = k := by
  rw [laneCmd, getF_setF_same _ _ _ (by decide)]; exact Nat.mod_eq_of_lt k.isLt

section
variable {s : State} {p : Fin 2} {k : Fin 16}

theorem laneCmdWrite_relieveRx (h : s.reliefPossible p k true = true) : laneCmdWrite p (laneCmd 1 k) s = (0, s.startRxRelief p k) := by
  simp [laneCmdWrite, h]

theorem laneCmdWrite_relieveTx (h : s.reliefPossible p k false = true) : laneCmdWrite p (laneCmd 2 k) s = (0, s.startTxRelief p k) := by
  simp [laneCmdWrite, h]

theorem laneCmdWrite_restore (hp : s.portUp p = true) (hk : k.val < 9) (hr : s.isRetired p k = true) :
    laneCmdWrite p (laneCmd 3 k) s = (0, ((s.trainAlone p k).sendBack p 5 k).sayWords p s) := by
  simp [laneCmdWrite, hp, hk, hr]

theorem laneCmdWrite_beaconOn : laneCmdWrite p (laneCmd 4 0) s = (0, s.setPort p { s.port p with beacon := true, beaconAt := none }) := by
  simp [laneCmdWrite]

theorem laneCmdWrite_beaconOff : laneCmdWrite p (laneCmd 5 0) s = (0, s.setPort p { s.port p with beacon := false }) := by
  simp [laneCmdWrite]

end

theorem exec_beaconBurst_first {s : State} {p : Fin 2} (hb : (s.port p).beacon = true) (hn : (s.port p).beaconAt = none) :
    exec (.beaconBurst p) s = .next (State.endCycle ((s.setPort p { s.port p with beaconAt := some s.tick }).emit (.beacon p))) :=
  finish_congr (by simp only [hb, hn, Bool.and_self, if_true])

/-! ## Margin windows and eye scans (R64-R66) -/

theorem exec_marginWindowEnd_within {s t : State} {p : Fin 2} {k : Fin 9} {corrected uncorr : Nat} (hr : s.rxRuns p k = true)
    (ht : ((s.count64 (Reg.LANE_CW_CNT p k) 65536).count64 (Reg.LANE_CORR_CNT p k) corrected).count (Reg.LANE_UNCORR_CNT p k) uncorr = t)
    (hl : corrected ≤ t.fld (Reg.LANE_THR p) Fld.LANE_THR_SER_LIMIT) :
    exec (.marginWindowEnd p k corrected uncorr) s = .next t.endCycle :=
  finish_congr (by simp only [hr, ht, Nat.not_lt.mpr hl, Bool.not_true, Bool.false_eq_true, if_false])

theorem escanWrite_starts {s t : State} {p : Fin 2} {v : Word} (hs : getF v Fld.LANE_ESCAN_CTL_START = 1)
    (ht : s.plainWrite (Reg.LANE_ESCAN_CTL p) v = t) (hb : t.bit (Reg.LANE_ESCAN_CTL p) Fld.LANE_ESCAN_CTL_BUSY = false) :
    escanWrite p v s = (0, t.beginScan p (t.fld (Reg.LANE_ESCAN_CTL p) Fld.LANE_ESCAN_CTL_LMASK) false) := by
  simp only [escanWrite, hs, ht, hb, Nat.one_ne_zero, Bool.not_false, if_false, if_true]

theorem exec_escanDone_host {s t : State} {p : Fin 2} {pts : List (List Nat)} (hb : s.bit (Reg.LANE_ESCAN_CTL p) Fld.LANE_ESCAN_CTL_BUSY = true)
    (ho : s.scanOver p pts = true) (ha : (s.port p).scanAuto = false)
    (ht : nine.foldl (fun (u : State) k => if (s.port p).scan.testBit k then u.endScan p k false pts else u) s = t) :
    exec (.escanDone p pts) s =
      .next (State.endCycle (((t.setFld (Reg.LANE_ESCAN_CTL p) Fld.LANE_ESCAN_CTL_BUSY 0).setPort p
        { t.port p with scan := 0, scanAbort := 0, scanAuto := false, scanNext := none }).raise 0x300C p)) :=
  finish_congr (by simp only [hb, ho, ha, ht, Bool.not_true, Bool.not_false, Bool.or_self, Bool.false_eq_true, if_false, if_true])

theorem exec_autoEscanPeriod_due {s t : State} {p : Fin 2} (hc : getF (s.rd (Reg.LANE_PCTL p)) Fld.LANE_PCTL_ESC_AUTO = 1) (hp : s.portUp p = true)
    (hd : (s.port p).autoScanAt + msTicks (16 * 2 ^ getF (s.rd (Reg.LANE_PCTL p)) Fld.LANE_PCTL_MON_PERIOD) ≤ s.tick)
    (ht : s.setPort p { s.port p with autoScanAt := s.tick } = t) (hb : t.bit (Reg.LANE_ESCAN_CTL p) Fld.LANE_ESCAN_CTL_BUSY = false) :
    exec (.autoEscanPeriod p) s = .next (State.endCycle (t.beginScan p 0x1FF true)) :=
  finish_congr (by
    simp only [hc, hp, Nat.not_lt.mpr hd, ht, hb, Nat.one_ne_zero, not_true_eq_false, Bool.false_eq_true, or_self, if_false])

/-- Settles O5: each command's hypotheses name one case of its meaning; what a requester held of a low word is no part of the lanes' state. -/
theorem laneReliefAndScanCommandsTakeEffect : Obligations.LaneReliefAndScanCommandsTakeEffect :=
  ⟨fun _ _ _ _ _ _ _ => exec_alignLost_stalls,
   fun _ _ _ _ => exec_realignWaitExpiry_asks,
   fun _ _ => exec_deskewRestored_unstalls,
   fun _ _ _ => rfl,
   fun _ _ _ _ _ hb ht => exec_reliefReq_possible hb ht,
   fun _ _ _ _ _ => exec_reliefCompareDone_mirrored false,
   fun _ _ _ _ _ => exec_reliefCompareDone_mirrored true,
   fun _ _ _ _ _ _ _ hb ht => exec_reliefSwitched_relieves hb ht,
   fun _ _ _ _ _ hb ht => exec_reliefRefuse_abandons hb ht,
   fun _ _ _ _ _ hb ht => exec_reliefRefuse_retrains hb ht,
   fun _ _ _ _ _ hb ht => exec_retrainReq_retired hb ht,
   fun _ _ _ _ hg h => finish_writeBy hg (laneCmdWrite_relieveRx h),
   fun _ _ _ _ hg h => finish_writeBy hg (laneCmdWrite_relieveTx h),
   fun _ _ _ _ hg hp hk hr => finish_writeBy hg (laneCmdWrite_restore hp hk hr),
   fun _ _ _ hg => finish_writeBy hg laneCmdWrite_beaconOn,
   fun _ _ _ hg => finish_writeBy hg laneCmdWrite_beaconOff,
   fun _ _ => exec_beaconBurst_first,
   fun _ _ _ _ _ _ => exec_marginWindowEnd_within,
   fun _ _ _ _ _ hg hs ht hb => finish_writeBy hg (escanWrite_starts hs ht hb),
   fun _ _ _ _ => exec_escanDone_host,
   fun _ _ _ => exec_autoEscanPeriod_due⟩

end Sys2Proof.Machine
end

section
/-! SUPPORT. The BK transmitter of a port (03_link, R81, R82): what sending leaves of its numbering, of its window of 128 packets and of its credits. -/
namespace Sys2Proof.Machine

/-! ## The window -/

/-- At most 128 packets unacknowledged, numbered one after the other up to just before the next number (R81). -/
structure PortLink.inWindow (l : PortLink) : Prop where
  room : l.unacked.length ≤ 128
  seq_lt : l.txSeq < 256
  consecutive : ∀ i, i < l.unacked.length →
    (l.unacked.map (fun (q : Pkt) => q.seq)).getD i 0 = (l.txSeq + 256 - l.unacked.length + i) % 256

/-- What sending makes of a transmitter: it keeps the window and spends credits, never gains any (R81, R82). -/
structure PortLink.advances (l l' : PortLink) : Prop where
  window : l.inWindow → l'.inWindow
  credits_le : l'.credits ≤ l.credits

theorem PortLink.advances.trans {l l' l'' : PortLink} (h : l.advances l') (h' : l'.advances l'') : l.advances l'' :=
  ⟨fun hw => h'.window (h.window hw), Nat.le_trans h'.credits_le h.credits_le⟩

/-- The part of a port that its window and credits are: next number, unacknowledged packets, credits. -/
def PortLink.tx (l : PortLink) : Nat × List Pkt × Nat := (l.txSeq, l.unacked, l.credits)

theorem PortLink.advances_of_tx_eq {l l' : PortLink} (h : l'.tx = l.tx) : l.advances l' := by
  simp only [PortLink.tx, Prod.mk.injEq] at h
  obtain ⟨ht, hu, hc⟩ := h
  exact ⟨fun ⟨hr, hs, hn⟩ => ⟨hu ▸ hr, ht ▸ hs, by rw [hu, ht]; exact hn⟩, Nat.le_of_eq hc⟩

/-! ## One packet -/

/-- Sealing a packet keeps its number, and changes the session's counter alone (R104). -/
theorem PortLink.seal_seq (l : PortLink) (p : Pkt) : (l.seal p).2.seq = p.seq := by
  unfold PortLink.seal; split <;> rfl

theorem PortLink.tx_seal (l : PortLink) (p : Pkt) : (l.seal p).1.tx = l.tx := by
  unfold PortLink.seal; split <;> rfl

/-- A sent packet takes the next number, goes behind the unacknowledged ones and costs its length where its type spends credits (R81, R82). -/
theorem PortLink.tx_sendOne (l : PortLink) (p : Pkt) (tick : Nat) :
    (l.sendOne p tick).1.tx =
      ((l.txSeq + 1) % 256, l.unacked ++ [(l.seal { p with seq := l.txSeq }).2], if p.spends then l.credits - p.len else l.credits) := by
  have hseal := l.tx_seal { p with seq := l.txSeq }
  simp only [PortLink.tx, Prod.mk.injEq] at hseal
  obtain ⟨ht, hu, hc⟩ := hseal
  show (((l.seal _).1.txSeq + 1) % 256, (l.seal _).1.unacked ++ [(l.seal _).2],
    if p.spends then (l.seal _).1.credits - p.len else (l.seal _).1.credits) = _
  rw [ht, hu, hc]

/-- With room for one more packet, sending it keeps the window: its number follows the others', which stand one further back. -/
theorem PortLink.sendOne_advances {l : PortLink} (p : Pkt) (tick : Nat) (hroom : l.unacked.length < 128) : l.advances (l.sendOne p tick).1 := by
  have htx := l.tx_sendOne p tick
  simp only [PortLink.tx, Prod.mk.injEq] at htx
  obtain ⟨ht, hu, hc⟩ := htx
  refine ⟨fun ⟨_, hlt, hcons⟩ => ⟨?_, ?_, fun i hi => ?_⟩, ?_⟩
  · rw [hu, List.length_append]; exact hroom
  · rw [ht]; exact Nat.mod_lt _ (by decide)
  · rw [hu, List.length_append, List.length_singleton] at hi ⊢
    rw [ht, List.map_append, List.map_singleton, PortLink.seal_seq]
    rw [List.getD_eq_getElem?_getD]
    by_cases hold : i < l.unacked.length
    · have hmap : i < (l.unacked.map (fun (q : Pkt) => q.seq)).length := by rw [List.length_map]; exact hold
      rw [List.getElem?_append_left hmap, ← List.getD_eq_getElem?_getD, hcons i hold]
      omega
    · have hnew : i = (l.unacked.map (fun (q : Pkt) => q.seq)).length := by rw [List.length_map]; omega
      rw [hnew, List.getElem?_concat_length, Option.getD_some, List.length_map]
      dsimp only
      omega
  · rw [hc]; split
    · exact Nat.sub_le _ _
    · exact Nat.le_refl _

/-! ## What waits -/

theorem PortLink.unacked_lt_of_fits {l : PortLink} {p : Pkt} (h : l.fits p = true) : l.unacked.length < 128 := by
  simp only [PortLink.fits, Bool.and_eq_true, decide_eq_true_eq] at h
  exact h.1.1

/-- Each waiting packet is sent with room, or not at all. -/
theorem pumpList_advances (tick : Nat) (ps : List Pkt) (l : PortLink) (blocked : Bool) (n : Nat) (left sent : List Pkt) :
    l.advances (pumpList tick ps l blocked n left sent).1 := by
  induction ps generalizing l blocked n left sent with
  | nil => exact PortLink.advances_of_tx_eq rfl
  | cons p ps ih =>
    unfold pumpList
    split
    · exact PortLink.advances_of_tx_eq rfl
    next hsend =>
      have hfits : l.fits p = true := by simpa using (not_or.mp hsend).2
      split
      · exact ih l true n _ _
      · exact (l.sendOne_advances p tick (PortLink.unacked_lt_of_fits hfits)).trans (ih _ _ _ _ _)

theorem State.tx_link_setLink (s : State) {p : Nat} {l : PortLink} (h : l.tx = (s.link p).tx) : ((s.setLink p l).link p).tx = (s.link p).tx := by
  rw [s.link_setLink_same, h]

/-- Putting packets on a port's stream moves its position in the stream only. -/
theorem State.tx_link_putPkts (s : State) (p : Nat) (qs : List Pkt) : ((s.putPkts p qs).link p).tx = (s.link p).tx := by
  induction qs generalizing s with
  | nil => rfl
  | cons q qs ih =>
    unfold State.putPkts
    exact (ih _).trans (s.tx_link_setLink rfl)

/-- Counting in the PMU leaves the ports alone. -/
theorem State.links_pmuFrom (s : State) (b ev amt k n : Nat) : (s.pmuFrom b ev amt k n).links = s.links := by
  induction n generalizing s k with
  | zero => rfl
  | succ n ih =>
    unfold State.pmuFrom
    dsimp only
    repeat' split
    all_goals simp only [ih, State.links_setFld, State.links_wr]

@[simp] theorem State.link_pmuCount (s : State) (b ev amt p : Nat) : (s.pmuCount b ev amt).link p = s.link p := by
  have hlinks : (s.pmuCount b ev amt).links = s.links := by
    unfold State.pmuCount
    split
    · rfl
    · exact s.links_pmuFrom _ _ _ _ _
  unfold State.link
  rw [hlinks]

theorem State.pumpSome_advances (s : State) (p n : Nat) : (s.link p).advances ((s.pumpSome p n).link p) := by
  refine (pumpList_advances s.tick (s.link p).waiting (s.link p) false n [] []).trans (PortLink.advances_of_tx_eq ?_)
  unfold State.pumpSome
  dsimp only
  rw [State.link_pmuCount, State.tx_link_putPkts, State.link_setLink_same]
  rfl

/-- The end of a session changes keys, counters and what waits, not what was sent (R106). -/
theorem State.sessionEnd_advances (s : State) (p : Nat) : (s.link p).advances ((s.sessionEnd p).link p) := by
  apply PortLink.advances_of_tx_eq
  unfold State.sessionEnd
  split
  · exact s.tx_link_setLink rfl
  · rfl

theorem State.pump_advances (s : State) (p : Nat) : (s.link p).advances ((s.pump p).link p) := by
  unfold State.pump
  generalize (if !s.rtReady p then (s.link p).waiting.length else if 31 ≤ (s.link p).rtRun then 1 else 0) = n
  dsimp only
  split
  · exact (s.pumpSome_advances p n).trans (((s.pumpSome p n).sessionEnd_advances p).trans (State.pumpSome_advances _ p n))
  · exact s.pumpSome_advances p n

/-- Settles O41: every packet that the pump sends is sent with room, takes the next number and spends credits; the rest of the pump leaves the three alone. -/
theorem transmittersKeepTheirWindow : Obligations.TransmittersKeepTheirWindow := by
  intro s p hroom hlt hcons
  have hadv := s.pump_advances p
  obtain ⟨hroom', hlt', hcons'⟩ := hadv.window ⟨hroom, hlt, hcons⟩
  exact ⟨hroom', hadv.credits_le, hlt', hcons'⟩

end Sys2Proof.Machine
end

section
/-! SUPPORT. Link packets, negotiation, failover triggers and host requests (03_link, R79-R101): each command's effect in the state it belongs to. The
model's readings behind them: log entries 30, 31, 48. -/
namespace Sys2Proof.Machine

/-! ## Packets that the receiver takes (R79-R81, R90) -/

/-- A LINK packet that the receiver sees runs its rule (R79). -/
theorem rxLink_sees {s : State} {p : Nat} {h : RxHdr} (hs : upStates (s.lstate p) = true) (hv : s.sees p h) (f : State → State) :
    s.rxLink p h f = f (s.heard p) := by
  have ⟨_, _, hok⟩ := hv
  unfold State.rxLink
  rw [if_neg (by rw [hok]; decide), receive_sees hs hv]

/-- A negotiation packet in order runs its rule on a port that negotiates (R85). -/
theorem rxBk_negotiating {s : State} {p : Nat} {h : RxHdr} (h1 : s.lstate p = 1) (hv : s.inOrder p h) (f : State → State) :
    s.rxBk p h negStates 2 false f = f (s.tookBk p h 2 false) :=
  rxBk_inOrder (by rw [h1]; rfl) hv 2 false f

section
variable {s : State} {p : Nat} {h : RxHdr} (h2 : s.lstate p = 2) (hv : s.inOrder p h)
include h2 hv

/-- A BK packet in order runs its rule on an OPERATIONAL port (R81, R98). -/
theorem rxBk_operational (len : Nat) (request : Bool) (f : State → State) :
    s.rxBk p h (fun st => st == 2) len request f = f (s.tookBk p h len request) :=
  rxBk_inOrder (by rw [h2]; rfl) hv len request f

/-- A plain host request runs for the port's requester and is answered with its status (R90). -/
theorem hostReq_plain (type len tspec tag : Nat) (body : List Nat) (isReg : Bool) (act : Req → State → Nat × Nat × List Nat × State) :
    s.hostReq p h none type len tspec tag body isReg act =
      let x := act ⟨p + 1, false⟩ (s.tookBk p h len true)
      x.2.2.2.sendCpl p tag x.1 false x.2.1 x.2.2.1 :=
  rxBk_operational h2 hv len true _

end

/-! ## Retry (R81, R82) -/

section
variable {s : State} {p : Fin 2}

theorem exec_ack_seen {t : State} {h : RxHdr} {aseq : BitVec 8} {cred : BitVec 16} (hs : upStates (s.lstate p) = true) (hv : s.sees p h)
    (ht : (s.heard p).acknowledge p aseq.toNat = t) :
    exec (.ack p h aseq cred) s =
      .next (State.endCycle ((t.setLink p { t.link p with credits := (t.link p).credits + cred.toNat }).pump p)) :=
  finish_congr (by rw [rxLink_sees hs hv, ht])

theorem exec_nak_seen {h : RxHdr} {aseq : BitVec 8} (hs : upStates (s.lstate p) = true) (hv : s.sees p h) :
    exec (.nak p h aseq) s = .next (State.endCycle ((((s.heard p).acknowledge p aseq.toNat).replay p).pump p)) :=
  finish_congr (rxLink_sees hs hv _)

theorem exec_bkReplayTimeout_due (hs : upStates (s.lstate p) = true) (h3 : s.pst p ≠ 3) (hu : (s.link p).unacked ≠ [])
    (hd : (s.link p).progressAt + usTicks 8 ≤ s.tick) : exec (.bkReplayTimeout p) s = .next (State.endCycle (s.replay p)) :=
  finish_congr (if_pos (by simp [hs, h3, hu, hd]))

/-! ## Negotiation (R84-R86) -/

theorem exec_negOffer_negotiating {h : RxHdr} {pay : NegPay} (h1 : s.lstate p = 1) (hv : s.inOrder p h)
    (h1' : (s.tookBk p h 2 false).lstate p = 1) :
    exec (.negOffer p h pay) s = .next (State.endCycle ((s.tookBk p h 2 false).answerOffer p pay)) :=
  finish_congr ((rxBk_negotiating h1 hv _).trans (by simp [h1']))

section
variable {t : State} {h : RxHdr} (h1 : s.lstate p = 1) (hv : s.inOrder p h) (ht : s.tookBk p h 2 false = t) (h1' : t.lstate p = 1)
include h1 hv ht h1'

theorem exec_negAccept_negotiating {pay : NegPay} :
    exec (.negAccept p h pay) s =
      .next (State.endCycle ((t.setLink p { t.link p with peerAccept := some (acceptResult pay) }).negCompare p pay.credit.toNat)) :=
  finish_congr ((rxBk_negotiating h1 hv _).trans (by rw [ht, if_pos h1']))

theorem exec_negReject_negotiating {reason : BitVec 8} :
    exec (.negReject p h reason) s =
      .next (State.endCycle (let u := t.setLink p { t.link p with rejects := (t.link p).rejects + 1 }
        if 3 ≤ (u.link p).rejects then u.negFail p else u)) :=
  finish_congr ((rxBk_negotiating h1 hv _).trans (by rw [ht, if_pos h1']))

end

theorem exec_negOfferRepeat_due (h1 : s.lstate p = 1) (hn : (s.link p).peerOffer = none) (hd : (s.link p).offerAt + usTicks 100 ≤ s.tick) :
    exec (.negOfferRepeat p) s = .next (State.endCycle (s.sendOffer p)) :=
  finish_congr (if_pos ⟨h1, by rw [hn]; rfl, hd⟩)

theorem exec_negTimeout_due (h1 : s.lstate p = 1) (hd : (s.link p).negAt + msTicks 10 ≤ s.tick) :
    exec (.negTimeout p) s = .next (State.endCycle (s.negFail p)) :=
  finish_congr (if_pos ⟨h1, hd⟩)

theorem linkCtlWrite_reneg {v : Word} (hv : getF v Fld.LINK_CTL_RENEG = 1) :
    linkCtlWrite p v s = (0, (s.plainWrite (Reg.LINK_CTL p) v).reneg p) := by
  simp only [linkCtlWrite, hv, if_true]

/-! ## Failover triggers (R101) -/

/-- `SWITCH` without another `MODE` or `ACTIVE_B` triggers a failover, unless one is pending. -/
theorem linkDhCtlWrite_switch {t : State} {v : Word} (hv : getF v Fld.LINK_DH_CTL_SWITCH = 1) (hf : s.dh.failover = none)
    (ht : s.plainWrite Reg.LINK_DH_CTL v = t) (hm : s.wouldChange Reg.LINK_DH_CTL v Fld.LINK_DH_CTL_MODE = false)
    (ha : s.wouldChange Reg.LINK_DH_CTL v Fld.LINK_DH_CTL_ACTIVE_B = false) : linkDhCtlWrite v s = (0, t.triggerFailover 0xFF 2) := by
  simp [linkDhCtlWrite, hv, hf, ht, hm, ha]

theorem exec_failoverStallTimeout_due (h3 : s.lstate p = 3) (he : s.bit Reg.LINK_DH_CTL Fld.LINK_DH_CTL_FO_EN = true)
    (hu : s.linkUp (1 - p.val) = true) (hd : (s.port p).stallAt + usTicks (s.failoverStallUs p) < s.tick) :
    exec (.failoverStallTimeout p) s = .next (State.endCycle (s.triggerFailover (s.carsOf p) (1 - p.val))) :=
  finish_congr (if_pos ⟨h3, he, hu, hd⟩)

end

/-- Settles O6: a packet that the receiver takes runs its rule, a time-out that is due has its effect, and the accesses are granted writes. -/
theorem linkPacketsAndNegotiationTakeEffect : Obligations.LinkPacketsAndNegotiationTakeEffect :=
  ⟨fun _ _ _ _ _ _ => exec_ack_seen,
   fun _ _ _ _ => exec_nak_seen,
   fun _ _ => exec_bkReplayTimeout_due,
   fun _ _ _ _ => exec_negOffer_negotiating,
   fun _ _ _ _ _ h1 hv ht h1' => exec_negAccept_negotiating h1 hv ht h1',
   fun _ _ _ _ _ h1 hv ht h1' => exec_negReject_negotiating h1 hv ht h1',
   fun _ _ => exec_negOfferRepeat_due,
   fun _ _ => exec_negTimeout_due,
   fun _ _ _ _ hg hv => finish_writeBy hg (linkCtlWrite_reneg hv),
   fun _ _ _ _ hg hv hf ht hm ha => finish_writeBy hg (linkDhCtlWrite_switch hv hf ht hm ha),
   fun _ _ => exec_failoverStallTimeout_due⟩

/-! ## Host requests (R90-R92, R96) -/

section
variable {s : State} {p : Fin 2} {h : RxHdr} (h2 : s.lstate p = 2) (hv : s.inOrder p h)
include h2 hv

theorem exec_memWr_plain {tag ch : BitVec 8} {addr : BitVec 64} {data : List Byte}
    (hc : (s.tookBk p h (1 + (data.length + 15) / 16) true).hostBlockCause addr.toNat data.length = 0) :
    exec (.memWr p h none tag ch addr data) s =
      .next (State.endCycle (let x := ((s.tookBk p h (1 + (data.length + 15) / 16) true).dropHeld ⟨p + 1, false⟩).winWrite addr.toNat data
        x.2.sendCpl p tag.toNat x.1 false 1 [0, 0])) :=
  finish_congr ((hostReq_plain h2 hv _ _ _ _ _ _ _).trans (by simp only [hc]))

theorem exec_memRd_plain {tag : BitVec 8} {flush : Bool} {nblk : BitVec 7} {addr : BitVec 64}
    (hc : (s.tookBk p h 1 true).hostBlockCause addr.toNat (64 * nblk.toNat) = 0)
    (hr : ((s.tookBk p h 1 true).winRead addr.toNat (64 * nblk.toNat)).1 = 0) :
    exec (.memRd p h none tag flush nblk addr) s =
      .next (State.endCycle (let x := (s.tookBk p h 1 true).winRead addr.toNat (64 * nblk.toNat)
        x.2.2.sendCpl p tag.toNat 0 false (1 + 64 * nblk.toNat / 16) ([0, 0] ++ wordsOf x.2.1))) :=
  finish_congr ((hostReq_plain h2 hv _ _ _ _ _ _ _).trans (by simp only [hc, hr, if_true]))

/-- A completion on a port with `MEMMASTER` serves the device's read. -/
theorem exec_rdCpl_plain {tag : BitVec 8} {status : BitVec 4} {last : Bool} {offs : BitVec 7} {data : List Byte}
    (hm : ((s.tookBk p h (1 + (data.length + 15) / 16) false).fld (Reg.LINK_NEG_RES p) Fld.LINK_NEG_RES_FEAT).testBit 6 = true) :
    exec (.rdCpl p h none tag status last offs data) s =
      .next (State.endCycle ((s.tookBk p h (1 + (data.length + 15) / 16) false).readCompletion p tag.toNat status.toNat last offs.toNat data)) :=
  finish_congr ((rxBk_operational h2 hv _ _ _).trans (by simp only [hm, Bool.not_true, Bool.false_eq_true, if_false]))

theorem exec_msg_plain {chan : Fin 32} {tag : BitVec 8} {words : List Word} (hc : chan.val < 24) :
    exec (.msg p h none chan tag words) s =
      .next (State.endCycle (let x := mbxMessage chan (p + 1) ((List.range 16).map (fun k => (words.getD k 0).toNat)) (s.tookBk p h 5 true)
        x.2.sendCpl p tag.toNat x.1 false 1 [0, 0])) :=
  finish_congr ((hostReq_plain h2 hv _ _ _ _ _ _ _).trans (by simp only [Nat.not_le.mpr hc, false_and, if_false]))

end

/-- Settles O7: an accepted plain request runs for the port's requester and is answered; a completion is no request. -/
theorem hostRequestsAreAnswered : Obligations.HostRequestsAreAnswered :=
  ⟨fun _ _ _ _ _ _ _ h2 hv hc => exec_memWr_plain h2 hv hc,
   fun _ _ _ _ _ _ _ h2 hv hc hr => exec_memRd_plain h2 hv hc hr,
   fun _ _ _ _ _ _ _ _ h2 hv hm => exec_rdCpl_plain h2 hv hm,
   fun _ _ _ _ _ _ h2 hv hc => exec_msg_plain h2 hv hc⟩

end Sys2Proof.Machine
end

section
/-! SUPPORT. The handshake of a secure session (03_link, R103-R106; 18_boot_security, R457, R458): each message's effect on an OPERATIONAL port. The
model's readings behind them: log entries 34, 3. -/
namespace Sys2Proof.Machine

section
variable {s t : State} {p : Fin 2} {h : RxHdr} (h2 : s.lstate p = 2) (hv : s.inOrder p h)
include h2 hv

/-! ## Secure requests and channel 0xFF (R103, R105) -/

/-- A secure host request on a port with `SECURE` runs where its trailer passes, and is rejected where not; a counter that reaches 2^48 ends the
session (R105, R106). -/
theorem hostReq_secure {tr : SecTrailer} {len : Nat} (ht : s.tookBk p h (len + 2) true = t) (hs : t.hasSecure p = true) (type tspec tag : Nat)
    (body : List Nat) (isReg : Bool) (act : Req → State → Nat × Nat × List Nat × State) :
    s.hostReq p h (some tr) type len tspec tag body isReg act =
      if t.trailerOk p tr (securePrefix type len h tspec body tr.ctr) then
        let x := act ⟨p + 1, true⟩ (t.takeCtr p tr)
        (if 2 ^ 48 ≤ tr.ctr.toNat then x.2.2.2.sessionEnd p else x.2.2.2).sendCpl p tag x.1 true x.2.1 x.2.2.1
      else (t.secReject p).sendCpl p tag 2 false 1 [0, 0] := by
  refine (rxBk_operational h2 hv (len + 2) true _).trans ?_
  rw [ht]
  simp only [hs, Bool.not_true, Bool.false_eq_true, if_false]

/-- A plain handshake message is carried out and answered, on a port with `SECURE` and `SEC_EN` (R103). -/
theorem hsMessage_plain {payload : List Byte} (ht : s.tookBk p h (handshakeLen payload.length) true = t) (hs : t.hasSecure p = true)
    (he : t.bit (Reg.LINK_CTL p) Fld.LINK_CTL_SEC_EN = true) (sub : Nat) (tag : BitVec 8) (f : State → State) :
    s.hsMessage p h none sub tag payload f = (f t).sendCpl p tag.toNat 0 false 1 [0, 0] := by
  refine (hostReq_plain h2 hv _ _ _ _ _ _ _).trans ?_
  rw [ht]
  simp only [hs, he, Bool.not_true, Bool.false_eq_true, if_false]

/-! ## HELLO (R103, R457, R458) -/

section
variable {u : State} {tag : BitVec 8} {nonce : BitVec 256} {cert : List Byte} (ht : s.tookBk p h (handshakeLen (32 + cert.length)) true = t)
  (hs : t.hasSecure p = true) (he : t.bit (Reg.LINK_CTL p) Fld.LINK_CTL_SEC_EN = true)
  (hu : (t.sessionEnd p).setFld (Reg.LINK_SEC_STAT p) Fld.LINK_SEC_STAT_HS_BUSY 1 = u)
include ht hs he hu

theorem exec_hello_without_identity (hi : u.sec.identity = false) :
    exec (.hello p h none tag nonce cert) s = .next (State.endCycle ((u.hsFail p 2).sendCpl p tag.toNat 0 false 1 [0, 0])) :=
  finish_congr ((hsMessage_plain h2 hv (by rw [List.length_append, natLE_length, ht]) hs he _ _ _).trans
    (by simp only [hu, hi, Bool.not_false, if_true]))

/-- A certificate that does not check fails the handshake. -/
theorem exec_hello_bad_cert (hi : u.sec.identity = true) (hc : u.certOk cert = false) :
    exec (.hello p h none tag nonce cert) s = .next (State.endCycle ((u.hsFail p 1).sendCpl p tag.toNat 0 false 1 [0, 0])) :=
  finish_congr ((hsMessage_plain h2 hv (by rw [List.length_append, natLE_length, ht]) hs he _ _ _).trans
    (by simp only [hu, hi, hc, Bool.not_true, Bool.not_false, Bool.false_eq_true, if_false, if_true]))

/-- A certificate of another length than R458's does not check. -/
theorem exec_hello_short_cert (hi : u.sec.identity = true) (hl : cert.length ≠ 5056) :
    exec (.hello p h none tag nonce cert) s = .next (State.endCycle ((u.hsFail p 1).sendCpl p tag.toNat 0 false 1 [0, 0])) :=
  exec_hello_bad_cert h2 hv ht hs he hu hi (by simp [State.certOk, hl])

theorem exec_hello_with_identity {v w x : State} {own key sig : List Byte} {draw : Nat} {t1 : BitVec 512} (hi : u.sec.identity = true)
    (hown : u.freeBytes 32 = (own, v)) (hdraw : v.takeFree = (draw, w)) (hkey : key = own ++ kemKey draw)
    (h1 : t1 = hash512 (natLE 32 nonce.toNat ++ cert ++ key)) (hsig : w.idSign (hashBytes 512 t1.toNat) = (sig, x)) :
    exec (.hello p h none tag nonce cert) s =
      .next (State.endCycle ((if u.certOk cert then
          (x.setLink p { x.link p with hs := some ⟨x.tick, t1, bitsAt (byteWord cert 0) 0 4, slice cert 64 1793, v.free⟩ }).sendHs p 2 (key ++ sig)
        else u.hsFail p 1).sendCpl p tag.toNat 0 false 1 [0, 0])) := by
  cases hc : u.certOk cert
  case false => exact exec_hello_bad_cert h2 hv ht hs he hu hi hc
  case true =>
    refine finish_congr ((hsMessage_plain h2 hv (by rw [List.length_append, natLE_length, ht]) hs he _ _ _).trans ?_)
    simp only [hu, hi, hc, hown, hdraw, ← hkey, ← h1, hsig, Bool.not_true, Bool.false_eq_true, if_false, if_true]

end

/-! ## ENCAP (R103) -/

section
variable {tag : BitVec 8} {ct sig : List Byte} (ht : s.tookBk p h (handshakeLen (ct.length + sig.length)) true = t) (hs : t.hasSecure p = true)
  (he : t.bit (Reg.LINK_CTL p) Fld.LINK_CTL_SEC_EN = true)
include ht hs he

theorem exec_encap_without_handshake (hn : (t.link p).hs = none) :
    exec (.encap p h none tag ct sig) s = .next (State.endCycle (t.sendCpl p tag.toNat 0 false 1 [0, 0])) :=
  finish_congr ((hsMessage_plain h2 hv (by rw [List.length_append, ht]) hs he _ _ _).trans (by simp only [hn]))

variable {x : Handshake} (hx : (t.link p).hs = some x)
include hx

theorem exec_encap_late (hl : x.late t.tick = true) :
    exec (.encap p h none tag ct sig) s = .next (State.endCycle ((t.hsFail p 4).sendCpl p tag.toNat 0 false 1 [0, 0])) :=
  finish_congr ((hsMessage_plain h2 hv (by rw [List.length_append, ht]) hs he _ _ _).trans (by simp only [hx, hl, if_true]))

/-- In time, an ENCAP fails on its signature, on its ciphertext, or opens the session. -/
theorem exec_encap_in_time {u v : State} {k kD : BitVec 256} {t2 : BitVec 512} (hl : x.late t.tick = false)
    (h2t : t2 = hash512 (hashBytes 512 x.t1.toNat ++ ct)) (hk : k = (kemOpen (Config.freeValue x.kem) ct).getD 0) (hkD : kD = sessionKey k t2 true)
    (hu : t.setLink p { t.link p with hs := none, keyD2H := kD, keyH2D := sessionKey k t2 false, rxCtr := 0, txCtr := 0 } = u)
    (hw : (u.wr (Reg.LINK_SEC_STAT p) (setF (setF (setF (u.rd (Reg.LINK_SEC_STAT p)) Fld.LINK_SEC_STAT_ROOT x.slot) Fld.LINK_SEC_STAT_HS_BUSY 0)
      Fld.LINK_SEC_STAT_OPEN 1)).setFld (Reg.LINK_STATUS p) Fld.LINK_STATUS_SECURE 1 = v) :
    exec (.encap p h none tag ct sig) s =
      .next (State.endCycle ((if falconOk x.hostKey sig (hashBytes 512 t2.toNat) = false then t.hsFail p 2
        else if ct.length ≠ 1568 then t.hsFail p 3
        else (v.sendHs p 4 (natLE 16 (doneTag kD t2).toNat)).raise 0x3016 p).sendCpl p tag.toNat 0 false 1 [0, 0])) := by
  refine finish_congr ((hsMessage_plain h2 hv (by rw [List.length_append, ht]) hs he _ _ _).trans ?_)
  simp only [hx, hl, ← h2t, Bool.false_eq_true, if_false]
  cases hf : falconOk x.hostKey sig (hashBytes 512 t2.toNat)
  case false => rfl
  case true =>
    by_cases hct : ct.length = 1568
    · have hopen : kemOpen (Config.freeValue x.kem) ct = some k := by rw [hk, kemOpen, if_pos hct]; rfl
      simp only [hopen, hct, ← hkD, hu, hw, Bool.not_true, Bool.false_eq_true, Bool.true_eq_false, ne_eq, not_true_eq_false, if_false]
    · have hopen : kemOpen (Config.freeValue x.kem) ct = none := if_neg hct
      simp only [hopen, hct, Bool.not_true, Bool.false_eq_true, Bool.true_eq_false, ne_eq, not_false_eq_true, if_true, if_false]

end

/-! ## CLOSE (R103, R106) -/

theorem exec_close_secure {tag : BitVec 8} {tr : SecTrailer} (ht : s.tookBk p h 3 true = t) (hs : t.hasSecure p = true) :
    exec (.close p h (some tr) tag) s =
      .next (State.endCycle (if t.trailerOk p tr (securePrefix 0x15 1 h (0xFF * 2 ^ 24 + 5 * 2 ^ 16 + tag.toNat * 256) [0, 0] tr.ctr) then
          (if 2 ^ 48 ≤ tr.ctr.toNat then ((t.takeCtr p tr).sessionEnd p).sessionEnd p else (t.takeCtr p tr).sessionEnd p).sendCpl p tag.toNat 0 true 1 [0, 0]
        else (t.secReject p).sendCpl p tag.toNat 2 false 1 [0, 0])) :=
  finish_congr (hostReq_secure h2 hv ht hs _ _ _ _ _ _)

theorem exec_close_plain {tag : BitVec 8} (ht : s.tookBk p h 1 true = t) :
    exec (.close p h none tag) s = .next (State.endCycle (t.sendCpl p tag.toNat 2 false 1 [0, 0])) :=
  finish_congr ((hostReq_plain h2 hv _ _ _ _ _ _ _).trans (by rw [ht]; rfl))

end

theorem exec_handshakeTimeout_late {s : State} {p : Fin 2} {x : Handshake} (hx : (s.link p).hs = some x) (hl : x.late s.tick = true) :
    exec (.handshakeTimeout p) s = .next (State.endCycle (s.hsFail p 4)) :=
  finish_congr (by simp only [hx, hl, if_true])

/-- Settles O24: an accepted message runs its rule on a port with `SECURE` and `SEC_EN`; the hypotheses name the rule's case. -/
theorem sessionMessagesTakeEffect : Obligations.SessionMessagesTakeEffect :=
  ⟨fun _ _ _ _ _ _ _ _ h2 hv ht hs he hu hi => exec_hello_without_identity h2 hv ht hs he hu hi,
   fun _ _ _ _ _ _ _ _ h2 hv ht hs he hu hi hl => exec_hello_short_cert h2 hv ht hs he hu hi hl,
   fun _ _ _ _ _ _ _ _ _ _ _ _ _ _ _ _ h2 hv ht hs he hu hi hown hdraw hkey h1 hsig =>
    exec_hello_with_identity h2 hv ht hs he hu hi hown hdraw hkey h1 hsig,
   fun _ _ _ _ _ _ _ h2 hv ht hs he hn => exec_encap_without_handshake h2 hv ht hs he hn,
   fun _ _ _ _ _ _ _ _ h2 hv ht hs he hx hl => exec_encap_late h2 hv ht hs he hx hl,
   fun _ _ _ _ _ _ _ _ _ _ _ _ _ h2 hv ht hs he hx hl h2t hk hkD hu hw => exec_encap_in_time h2 hv ht hs he hx hl h2t hk hkD hu hw,
   fun _ _ _ _ _ _ h2 hv ht hs => exec_close_secure h2 hv ht hs,
   fun _ _ _ _ _ h2 hv ht => exec_close_plain h2 hv ht,
   fun _ _ _ => exec_handshakeTimeout_late⟩

end Sys2Proof.Machine
end

section
/-! SUPPORT. PRACH occasions, the switch of a carrier's port, captures and VSWR windows (R100-R102, R221-R225, R262-R274): each command's effect in the
state it belongs to. The model's readings behind them: log entries 31, 35, 42. -/
namespace Sys2Proof.Machine

/-! ## PRACH configurations and occasions (R222, R224, R225) -/

section
variable {s t : State} {j : Nat} {v : Word} (hb : s.bit (Reg.RXDP_PRACH_CTL j) Fld.RXDP_PRACH_CTL_BUSY = false)
  (ht : s.plainWrite (Reg.RXDP_PRACH_CTL j) (setF v Fld.RXDP_PRACH_CTL_EN 1) = t)
include hb ht

/-- `EN` = 1 on an idle configuration takes the fields, and is checked. -/
theorem prachCtlWrite_enable :
    prachCtlWrite j (setF v Fld.RXDP_PRACH_CTL_EN 1) s =
      (0, if t.prachValid j (t.rd (Reg.RXDP_PRACH_CTL j)) then t.setFld (Reg.RXDP_PRACH_CTL j) Fld.RXDP_PRACH_CTL_BUSY 1
        else ((t.setFld (Reg.RXDP_PRACH_CTL j) Fld.RXDP_PRACH_CTL_EN (b2n (s.bit (Reg.RXDP_PRACH_CTL j) Fld.RXDP_PRACH_CTL_EN))).flag
          (Reg.RXDP_PRACH_CTL j) Fld.RXDP_PRACH_CTL_CFG_ERR).raise 0x4022 j) := by
  have hen : getF (setF v Fld.RXDP_PRACH_CTL_EN 1) Fld.RXDP_PRACH_CTL_EN = 1 := getF_setF_same _ _ _ (by decide)
  cases hval : t.prachValid j (t.rd (Reg.RXDP_PRACH_CTL j)) <;> simp [prachCtlWrite, ht, hen, hb, hval]

theorem prachCtlWrite_valid (hv : t.prachValid j (t.rd (Reg.RXDP_PRACH_CTL j)) = true) :
    prachCtlWrite j (setF v Fld.RXDP_PRACH_CTL_EN 1) s = (0, t.setFld (Reg.RXDP_PRACH_CTL j) Fld.RXDP_PRACH_CTL_BUSY 1) := by
  rw [prachCtlWrite_enable hb ht, if_pos hv]

theorem prachCtlWrite_invalid (h0 : s.bit (Reg.RXDP_PRACH_CTL j) Fld.RXDP_PRACH_CTL_EN = false)
    (hv : t.prachValid j (t.rd (Reg.RXDP_PRACH_CTL j)) = false) :
    prachCtlWrite j (setF v Fld.RXDP_PRACH_CTL_EN 1) s =
      (0, ((t.setFld (Reg.RXDP_PRACH_CTL j) Fld.RXDP_PRACH_CTL_EN 0).flag (Reg.RXDP_PRACH_CTL j) Fld.RXDP_PRACH_CTL_CFG_ERR).raise 0x4022 j) := by
  rw [prachCtlWrite_enable hb ht, hv, h0]; rfl

end

section
variable {s s' : State} {j : Fin 4} {inp : RxIn} {x : Section} {w : Word} {cp len reps rep : Nat}
  (hs : { s with sections := s.sections.filter (fun y => !(y.standby && prachOf j y && decide ((s.occasionSpan y).2 ≤ s.nowTh))) } = s')
  (hx : s'.firstOccasion j = some x) (hw : s'.rd (Reg.RXDP_PRACH_CTL j) = w) (hrep : rep = kvGet (fun _ => 0) s'.prachReps j)
  (ht : prachTiming (getF w Fld.RXDP_PRACH_CTL_FMT) (getF w Fld.RXDP_PRACH_CTL_MU) (symStart (s'.carMu (SecF.carrier x.raw)) x.first) = (cp, len, reps))
  (hd : s'.secAir x + ((cp + (rep + 1) * len : Nat) : Int) * 100000 ≤ s'.nowTh)
include hs hx hw hrep ht hd

/-- A repetition that is over, with the carrier off: it is counted, or ends the occasion. -/
theorem exec_prachOccasion_carrier_off
    (hoff : ¬(getF (s'.symRx (Reg.CAR_CTL (SecF.carrier x.raw)) (s'.secAir x)) Fld.CAR_CTL_UL_EN = 1 ∧
      getF (s'.symRx (Reg.CAR_STATUS (SecF.carrier x.raw)) (s'.secAir x)) Fld.CAR_STATUS_TOFF = 0)) :
    exec (.prachOccasion j inp) s =
      .next (State.endCycle (if reps ≤ rep + 1 then
          { s' with sections := s'.sections.filter (fun y => y != x), prachReps := kvSet (fun _ => 0) s'.prachReps j 0 }
        else { s' with prachReps := kvSet (fun _ => 0) s'.prachReps j (rep + 1) })) := by
  show execPrachOccasion j inp s = _
  unfold execPrachOccasion
  rw [hs]
  refine finish_congr ?_
  simp only [hx, hw, ← hrep, ht]
  rw [if_neg (Int.not_lt.mpr hd), if_pos hoff]

/-- With the carrier on, the occasion stands among the started ones. -/
theorem exec_prachOccasion_carrier_on
    (hon : getF (s'.symRx (Reg.CAR_CTL (SecF.carrier x.raw)) (s'.secAir x)) Fld.CAR_CTL_UL_EN = 1 ∧
      getF (s'.symRx (Reg.CAR_STATUS (SecF.carrier x.raw)) (s'.secAir x)) Fld.CAR_STATUS_TOFF = 0) :
    ∃ t : State, exec (.prachOccasion j inp) s = .next t.endCycle ∧
      (⟨j, ulTspec (SecF.carrier x.raw) x.first (SecF.secid x.raw)⟩ : Occasion) ∈ t.occasions := by
  show ∃ t : State, execPrachOccasion j inp s = .next t.endCycle ∧ _
  unfold execPrachOccasion
  rw [hs]
  refine ⟨_, rfl, ?_⟩
  simp only [hx, hw, ← hrep, ht]
  rw [if_neg (Int.not_lt.mpr hd), if_neg (not_not_intro hon)]
  exact List.mem_append_right _ List.mem_cons_self

end

theorem exec_prachDrained_idle {s : State} {j : Fin 4} (hb : s.bit (Reg.RXDP_PRACH_CTL j) Fld.RXDP_PRACH_CTL_BUSY = true)
    (he : s.bit (Reg.RXDP_PRACH_CTL j) Fld.RXDP_PRACH_CTL_EN = false) (hl : s.prachLive j = false) :
    exec (.prachDrained j) s =
      .next (State.endCycle { s.setFld (Reg.RXDP_PRACH_CTL j) Fld.RXDP_PRACH_CTL_BUSY 0 with occasions := s.occasions.filter (fun o => o.cfg != j.val) }) :=
  finish_congr (if_pos (by simp [hb, he, hl]))

/-! ## The port of a carrier (R100-R102) -/

theorem exec_dhModeApply_due {s t : State} {c : Fin 8} {b : Th} (hb : s.nextBoundary c false (s.thAt s.dh.applyAt) = b)
    (hc : s.dh.applyCars.testBit c = true) (hd : b ≤ s.nowTh) (ht : s.setServe c (s.dhCode c) b = t) :
    exec (.dhModeApply c) s =
      .next (State.endCycle (({ t with dh := { t.dh with applyCars := setBitN t.dh.applyCars c false } } : State).updateRole)) := by
  subst hb ht
  exact finish_congr (if_pos ⟨hc, hd⟩)

/-- At its switch boundary a carrier of a pending failover goes to the other port, or to the one that the failover names. -/
theorem exec_failover_due {s t u : State} {c : Fin 8} {f : Failover} {b : Th} {v new : Nat} (hf : s.dh.failover = some f)
    (hb : s.switchBoundary f c = b) (hc : f.cars.testBit c = true) (hd : b ≤ s.nowTh) (hv : s.dh.serve.getD c 2 = v)
    (hn : new = if f.to_ = 2 then 1 - s.servePort c else f.to_) (hfollow : s.bit Reg.LINK_DH_CTL Fld.LINK_DH_CTL_TSEL_FOLLOW = false)
    (ht : s.setServe c (if v = 4 ∨ v = 5 then 4 + new else if s.dhMode = 0 then 6 + new else new) b = t)
    (hu : { t with
      dh := { t.dh with failover := if setBitN f.cars c false = 0 then none else some { f with cars := setBitN f.cars c false, raised := true } }
      sections := s.sections.flatMap (s.failSection c new b)
      dl := s.dl.flatMap (s.failData c new b) } = u) :
    exec (.failover c) s =
      .next (State.endCycle (State.updateRole (
        let u' := if s.dhMode = 2 then u.setFld Reg.LINK_DH_CARMAP ⟨c.val, 1⟩ new else u.setFld Reg.LINK_DH_CTL Fld.LINK_DH_CTL_ACTIVE_B new
        if f.raised then u' else u'.raise 0x3014 new))) := by
  refine finish_congr ?_
  simp only [hf, hb, hc, hv, ← hn, ht, hu, hfollow, Int.not_lt.mpr hd, decide_false, Bool.not_true, Bool.or_self, Bool.false_and, Bool.false_eq_true,
    if_false]

/-! ## Captures (R266-R272) -/

section
variable {s t : State} {path : Nat} {v : Word} (hg : getF v Fld.OBS_CAP_REQ_GO = 1)
include hg

theorem capReqWrite_ticket {ticket : Nat}
    (hq : s.capRequest ⟨path, getF v Fld.OBS_CAP_REQ_MIRROR == 1, getF v Fld.OBS_CAP_REQ_NBLK, s.fld (Reg.OBS_CAP_DEST path) Fld.OBS_CAP_DEST_ADDR,
      false, 0⟩ = (some ticket, t)) : capReqWrite path v s = (0, t) := by
  simp only [capReqWrite, hg, hq, Nat.one_ne_zero, if_false]

theorem capReqWrite_busy
    (hq : s.capRequest ⟨path, getF v Fld.OBS_CAP_REQ_MIRROR == 1, getF v Fld.OBS_CAP_REQ_NBLK, s.fld (Reg.OBS_CAP_DEST path) Fld.OBS_CAP_DEST_ADDR,
      false, 0⟩ = (none, t)) : capReqWrite path v s = (7, s) := by
  simp only [capReqWrite, hg, hq, Nat.one_ne_zero, if_false]

end

section
variable {s : State} {a : Fin 72} {q : CapReq}

theorem exec_captureGrant_free {rest : List CapReq} (hn : (s.cage a).cur = none) (hq : (s.cage a).queue = q :: rest) :
    exec (.captureGrant a) s = .next (State.endCycle (s.capGrant a q rest false)) :=
  finish_congr (by simp only [hn, hq])

theorem exec_captureGrantEnd_due (hc : (s.cage a).cur.isSome = true) (hd : (s.cage a).done = true) (he : (s.cage a).end_ ≤ s.tb) :
    exec (.captureGrantEnd a) s = .next (State.endCycle (s.setCage a { s.cage a with cur := none })) :=
  finish_congr (if_pos (by simp [hc, hd, he]))

variable {y : List (BitVec 32)} {ovr : Bool} (hc : (s.cage a).cur = some q) (hd : (s.cage a).done = false)
  (he : (s.cage a).sampleAt + (64 * q.nblk * 2 + 8) / 9 ≤ s.tb)
include hc hd he

theorem exec_captureDone_assay (hq : q.assay = true) :
    exec (.captureDone a y ovr) s =
      .next (State.endCycle (((s.setCage a { s.cage a with done := true }).showGrant q false).capComplete q 0)) :=
  finish_congr (by simp only [hc, hd, hq, Nat.not_lt.mpr he, decide_false, Bool.or_self, Bool.false_eq_true, if_false, if_true])

/-- A path's capture is recorded, its header after its blocks; its power decides `FROZEN` (R262). -/
theorem exec_captureDone_path {t : State} {yv : Nat → Int × Int} {pw : Nat} (hq : q.assay = false)
    (hy : yv = s.capSeen (s.cage a) q (fun i => iq (y.getD i 0))) (hpw : pw = capPower yv (64 * q.nblk))
    (ht : ((s.setCage a { s.cage a with done := true }).showGrant q false).stBytes (sharedMem + q.dest + 64) (s.capBlocks (s.cage a) q q.nblk yv) = t) :
    exec (.captureDone a y ovr) s =
      .next (State.endCycle (if pw < s.fld (Reg.DPD_PMIN q.path) Fld.DPD_PMIN_PMIN then
          ((t.capHeader (s.cage a) q 0 pw (64 * q.nblk) true ovr).capComplete q 0).capLow q.path
        else ((t.capHeader (s.cage a) q 0 pw (64 * q.nblk) false ovr).capComplete q 0).setFld (Reg.DPD_STATUS q.path) Fld.DPD_STATUS_FROZEN 0)) := by
  subst ht
  refine finish_congr ?_
  simp only [hc, hd, hq, ← hy, ← hpw, Nat.not_lt.mpr he, decide_false, Bool.or_self, Bool.false_eq_true, if_false]
  by_cases hlow : pw < s.fld (Reg.DPD_PMIN q.path) Fld.DPD_PMIN_PMIN
  · simp only [hlow, decide_true, if_true]
  · simp only [hlow, decide_false, Bool.false_eq_true, if_false]

end

/-- A cancel withdraws the queued request of its path (R270). -/
theorem capCancel_queued {s : State} {path a : Nat} {mirror : Bool} {q : CapReq} (ha : a = capArb path mirror)
    (hq : (s.cage a).queue.find? (fun x => !x.assay && x.path == path) = some q) :
    s.capCancel path mirror =
      (s.setCage a { s.cage a with queue := (s.cage a).queue.filter (fun x => !(!x.assay && x.path == path)) }).showPend q false := by
  simp only [State.capCancel, ← ha, hq]

/-! ## VSWR windows (R273) -/

/-- The window that completes NWIN ones out of limits sets `ALARM` and mutes the path. -/
theorem exec_vswrWindow_alarm {s u t : State} {path : Fin 64} {seen pred ratio : Nat} {cfg : Word} (hon : s.power.convOn = true)
    (hdie : s.power.dieLost.testBit (path.val / 16) = false) (hnew : kvGet (fun _ => 0) s.vswrAt path < s.tick / 256 * 256)
    (hu : { s with vswrAt := kvSet (fun _ => 0) s.vswrAt path (s.tick / 256 * 256) } = u)
    (hpred : pred = (kvGet (fun _ => {}) s.tx path).winPow) (h0 : pred ≠ 0) (hmin : u.fld Reg.OBS_VSWR_PMIN Fld.OBS_VSWR_PMIN_PMIN ≤ pred)
    (hcfg : s.rd (Reg.OBS_VSWR_CFG path) = cfg) (hen : getF cfg Fld.OBS_VSWR_CFG_EN = 1) (hratio : ratio = Nat.min 65535 (seen * 4096 / pred))
    (hout : ratio * 64 < u.fld (Reg.OBS_VSWR_REF path) Fld.OBS_VSWR_REF_REF * getF cfg Fld.OBS_VSWR_CFG_LO ∨
      u.fld (Reg.OBS_VSWR_REF path) Fld.OBS_VSWR_REF_REF * getF cfg Fld.OBS_VSWR_CFG_HI < ratio * 64)
    (hrun : Nat.max 1 (Nat.min 4 (getF cfg Fld.OBS_VSWR_CFG_NWIN)) ≤ kvGet (fun _ => 0) s.vswrRun path + 1)
    (ht : u.setFld (Reg.OBS_VSWR_STAT path) Fld.OBS_VSWR_STAT_RATIO ratio = t) :
    exec (.vswrWindow path seen) s =
      .next (State.endCycle (((({ t with vswrRun := kvSet (fun _ => 0) t.vswrRun path 0 } : State).flag (Reg.OBS_VSWR_STAT path) Fld.OBS_VSWR_STAT_ALARM).hwMute
        path Fld.TXDP_MUTE_VSWR).raise 0x4040 path)) := by
  have hweak : ¬ (pred = 0 ∨ pred < u.fld Reg.OBS_VSWR_PMIN Fld.OBS_VSWR_PMIN_PMIN) := by omega
  refine finish_congr ?_
  simp only [vswrTicks, hon, hdie, Nat.not_le.mpr hnew, hu, ← hpred, hweak, hcfg, hen, ← hratio, hout, Nat.not_lt.mpr hrun, ht, decide_true, decide_false,
    Bool.not_true, Bool.or_self, Nat.reduceBEq, Bool.false_eq_true, if_false]

/-- Settles O13: each command's hypotheses name one case of its meaning; the accesses are granted writes. -/
theorem randomAccessFailoverAndObservationTakeEffect : Obligations.RandomAccessFailoverAndObservationTakeEffect :=
  ⟨fun _ _ _ _ _ hg hb ht _ hv => finish_writeBy hg (prachCtlWrite_valid hb ht hv),
   fun _ _ _ _ _ hg hb ht h0 hv => finish_writeBy hg (prachCtlWrite_invalid hb ht h0 hv),
   fun _ _ _ _ _ _ _ _ _ _ hs hx hw hrep ht hd hoff => by
    subst hs; exact exec_prachOccasion_carrier_off rfl hx hw hrep ht hd hoff,
   fun _ _ _ _ _ _ _ _ _ _ hs hx hw hrep ht hd hul htoff => by
    subst hs; exact exec_prachOccasion_carrier_on rfl hx hw hrep ht hd ⟨hul, htoff⟩,
   fun _ _ => exec_prachDrained_idle,
   fun _ _ _ _ => exec_dhModeApply_due,
   fun _ _ _ _ _ _ _ _ => exec_failover_due,
   fun _ _ _ _ _ _ _ hr hg hs hq => finish_writeBy hr (capReqWrite_ticket hg (hs ▸ hq)),
   fun _ _ _ _ _ _ hr hg hs hq => by subst hs; exact finish_writeBy hr (capReqWrite_busy hg hq),
   fun _ _ _ _ => exec_captureGrant_free,
   fun _ _ => exec_captureGrantEnd_due,
   fun _ _ _ _ _ hc hq hd he => exec_captureDone_assay hc hd he hq,
   fun _ _ _ _ _ _ _ _ hc hq hd he hy hpw ht => exec_captureDone_path hc hd he hq hy hpw ht,
   fun _ _ _ _ hg => finish_writeBy hg rfl,
   fun _ _ _ _ _ => capCancel_queued,
   fun _ _ _ _ _ _ _ _ hon hdie hnew hu hpred h0 hmin hcfg hen hratio hout hrun ht => by
    subst hu; exact exec_vswrWindow_alarm hon hdie hnew rfl hpred h0 hmin hcfg hen hratio hout hrun ht⟩

end Sys2Proof.Machine
end

section
/-! SUPPORT. Layer traffic (04_layer_traffic, R107, R116, R122, R124, R126-R128): what a port takes, the lock of sections and the discard of orphans. The
model's readings behind them: log entries 30, 36. -/
namespace Sys2Proof.Machine

/-! ## Descriptors (R107, R126) -/

/-- The descriptors of a taken packet are judged in their order, after the packet is counted (R107). -/
theorem exec_cplane_taken {s : State} {p : Fin 2} {h : RxHdr} (hv : s.takesRt p h 5 3) (descs : List (BitVec 128)) :
    exec (.cplane p h descs) s =
      .next (State.endCycle (descs.foldl (fun (t : State) d =>
        if t.servePort (SecF.carrier d.toNat) = p then t.takeSection p d.toNat false
        else if t.bit Reg.LINK_DH_CTL Fld.LINK_DH_CTL_HOT then t.takeSection p d.toNat true
        else t.count64 (Reg.LINK_RT_IGN_CNT p)) ((s.tookRt p h 5).pmuCount (40 + p) 0x02 (1 + descs.length)))) :=
  finish_congr (rxRt_takes hv _ rfl)

/-- A section that names no stored one, against which none of the reasons of R126 stands, joins the store and takes its held data. -/
theorem takeSection_new {t : State} {p d : Nat} {x : Section} (hx : x = t.sectionOf p d false) (hmode : t.secMode p d = false) (hbad : t.secBad p d = false)
    (hlate : thUs (t.secWindow (SecF.carrier d) (SecF.dir d)).1 ≤ t.secAir x - t.nowTh)
    (hearly : t.secAir x - t.nowTh ≤ thUs (t.secWindow (SecF.carrier d) (SecF.dir d)).2) (hold : t.sections.find? (t.namesake x) = none)
    (hover : ((t.sections.filter (fun y => !t.namesake x y)).filter (fun y => !y.standby)).any (t.secOverlap x) = false)
    (hmany : tooMany x ((t.sections.filter (fun y => !t.namesake x y)).filter (fun y => !y.standby)) = false)
    (hroom : ((t.sections.filter (fun y => !t.namesake x y)).filter t.secLive).length < 16384) :
    t.takeSection p d false = ({ t with sections := t.sections.filter (fun y => !t.namesake x y) ++ [x] } : State).matchHeld x := by
  have hpeer : (fun y : Section => y.standby == false && (!false || y.port == p)) = fun y => !y.standby := by
    funext y; cases y.standby <;> rfl
  unfold State.takeSection
  simp only [← hx, hmode, hbad, hold, hpeer, hover, hmany, Int.not_lt.mpr hlate, Int.not_lt.mpr hearly, Nat.not_le.mpr hroom, Option.map_none,
    reduceCtorEq, or_self, Bool.false_eq_true, if_false]

/-! ## Downlink data (R116, R122, R127, R128) -/

/-- New data inside its window that fits its section, where it has one, and the buffer, joins the buffer; held without a section. -/
theorem takeData_new {t : State} {d : DlData} (hslot : d.slot < t.carSlots d.car) (hsym : d.sym < 14)
    (hlate : thUs (Nat.max 35 (t.fld (Reg.CAR_DL_WIN d.car) Fld.CAR_DL_WIN_DL_LATE)) ≤ t.airTime d.car d.frame (d.slot * 14 + d.sym) - t.nowTh)
    (hearly : t.airTime d.car d.frame (d.slot * 14 + d.sym) - t.nowTh ≤ thUs (t.fld (Reg.CAR_DL_WIN d.car) Fld.CAR_DL_WIN_DL_EARLY))
    (hfits : ∀ x, t.sections.find? (fun x => x.owns d) = some x → t.dataFits x d = true) (hdup : t.dl.any (dataDup d) = false)
    (hroom : t.dlBytes + d.data.length ≤ 16777216) :
    t.takeData d = { t with dl := t.dl ++ [{ d with held := (t.sections.find? (fun x => x.owns d)).isNone }] } := by
  have hplace : ¬ (t.carSlots d.car ≤ d.slot ∨ 14 ≤ d.sym) := by omega
  unfold State.fld at hlate hearly
  unfold State.takeData
  simp only [hplace, Int.not_lt.mpr hlate, Int.not_lt.mpr hearly, hdup, Nat.not_lt.mpr hroom, Bool.false_eq_true, if_false]
  cases hsec : t.sections.find? (fun x => x.owns d) with
  | none => simp only [Bool.not_true, Bool.false_eq_true, if_false]
  | some x => simp only [hfits x hsec, Bool.not_true, Bool.false_eq_true, if_false]

/-- A packet of the serving port, of a negotiated code, is counted and judged as primary data (R88, R116). -/
theorem exec_layerDl_served {s t : State} {p : Fin 2} {h : RxHdr} {car : Fin 8} {sym : BitVec 4} {slot : BitVec 10} {secid : BitVec 12}
    {poff pcnt : BitVec 11} {cw : BitVec 4} {ant : Bool} {stream : BitVec 7} {data : List Byte} {d : DlData}
    (hv : s.takesRt p h 1 (s.dlNeed car ant)) (ht : (s.tookRt p h 1).pmuCount (40 + p) 0x02 (1 + data.length / 16) = t)
    (hcomp : s.comp p cw.toNat = true) (hserve : t.servePort car = p)
    (hd : d = { car := car, frame := t.resolveFrame car (slot.toNat * 14 + sym.toNat) t.nowTh, slot := slot.toNat, sym := sym.toNat,
                secid := secid.toNat, poff := poff.toNat, pcnt := pcnt.toNat, cw := cw.toNat, ant := ant, stream := stream.toNat,
                port := p, standby := false, held := true, data := data.map (·.toNat), lateT := t.dataLate car slot.toNat sym.toNat }) :
    exec (.layerDl p h car sym slot secid poff pcnt cw ant stream data) s = .next (State.endCycle (t.takeData d)) := by
  refine finish_congr ((rxRt_takes hv _ hcomp).trans ?_)
  simp only [ht, hserve, hd, decide_true, Bool.not_true, Bool.false_and, Bool.false_eq_true, if_false]

/-! ## Orphans (R126) -/

theorem exec_orphanDiscard_some {s : State} {c : Fin 8} {gone : DlData → Bool}
    (hg : gone = (fun d => d.held && d.car == c.val && decide (d.lateT ≤ s.nowTh))) (hne : s.dl.filter gone ≠ []) :
    exec (.orphanDiscard c) s =
      .next (State.endCycle ((({ s with dl := s.dl.filter (fun d => !gone d) } : State).count (Reg.CAR_DL_ORPHAN_CNT c) (s.dl.filter gone).length).raiseFrame
        0x4003 c)) := by
  subst hg
  exact finish_congr (if_neg (mt List.length_eq_zero_iff.mp hne))

/-- Settles O9: a taken packet is counted before its descriptors or its data are judged; a lock marks what its definition says. -/
theorem layerPacketsAreTaken : Obligations.LayerPacketsAreTaken :=
  ⟨fun _ _ _ descs hv => exec_cplane_taken hv descs,
   fun _ _ _ _ hx hmode hbad hlate hearly hold hover hmany hroom => takeSection_new hx hmode hbad hlate hearly hold hover hmany hroom,
   fun _ _ _ _ _ _ _ _ _ _ _ _ _ _ _ hv ht hcomp hserve hd hslot hsym hlate hearly hfits hdup hroom => by
    subst hd
    exact (exec_layerDl_served hv ht hcomp hserve rfl).trans (finish_congr (takeData_new hslot hsym hlate hearly hfits hdup (by rwa [List.length_map]))),
   fun _ _ _ _ _ => rfl,
   fun _ _ _ => exec_orphanDiscard_some⟩

end Sys2Proof.Machine
end

section
/-! SUPPORT. Symbols and packets of the datapaths (04_layer_traffic, 07_transmit_path, 08_receive_path, 09_beams; R126, R127, R177, R184, R187, R204, R212,
R215, R217, R247-R250): each symbol is processed once, and what it ends leaves the stores. The model's readings behind them: log entries 7, 8, 36. -/
namespace Sys2Proof.Machine

@[simp] theorem State.car_setCar_same (s : State) (c : Nat) (x : CarSt) : (s.setCar c x).car c = x := kvGet_kvSet_same _ _ _ _

/-- The guard of a symbol command lets a symbol after the last processed one pass while its clock runs. -/
theorem symbolGuard_later {last : Option Int} {idx : Int} {run : Bool} :
    (∀ d, last = some d → d < idx) → run = true → ¬ ((match last with | some d => decide (idx ≤ d) | none => false) || !run) = true := by
  intro hlast hrun
  cases last with
  | none => simp [hrun]
  | some d => simpa [hrun] using hlast d rfl

/-! ## The read instant of a downlink symbol (R177, R184, R187) -/

/-- What the read of symbol `idx` of a carrier leaves of the state that its stages reach: its data and earlier data gone, finished sections freed (R126). -/
def State.dlPast (u : State) (c : Nat) (idx : Int) : State :=
  { (u.bfErrPast 0 c).setCar c { u.car c with dlDone := some idx } with
    dl := u.dl.filter (fun d => !(d.car == c && decide (symIndex d.frame (d.slot * 14 + d.sym) ≤ idx)))
    sections := u.sections.filter (fun x => !(x.car == c && SecF.dir x.raw == 0 && !u.secLive x)) }

theorem State.dlDone_dlPast (u : State) (c : Nat) (idx : Int) : ((u.dlPast c idx).car c).dlDone = some idx :=
  congrArg CarSt.dlDone (State.car_setCar_same _ _ _)

theorem State.dl_dlPast {u : State} {c : Nat} {idx : Int} {d : DlData} (h : d ∈ (u.dlPast c idx).dl) :
    ¬ (d.car = c ∧ symIndex d.frame (d.slot * 14 + d.sym) ≤ idx) := by
  rintro ⟨hcar, hpast⟩
  have hkept := (List.mem_filter.mp h).2
  simp only [hcar, hpast, beq_self_eq_true, decide_true, Bool.and_self, Bool.not_true, Bool.false_eq_true] at hkept

/-- Whether a section is over is told by the registers and the time alone. -/
theorem State.secLive_congr {s t : State} (hregs : s.regs = t.regs) (htb : s.tb = t.tb) (htime : s.time = t.time) (x : Section) :
    s.secLive x = t.secLive x := by
  have hrd : s.rd = t.rd := funext fun a => congrArg (kvGet resetWord · a) hregs
  unfold State.secLive State.nowTh State.outU State.dom State.domAt State.tsel State.transU State.rdTime State.incInForce State.airEnd State.airTime
    State.carMu State.carOfs State.rd64 State.fld
  rw [hrd, htb, htime]

theorem State.sections_dlPast {u : State} {c : Nat} {idx : Int} {x : Section} (h : x ∈ (u.dlPast c idx).sections) :
    ¬ (x.car = c ∧ SecF.dir x.raw = 0 ∧ (u.dlPast c idx).secLive x = false) := by
  rw [State.secLive_congr (s := u.dlPast c idx) (t := u) rfl rfl rfl]
  rintro ⟨hcar, hdir, hover⟩
  have hkept := (List.mem_filter.mp h).2
  simp only [hcar, hdir, hover, beq_self_eq_true, Bool.and_self, Bool.not_false, Bool.not_true, Bool.false_eq_true] at hkept

section
variable {s : State} {c : Fin 8} {f : Int} {n : Nat} (hsym : s.symbolAt c (s.nowTh + thUs 34) = (f, n))
  (hnew : ∀ d, (s.car c).dlDone = some d → d < symIndex f n) (hclk : s.clkOn Fld.SYS_CLK_STATUS_FCLK = true)
include hsym hnew hclk

/-- A symbol that has not been read is read, and is past. -/
theorem exec_symbolRead_new : ∃ u : State, exec (.symbolRead c) s = .next (u.dlPast c (symIndex f n)).endCycle := by
  show ∃ u : State, execSymbolRead c s = _
  unfold execSymbolRead
  simp only [hsym]
  exact ⟨_, finish_congr (if_neg (symbolGuard_later hnew hclk))⟩

/-- With the carrier off the symbol is read with no section (R184). -/
theorem exec_symbolRead_carrier_off {m0 : Int}
    (hoff : ¬(getF (s.symVal (Reg.CAR_CTL c) (s.airTime c f n)) Fld.CAR_CTL_DL_EN = 1 ∧
      getF (s.symVal (Reg.CAR_STATUS c) (s.airTime c f n)) Fld.CAR_STATUS_TOFF = 0)) (hm : (s.car c).frame0 = some (f, m0)) :
    exec (.symbolRead c) s =
      .next (State.endCycle (((s.setCar c { s.car c with frame0 := some (f, m0) }).readSymbol c f n []).dlPast c (symIndex f n))) := by
  show execSymbolRead c s = _
  unfold execSymbolRead
  simp only [hsym, hoff, hm, not_false_eq_true, if_true]
  exact finish_congr (if_neg (symbolGuard_later hnew hclk))

end

/-! ## The uplink symbol at U6 (R204, R212, R215) -/

/-- What the processing of uplink symbol `idx` of a carrier leaves of the state that its stages reach: the sections that it ends are freed (R126). -/
def State.ulPast (u : State) (c : Nat) (idx : Int) : State :=
  { (u.bfErrPast 1 c).setCar c { u.car c with ulDone := some idx } with
    sections := u.sections.filter (fun x =>
      !(x.car == c && SecF.dir x.raw == 1 && SecF.kind x.raw != 2 && decide (symIndex x.frame (x.first + secSyms x.raw - 1) ≤ idx))) }

theorem State.ulDone_ulPast (u : State) (c : Nat) (idx : Int) : ((u.ulPast c idx).car c).ulDone = some idx :=
  congrArg CarSt.ulDone (State.car_setCar_same _ _ _)

theorem State.sections_ulPast {u : State} {c : Nat} {idx : Int} {x : Section} (h : x ∈ (u.ulPast c idx).sections) :
    ¬ (x.car = c ∧ SecF.dir x.raw = 1 ∧ SecF.kind x.raw ≠ 2 ∧ symIndex x.frame (x.first + secSyms x.raw - 1) ≤ idx) := by
  rintro ⟨hcar, hdir, hkind, hpast⟩
  have hkept := (List.mem_filter.mp h).2
  simp only [hcar, hdir, bne_iff_ne.mpr hkind, hpast, beq_self_eq_true, decide_true, Bool.and_self, Bool.not_true, Bool.false_eq_true] at hkept

theorem exec_ulSymbol_new {s : State} {c : Fin 8} {inp : RxIn} {fc f : Int} {nc n : Nat} (hsym : s.symbolAt c (s.nowTh - thNs 4200) = (fc, nc))
    (hlast : (f, n) = (if nc = 0 then (fc - 1, 140 * 2 ^ s.carMu c - 1) else (fc, nc - 1)))
    (hnew : ∀ d, (s.car c).ulDone = some d → d < symIndex f n) (hclk : s.clkOn Fld.SYS_CLK_STATUS_FCLK = true) :
    ∃ u : State, exec (.ulSymbol c inp) s = .next (u.ulPast c (symIndex f n)).endCycle := by
  show ∃ u : State, execUlSymbol c inp s = _
  unfold execUlSymbol
  simp only [hsym, ← hlast]
  exact ⟨_, finish_congr (if_neg (symbolGuard_later hnew hclk))⟩

/-! ## Packets and over-range blocks (R215, R217) -/

theorem exec_ulPacketSend_up {s s' t : State} {p : Fin 2} {u : UlPkt} (hform : s.formNext p = s')
    (hu : s'.ulq.find? (fun v => v.ports.testBit p) = some u) (hup : s'.linkUp p = true) (ht : s'.sendRt p u.type u.len u.tspec u.body = t) :
    exec (.ulPacketSend p) s =
      .next (State.endCycle (let t1 : State := { t with ulq := (t.ulq.map (fun v => if v = u then u.dropPort p else v)).filter (fun v => v.ports != 0) }
        let t2 := t1.count (Reg.CAR_UL_PKT_CNT u.car)
        (if u.hasOvr then t2.count (Reg.CAR_UL_OVR_CNT u.car) else t2).pump p)) :=
  finish_congr (by simp only [hform, hu, hup, ht, Bool.not_true, Bool.false_eq_true, if_false])

/-- A block of a path whose ADC delivers samples is flagged (R165, R217). -/
theorem exec_ovrBlock_live {s t : State} {path : Fin 64}
    (hz : ∀ e ∈ s.rxZero, e.1 ≠ 8 * path.val + 1 ∧ e.1 ≠ 8 * path.val + 2 ∧ e.1 ≠ 8 * path.val + 4)
    (hw : kvGet (fun _ => 0) s.sb.wokeRx path ≤ s.tick)
    (ht : { s with ovrs := s.ovrs.filter (fun e => decide (s.nowTh < e.2 + thUs 20000)) ++ [(path.val, s.nowTh - ovrBlock)] } = t) :
    exec (.ovrBlock path) s =
      .next (State.endCycle ((((t.flag (Reg.RXDP_OVR path) Fld.RXDP_OVR_OVR).count (Reg.RXDP_OVR_CNT path)).pmuCount 43 0x03).raiseLim 10 0x4020 path)) := by
  have hlive : s.rxZero.any (fun e => [1, 2, 4].any (fun k => e.1 == 8 * path.val + k)) = false :=
    List.any_eq_false.mpr fun e he => by simpa using hz e he
  subst ht
  exact finish_congr (if_neg (by rw [hlive, decide_eq_false (Nat.not_lt.mpr hw)]; decide))

/-! ## The sounding accumulator (R247-R250) -/

/-- Marking each element that satisfies `p` and has none such behind it marks the last one. -/
theorem mapIdx_last {α : Type} (p : α → Bool) (g : α → α) (pre post : List α) {x : α} (hx : p x = true) (hpost : ∀ y ∈ post, p y = false) :
    (pre ++ x :: post).mapIdx (fun i y => if p y && !((pre ++ x :: post).drop (i + 1)).any p then g y else y) = pre ++ g x :: post := by
  induction pre with
  | nil =>
    have hnone : post.any p = false := List.any_eq_false.mpr fun y hy => by rw [hpost y hy]; exact Bool.false_ne_true
    have hlast : (p x && !post.any p) = true := by rw [hx, hnone]; rfl
    have hrest : post.mapIdx (fun i y => if p y && !(post.drop (i + 1)).any p then g y else y) = post :=
      List.ext_getElem List.length_mapIdx fun i _ h => by
        simp only [List.getElem_mapIdx, hpost _ (List.getElem_mem h), Bool.false_and, Bool.false_eq_true, if_false]
    rw [List.nil_append, List.nil_append, List.mapIdx_cons]
    exact congr (congrArg List.cons (if_pos hlast)) hrest
  | cons y pre ih =>
    have hbehind : (pre ++ x :: post).any p = true := List.any_eq_true.mpr ⟨x, List.mem_append_right _ List.mem_cons_self, hx⟩
    have hnotLast : ¬ (p y && !(pre ++ x :: post).any p) = true := by
      rw [hbehind, Bool.not_true, Bool.and_false]; exact Bool.false_ne_true
    rw [List.cons_append, List.cons_append, List.mapIdx_cons]
    exact congr (congrArg List.cons (if_neg hnotLast)) ih

theorem ssClrWrite_idle {s : State} {v : Word} (h : s.ssBusy (getF v Fld.BEAM_SS_CLR_SET) = false) :
    ssClrWrite v s = (0, s.ssZero (getF v Fld.BEAM_SS_CLR_SET)) := by
  simp only [ssClrWrite, h, Bool.false_eq_true, if_false]

/-- A clear of a busy set follows the last accumulation in progress (R250). -/
theorem ssClrWrite_busy {s : State} {v : Word} {pre post : List SrsPend} {x : SrsPend} (hs : s.srs = pre ++ x :: post)
    (hset : x.set = getF v Fld.BEAM_SS_CLR_SET) (hx : x.endT + thNs 12200 ≤ s.nowTh)
    (hpost : ∀ y ∈ post, ¬(y.set = x.set ∧ y.endT + thNs 12200 ≤ s.nowTh)) :
    ssClrWrite v s = (0, { s with srs := pre ++ { x with clear := true } :: post }) := by
  have hbusy : s.ssBusy (getF v Fld.BEAM_SS_CLR_SET) = true := by simp [State.ssBusy, hs, hset, hx]
  have hmark := mapIdx_last (fun y => y.set == getF v Fld.BEAM_SS_CLR_SET && decide (y.endT + thNs 12200 ≤ s.nowTh)) (fun y => { y with clear := true })
    pre post (x := x) (by simp [hset, hx]) (fun y hy => by simpa [hset] using hpost y hy)
  simp only [ssClrWrite, hbusy, if_true, hs, hmark]

theorem exec_ssAccumulate_due {s t : State} {x : SrsPend} {rest : List SrsPend} (hs : s.srs = x :: rest) (hd : x.endT + thNs 32200 ≤ s.nowTh)
    (ht : ({ s with srs := rest } : State).accumulate x = t) :
    exec .ssAccumulate s = .next (State.endCycle (if x.clear = true then t.ssZero x.set else t)) :=
  finish_congr (by simp only [hs, Int.not_lt.mpr hd, ht, if_false])

/-- Settles O10: what a symbol leaves behind it follows from `dlPast` and `ulPast`; a clear finds the same accumulations as the state before its access. -/
theorem symbolsAreReadAndDelivered : Obligations.SymbolsAreReadAndDelivered :=
  ⟨fun _ _ _ _ hsym hnew hclk =>
    have ⟨u, hu⟩ := exec_symbolRead_new hsym hnew hclk
    ⟨_, hu, u.dlDone_dlPast _ _, fun _ => State.dl_dlPast, fun _ => State.sections_dlPast⟩,
   fun _ _ _ _ _ _ hsym hnew hclk hoff hm ht => by subst ht; exact exec_symbolRead_carrier_off hsym hnew hclk hoff hm,
   fun _ _ _ _ _ _ _ hsym hlast hnew hclk =>
    have ⟨u, hu⟩ := exec_ulSymbol_new hsym hlast hnew hclk
    ⟨_, hu, u.ulDone_ulPast _ _, fun _ => State.sections_ulPast⟩,
   fun _ _ _ _ _ => exec_ulPacketSend_up,
   fun _ _ _ => exec_ovrBlock_live,
   fun _ _ _ hg hidle => finish_writeBy hg (ssClrWrite_idle hidle),
   fun _ _ _ _ _ _ hg hs hset hx hpost => finish_writeBy hg (ssClrWrite_busy hs hset hx hpost),
   fun _ _ _ _ => exec_ssAccumulate_due⟩

end Sys2Proof.Machine
end

section
/-! SUPPORT. The instructions of an engine (06_shiftboss, R156-R161, R167-R169): an engine that issues a legal word has the instruction's effect, in the
state that the issue leaves. The model's readings behind them: log entries 11, 25, 26. -/
namespace Sys2Proof.Machine

/-! ## The issue of an instruction (R156, R159) -/

section
variable {s t u : State} {e op w i : Nat} {act : State → Nat → Nat → State}

/-- An engine that issues a legal word of the opcode runs the instruction's own effect. -/
theorem sbIssue_issues (h : s.issues e op w i) : s.sbIssue e op act = act (s.issued e i) w i := by
  obtain ⟨hrun, hword, hop, hlegal, hcyc⟩ := h
  simp only [State.sbIssue, hrun, hword, hop, hlegal, ← hcyc, State.issued, ne_eq, not_true_eq_false, Bool.not_true, Bool.false_eq_true, or_self,
    if_false]

/-- A meaning that an issue runs answers the state which its effect reaches. -/
theorem finish_sbIssue (h : s.issues e op w i) (ht : s.issued e i = t) (ha : act t w i = u) : finish (s.sbIssue e op act) = .next u.endCycle :=
  finish_congr ((sbIssue_issues h).trans (ht.symm ▸ ha))

end

section
variable {s t u : State} {e : Fin 5} {w i : Nat}

/-! ## Flow instructions (R160) -/

section
variable (h : s.issues e 0x0F w i) (ht : s.issued e i = t)
include h ht

theorem exec_sbLoop_opens {n : Nat} (hn : n = if bitAt w 48 then t.g e (sbRa w) % 2 ^ 32 else bitsAt w 0 16) (h0 : n ≠ 0) (h4 : (t.eng e).loops.length ≠ 4) :
    exec (.sbLoop e) s = .next (State.endCycle (t.setStacks e ((t.sbPc e, n) :: (t.eng e).loops) (t.eng e).calls)) :=
  finish_sbIssue h ht ((if_neg h4).trans (by rw [← hn]; exact if_neg h0))

theorem exec_sbLoop_skips (h0 : (if bitAt w 48 then t.g e (sbRa w) % 2 ^ 32 else bitsAt w 0 16) = 0) (h4 : (t.eng e).loops.length ≠ 4) :
    exec (.sbLoop e) s = .next (State.endCycle (t.setPc e (bitsAt w 16 12 + 1))) :=
  finish_sbIssue h ht ((if_neg h4).trans (if_pos h0))

theorem exec_sbLoop_overflows (h4 : (t.eng e).loops.length = 4) : exec (.sbLoop e) s = .next (State.endCycle (t.sbFaultHere e 3)) :=
  finish_sbIssue h ht (if_pos h4)

end

theorem exec_sbEndl_repeats {a n : Nat} {rest : List (Nat × Nat)} (h : s.issues e 0x10 w i) (ht : s.issued e i = t)
    (hl : (t.eng e).loops = (a, n) :: rest) (hn : n - 1 ≠ 0) :
    exec (.sbEndl e) s = .next (State.endCycle ((t.setStacks e ((a, n - 1) :: rest) (t.eng e).calls).setPc e a)) :=
  finish_sbIssue h ht (by simp only [hl, hn, if_false])

theorem exec_sbEndl_pops {a : Nat} {rest : List (Nat × Nat)} (h : s.issues e 0x10 w i) (ht : s.issued e i = t)
    (hl : (t.eng e).loops = (a, 1) :: rest) : exec (.sbEndl e) s = .next (State.endCycle (t.setStacks e rest (t.eng e).calls)) :=
  finish_sbIssue h ht (by simp only [hl, Nat.sub_self, if_true])

theorem exec_sbCall_pushes (h : s.issues e 0x13 w i) (ht : s.issued e i = t) (h8 : (t.eng e).calls.length ≠ 8) :
    exec (.sbCall e) s = .next (State.endCycle ((t.setStacks e (t.eng e).loops (t.sbPc e :: (t.eng e).calls)).setPc e (bitsAt w 0 12))) :=
  finish_sbIssue h ht (if_neg h8)

theorem exec_sbCall_overflows (h : s.issues e 0x13 w i) (ht : s.issued e i = t) (h8 : (t.eng e).calls.length = 8) :
    exec (.sbCall e) s = .next (State.endCycle (t.sbFaultHere e 2)) :=
  finish_sbIssue h ht (if_pos h8)

theorem exec_sbRet_returns {a : Nat} {rest : List Nat} (h : s.issues e 0x14 w i) (ht : s.issued e i = t) (hc : (t.eng e).calls = a :: rest) :
    exec (.sbRet e) s = .next (State.endCycle ((t.setStacks e (t.eng e).loops rest).setPc e a)) :=
  finish_sbIssue h ht (by simp only [hc])

theorem exec_sbRet_underflows (h : s.issues e 0x14 w i) (ht : s.issued e i = t) (hc : (t.eng e).calls = []) :
    exec (.sbRet e) s = .next (State.endCycle (t.sbFaultHere e 2)) :=
  finish_sbIssue h ht (by simp only [hc])

theorem exec_sbMovi_low (h : s.issues e 0x19 w i) (ht : s.issued e i = t) (hb : bitAt w 48 = false) :
    exec (.sbMovi e) s = .next (State.endCycle (t.setG e (sbRa w) (encS 64 (sext (bitsAt w 0 32) 32)))) :=
  finish_sbIssue h ht (by simp only [hb, Bool.false_eq_true, if_false])

theorem exec_sbMovi_high (h : s.issues e 0x19 w i) (ht : s.issued e i = t) (hb : bitAt w 48 = true) :
    exec (.sbMovi e) s = .next (State.endCycle (t.setG e (sbRa w) (t.g e (sbRa w) % 2 ^ 32 + bitsAt w 0 32 * 2 ^ 32))) :=
  finish_sbIssue h ht (by simp only [hb, if_true])

/-- Settles O16: an issued word has its instruction's effect; the hypotheses on stacks and operands name its case. -/
theorem engineFlowInstructionsTakeEffect : Obligations.EngineFlowInstructionsTakeEffect :=
  ⟨fun _ _ _ _ _ h ht => finish_sbIssue h ht rfl,
   fun _ _ _ _ _ h ht => finish_sbIssue h ht rfl,
   fun _ _ _ _ _ _ h ht hn h0 h4 => exec_sbLoop_opens h ht hn h0 h4,
   fun _ _ _ _ _ h ht h0 h4 => exec_sbLoop_skips h ht h0 h4,
   fun _ _ _ _ _ h ht h4 => exec_sbLoop_overflows h ht h4,
   fun _ _ _ _ _ _ _ _ => exec_sbEndl_repeats,
   fun _ _ _ _ _ _ _ => exec_sbEndl_pops,
   fun _ _ _ _ _ h ht => finish_sbIssue h ht rfl,
   fun _ _ _ _ _ h ht => finish_sbIssue h ht rfl,
   fun _ _ _ _ _ => exec_sbCall_pushes,
   fun _ _ _ _ _ => exec_sbCall_overflows,
   fun _ _ _ _ _ _ _ => exec_sbRet_returns,
   fun _ _ _ _ _ => exec_sbRet_underflows,
   fun _ _ _ _ _ h ht => finish_sbIssue h ht rfl,
   fun _ _ _ _ _ => exec_sbMovi_low,
   fun _ _ _ _ _ => exec_sbMovi_high⟩

/-! ## Waits (R156-R158) -/

theorem sbTimeWait_ahead {e w i x : Nat} {tw : Th} (h : t.stCyc (i + 23) < x) :
    t.sbTimeWait e w i x tw = (t.setSb e 2).setEng e { t.eng e with wait := .time x tw (if bitAt w 49 then some (bitsAt w 0 12) else none) } :=
  if_neg (Nat.not_le.mpr h)

theorem sbTimeWait_late {e w i x : Nat} {tw : Th} (h : x ≤ t.stCyc (i + 23)) :
    t.sbTimeWait e w i x tw = t.sbLate e i x tw (if bitAt w 49 then some (bitsAt w 0 12) else none) :=
  if_pos h

section
variable (hclk : s.clkOn Fld.SYS_CLK_STATUS_FCLK = true)
include hclk

/-- A time wait whose instant has come within 24 cycles, and is not past, is released at its match cycle. -/
theorem exec_waitRelease_time {x : Nat} {tw : Th} {skip : Option Nat} (hw : (s.eng e).wait = .time x tw skip) (h2 : s.sbState e = 2)
    (hm : x ≤ s.stCyc (s.fcyc + 24)) (hp : s.stCyc s.fcyc < x) :
    exec (.waitRelease e) s = .next (State.endCycle ((s.wr64 (Reg.SB_TLAST e) x).sbRelease e (s.sbMatch x) (some tw))) :=
  finish_congr (by
    simp only [hclk, hw, h2, Nat.not_lt.mpr hm, Nat.not_le.mpr hp, ne_eq, not_true_eq_false, Bool.not_true, Bool.false_eq_true, or_self, if_false])

/-- A set flag releases the wait for it, which clears it with `CLR`, in the first cycle that sees it. -/
theorem exec_waitRelease_flag {flag m : Nat} {lim : Option Nat} (hm : m = Nat.max (s.evSeen e flag) (s.eng e).cyc)
    (hw : (s.eng e).wait = .ev flag false true lim) (h3 : s.sbState e = 3) (hf : bitAt (s.rd64 (Reg.SB_EVF e)) flag = true) :
    exec (.waitRelease e) s = .next (State.endCycle (((s.evClearAt e (2 ^ flag) m).setC e true).sbRelease e m none)) :=
  finish_congr (by
    simp only [hclk, hw, h3, hf, ← hm, ne_eq, not_true_eq_false, Bool.not_true, Bool.not_false, Bool.and_self, Bool.true_eq_false,
      Bool.false_eq_true, or_self, if_false, if_true])

theorem exec_waitRelease_fence (hw : (s.eng e).wait = .fence) (h4 : s.sbState e = 4) (hn : s.sbStaged e = []) :
    exec (.waitRelease e) s = .next (State.endCycle (s.sbRelease e s.fcyc none)) :=
  finish_congr (by
    simp only [hclk, hw, h4, hn, List.isEmpty_nil, and_self, Bool.not_true, Bool.false_eq_true, if_false, if_true])

end

theorem exec_waitevTimeout_due {flag d : Nat} {pol clr : Bool} (hw : (s.eng e).wait = .ev flag pol clr (some d)) (h3 : s.sbState e = 3)
    (hd : d ≤ s.tick) (hf : bitAt (s.rd64 (Reg.SB_EVF e)) flag = pol) :
    exec (.waitevTimeout e) s = .next (State.endCycle ((s.setC e false).sbRelease e s.fcyc none)) :=
  finish_congr (by simp only [hw, h3, hd, hf, and_self, if_true])

/-! ## Front-end frames (R161, R167) -/

section
variable (h : s.issues e 0x0E w i) (ht : s.issued e i = t)
include h ht

/-- Without `R` the frame is staged and the engine goes on. -/
theorem exec_sbFesend_goes_on (hr : bitAt w 49 = false) :
    exec (.sbFesend e) s = .next (State.endCycle (t.sbStage e i
      (.fesend false (bitsAt w 46 2) (Nat.max 7 (bitsAt w 40 6) + 1) (t.g e (sbRa w) % 2 ^ (Nat.max 7 (bitsAt w 40 6) + 1)) (sbRb w)))) :=
  finish_sbIssue h ht (by simp only [hr, Bool.false_eq_true, if_false])

/-- With `R` the engine also waits for the end of its frame. -/
theorem exec_sbFesend_waits (hr : bitAt w 49 = true)
    (hu : t.sbStage e i (.fesend true (bitsAt w 46 2) (Nat.max 7 (bitsAt w 40 6) + 1) (t.g e (sbRa w) % 2 ^ (Nat.max 7 (bitsAt w 40 6) + 1)) (sbRb w)) = u) :
    exec (.sbFesend e) s = .next (State.endCycle ((u.setSb e 4).setEng e { u.eng e with wait := .fesend (bitsAt w 46 2) })) :=
  finish_sbIssue h ht (by simp only [hr, hu, if_true])

end

/-! ## Work, transfers, messages and signals (R154, R169) -/

section
variable {m : Bool} (ht : s.issued e i = t)
include ht

theorem exec_sbDispatch_pushed (h : s.issues e 0x09 w i)
    (hp : t.wqPush (bitsAt w 47 3) (t.g e (sbRa w) % 2 ^ 24) (t.g e (sbRb w)) (8 + e) = (true, u)) :
    exec (.sbDispatch e m) s = .next (State.endCycle ((u.setC e true).sbCompared e m)) :=
  finish_sbIssue h ht (by rw [hp]; rfl)

theorem exec_sbDispatch_refused (h : s.issues e 0x09 w i)
    (hp : t.wqPush (bitsAt w 47 3) (t.g e (sbRa w) % 2 ^ 24) (t.g e (sbRb w)) (8 + e) = (false, u)) :
    exec (.sbDispatch e m) s = .next (State.endCycle ((u.sbIssued e false).sbCompared e m)) :=
  finish_sbIssue h ht (by rw [hp])

theorem exec_sbDmago_started (h : s.issues e 0x0A w i) (hg : dmaGoWrite (bitsAt w 0 4) false (setF 0 Fld.DMA_GO_START 1) t = (0, u)) :
    exec (.sbDmago e m) s = .next (State.endCycle ((u.setC e true).sbCompared e m)) :=
  finish_sbIssue h ht (by rw [hg]; rfl)

theorem exec_sbPost_sent (h : s.issues e 0x0B w i) (hc : bitsAt w 0 5 < 24)
    (hm : mbxMessage (bitsAt w 0 5) (8 + e) ((List.range 8).flatMap (fun k => [t.g e (sbRa w + k) % 2 ^ 32, t.g e (sbRa w + k) / 2 ^ 32])) t = (0, u)) :
    exec (.sbPost e m) s = .next (State.endCycle ((u.setC e true).sbCompared e m)) :=
  finish_sbIssue h ht (by simp only [Nat.not_le.mpr hc, hm, if_false]; rfl)

/-- A secure channel refuses the message of an engine. -/
theorem exec_sbPost_refused (h : s.issues e 0x0B w i) (hc : 24 ≤ bitsAt w 0 5) :
    exec (.sbPost e m) s = .next (State.endCycle ((t.sbIssued e false).sbCompared e m)) :=
  finish_sbIssue h ht (by simp only [hc, if_true]; rfl)

theorem exec_sbSignal_sets (h : s.issues e 0x16 w i) (hb : bitAt w 46 = false) :
    exec (.sbSignal e m) s =
      .next (State.endCycle (((t.sbTargets (bitsAt w 47 3)).foldl (fun (u : State) k => u.evOrAt k (2 ^ bitsAt w 16 6) i) t).sbCompared e m)) :=
  finish_sbIssue h ht (by simp only [hb, Bool.false_eq_true, if_false])

theorem exec_sbSignal_clears (h : s.issues e 0x16 w i) (hb : bitAt w 46 = true) :
    exec (.sbSignal e m) s =
      .next (State.endCycle (((t.sbTargets (bitsAt w 47 3)).foldl (fun (u : State) k => u.evClearAt k (2 ^ bitsAt w 16 6) i) t).sbCompared e m)) :=
  finish_sbIssue h ht (by simp only [hb, if_true])

end

end

/-- Settles O17: an issued word has its instruction's effect; a wait's hypotheses name what ends it. -/
theorem engineWaitsAndStagedInstructionsTakeEffect : Obligations.EngineWaitsAndStagedInstructionsTakeEffect :=
  ⟨fun _ _ _ _ _ h ht => finish_sbIssue h ht rfl,
   fun _ _ _ _ _ _ h ht hx => finish_sbIssue h ht (hx ▸ rfl),
   fun _ _ _ _ _ _ _ h ht ho hx => by subst ho hx; exact finish_sbIssue h ht rfl,
   fun _ _ _ _ _ _ => sbTimeWait_ahead,
   fun _ _ _ _ _ _ => sbTimeWait_late,
   fun _ _ _ _ _ h ht => finish_sbIssue h ht rfl,
   fun _ _ _ _ _ h ht => finish_sbIssue h ht rfl,
   fun _ _ _ _ _ hclk => exec_waitRelease_time hclk,
   fun _ _ _ _ _ hm hclk => exec_waitRelease_flag hclk hm,
   fun _ _ hclk => exec_waitRelease_fence hclk,
   fun _ _ _ _ _ _ => exec_waitevTimeout_due,
   fun _ _ _ _ _ h ht => finish_sbIssue h ht rfl,
   fun _ _ _ _ _ h ht => finish_sbIssue h ht rfl,
   fun _ _ _ _ _ h ht => finish_sbIssue h ht rfl,
   fun _ _ _ _ _ h ht => finish_sbIssue h ht rfl,
   fun _ _ _ _ _ h ht => finish_sbIssue h ht rfl,
   fun _ _ _ _ _ h ht => finish_sbIssue h ht rfl,
   fun _ _ _ _ _ => exec_sbFesend_goes_on,
   fun _ _ _ _ _ _ => exec_sbFesend_waits,
   fun _ _ _ _ _ _ _ h ht hp => exec_sbDispatch_pushed ht h hp,
   fun _ _ _ _ _ _ _ h ht hp => exec_sbDispatch_refused ht h hp,
   fun _ _ _ _ _ _ _ h ht hg => exec_sbDmago_started ht h hg,
   fun _ _ _ _ _ _ _ h ht hc hm => exec_sbPost_sent ht h hc hm,
   fun _ _ _ _ _ _ h ht hc => exec_sbPost_refused ht h hc,
   fun _ _ _ _ _ _ h ht hb => exec_sbSignal_sets ht h hb,
   fun _ _ _ _ _ _ h ht hb => exec_sbSignal_clears ht h hb⟩

end Sys2Proof.Machine
end

section
/-! SUPPORT. What the host and faults do to engines, the relief of an engine, staged effects and front-end frames (06_shiftboss, R154, R156, R166, R167,
R170-R175): each command's effect in the state it belongs to. The model's readings behind them: log entries 16, 25, 26. -/
namespace Sys2Proof.Machine

/-! ## The page of an engine (R154, R171) -/

section
variable {s : State} {e : Nat}

theorem engIdle_iff : s.engIdle e = true ↔ s.sbState e = 0 ∨ s.sbState e = 5 := by
  simp only [State.engIdle, State.sbState, Bool.or_eq_true, beq_iff_eq]

/-- SB4 shadows in state 7 alone. -/
theorem sbShadows_of_state_ne (h : s.sbState e ≠ 7) : s.sbShadows e = false := by
  by_cases he : e = 4
  · subst he; exact Bool.and_eq_false_imp.mpr fun _ => beq_eq_false_iff_ne.mpr h
  · simp only [State.sbShadows, beq_eq_false_iff_ne.mpr he, Bool.false_and]

theorem sbShadows_of_idle (h : s.engIdle e = true) : s.sbShadows e = false :=
  sbShadows_of_state_ne (by have := engIdle_iff.mp h; omega)

theorem sbPageWrite_unshadowed {rule : State → Nat × State} (h : s.sbShadows e = false) : s.sbPageWrite e rule = rule s := by
  simp only [State.sbPageWrite, h, Bool.false_eq_true, if_false]

/-- A write of `SB_CTL` leaves `SB_STATUS`. -/
theorem sbState_setFld_ctl (f : Field) (v : Nat) : (s.setFld (Reg.SB_CTL e) f v).sbState e = s.sbState e :=
  congrArg (getF · Fld.SB_STATUS_STATE) (s.rd_setFld_other f v (by simp only [Reg.SB_STATUS, Reg.SB_CTL]; omega))

theorem engIdle_setFld_ctl (f : Field) (v : Nat) : (s.setFld (Reg.SB_CTL e) f v).engIdle e = s.engIdle e :=
  Bool.eq_iff_iff.mpr (by rw [engIdle_iff, engIdle_iff, sbState_setFld_ctl])

end

/-! ## RUN and RESTART (R171, R175) -/

/-- The words of `SB_CTL` that the two commands write: `RUN`, and `RESTART` with it. -/
theorem getF_ctlRun_run (run : Bool) : getF (setF 0 Fld.SB_CTL_RUN (b2n run)) Fld.SB_CTL_RUN = b2n run := by cases run <;> decide
theorem getF_ctlRun_restart (run : Bool) : getF (setF 0 Fld.SB_CTL_RUN (b2n run)) Fld.SB_CTL_RESTART = 0 := by cases run <;> decide
theorem getF_ctlRestart_run (run : Bool) : getF (setF (setF 0 Fld.SB_CTL_RUN (b2n run)) Fld.SB_CTL_RESTART 1) Fld.SB_CTL_RUN = b2n run := by
  cases run <;> decide
theorem getF_ctlRestart_restart (w : Word) : getF (setF w Fld.SB_CTL_RESTART 1) Fld.SB_CTL_RESTART = 1 := getF_setF_same _ _ _ (by decide)

section
variable {s t : State} {e : Nat} {v : Word} (h0 : getF v Fld.SB_CTL_RESTART = 0)
include h0

/-- `RUN` = 1 runs an idle engine that is no heir. -/
theorem sbCtlWrite_run (h1 : getF v Fld.SB_CTL_RUN = 1) (hi : s.engIdle e = true) (hh : e ≠ 4 ∨ s.sb.heir = none) :
    sbCtlWrite e v s = (0, (s.setFld (Reg.SB_CTL e) Fld.SB_CTL_RUN 1).setSb e 1) := by
  have hidle : (s.setFld (Reg.SB_CTL e) Fld.SB_CTL_RUN 1).engIdle e = true := (engIdle_setFld_ctl _ _).trans hi
  simp only [sbCtlWrite, h1, h0, Nat.zero_ne_one, false_and, if_false, if_true, hidle]
  split
  · next k hk => rw [if_neg (hh.resolve_right (fun hn => Option.some_ne_none k (hk.symm.trans hn)))]
  · rfl

/-- `RUN` = 1 runs SB4 as the heir of a faulted engine's role. -/
theorem sbCtlWrite_run_heir {k : Nat} (h1 : getF v Fld.SB_CTL_RUN = 1) (hi : s.engIdle 4 = true) (hh : s.sb.heir = some k) :
    sbCtlWrite 4 v s = (0, ((s.setFld (Reg.SB_CTL 4) Fld.SB_CTL_RUN 1).setSb 4 1).sbTaken k) := by
  have hidle : (s.setFld (Reg.SB_CTL 4) Fld.SB_CTL_RUN 1).engIdle 4 = true := (engIdle_setFld_ctl _ _).trans hi
  have hheir : ((s.setFld (Reg.SB_CTL 4) Fld.SB_CTL_RUN 1).setSb 4 1).sb.heir = some k := hh
  simp only [sbCtlWrite, h1, h0, Nat.zero_ne_one, false_and, if_false, if_true, hidle, hheir]

/-- `RUN` = 0 halts an engine that runs or waits. -/
theorem sbCtlWrite_stop (hr : getF v Fld.SB_CTL_RUN = 0) (h1 : 1 ≤ s.sbState e) (h4 : s.sbState e ≤ 4)
    (ht : s.setFld (Reg.SB_CTL e) Fld.SB_CTL_RUN 0 = t) :
    sbCtlWrite e v s = (0, (t.setSb e 0).setEng e { t.eng e with wait := .none }) := by
  have hst : t.sbState e = s.sbState e := ht ▸ sbState_setFld_ctl _ _
  simp only [sbCtlWrite, hr, h0, Nat.zero_ne_one, false_and, if_false, ht, hst, h1, h4, and_self, if_true]

/-- `RESTART` puts an idle engine at its entry, halted without a fault, where the write without it then finds it. -/
theorem sbCtlWrite_restart {v' : Word} (h1 : getF v' Fld.SB_CTL_RESTART = 1) (hrun : getF v' Fld.SB_CTL_RUN = getF v Fld.SB_CTL_RUN)
    (hi : s.engIdle e = true) (ht : (s.toEntry e).setC e false = t) :
    sbCtlWrite e v' s =
      sbCtlWrite e v (t.wr (Reg.SB_STATUS e) (setF (setF (t.rd (Reg.SB_STATUS e)) Fld.SB_STATUS_FAULT 0) Fld.SB_STATUS_STATE 0)) := by
  simp only [sbCtlWrite, h1, hrun, h0, hi, ht, Bool.not_true, Bool.false_eq_true, Nat.zero_ne_one, and_false, false_and, if_false, if_true]

end

theorem sbCtlWrite_restart_busy {s : State} {e : Nat} (w : Word) (hi : s.engIdle e = false) : sbCtlWrite e (setF w Fld.SB_CTL_RESTART 1) s = (7, s) :=
  if_pos ⟨getF_ctlRestart_restart w, by simp only [hi, Bool.not_false]⟩

section
variable {s t u : State} {r : Req}

/-- A granted write into the page of an engine that does not shadow runs its rule. -/
theorem finish_writePage {a e c : Nat} {rule : State → Nat × State} (hg : s.grants r a) (hs : s.sbShadows e = false)
    (h : rule (s.entering r) = (c, t)) : finish (s.writeBy r a (fun x => x.sbPageWrite e rule)) = .next (State.endCycle (t.answer r c 0)) :=
  finish_writeBy hg ((sbPageWrite_unshadowed (s := s.entering r) hs).trans h)

/-- A granted write into SB4's page while it shadows is discarded. -/
theorem finish_writePage_shadowed {a e : Nat} {rule : State → Nat × State} (hg : s.grants r a) (hs : s.sbShadows e = true) :
    finish (s.writeBy r a (fun x => x.sbPageWrite e rule)) = .next (State.endCycle ((s.entering r).answer r 0 0)) :=
  finish_writeBy hg (if_pos (show (s.entering r).sbShadows e = true from hs))

theorem exec_restart_idle {e : Fin 5} (hg : s.grants r (Reg.SB_CTL e)) (hi : s.engIdle e = true) (hh : e ≠ 4 ∨ s.sb.heir = none)
    (ht : ((s.entering r).toEntry e).setC e false = t)
    (hu : (t.wr (Reg.SB_STATUS e) (setF (setF (t.rd (Reg.SB_STATUS e)) Fld.SB_STATUS_FAULT 0) Fld.SB_STATUS_STATE 0)).setFld (Reg.SB_CTL e)
      Fld.SB_CTL_RUN 1 = u) (hui : u.engIdle e = true) :
    exec (.restart r e true) s = .next (State.endCycle ((u.setSb e 1).answer r 0 0)) := by
  subst ht hu
  rw [engIdle_setFld_ctl] at hui
  refine finish_writePage hg (sbShadows_of_idle hi) ((sbCtlWrite_restart (s := s.entering r) (getF_ctlRun_restart true) (getF_ctlRestart_restart _)
    ((getF_ctlRestart_run true).trans (getF_ctlRun_run true).symm) hi rfl).trans ?_)
  exact sbCtlWrite_run (getF_ctlRun_restart true) (getF_ctlRun_run true) hui (hh.imp_left (fun hne h4 => hne (Fin.ext h4)))

/-! ## Engine faults (R170, R174) -/

section
variable {e : Fin 5} (hclk : s.clkOn Fld.SYS_CLK_STATUS_FCLK = true)
include hclk

/-- An uncorrectable error or a parity error of a running engine: SB4 takes over from its target, any other stops. -/
theorem exec_engineFault_hard {par : Bool} (h1 : 1 ≤ s.sbState e) (h4 : s.sbState e ≤ 4) :
    exec (.engineFault e (some par)) s =
      .next (State.endCycle (if s.sbSynced && s.sbTarget == some e.val then s.sbTakeover e else s.sbFault e (if par then 5 else 4))) :=
  finish_congr (by simp only [hclk, h1, h4, and_self, decide_true, Bool.not_true, Bool.false_eq_true, if_false, if_true])

theorem exec_engineFault_beyond (h1 : s.sbState e = 1) (hw : s.sbWord e = none) :
    exec (.engineFault e none) s = .next (State.endCycle (s.sbFault e 6)) :=
  finish_congr (by simp only [hclk, h1, hw, ne_eq, not_true_eq_false, Bool.not_true, Bool.false_eq_true, if_false])

theorem exec_engineFault_illegal {w : Nat} (h1 : s.sbState e = 1) (hw : s.sbWord e = some w) (hl : sbLegal w = false) :
    exec (.engineFault e none) s = .next (State.endCycle (s.sbFault e 1)) :=
  finish_congr (by simp only [hclk, h1, hw, hl, ne_eq, not_true_eq_false, Bool.not_true, Bool.false_eq_true, if_false])

end

/-! ## Relief (R173-R175) -/

/-- The word of `SB_RELIEF` that names a target alone, and the one that retires. -/
theorem getF_reliefTarget_target (n : BitVec 4) :
    getF (setF (setF 0 Fld.SB_RELIEF_TARGET n.toNat) Fld.SB_RELIEF_MISMATCH (b2n false)) Fld.SB_RELIEF_TARGET = n.toNat := by
  rw [getF_setF_other _ _ _ _ (by decide) (by decide), getF_setF_same _ _ _ (by decide)]
  exact Nat.mod_eq_of_lt n.isLt
theorem getF_reliefTarget_mismatch (w : Word) : getF (setF w Fld.SB_RELIEF_MISMATCH (b2n false)) Fld.SB_RELIEF_MISMATCH = 0 :=
  getF_setF_same _ _ _ (by decide)
theorem getF_reliefTarget_retire (n : Nat) :
    getF (setF (setF 0 Fld.SB_RELIEF_TARGET n) Fld.SB_RELIEF_MISMATCH (b2n false)) Fld.SB_RELIEF_RETIRE = 0 := by
  rw [getF_setF_other _ _ _ _ (by decide) (by decide), getF_setF_other _ _ _ _ (by decide) (by decide)]
  decide
theorem getF_reliefRetire_retire : getF (setF 0 Fld.SB_RELIEF_RETIRE 1) Fld.SB_RELIEF_RETIRE = 1 := by decide
theorem getF_reliefRetire_mismatch : getF (setF 0 Fld.SB_RELIEF_RETIRE 1) Fld.SB_RELIEF_MISMATCH = 0 := by decide

section
variable {target : BitVec 4} {e : Nat} (hk : s.bit Reg.SB_RELIEF Fld.SB_RELIEF_TAKEN = false)
  (hu : s.sbUnshadow.setFld Reg.SB_RELIEF Fld.SB_RELIEF_TARGET target.toNat = u) (ht : { u with sb := { u.sb with heir := none } } = t)
  (he : t.sbTarget = some e) {v : Word} (hn : getF v Fld.SB_RELIEF_TARGET = target.toNat) (hm : getF v Fld.SB_RELIEF_MISMATCH = 0)
  (hr : getF v Fld.SB_RELIEF_RETIRE = 0)
include hk hu ht he hn hm hr

/-- A target that has not faulted starts synchronization. -/
theorem sbReliefWrite_syncs (h5 : t.sbState e ≠ 5) :
    sbReliefWrite v s = (0, { t with sb := { t.sb with syncing := true } }) := by
  subst ht
  simp only [sbReliefWrite, hn, hm, hr, Nat.zero_ne_one, if_false, hk, Bool.false_eq_true, hu, he, h5]

/-- A faulted target gives SB4 its banks, and an heir. -/
theorem sbReliefWrite_inherits {x : State} (h5 : t.sbState e = 5)
    (hv : ((((t.sbCopyBanks e).setFld (Reg.SB_STATUS 4) Fld.SB_STATUS_ABANK (t.sbActive e)).toEntry 4).setSb 4 0).setFld (Reg.SB_CTL 4)
      Fld.SB_CTL_RUN 0 = x) :
    sbReliefWrite v s = (0, { x with sb := { x.sb with heir := some e } }) := by
  subst ht
  simp only [sbReliefWrite, hn, hm, hr, Nat.zero_ne_one, if_false, if_true, hk, Bool.false_eq_true, hu, he, h5, hv]

end

/-- `RETIRE` hands a synchronized role over. -/
theorem sbReliefWrite_retire {e : Nat} (he : s.sbTarget = some e) (hs : s.sbSynced = true) :
    sbReliefWrite (setF 0 Fld.SB_RELIEF_RETIRE 1) s = (0, s.sbTakeover e) := by
  simp only [sbReliefWrite, getF_reliefRetire_retire, getF_reliefRetire_mismatch, he, hs, Nat.zero_ne_one, if_false, if_true]

/-- `RETIRE` without a synchronized role is refused, whether a target is named or not. -/
theorem sbReliefWrite_retire_busy (hs : s.sbSynced = false) : sbReliefWrite (setF 0 Fld.SB_RELIEF_RETIRE 1) s = (7, s) := by
  simp only [sbReliefWrite, getF_reliefRetire_retire, hs, Bool.false_eq_true, if_false, if_true]
  split <;> rfl

theorem exec_reliefSynced_stopped {e : Nat} (he : s.sbTarget = some e) (hs : s.sb.syncing = true) (hclk : s.clkOn Fld.SYS_CLK_STATUS_FCLK = true)
    (hst : s.sbState e = 0 ∨ (2 ≤ s.sbState e ∧ s.sbState e ≤ 4)) (ht : (s.sbCopyBanks e).sbCopyRegs e = t)
    (hu : ((t.setEng 4 { t.eng 4 with wait := .none, staged := [] }).setSb 4 7).setFld Reg.SB_RELIEF Fld.SB_RELIEF_SYNCED 1 = u) :
    exec .reliefSynced s = .next (State.endCycle (({ u with sb := { u.sb with syncing := false } } : State).raise 0xA009 4)) :=
  have hgo : (s.sb.syncing && s.clkOn Fld.SYS_CLK_STATUS_FCLK && (s.sbState e == 0 || decide (2 ≤ s.sbState e ∧ s.sbState e ≤ 4))) = true := by
    simpa [hs, hclk] using hst
  finish_congr (by simp only [he, hgo, ht, hu, if_true])

/-! ## Staged effects and front-end frames (R156, R162, R167) -/

/-- The group whose effect cycle has come takes effect in order. -/
theorem exec_stagedEffect_due {e : Fin 5} {d : Nat} (hf : firstDue (s.eng e).staged = some d) (hd : d ≤ s.fcyc)
    (hclk : s.clkOn Fld.SYS_CLK_STATUS_FCLK = true) (ht : s.setEng e { s.eng e with staged := (s.eng e).staged.filter (fun y => y.due != d) } = t) :
    exec (.stagedEffect e false) s =
      .next (State.endCycle ((((s.eng e).staged.filter (fun y => y.due == d)).foldl (fun (t : State) y => t.sbEffect (t.sbActor e) y) t).setsWin.pmuCount (35 + e) 4
        ((s.eng e).staged.filter (fun y => y.due == d)).length)) :=
  finish_congr (by
    simp only [hf, hclk, ht, Nat.not_lt.mpr hd, Bool.not_true, Bool.false_eq_true, or_self, if_false, State.sbCompared, Bool.false_and])

theorem exec_fespiFrameEnd_due {p : Fin 4} {sdi : BitVec 64} {f : FeFrame} {rest : List FeFrame} (hf : s.feFrames p = f :: rest)
    (hclk : s.clkOn Fld.SYS_CLK_STATUS_FCLK = true) (hd : kvGet (fun _ => 0) s.sb.feAt p + f.nbits * s.fePeriod p ≤ s.fcyc)
    (ht : (s.setFe p rest (Nat.max s.fcyc (kvGet (fun _ => 0) s.sb.feAt p + f.nbits * s.fePeriod p) + 2 * s.fePeriod p)).emit
      (.fespi p f.nbits f.data) = t) :
    exec (.fespiFrameEnd p sdi) s =
      .next (State.endCycle (if f.r then (t.setG (s.sbActor f.eng) f.rb (sdi.toNat % 2 ^ f.nbits)).feRelease (s.sbActor f.eng) p else t)) :=
  finish_congr (by simp only [hf, hclk, ht, Nat.not_lt.mpr hd, Bool.not_true, Bool.false_eq_true, or_self, if_false])

end

/-- Settles O18: each command's hypotheses name one case of its meaning; the accesses are granted writes, into pages of engines that do not shadow. -/
theorem engineControlAndReliefTakeEffect : Obligations.EngineControlAndReliefTakeEffect :=
  ⟨fun _ _ _ hg hi hh => finish_writePage hg (sbShadows_of_idle hi) (sbCtlWrite_run (getF_ctlRun_restart true) (getF_ctlRun_run true) hi
    (hh.imp_left (fun hne h4 => hne (Fin.ext h4)))),
   fun _ _ _ hg hi hh => finish_writePage hg (sbShadows_of_idle hi) (sbCtlWrite_run_heir (getF_ctlRun_restart true) (getF_ctlRun_run true) hi hh),
   fun _ _ _ _ hg h1 h4 ht => finish_writePage hg (sbShadows_of_state_ne (by omega)) (sbCtlWrite_stop (getF_ctlRun_restart false) (getF_ctlRun_run false) h1 h4 ht),
   fun _ _ _ _ _ => exec_restart_idle,
   fun _ _ _ _ hg hs hi => finish_writePage hg hs (sbCtlWrite_restart_busy _ hi),
   fun _ _ _ _ hg hs => finish_writePage hg hs rfl,
   fun _ _ _ _ hg hs => finish_writePage hg hs rfl,
   fun _ _ _ hg hs => ⟨finish_writePage_shadowed hg hs, finish_writePage_shadowed hg hs⟩,
   fun _ _ _ hg => finish_writeBy hg rfl,
   fun _ _ _ hclk => exec_engineFault_hard hclk,
   fun _ _ hclk => exec_engineFault_beyond hclk,
   fun _ _ _ hclk => exec_engineFault_illegal hclk,
   fun s _ _ r _ _ hg hk hu ht he h5 => finish_writeBy hg (sbReliefWrite_syncs (s := s.entering r) hk hu ht he (getF_reliefTarget_target _)
    (getF_reliefTarget_mismatch _) (getF_reliefTarget_retire _) h5),
   fun s _ _ _ r _ _ hg hk hu ht he h5 hv => finish_writeBy hg (sbReliefWrite_inherits (s := s.entering r) hk hu ht he (getF_reliefTarget_target _)
    (getF_reliefTarget_mismatch _) (getF_reliefTarget_retire _) h5 hv),
   fun _ _ _ hg he hs => finish_writeBy hg (sbReliefWrite_retire he hs),
   fun _ _ hg hs => finish_writeBy hg (sbReliefWrite_retire_busy hs),
   fun _ _ _ _ => exec_reliefSynced_stopped,
   fun _ _ _ _ => exec_stagedEffect_due,
   fun _ _ _ _ _ _ => exec_fespiFrameEnd_due⟩

end Sys2Proof.Machine
end

section
/-! SUPPORT. Double-banked resources (06_shiftboss, 09_beams, 10_linearization; R151, R153, R163, R240-R246, R260, R525): swap requests, role changes, old
banks, and the arms, commits, flips and misses of computed sets, each in the state it belongs to. The model's readings behind them: log entry 44. -/
namespace Sys2Proof.Machine

/-! ## Role changes and old banks (R153, R246, R525) -/

section
variable {s : State} {res : Fin 7} {idx : Fin 128} {w : SwapPend} (hf : s.findSwap res idx = some w) (hb : w.bound - roleLead w.res ≤ s.nowTh)
include hf hb

theorem exec_bankSwap_changes (hd : w.deferred = false) (hdma : s.swapDma w.res w.idx = false) :
    exec (.bankSwap res idx) s = .next (State.endCycle (s.roleChange w)) :=
  finish_congr (by simp only [hf, hd, hdma, Int.not_lt.mpr hb, decide_false, Bool.or_self, Bool.false_eq_true, if_false])

theorem exec_bankSwap_defers (hd : w.deferred = false) (hdma : s.swapDma w.res w.idx = true) :
    exec (.bankSwap res idx) s = .next (State.endCycle (s.deferSwap w)) :=
  finish_congr (by simp only [hf, hd, hdma, Int.not_lt.mpr hb, decide_false, Bool.or_self, Bool.false_eq_true, if_false, if_true])

theorem exec_swapDeferRetry_due (hd : w.deferred = true) :
    exec (.swapDeferRetry res idx) s =
      .next (State.endCycle (if s.swapDma w.res w.idx then s.moveSwap w { w with bound := w.bound + thUs 1 } else s.roleChange w)) :=
  finish_congr (by simp only [hf, hd, Int.not_lt.mpr hb, decide_false, Bool.not_true, Bool.or_self, Bool.false_eq_true, if_false])

end

theorem exec_oldBankRelease_handle {s : State} {res : Fin 7} {h : Fin 256} (hr : res.val = 1 ∨ res.val = 2)
    (hb : s.bit (Reg.BEAM_CW_STAT (res.val - 1) h) Fld.BEAM_CW_STAT_OLD_BUSY = true) (hu : (s.cw (res.val - 1) h).oldUntil ≤ s.nowTh) :
    exec (.oldBankRelease res h) s = .next (State.endCycle (s.setFld (Reg.BEAM_CW_STAT (res.val - 1) h) Fld.BEAM_CW_STAT_OLD_BUSY 0)) :=
  finish_congr (by simp only [hr, hb, hu, decide_true, Bool.and_self, if_true])

/-- The only old bank of the device is released at its end. -/
theorem exec_oldBankRelease_only {s : State} {res : Fin 7} {idx : Fin 256} {o : OldBank} (h1 : res.val ≠ 1) (h2 : res.val ≠ 2) (ho : s.olds = [o])
    (hr : o.res = res.val) (hi : o.idx = idx.val) (hu : o.until_ ≤ s.nowTh) :
    exec (.oldBankRelease res idx) s = .next (State.endCycle (({ s with olds := [] } : State).showOld res idx false)) :=
  finish_congr (by simp [h1, h2, ho, hr, hi, hu])

/-! ## Swap requests (R151, R163, R245, R260) -/

section
variable {s t u : State} {v : Word}

/-- `REQ` for a resource of `BEAM_SWAPREQ` passes its test. -/
theorem beamSwapreq_requests (hq : getF v Fld.BEAM_SWAPREQ_REQ = 1) (hr : getF v Fld.BEAM_SWAPREQ_RES ∈ [1, 2, 4, 5, 6]) :
    ¬(getF v Fld.BEAM_SWAPREQ_REQ = 0 ∨ ¬(getF v Fld.BEAM_SWAPREQ_RES = 1 ∨ getF v Fld.BEAM_SWAPREQ_RES = 2 ∨ getF v Fld.BEAM_SWAPREQ_RES = 4 ∨
      getF v Fld.BEAM_SWAPREQ_RES = 5 ∨ getF v Fld.BEAM_SWAPREQ_RES = 6)) := by
  simp only [List.mem_cons, List.not_mem_nil, or_false] at hr
  omega

section
variable (hq : getF v Fld.BEAM_SWAPREQ_REQ = 1) (hr : getF v Fld.BEAM_SWAPREQ_RES ∈ [1, 2, 4, 5, 6]) (ht : s.plainWrite Reg.BEAM_SWAPREQ v = t)
include hq hr ht

theorem beamSwapreqWrite_accepted
    (hs : t.requestSwap (getF v Fld.BEAM_SWAPREQ_RES) (getF v Fld.BEAM_SWAPREQ_IDX) (getF v Fld.BEAM_SWAPREQ_BND) (getF v Fld.BEAM_SWAPREQ_CARRIER)
      (t.rd64 Reg.BEAM_SWAPT) t.nowTh none = (0, u)) : beamSwapreqWrite v s = (0, u) := by
  simp only [beamSwapreqWrite, ht, beamSwapreq_requests hq hr, if_false, hs]

/-- A refused request takes back the whole write but its event. -/
theorem beamSwapreqWrite_refused {code : Nat} (hc : code ≠ 0)
    (hs : t.requestSwap (getF v Fld.BEAM_SWAPREQ_RES) (getF v Fld.BEAM_SWAPREQ_IDX) (getF v Fld.BEAM_SWAPREQ_BND) (getF v Fld.BEAM_SWAPREQ_CARRIER)
      (t.rd64 Reg.BEAM_SWAPT) t.nowTh none = (code, u)) : beamSwapreqWrite v s = (code, s.swapRefused none) := by
  obtain ⟨n, rfl⟩ := Nat.exists_eq_succ_of_ne_zero hc
  simp only [beamSwapreqWrite, ht, beamSwapreq_requests hq hr, if_false, hs]

end

theorem dpdSwapreqWrite_accepted (hq : getF v Fld.DPD_SWAPREQ_REQ = 1) (ht : s.plainWrite Reg.DPD_SWAPREQ v = t)
    (hs : t.requestSwap 3 (getF v Fld.DPD_SWAPREQ_IDX) (getF v Fld.DPD_SWAPREQ_BND) (getF v Fld.DPD_SWAPREQ_CARRIER) (t.rd64 Reg.DPD_SWAPT) t.nowTh
      none = (0, u)) : dpdSwapreqWrite v s = (0, u) := by
  simp only [dpdSwapreqWrite, ht, hq, Nat.one_ne_zero, if_false, hs]

theorem sbSwapreqWrite_accepted {e : Nat} (hq : getF v Fld.SB_SWAPREQ_REQ = 1) (ht : s.plainWrite (Reg.SB_SWAPREQ e) v = t)
    (hs : t.requestSwap 0 e (getF v Fld.SB_SWAPREQ_BND) (getF v Fld.SB_SWAPREQ_CARRIER) (t.rd64 (Reg.SB_SWAPT e)) t.nowTh none = (0, u)) :
    sbSwapreqWrite e v s = (0, u) := by
  simp only [sbSwapreqWrite, ht, hq, Nat.one_ne_zero, if_false, hs]

end

/-! ## Arms, cancels and commits (R240, R241, R243) -/

/-- Storing the value that a field has changes nothing. -/
theorem setF_eq_self {w : Word} {f : Field} {n : Nat} (h : getF w f = n) : setF w f n = w := by
  subst h
  refine BitVec.eq_of_getLsbD_eq fun i _ => ?_
  rw [setF_getF_getLsbD, ite_self]

section
variable {s t : State} {v : Word} {tw : Th} {dir h : Nat}

/-- An ARM stores the symbol and its next boundary beyond the lead. -/
theorem cwArmWrite_arms {f : Th} (hc : getF v Fld.BEAM_CW_ARM_CANCEL = 0) (hdir : dir = getF v Fld.BEAM_CW_ARM_DIR)
    (hh : h = getF v Fld.BEAM_CW_ARM_HANDLE) (ht : s.cwMiss dir h tw = t) (hp : t.swapPending (dir + 1) 0 = false)
    (hslot : getF v Fld.BEAM_CW_ARM_SLOT < t.carSlots (getF v Fld.BEAM_CW_ARM_CARRIER)) (hsym : getF v Fld.BEAM_CW_ARM_SYMBOL ≤ 13)
    (hf : f = (tw + cwLead dir + 19660800 * 100000 -
      t.airTime (getF v Fld.BEAM_CW_ARM_CARRIER) 0 (getF v Fld.BEAM_CW_ARM_SLOT * 14 + getF v Fld.BEAM_CW_ARM_SYMBOL)) / (19660800 * 100000)) :
    cwArmWrite v tw s = (0, (t.wr (Reg.BEAM_CW_STAT dir h)
        (setF (setF (setF (setF (t.rd (Reg.BEAM_CW_STAT dir h)) Fld.BEAM_CW_STAT_ARMED 1) Fld.BEAM_CW_STAT_ACAR (getF v Fld.BEAM_CW_ARM_CARRIER))
          Fld.BEAM_CW_STAT_ASLOT (getF v Fld.BEAM_CW_ARM_SLOT)) Fld.BEAM_CW_STAT_ASYM (getF v Fld.BEAM_CW_ARM_SYMBOL))).setCw dir h
      { t.cw dir h with armB := t.airTime (getF v Fld.BEAM_CW_ARM_CARRIER) f (getF v Fld.BEAM_CW_ARM_SLOT * 14 + getF v Fld.BEAM_CW_ARM_SYMBOL) }) := by
  have hfits : ¬(t.carSlots (getF v Fld.BEAM_CW_ARM_CARRIER) ≤ getF v Fld.BEAM_CW_ARM_SLOT ∨ 13 < getF v Fld.BEAM_CW_ARM_SYMBOL) := by omega
  simp only [cwArmWrite, hc, ← hdir, ← hh, ht, hp, hfits, ← hf, Nat.zero_ne_one, Bool.false_eq_true, if_false]

/-- A CANCEL clears the arm, the commit and the flip of its handle. -/
theorem cwArmWrite_cancels (hc : getF v Fld.BEAM_CW_ARM_CANCEL = 1) (hdir : dir = getF v Fld.BEAM_CW_ARM_DIR) (hh : h = getF v Fld.BEAM_CW_ARM_HANDLE)
    (ht : s.cwMiss dir h tw = t) :
    cwArmWrite v tw s = (0, (t.wr (Reg.BEAM_CW_STAT dir h)
        (setF (setF (t.rd (Reg.BEAM_CW_STAT dir h)) Fld.BEAM_CW_STAT_ARMED 0) Fld.BEAM_CW_STAT_COMMITTED 0)).setCw dir h
      { t.cw dir h with flipB := none }) := by
  simp only [cwArmWrite, hc, ← hdir, ← hh, ht, if_true]

/-- A first COMMIT fixes the boundary of the flip: the armed one, else the next of the copy's carrier beyond the lead. -/
theorem cwCommitWrite_commits (hdir : dir = getF v Fld.BEAM_CW_COMMIT_DIR) (hh : h = getF v Fld.BEAM_CW_COMMIT_HANDLE) (ht : s.cwMiss dir h tw = t)
    (hc : getF (t.rd (Reg.BEAM_CW_STAT dir h)) Fld.BEAM_CW_STAT_COMMITTED = 0) (hp : t.swapPending (dir + 1) 0 = false) :
    cwCommitWrite v tw s = (0, (t.wr (Reg.BEAM_CW_STAT dir h) (setF (t.rd (Reg.BEAM_CW_STAT dir h)) Fld.BEAM_CW_STAT_COMMITTED 1)).setCw dir h
      { t.cw dir h with
        flipB := some (if getF (t.rd (Reg.BEAM_CW_STAT dir h)) Fld.BEAM_CW_STAT_ARMED = 1 then (t.cw dir h).armB
          else t.boundaryFrom (t.dirEntry dir (1 - getF (t.rd (Reg.BEAM_CW_STAT dir h)) Fld.BEAM_CW_STAT_A) h).carrier false (tw + cwLead dir)),
        flipCar := if getF (t.rd (Reg.BEAM_CW_STAT dir h)) Fld.BEAM_CW_STAT_ARMED = 1 then getF (t.rd (Reg.BEAM_CW_STAT dir h)) Fld.BEAM_CW_STAT_ACAR
          else (t.dirEntry dir (1 - getF (t.rd (Reg.BEAM_CW_STAT dir h)) Fld.BEAM_CW_STAT_A) h).carrier }) := by
  simp only [cwCommitWrite, ← hdir, ← hh, ht, hc, hp, Nat.zero_ne_one, Bool.false_eq_true, if_false]
  by_cases harm : getF (t.rd (Reg.BEAM_CW_STAT dir h)) Fld.BEAM_CW_STAT_ARMED = 1
  · simp only [harm, if_true]
  · simp only [harm, if_false]

end

/-! ## Flips and misses (R241, R242, R244) -/

section
variable {s : State} {dir : Fin 2} {h : Fin 256}

theorem exec_cwFlip_flips {b : Th} (hb : (s.cw dir h).flipB = some b) (hd : b - cwLead dir ≤ s.nowTh)
    (hdma : s.copyDma dir (1 - s.fld (Reg.BEAM_CW_STAT dir h) Fld.BEAM_CW_STAT_A) h = false) :
    exec (.cwFlip dir h) s = .next (State.endCycle (s.flipHandle dir h b).restartSync) :=
  finish_congr (by simp only [hb, hdma, Int.not_lt.mpr hd, Bool.false_eq_true, if_false])

/-- A transfer that still writes the copy moves the flip to the next boundary of the planned carrier (R244). -/
theorem exec_cwFlip_defers {b : Th} (hb : (s.cw dir h).flipB = some b) (hd : b - cwLead dir ≤ s.nowTh)
    (hdma : s.copyDma dir (1 - s.fld (Reg.BEAM_CW_STAT dir h) Fld.BEAM_CW_STAT_A) h = true) :
    exec (.cwFlip dir h) s =
      .next (State.endCycle ((((s.setFld (Reg.BEAM_CW_STAT dir h) Fld.BEAM_CW_STAT_STALE 1).setCw dir h
        { s.cw dir h with
          flipB := some (s.nextBoundary (s.cw dir h).flipCar false (if s.nowTh + cwLead dir ≤ b then b else s.nowTh + cwLead dir - 1)),
          staleB := if s.bit (Reg.BEAM_CW_STAT dir h) Fld.BEAM_CW_STAT_STALE then (s.cw dir h).staleB else b }).count
          Reg.BEAM_CW_DEFER_CNT).raise 0x4035 h)) :=
  finish_congr (by simp only [hb, hdma, Int.not_lt.mpr hd, if_false, if_true])

/-- A deadline that has passed without a commit is a miss. -/
theorem exec_cwMiss_missed {w : Word} (hw : s.rd (Reg.BEAM_CW_STAT dir h) = w) (ha : getF w Fld.BEAM_CW_STAT_ARMED = 1)
    (hc : getF w Fld.BEAM_CW_STAT_COMMITTED = 0) (hd : (s.cw dir h).armB - cwLead dir < s.nowTh) :
    exec (.cwMiss dir h) s =
      .next (State.endCycle ((((s.wr (Reg.BEAM_CW_STAT dir h) (setF (setF w Fld.BEAM_CW_STAT_ARMED 0) Fld.BEAM_CW_STAT_STALE 1)).setCw dir h
        { s.cw dir h with staleB := if getF w Fld.BEAM_CW_STAT_STALE = 1 then (s.cw dir h).staleB else (s.cw dir h).armB }).count
          Reg.BEAM_CW_MISS_CNT).raiseLim 10 0x4030 h)) :=
  finish_congr (by
    simp only [State.cwMiss, hw, ha, hc, Int.not_le.mpr hd, Nat.one_ne_zero, Nat.zero_ne_one, or_self, if_false])

end

/-- Settles O11: each command's hypotheses name one case of its meaning; the accesses are granted writes, and an ARM's word has `CANCEL` clear. -/
theorem bankSwapsTakeEffect : Obligations.BankSwapsTakeEffect :=
  ⟨fun _ _ _ _ _ hf hd hb hdma hu => by subst hu; exact exec_bankSwap_changes hf hb hd hdma,
   fun _ _ _ _ hf hd hb hdma => exec_bankSwap_defers hf hb hd hdma,
   fun _ _ _ _ hf hd hb => exec_swapDeferRetry_due hf hb hd,
   fun _ _ _ => exec_oldBankRelease_handle,
   fun _ _ _ _ => exec_oldBankRelease_only,
   fun _ _ _ _ _ hg hq hr ht hs => finish_writeBy hg (beamSwapreqWrite_accepted hq hr ht hs),
   fun s _ _ r _ _ hg hq hr ht hc hs => finish_writeBy hg (beamSwapreqWrite_refused (s := s.entering r) hq hr ht hc hs),
   fun _ _ _ _ _ hg hq ht hs => finish_writeBy hg (dpdSwapreqWrite_accepted hq ht hs),
   fun _ _ _ _ _ _ hg hsh hq ht hs => finish_writePage hg hsh (sbSwapreqWrite_accepted hq ht hs),
   fun _ _ _ _ _ _ _ hg hc hdir hh ht hp hslot hsym hf =>
    finish_writeBy hg (by rw [setF_eq_self hc]; exact cwArmWrite_arms hc hdir hh ht hp hslot hsym hf),
   fun _ _ _ _ _ _ hg hdir hh ht => finish_writeBy hg (cwArmWrite_cancels (getF_setF_same _ _ _ (by decide))
    (hdir.trans (getF_setF_other _ _ _ _ (by decide) (by decide)).symm) (hh.trans (getF_setF_other _ _ _ _ (by decide) (by decide)).symm) ht),
   fun _ _ _ _ _ _ hg hdir hh ht hc hp => finish_writeBy hg (cwCommitWrite_commits hdir hh ht hc hp),
   fun _ _ _ _ => exec_cwFlip_flips,
   fun _ _ _ _ => exec_cwFlip_defers,
   fun _ _ _ _ => exec_cwMiss_missed⟩

end Sys2Proof.Machine
end

section
/-! SUPPORT. Carriers, mutes and path slices (07_transmit_path, R183, R184, R197, R199-R202, R219): each command's effect in the state it belongs to. The
model's readings behind them: log entries 9 and 41. -/
namespace Sys2Proof.Machine

/-! ## Status bits -/

theorem State.bit_eq_false_iff (s : State) (a : Nat) (f : Field) : s.bit a f = false ↔ getF (s.rd a) f = 0 := bne_eq_false_iff_eq

theorem State.bit_eq_true_iff (s : State) (a : Nat) (f : Field) : s.bit a f = true ↔ getF (s.rd a) f ≠ 0 := bne_iff_ne

/-! ## Mutes (R197) -/

theorem exec_hostMuteRampEnd_mutes {s : State} {path : Fin 64} {x : Ramp} (hx : s.ramp path = some x) (hf : x.falling = true)
    (h0 : rampLevel x s.nowTh = 0) : exec (.hostMuteRampEnd path) s = .next (State.endCycle (s.setMuted path true)) :=
  finish_congr (by simp only [hx, hf, h0, beq_self_eq_true, Bool.and_self, if_true])

/-! ## Targets and retirements of a slice relief (R199, R200) -/

section
variable {s t : State} {u : Nat} {v : Word}

/-- A target on a sound slice starts the synchronization of a spare that is neither used nor synchronizing (R199). -/
theorem sliceReliefWrite_starts {new : Nat} (hr : getF v Fld.TXDP_SLICE_RELIEF_RETIRE = 0) (hn : new = getF v Fld.TXDP_SLICE_RELIEF_TARGET)
    (h64 : new < 64) (htaken : s.bit (Reg.TXDP_SLICE_RELIEF u) Fld.TXDP_SLICE_RELIEF_TAKEN = false) (hx : s.sliceSync u = none)
    (hsynced : s.bit (Reg.TXDP_SLICE_RELIEF u) Fld.TXDP_SLICE_RELIEF_SYNCED = false)
    (hbusy : s.bit (Reg.TXDP_SLICE_RELIEF u) Fld.TXDP_SLICE_RELIEF_BUSY = false) (hbad : s.sliceBad (s.sliceOf new) = false)
    (ht : s.plainWrite (Reg.TXDP_SLICE_RELIEF u) v = t) :
    sliceReliefWrite u v s = (0, (t.wr (Reg.TXDP_SLICE_RELIEF u) (setF (setF (t.rd (Reg.TXDP_SLICE_RELIEF u)) Fld.TXDP_SLICE_RELIEF_SYNCED 0)
      Fld.TXDP_SLICE_RELIEF_BUSY 1)).setSliceSync u (some ⟨s.nowTh, s.nowTh, false⟩)) := by
  have htaken := (s.bit_eq_false_iff _ _).mp htaken
  have hsynced := (s.bit_eq_false_iff _ _).mp hsynced
  have hbusy := (s.bit_eq_false_iff _ _).mp hbusy
  simp [sliceReliefWrite, hr, ← hn, htaken, hsynced, hbusy, hx, ht, hbad, Nat.not_le.mpr h64]

/-- `RETIRE` hands the path to a synchronized spare of the same target (R200). -/
theorem sliceReliefWrite_retires (hr : getF v Fld.TXDP_SLICE_RELIEF_RETIRE = 1)
    (hsynced : s.bit (Reg.TXDP_SLICE_RELIEF u) Fld.TXDP_SLICE_RELIEF_SYNCED = true)
    (htarget : getF v Fld.TXDP_SLICE_RELIEF_TARGET = s.fld (Reg.TXDP_SLICE_RELIEF u) Fld.TXDP_SLICE_RELIEF_TARGET) :
    sliceReliefWrite u v s = (0, (s.plainWrite (Reg.TXDP_SLICE_RELIEF u) v).takeOver u
      (s.fld (Reg.TXDP_SLICE_RELIEF u) Fld.TXDP_SLICE_RELIEF_TARGET) (s.fld (Reg.TXDP_SLICE_RELIEF u) Fld.TXDP_SLICE_RELIEF_SPARE)) := by
  have hsynced := (s.bit_eq_true_iff _ _).mp hsynced
  have hok : ¬(getF (s.rd (Reg.TXDP_SLICE_RELIEF u)) Fld.TXDP_SLICE_RELIEF_SYNCED = 0 ∨
      getF v Fld.TXDP_SLICE_RELIEF_TARGET ≠ getF (s.rd (Reg.TXDP_SLICE_RELIEF u)) Fld.TXDP_SLICE_RELIEF_TARGET) :=
    not_or.mpr ⟨hsynced, not_not_intro htarget⟩
  exact (if_pos hr).trans (if_neg hok)

end

/-! ## Synchronization (R199) -/

section
variable {s : State} {u : Fin 2} {x : SliceSync} {w : Word} (hx : s.sliceSync u = some x) (hf : x.faulted = false)
  (hw : s.rd (Reg.TXDP_SLICE_RELIEF u) = w)
include hx hf hw

theorem exec_sliceSynced_matches (h0 : getF w Fld.TXDP_SLICE_RELIEF_SYNCED = 0) (hon : (List.range 8).any s.carEnabled = true)
    (htwo : s.twoBoundaries x.bounds = true) (hrun : x.at_ + syncRun ≤ s.nowTh) :
    exec (.sliceSynced u false) s =
      .next (State.endCycle ((s.wr (Reg.TXDP_SLICE_RELIEF u) (setF (setF w Fld.TXDP_SLICE_RELIEF_SYNCED 1) Fld.TXDP_SLICE_RELIEF_BUSY 0)).raise 0x4014
        (getF w Fld.TXDP_SLICE_RELIEF_TARGET))) :=
  finish_congr (by simp only [hx, hf, hw, h0, hon, htwo, Int.not_lt.mpr hrun, Nat.zero_ne_one, Bool.false_eq_true, Bool.not_true, false_and, or_self, if_false])

/-- A mismatch before `SYNCED` starts the run of matching samples again. -/
theorem exec_sliceSynced_restarts (h0 : getF w Fld.TXDP_SLICE_RELIEF_SYNCED = 0) :
    exec (.sliceSynced u true) s = .next (State.endCycle (s.setSliceSync u (some { x with at_ := s.nowTh }))) :=
  finish_congr (by simp only [hx, hf, hw, h0, Nat.zero_ne_one, Bool.false_eq_true, not_false_eq_true, and_self, if_false, if_true])

/-- A mismatch after `SYNCED` ends the shadowing. -/
theorem exec_sliceSynced_fails (h1 : getF w Fld.TXDP_SLICE_RELIEF_SYNCED = 1) :
    exec (.sliceSynced u true) s =
      .next (State.endCycle (((s.wr (Reg.TXDP_SLICE_RELIEF u)
        (setF (setF (setF w Fld.TXDP_SLICE_RELIEF_SYNCED 0) Fld.TXDP_SLICE_RELIEF_BUSY 0) Fld.TXDP_SLICE_RELIEF_MISMATCH 1)).setSliceSync u none).raise
        0x4016 (getF w Fld.TXDP_SLICE_RELIEF_TARGET))) :=
  finish_congr (by simp only [hx, hf, hw, h1, Bool.false_eq_true, not_true_eq_false, and_false, if_false, if_true])

end

/-! ## Slice faults (R200, R202, R219) -/

/-- A relief unit whose target is another path keeps its spare through the fault of a path. -/
theorem foldl_keeps_other_targets {t : State} {p : Nat} (ho : ∀ u ∈ [0, 1], t.fld (Reg.TXDP_SLICE_RELIEF u) Fld.TXDP_SLICE_RELIEF_TARGET ≠ p) :
    [0, 1].foldl (fun (x : State) u =>
      if x.fld (Reg.TXDP_SLICE_RELIEF u) Fld.TXDP_SLICE_RELIEF_TARGET = p ∧ !x.bit (Reg.TXDP_SLICE_RELIEF u) Fld.TXDP_SLICE_RELIEF_TAKEN then
        (x.setFld (Reg.TXDP_SLICE_RELIEF u) Fld.TXDP_SLICE_RELIEF_BUSY 0).setSliceSync u none else x) t = t := by
  have h0 := ho 0 (by decide)
  have h1 := ho 1 (by decide)
  simp only [List.foldl_cons, List.foldl_nil, h0, h1, false_and, if_false]

section
variable {s t : State} {slice : Fin 66} {p u : Nat} (hbad : s.sliceBad slice = false) (hclk : s.clkOn Fld.SYS_CLK_STATUS_FCLK = true)
  (hp : s.pathOf slice = some p)
include hbad hclk hp

theorem exec_sliceFault_relieved
    (hu : [0, 1].find? (fun u => s.bit (Reg.TXDP_SLICE_RELIEF u) Fld.TXDP_SLICE_RELIEF_SYNCED &&
      s.fld (Reg.TXDP_SLICE_RELIEF u) Fld.TXDP_SLICE_RELIEF_TARGET == p) = some u) :
    exec (.sliceFault slice) s = .next (State.endCycle (s.takeOver u p (s.fld (Reg.TXDP_SLICE_RELIEF u) Fld.TXDP_SLICE_RELIEF_SPARE))) :=
  finish_congr (by simp only [hbad, hclk, hp, hu, Bool.not_true, Bool.or_self, Bool.false_eq_true, if_false])

/-- Without a synchronized spare, and with no relief unit aimed at it, the path is muted. -/
theorem exec_sliceFault_mutes
    (hu : [0, 1].find? (fun u => s.bit (Reg.TXDP_SLICE_RELIEF u) Fld.TXDP_SLICE_RELIEF_SYNCED &&
      s.fld (Reg.TXDP_SLICE_RELIEF u) Fld.TXDP_SLICE_RELIEF_TARGET == p) = none)
    (ht : ((s.markSlice slice).setFld (Reg.RXDP_OVR p) Fld.RXDP_OVR_SLICE 1).setZero p 3 true (s.nowTh - thNs 1100) = t)
    (ho : ∀ u ∈ [0, 1], t.fld (Reg.TXDP_SLICE_RELIEF u) Fld.TXDP_SLICE_RELIEF_TARGET ≠ p) :
    exec (.sliceFault slice) s = .next (State.endCycle ((t.hwMute p Fld.TXDP_MUTE_SLICE).raise 0x4013 p)) :=
  finish_congr (by
    simp only [hbad, hclk, hp, hu, ht, Bool.not_true, Bool.or_self, Bool.false_eq_true, if_false]
    rw [foldl_keeps_other_targets ho])

end

theorem exec_sliceTaken_connected {s : State} {u : Fin 2} {x : SliceSync} {p : Nat} (hx : s.sliceSync u = some x) (hf : x.faulted = true)
    (htwo : s.twoBoundaries x.at_ = true) (hp : p = s.fld (Reg.TXDP_SLICE_RELIEF u) Fld.TXDP_SLICE_RELIEF_TARGET) :
    exec (.sliceTaken u) s =
      .next (State.endCycle (((((s.wr (Reg.TXDP_SLICE_RELIEF u) (setF (setF (setF (s.rd (Reg.TXDP_SLICE_RELIEF u)) Fld.TXDP_SLICE_RELIEF_TAKEN 1)
        Fld.TXDP_SLICE_RELIEF_BUSY 0) Fld.TXDP_SLICE_RELIEF_SPARE 0x7F)).setSliceSync u none).setFld (Reg.RXDP_OVR p) Fld.RXDP_OVR_SLICE 0).setZero
          p 3 false (s.nowTh - thNs 1100)).raise 0x4015 p)) :=
  finish_congr (by simp only [hx, hf, htwo, ← hp, Bool.and_self, if_true])

/-! ## Carriers (R183, R184) -/

theorem carRise_of_idle {s : State} {c : Nat} (he : s.carEnabled c = true) (hb : s.carBusy c = false) :
    s.carRise c = (s.setFld (Reg.CAR_STATUS c) Fld.CAR_STATUS_BUSY 1).restartSync := by
  simp only [State.carRise, he, hb, Bool.not_false, Bool.and_self, if_true]

/-- A word with an enable set has one under the mask of both enables. -/
theorem land_enables_ne_zero {new : Word} (h : new.toNat % 4 ≠ 0) : Nat.land (new.toNat % 4) 3 ≠ 0 := by
  have hmask : Nat.land (new.toNat % 4) 3 = new.toNat % 4 % 2 ^ 2 := Nat.and_two_pow_sub_one_eq_mod _ 2
  omega

/-- Both enable bits of a carrier are clear where the low two bits of its word are. -/
theorem enables_clear {w : Word} (h : w.toNat % 4 = 0) : getF w Fld.CAR_CTL_DL_EN = 0 ∧ getF w Fld.CAR_CTL_UL_EN = 0 := by
  simp only [getF, bitsAt, Fld.CAR_CTL_DL_EN, Fld.CAR_CTL_UL_EN, Nat.shiftRight_eq_div_pow]
  omega

section
variable {s t : State} {c : Nat} {v new : Word} {tw : Th} (hn : s.plainValue (Reg.CAR_CTL c) v = new) (hb : s.carBusy c = false)
  (h0 : (s.rd (Reg.CAR_CTL c)).toNat % 4 = 0) (h1 : new.toNat % 4 ≠ 0)
include hn hb h0

theorem carCtlWrite_enables (hv : s.carValid c = true) (ht : s.symWrite2 (Reg.CAR_CTL c) new tw = t) :
    carCtlWrite c v tw s = (0, t.toffApply tw) := by
  obtain ⟨hdl, hul⟩ := enables_clear h0
  simp only [carCtlWrite, hn, hb, hv, hdl, hul, ht, Bool.false_and, Bool.not_true, Bool.false_eq_true, Nat.zero_ne_one, false_and, and_false, if_false]

include h1

/-- An enable of an invalid carrier is not stored (R181, R182). -/
theorem carCtlWrite_invalid (hv : s.carValid c = false)
    (ht : s.symWrite2 (Reg.CAR_CTL c) (new &&& ~~~ BitVec.ofNat 32 (Nat.land (new.toNat % 4) 3)) tw = t) :
    carCtlWrite c v tw s = (0, (t.flag (Reg.CAR_STATUS c) Fld.CAR_STATUS_CFG_ERR).raise 0x4012 c) := by
  simp only [carCtlWrite, hn, hb, hv, h0, Nat.sub_zero, land_enables_ne_zero h1, ht, Bool.false_and, Bool.not_false, Bool.false_eq_true, ne_eq,
    not_false_eq_true, and_self, if_false, if_true]

end

theorem exec_carrierDrained_idle {s : State} {c : Fin 8} (hb : s.carBusy c = true) (he : s.carEnabled c = false) (hdl : (s.car c).dlEnd ≤ s.nowTh)
    (hul : (s.car c).ulEnd ≤ s.nowTh) (hq : s.ulq.any (fun u => u.car == c.val && (u.type == 2 || u.type == 4)) = false)
    (hj : s.ulJobs.any (fun j => j.car == c.val && (j.type == 2 || j.type == 4)) = false) :
    exec (.carrierDrained c) s = .next (State.endCycle ((s.setFld (Reg.CAR_STATUS c) Fld.CAR_STATUS_BUSY 0).restartSync)) :=
  finish_congr (by simp only [hb, he, hdl, hul, hq, hj, decide_true, Bool.not_false, Bool.and_self, if_true])

/-- Settles O12: each command's hypotheses name one case of its meaning; the accesses are granted writes, and a TARGET's word has `RETIRE` clear. -/
theorem carriersAndSlicesTakeEffect : Obligations.CarriersAndSlicesTakeEffect :=
  ⟨fun _ _ _ => exec_hostMuteRampEnd_mutes,
   fun _ _ _ _ hg => finish_writeBy hg rfl,
   fun s _ r _ _ _ hg hr hn h64 htaken hx hsynced hbusy hbad ht =>
    finish_writeBy hg (sliceReliefWrite_starts (s := s.entering r) (getF_setF_same _ _ _ (by decide))
      (hn.trans (getF_setF_other _ _ _ _ (by decide) (by decide)).symm) h64 htaken hx hsynced hbusy hbad ht),
   fun s r _ _ hg hsynced htarget =>
    finish_writeBy hg (sliceReliefWrite_retires (s := s.entering r) (getF_setF_same _ _ _ (by decide)) hsynced
      ((getF_setF_other _ _ _ _ (by decide) (by decide)).trans htarget)),
   fun _ _ _ _ => exec_sliceSynced_matches,
   fun _ _ _ _ => exec_sliceSynced_restarts,
   fun _ _ _ _ => exec_sliceSynced_fails,
   fun _ _ _ _ => exec_sliceFault_relieved,
   fun _ _ _ _ => exec_sliceFault_mutes,
   fun _ _ _ _ => exec_sliceTaken_connected,
   fun s _ r _ _ _ hg hn hb hv h0 _ ht => finish_writeBy hg (carCtlWrite_enables (s := s.entering r) hn hb h0 hv ht),
   fun _ _ => carRise_of_idle,
   fun s _ r _ _ _ hg hn hb hv h0 h1 ht => finish_writeBy hg (carCtlWrite_invalid (s := s.entering r) hn hb h0 h1 hv ht),
   fun _ _ => exec_carrierDrained_idle⟩

end Sys2Proof.Machine
end

section
/-! SUPPORT. RF converters (05_timebase, 11_converters, 19_repair_availability; R14, R146, R277, R279, R282, R283, R292, R293, R473): rotations and retirements
of sub-ADCs and DAC cells, alignment, the loss of a die. The model's readings behind them, such as the dwell that starts again after a failed comparison: log
entry 43. -/
namespace Sys2Proof.Machine

/-! ## Rotation of sub-ADCs (R277-R279) -/

theorem exec_adcRotationStart_due {s : State} {u : Fin 72} (hrot : s.adcRotates u = true) (hused : s.adcUsed u = false) (hn : (s.adc u).rotAt = none)
    (hd : (s.adc u).since + s.dwell ≤ s.tick + rotRun) :
    exec (.adcRotationStart u) s = .next (State.endCycle (s.setAdc u { s.adc u with rotAt := some s.tick })) :=
  finish_congr (by simp only [hrot, hused, hn, hd, Option.isNone_none, Bool.not_false, decide_true, Bool.and_self, if_true])

section
variable {s : State} {u : Fin 72} {t0 : Nat} (h0 : (s.adc u).rotAt = some t0) (hrun : t0 + rotRun ≤ s.tick)
  (hd : (s.adc u).since + s.dwell ≤ s.tick) (hrot : s.adcRotates u = true)
include h0 hrun hd hrot

/-- A comparison that agrees ends with the incoming sub-ADC in the slot of the oldest one, which is in calibration from then on. -/
theorem exec_adcRotationSwap_agrees {out : Nat} {rest : List Nat} (ho : s.adcOrder u = out :: rest) :
    exec (.adcRotationSwap u true) s =
      .next (State.endCycle (((s.adcReplace u out (s.fld (adcStat u) Fld.CONV_RXADC_STAT_CAL)).setFld (adcStat u) Fld.CONV_RXADC_STAT_CAL out).setAdc u
        ⟨rest ++ [s.fld (adcStat u) Fld.CONV_RXADC_STAT_CAL], s.tick, none, 0⟩)) :=
  finish_congr (by simp only [h0, Nat.not_lt.mpr hrun, Nat.not_lt.mpr hd, hrot, ho, decide_false, Bool.not_true, Bool.or_self, Bool.false_eq_true, if_false,
    if_true])

theorem exec_adcRotationSwap_disagrees :
    exec (.adcRotationSwap u false) s =
      .next (State.endCycle (if (s.adc u).strikes = 0 then s.setAdc u { s.adc u with rotAt := none, since := s.tick, strikes := 1 }
        else s.adcRetire u (s.fld (adcStat u) Fld.CONV_RXADC_STAT_CAL))) :=
  finish_congr (by simp only [h0, Nat.not_lt.mpr hrun, Nat.not_lt.mpr hd, hrot, decide_false, Bool.not_true, Bool.or_self, Bool.false_eq_true, if_false])

end

/-! ## Retirement of sub-ADCs (R279) -/

section
variable {s : State} {u : Nat} {v : Word} (hr : getF v Fld.CONV_RXADC_CMD_RETIRE = 1)
include hr

theorem adcCmdWrite_retires (hsub : getF v Fld.CONV_RXADC_CMD_SUB ≤ adcSlots u) (hused : s.adcUsed u = false) :
    adcCmdWrite u v s = (0, s.adcRetire u (getF v Fld.CONV_RXADC_CMD_SUB)) := by
  simp only [adcCmdWrite, hr, Nat.not_lt.mpr hsub, hused, Nat.one_ne_zero, Bool.false_eq_true, or_self, if_false]

/-- A second retirement finds the relief used: ERR_BUSY. -/
theorem adcCmdWrite_used (hused : s.adcUsed u = true) : adcCmdWrite u v s = (7, s) := by
  simp only [adcCmdWrite, hr, hused, Nat.one_ne_zero, or_true, if_false, if_true]

end

/-! ## DAC cells (R282, R283) -/

theorem exec_dacCellRotation_due {s : State} {path : Fin 64} {pos : Nat} {rest : List Nat} (hon : s.dieOn (path.val / 16) = true)
    (hawake : s.sb.asleepTx.testBit path = false) (hspare : s.fld (Reg.CONV_DAC_STAT path) Fld.CONV_DAC_STAT_SPARES ≠ 0)
    (hd : (s.dac path).since + s.dwell ≤ s.tick) (ha : (s.dac path).ages = pos :: rest) :
    exec (.dacCellRotation path) s =
      .next (State.endCycle ((s.setFld (Reg.CONV_DAC_STAT path) Fld.CONV_DAC_STAT_CAL ((s.dac path).cells.getD pos 0)).setDac path
        { s.dac path with
          map := (s.dac path).cells.set pos (s.fld (Reg.CONV_DAC_STAT path) Fld.CONV_DAC_STAT_CAL), order := rest ++ [pos], since := s.tick })) :=
  finish_congr (by simp only [hon, hawake, hspare, Nat.not_lt.mpr hd, ha, Bool.not_true, Bool.false_eq_true, or_self, if_false])

theorem dacCmdWrite_retires {s : State} {p : Nat} {v : Word} (hr : getF v Fld.CONV_DAC_CMD_RETIRE = 1) (hk : getF v Fld.CONV_DAC_CMD_CELL ≤ 66)
    (hc : s.cellRetired p (getF v Fld.CONV_DAC_CMD_CELL) = false) :
    dacCmdWrite p v s = (0, s.cellRetire p (some (getF v Fld.CONV_DAC_CMD_CELL))) := by
  simp only [dacCmdWrite, hr, Nat.not_lt.mpr hk, hc, Nat.one_ne_zero, Bool.false_eq_true, or_self, if_false]

/-! ## Alignment (R146, R292, R293) -/

theorem alignSoftWrite_starts {s : State} {v : Word} (hv : getF v Fld.CONV_ALIGN_CTL_SOFT = 1) (hp : s.pstate = 5 ∨ s.pstate = 6) :
    alignSoftWrite v s = (0, s.startAlign) := by
  simp only [alignSoftWrite, hv, hp, Nat.one_ne_zero, if_false, if_true]

section
variable {s t : State} (harm : s.bit Reg.TIME_ALIGN_CTL Fld.TIME_ALIGN_CTL_ARM = true) (hclk : s.tclk = true)
include harm hclk

theorem exec_alignCapture_low :
    exec (.alignCapture false) s = .next (State.endCycle { s with time := { s.time with alignLow := true } }) :=
  finish_congr (by simp only [harm, hclk, Bool.not_true, Bool.or_self, Bool.false_eq_true, Bool.not_false, if_false, if_true])

/-- A high sample after a low one captures the counter and, in READY and ACTIVE, aligns. -/
theorem exec_alignCapture_rise (hlow : s.time.alignLow = true)
    (ht : (s.wr Reg.TIME_ALIGN_CTL (setF (setF (s.rd Reg.TIME_ALIGN_CTL) Fld.TIME_ALIGN_CTL_ARM 0) Fld.TIME_ALIGN_CTL_CAPTURED 1)).wr64
      Reg.TIME_ALIGN_CAP s.tb = t) :
    exec (.alignCapture true) s =
      .next (State.endCycle (let u := (({ t with time := { t.time with alignLow := false } } : State).evSource 0x61).raise 0xC005 0xFF
        if s.pstate = 5 ∨ s.pstate = 6 then u.startAlign else u)) :=
  finish_congr (by simp only [harm, hclk, hlow, ht, Bool.not_true, Bool.or_self, Bool.false_eq_true, if_false])

end

section
variable {s t : State} {err : BitVec 8} {t0 : Nat} (h0 : s.align.at_ = some t0) (hd : t0 + 1024 ≤ s.tick)
  (ht : ({ s with align := { s.align with
    at_ := if s.bit Reg.CONV_ALIGN_STAT Fld.CONV_ALIGN_STAT_PEND then some (s.tick + 4) else none } } : State).setFld
      Reg.CONV_ALIGN_STAT Fld.CONV_ALIGN_STAT_PEND 0 = t)
include h0 hd ht

theorem exec_converterAlignment_resets (h5 : s.pstate = 5) : exec (.converterAlignment err) s = .next t.alignReset.endCycle :=
  finish_congr (by simp only [h0, Nat.not_lt.mpr hd, ht, h5, if_false, if_true])

/-- In ACTIVE the converters go on; the check reports the deviation that it finds (R293). -/
theorem exec_converterAlignment_checks (h6 : s.pstate = 6) (he : err ≠ 0) :
    exec (.converterAlignment err) s =
      .next (State.endCycle ((t.wr Reg.CONV_ALIGN_STAT (setF (setF (t.rd Reg.CONV_ALIGN_STAT) Fld.CONV_ALIGN_STAT_CHECK 1) Fld.CONV_ALIGN_STAT_ERR err.toNat)).raise
        0x4051 0xFF)) :=
  finish_congr (by simp only [h0, Nat.not_lt.mpr hd, ht, h6, he, (by decide : (6 : Nat) ≠ 5), if_false, if_true])

end

/-! ## Loss of a die (R14, R473) -/

theorem exec_dieLinkLost_running {s t : State} {die : Fin 4} (hon : s.dieOn die = true)
    (ht : (List.range 16).foldl (fun (u : State) i =>
        ((u.hwMute (16 * die.val + i) Fld.TXDP_MUTE_DIE).flag (Reg.RXDP_OVR (16 * die.val + i)) Fld.RXDP_OVR_DIE).setZero (16 * die.val + i) 4 true u.nowTh)
      { s with power := { s.power with dieLost := setBitN s.power.dieLost die true } } = t) :
    exec (.dieLinkLost die) s = .next (State.endCycle ((t.cageDieOff die).raise 0x6001 die)) :=
  finish_congr (by simp only [hon, ht, Bool.not_true, Bool.false_eq_true, if_false])

/-- Settles O14: each command's hypotheses name one case of its meaning; retirements and the soft alignment are granted writes. -/
theorem convertersAndTheirRepairsTakeEffect : Obligations.ConvertersAndTheirRepairsTakeEffect :=
  ⟨fun _ _ => exec_adcRotationStart_due,
   fun _ _ _ _ _ h0 hrun hd hrot => exec_adcRotationSwap_agrees h0 hrun hd hrot,
   fun _ _ _ => exec_adcRotationSwap_disagrees,
   fun s r _ _ hg hr hsub hused => finish_writeBy hg (adcCmdWrite_retires (s := s.entering r) hr hsub hused),
   fun s r _ _ hg hr hused => finish_writeBy hg (adcCmdWrite_used (s := s.entering r) hr hused),
   fun _ _ _ _ => exec_dacCellRotation_due,
   fun s r _ _ hg hr hk hc => finish_writeBy hg (dacCmdWrite_retires (s := s.entering r) hr hk hc),
   fun s r _ hg hv hp => finish_writeBy hg (alignSoftWrite_starts (s := s.entering r) hv hp),
   fun _ => exec_alignCapture_low,
   fun _ _ => exec_alignCapture_rise,
   fun _ _ _ _ => exec_converterAlignment_resets,
   fun _ _ _ _ => exec_converterAlignment_checks,
   fun _ _ _ => exec_dieLinkLost_running⟩

end Sys2Proof.Machine
end

section
/-! SUPPORT. The numbers of the vector instructions (12_lode_cluster, 13_lode_instructions, R314-R319, R339, R341, R346): headroom, saturated parts and
their lane masks, the exact parts of sums, differences and accumulations. -/
namespace Sys2Proof.Machine

/-! ## Headroom (R318) -/

/-- A number and its one's complement have the same headroom. -/
theorem headroom_neg_sub_one (m : Nat) : headroom (-(m : Int) - 1) = headroom m := by
  have hneg : -(m : Int) - 1 < 0 := by omega
  have hpos : ¬(m : Int) < 0 := by omega
  simp only [headroom, hneg, hpos, if_true, if_false, show -(-(m : Int) - 1) - 1 = m by omega]

/-- The headroom of a natural number of 15 bits: shifted by it the number and its successor stay within 2^15, shifted by one more it does not. -/
theorem headroom_bounds {m : Nat} (hm : m < 2 ^ 15) :
    headroom m ≤ 15 ∧ (m + 1) * 2 ^ headroom m ≤ 2 ^ 15 ∧ (headroom m < 15 → 2 ^ 15 ≤ m * 2 ^ (headroom m + 1)) := by
  by_cases h0 : m = 0
  · subst h0; decide
  have hlog : Nat.log2 m < 15 := (Nat.log2_lt h0).mpr hm
  have hh : headroom m = 14 - Nat.log2 m := by
    have hpos : ¬(m : Int) < 0 := by omega
    simp only [headroom, hpos, Int.toNat_natCast, h0, if_false]
  have hlow : 2 ^ Nat.log2 m ≤ m := Nat.log2_self_le h0
  have hhigh : m + 1 ≤ 2 ^ (Nat.log2 m + 1) := Nat.lt_log2_self
  rw [hh]
  refine ⟨by omega, ?_, fun _ => ?_⟩
  · calc (m + 1) * 2 ^ (14 - Nat.log2 m) ≤ 2 ^ (Nat.log2 m + 1) * 2 ^ (14 - Nat.log2 m) := Nat.mul_le_mul_right _ hhigh
      _ = 2 ^ 15 := by rw [← Nat.pow_add]; congr 1; omega
  · calc 2 ^ 15 = 2 ^ Nat.log2 m * 2 ^ (14 - Nat.log2 m + 1) := by rw [← Nat.pow_add]; congr 1; omega
      _ ≤ m * 2 ^ (14 - Nat.log2 m + 1) := Nat.mul_le_mul_right _ hlow

/-- Settles O42: a part is a natural number below 2^15 or the one's complement of one, and both have the bounds of that number. -/
theorem headroomIsTheLargestLosslessShift : Obligations.HeadroomIsTheLargestLosslessShift := by
  intro v hlo hhi
  obtain ⟨m, hm, rfl | rfl⟩ : ∃ m : Nat, m < 2 ^ 15 ∧ (v = m ∨ v = -(m : Int) - 1) := by
    by_cases hv : 0 ≤ v
    · exact ⟨v.toNat, by omega, Or.inl (by omega)⟩
    · exact ⟨(-v - 1).toNat, by omega, Or.inr (by omega)⟩
  · obtain ⟨h15, hin, hout⟩ := headroom_bounds hm
    have hpos := Nat.two_pow_pos (headroom m)
    rw [Nat.succ_mul] at hin
    rw [← Int.natCast_mul, ← Int.natCast_mul]
    exact ⟨h15, by omega, by omega, fun h => Or.inr (by have := hout h; omega)⟩
  · obtain ⟨h15, hin, hout⟩ := headroom_bounds hm
    rw [headroom_neg_sub_one]
    have hneg : ∀ p : Nat, (-(m : Int) - 1) * (p : Int) = -((m + 1) * p : Nat) := fun p => by
      rw [show -(m : Int) - 1 = -((m + 1 : Nat) : Int) by omega, Int.neg_mul, ← Int.natCast_mul]
    rw [hneg, hneg]
    have hpos := Nat.two_pow_pos (headroom m + 1)
    rw [Nat.succ_mul m (2 ^ (headroom m + 1))]
    exact ⟨h15, by omega, by omega, fun h => Or.inl (by have := hout h; omega)⟩

/-! ## Saturated parts and their lane masks (R316, R317, R319) -/

theorem fst_sat16L (v : Int) : (sat16L v).1 = max (-32768) (min 32767 v) := by
  unfold sat16L; (repeat' split) <;> dsimp only <;> omega

theorem snd_sat16L (v : Int) : (sat16L v).2 = true ↔ v < -32768 ∨ 32767 < v := by
  unfold sat16L; (repeat' split) <;> simp only [true_iff, false_iff, Bool.false_eq_true] <;> omega

theorem fst_accPart (v : Int) : (accPart v).1 = max (-549755813888) (min 549755813887 v) := by
  unfold accPart; (repeat' split) <;> dsimp only <;> omega

theorem snd_accPart (v : Int) : (accPart v).2 = true ↔ v < -549755813888 ∨ 549755813887 < v := by
  unfold accPart; (repeat' split) <;> simp only [true_iff, false_iff, Bool.false_eq_true] <;> omega

/-- A sum of powers of two over the lanes that satisfy `p` has the bits of those lanes. -/
theorem testBit_foldl_range_two_pow (p : Nat → Bool) (n : Nat) :
    (List.range n).foldl (fun m l => if p l then m + 2 ^ l else m) 0 < 2 ^ n ∧
      ∀ i, i < n → ((List.range n).foldl (fun m l => if p l then m + 2 ^ l else m) 0).testBit i = p i := by
  induction n with
  | zero => exact ⟨Nat.one_pos, fun _ h => absurd h (Nat.not_lt_zero _)⟩
  | succ n ih =>
    obtain ⟨hlt, hbits⟩ := ih
    rw [List.range_succ, List.foldl_append]
    generalize (List.range n).foldl (fun m l => if p l then m + 2 ^ l else m) 0 = m at hlt hbits
    have htop : m.testBit n = false := Nat.testBit_lt_two_pow hlt
    cases hp : p n with
    | false =>
      simp only [List.foldl_cons, List.foldl_nil, hp, Bool.false_eq_true, if_false]
      refine ⟨by omega, fun i hi => ?_⟩
      rcases Nat.lt_succ_iff_lt_or_eq.mp hi with hi | rfl
      · exact hbits i hi
      · rw [htop, hp]
    | true =>
      simp only [List.foldl_cons, List.foldl_nil, hp, if_true, Nat.add_comm m]
      refine ⟨by omega, fun i hi => ?_⟩
      rcases Nat.lt_succ_iff_lt_or_eq.mp hi with hi | rfl
      · rw [Nat.testBit_two_pow_add_gt hi, hbits i hi]
      · rw [Nat.testBit_two_pow_add_eq, htop, hp, Bool.not_false]

theorem testBit_laneMask (fs : List Bool) {l : Nat} (hl : l < 16) :
    (laneMask fs).testBit l = (fs.getD (2 * l) false || fs.getD (2 * l + 1) false) :=
  (testBit_foldl_range_two_pow (fun l => fs.getD (2 * l) false || fs.getD (2 * l + 1) false) 16).2 l hl

theorem getD_map_of_lt {α β : Type} {f : α → β} {l : List α} {i : Nat} (h : i < l.length) (a : α) (b : β) :
    (l.map f).getD i b = f (l.getD i a) := by
  simp only [List.getD_eq_getElem?_getD, List.getElem?_map, List.getElem?_eq_getElem h, Option.map_some, Option.getD_some]

theorem getD_zipWith_of_lt {α β γ : Type} {f : α → β → γ} {x : List α} {y : List β} {i : Nat} (hx : i < x.length) (hy : i < y.length) (a : α) (b : β)
    (c : γ) :
    (List.zipWith f x y).getD i c = f (x.getD i a) (y.getD i b) := by
  simp only [List.getD_eq_getElem?_getD, List.getElem?_zipWith, List.getElem?_eq_getElem hx, List.getElem?_eq_getElem hy, Option.getD_some]

/-- The mask of saturated lanes: a bit is set when one of the lane's two parts was held. -/
theorem testBit_laneMask_map {f : Int → Int × Bool} {ws : List Int} (hw : ws.length = 32) {l : Nat} (hl : l < 16) :
    (laneMask ((ws.map f).map (·.2))).testBit l = true ↔ (f (ws.getD (2 * l) 0)).2 = true ∨ (f (ws.getD (2 * l + 1) 0)).2 = true := by
  rw [testBit_laneMask _ hl, List.map_map, getD_map_of_lt (by omega) 0, getD_map_of_lt (by omega) 0, Bool.or_eq_true]
  rfl

/-! ## Sums and differences of vectors (R341) -/

theorem length_zipWith_parts {op : Int → Int → Int} {x y : List Int} (hx : x.length = 32) (hy : y.length = 32) :
    (List.zipWith op x y).length = 32 := by
  rw [List.length_zipWith, hx, hy, Nat.min_self]

section
variable {sh : Nat} {t : Bool} {cv : Int → Int}
  (hcv : ∀ v, cv v = if sh = 0 then v else if t then v / (2 ^ sh : Nat) else (v + (2 ^ (sh - 1) : Nat)) / (2 ^ sh : Nat))
include hcv

theorem conv16_eq_sat16L (v : Int) : conv16 v sh t = sat16L (cv v) := congrArg sat16L (hcv v).symm

variable {op : Int → Int → Int} {x y : List Int} (hx : x.length = 32) (hy : y.length = 32)
include hx hy

/-- Each converted part is the exact part, shifted and held to 16 bits. -/
theorem getD_convParts_zipWith {i : Nat} (hi : i < 32) :
    (convParts (List.zipWith op x y) sh t).1.getD i 0 = max (-32768) (min 32767 (cv (op (x.getD i 0) (y.getD i 0)))) := by
  have hlen := length_zipWith_parts (op := op) hx hy
  simp only [convParts, List.map_map]
  rw [getD_map_of_lt (by omega) 0, getD_zipWith_of_lt (by omega) (by omega) 0 0, ← fst_sat16L, ← conv16_eq_sat16L hcv]
  rfl

/-- The saturation bit of a lane: one of its two shifted parts leaves the 16-bit range. -/
theorem testBit_convParts_zipWith {l : Nat} (hl : l < 16) :
    (convParts (List.zipWith op x y) sh t).2.testBit l = true ↔
      ∃ i, (i = 2 * l ∨ i = 2 * l + 1) ∧ (cv (op (x.getD i 0) (y.getD i 0)) < -32768 ∨ 32767 < cv (op (x.getD i 0) (y.getD i 0))) := by
  have hlen := length_zipWith_parts (op := op) hx hy
  simp only [convParts]
  rw [testBit_laneMask_map hlen hl, getD_zipWith_of_lt (by omega) (by omega) 0 0, getD_zipWith_of_lt (by omega) (by omega) 0 0,
    conv16_eq_sat16L hcv, conv16_eq_sat16L hcv, snd_sat16L, snd_sat16L]
  simp only [or_and_right, exists_or, exists_eq_left]

end

theorem length_convParts (ws : List Int) (sh : Nat) (t : Bool) : (convParts ws sh t).1.length = ws.length := by
  simp only [convParts, List.length_map]

/-- Settles O43: the parts of a sum or a difference are converted one by one, and a butterfly writes both vectors. -/
theorem vectorSumsRoundAndSaturate : Obligations.VectorSumsRoundAndSaturate := by
  intro k w sh t x y cv hx hy hxl hyl _ hcv
  subst hx hy
  have hlen : ∀ op : Int → Int → Int, (convParts (List.zipWith op (k.rV (bitsAt w 15 5)) (k.rV (bitsAt w 10 5))) sh t).1.length = 32 :=
    fun op => (length_convParts _ _ _).trans (length_zipWith_parts hxl hyl)
  have hsat : (lodeAddSub k w sh t true false).2.sat = (convParts (List.zipWith (· + ·) (k.rV (bitsAt w 15 5)) (k.rV (bitsAt w 10 5))) sh t).2 :=
    Nat.or_zero _
  refine ⟨⟨_, rfl, hlen _, fun i hi => getD_convParts_zipWith hcv hxl hyl hi⟩, ⟨_, rfl, hlen _, fun i hi => getD_convParts_zipWith hcv hxl hyl hi⟩,
    rfl, fun l hl => ?_⟩
  rw [hsat]
  exact testBit_convParts_zipWith hcv hxl hyl hl

/-! ## Accumulations (R315, R316, R339) -/

theorem getD_partsOf (l : List (Int × Int)) (i : Nat) :
    (partsOf l).getD (2 * i) 0 = (l.getD i (0, 0)).1 ∧ (partsOf l).getD (2 * i + 1) 0 = (l.getD i (0, 0)).2 := by
  induction l generalizing i with
  | nil => exact ⟨rfl, rfl⟩
  | cons z l ih =>
    cases i with
    | zero => exact ⟨rfl, rfl⟩
    | succ i => exact ih i

/-- Lane `i` of a vector of `n` lanes is made of its parts `2 * i` and `2 * i + 1`. -/
theorem length_and_getD_lanesOf {n : Nat} {v : List Int} (hv : v.length = 2 * n) :
    (lanesOf v).length = n ∧ ∀ i, (lanesOf v).getD i (0, 0) = (v.getD (2 * i) 0, v.getD (2 * i + 1) 0) := by
  have hparts : partsOf (lanesOf v) = v := partsOf_lanesOf (by omega)
  refine ⟨?_, fun i => ?_⟩
  · have hlen := length_partsOf (lanesOf v)
    rw [hparts] at hlen
    omega
  · obtain ⟨h0, h1⟩ := getD_partsOf (lanesOf v) i
    rw [hparts] at h0 h1
    exact Prod.ext h0.symm h1.symm

/-- The exact sums of a `VMAC`: the accumulator's parts plus the lanes' products, negated with `NEG` and doubled without `INT`. -/
def macSums (form : Nat) (neg int : Bool) (a x y : List Int) : List Int :=
  let prods := partsOf (List.zipWith (macLane form) (lanesOf x) (lanesOf y))
  List.zipWith (fun (a z : Int) => a + (if int then z else 2 * z)) a (if neg then prods.map (fun z => -z) else prods)

/-- What a `VMAC` from registers writes: the sums held to 40 bits, with one overflow bit per lane. -/
def macDelta (ad : Nat) (sums : List Int) : LodeDelta :=
  { a := [(ad, (sums.map accPart).map (·.1))], aov := laneMask ((sums.map accPart).map (·.2)), cmac := 16 }

theorem lodeVmac_of_registers {s : State} {k : LodeCore} {w : Nat} {err : Bool} {a : List Int} {d : LodeDelta} (hc : bitAt w 11 = false)
    (ha : a = (if bitAt w 7 then zeroVec else k.rA (bitsAt w 22 3)))
    (hd : d = macDelta (bitsAt w 22 3) (macSums (bitsAt w 9 2) (bitAt w 8) (bitAt w 6) a (k.rV (bitsAt w 17 5)) (k.rV (bitsAt w 12 5)))) :
    lodeVmac s k w err = ((if k.trapAov && d.aov != 0 then 5 else 0), d) := by
  subst ha hd
  simp only [lodeVmac, macDelta, macSums, hc, Bool.false_and, Bool.false_eq_true, if_false, List.map_zipWith, b2n]

section
variable {form : Nat} {neg int : Bool} {a x y : List Int} (hx : x.length = 32) (hy : y.length = 32)
include hx hy

theorem length_macProducts : (partsOf (List.zipWith (macLane form) (lanesOf x) (lanesOf y))).length = 32 := by
  rw [length_partsOf, List.length_zipWith, (length_and_getD_lanesOf (n := 16) hx).1, (length_and_getD_lanesOf (n := 16) hy).1, Nat.min_self]

variable (ha : a.length = 32)
include ha

theorem length_macSums : (macSums form neg int a x y).length = 32 := by
  have hp := length_macProducts (form := form) hx hy
  have hs : (if neg then (partsOf (List.zipWith (macLane form) (lanesOf x) (lanesOf y))).map (fun z => -z)
      else partsOf (List.zipWith (macLane form) (lanesOf x) (lanesOf y))).length = 32 := by
    split
    · rw [List.length_map, hp]
    · exact hp
  exact (List.length_zipWith ..).trans (by rw [ha, hs, Nat.min_self])

/-- Part `j` of the sums, from part `j` of the products. -/
theorem getD_macSums_eq_add {sc : Int} (hsc : sc = (if neg then -1 else 1) * (if int then 1 else 2)) {j : Nat} (hj : j < 32) :
    (macSums form neg int a x y).getD j 0 =
      a.getD j 0 + sc * (partsOf (List.zipWith (macLane form) (lanesOf x) (lanesOf y))).getD j 0 := by
  have hp := length_macProducts (form := form) hx hy
  subst hsc
  unfold macSums
  cases neg with
  | false =>
    simp only [Bool.false_eq_true, if_false]
    rw [getD_zipWith_of_lt (by omega) (by omega) 0 0]
    cases int with
    | false => simp only [Bool.false_eq_true, if_false, Int.one_mul]
    | true => simp only [if_true, Int.one_mul]
  | true =>
    simp only [if_true]
    rw [getD_zipWith_of_lt (by omega) (by rw [List.length_map]; omega) 0 0, getD_map_of_lt (by omega) 0]
    cases int with
    | false => simp only [Bool.false_eq_true, if_false]; omega
    | true => simp only [if_true]; omega

/-- The two sums of a lane: the lane's product, scaled, is added to the accumulator's parts. -/
theorem getD_macSums_lane {sc : Int} (hsc : sc = (if neg then -1 else 1) * (if int then 1 else 2)) {l : Nat} (hl : l < 16) {p : Int × Int}
    (hp : p = macLane form (x.getD (2 * l) 0, x.getD (2 * l + 1) 0) (y.getD (2 * l) 0, y.getD (2 * l + 1) 0)) :
    (macSums form neg int a x y).getD (2 * l) 0 = a.getD (2 * l) 0 + sc * p.1 ∧
      (macSums form neg int a x y).getD (2 * l + 1) 0 = a.getD (2 * l + 1) 0 + sc * p.2 := by
  obtain ⟨hxl, hxg⟩ := length_and_getD_lanesOf (n := 16) hx
  obtain ⟨hyl, hyg⟩ := length_and_getD_lanesOf (n := 16) hy
  have hlane : (List.zipWith (macLane form) (lanesOf x) (lanesOf y)).getD l (0, 0) = p := by
    rw [getD_zipWith_of_lt (by omega) (by omega) (0, 0) (0, 0), hxg, hyg, hp]
  rw [getD_macSums_eq_add hx hy ha hsc (by omega), getD_macSums_eq_add hx hy ha hsc (by omega), (getD_partsOf _ l).1, (getD_partsOf _ l).2, hlane]
  exact ⟨rfl, rfl⟩

end

/-- The parts of a lane's product in each of the three forms (R339). -/
theorem macLane_eq {form : Nat} (hf : form < 3) (x y : Int × Int) :
    macLane form x y =
      (if form = 0 then x.1 * y.1 - x.2 * y.2 else if form = 1 then x.1 * y.1 + x.2 * y.2 else x.1 * y.1,
       if form = 0 then x.1 * y.2 + x.2 * y.1 else if form = 1 then x.2 * y.1 - x.1 * y.2 else x.2 * y.2) := by
  match form, hf with
  | 0, _ => rfl
  | 1, _ => rfl
  | 2, _ => rfl

/-- Each written part is the exact sum held to 40 bits. -/
theorem getD_map_accPart {ws : List Int} (hw : ws.length = 32) {j : Nat} (hj : j < 32) :
    ((ws.map accPart).map (·.1)).getD j 0 = max (-549755813888) (min 549755813887 (ws.getD j 0)) := by
  rw [List.map_map, getD_map_of_lt (by omega) 0, ← fst_accPart]
  rfl

/-- Settles O44: the exact sums of each lane, held part by part, and the lane mask of the parts that were held. -/
theorem accumulationsSaturateAtFortyBits : Obligations.AccumulationsSaturateAtFortyBits := by
  intro s k w err x y a pi pq si sq sc hc hform hx hy ha hxl hyl hal hsc hpi hpq hsi hsq
  subst hx hy
  have hlen := length_macSums (form := bitsAt w 9 2) (neg := bitAt w 8) (int := bitAt w 6) hxl hyl hal
  have hlane : ∀ l, l < 16 → _ ∧ _ := fun l hl =>
    getD_macSums_lane (form := bitsAt w 9 2) hxl hyl hal hsc hl (p := (pi l, pq l)) (by rw [macLane_eq hform, hpi, hpq])
  refine ⟨_, _, lodeVmac_of_registers hc ha rfl, rfl, rfl, rfl, ?_, fun l hl => ?_, fun l hl => ?_⟩
  · rw [List.length_map, List.length_map, hlen]
  · obtain ⟨hI, hQ⟩ := hlane l hl
    rw [getD_map_accPart hlen (by omega), getD_map_accPart hlen (by omega), hI, hQ, hsi, hsq]
    exact ⟨rfl, rfl⟩
  · obtain ⟨hI, hQ⟩ := hlane l hl
    exact (testBit_laneMask_map hlen hl).trans (by rw [snd_accPart, snd_accPart, hI, hQ, hsi, hsq, or_assoc])

end Sys2Proof.Machine
end

section
/-! SUPPORT. The commands of the Lode cluster (12_lode_cluster, R304-R312, R321-R325, R329, R338): each command's effect in the state it belongs to. The
model's readings behind them: log entries 12, 27, 28. -/
namespace Sys2Proof.Machine

/-! ## The record of a core -/

@[simp] theorem State.core_wr (s : State) (a : Nat) (v : Word) (c : Nat) : (s.wr a v).core c = s.core c := rfl

@[simp] theorem State.core_setCore_same (s : State) (c : Nat) (k : LodeCore) : (s.setCore c k).core c = k := kvGet_kvSet_same _ _ _ _

/-! ## Work queues (R308) -/

section
variable {s : State} {q req : Nat} {v : Word}

theorem wqPushWrite_accepts (hq : wqFull (s.wq q) = false) :
    wqPushWrite q req v s = (0, s.setWq q (wqInsert ⟨getF v Fld.LODE_WQ_PUSH_ADDR % 2 ^ 24, 0, false, req, s.tick⟩ (s.wq q))) := by
  simp only [wqPushWrite, State.wqPush, hq, Bool.false_eq_true, if_false, if_true, Nat.zero_mod]

theorem wqPushWrite_refuses (hq : wqFull (s.wq q) = true) :
    wqPushWrite q req v s = (7, (s.count (Reg.LODE_WQ_FULL_CNT q)).raiseLim 10 0x9005 q) := by
  simp only [wqPushWrite, State.wqPush, hq, Bool.false_eq_true, if_false, if_true]

end

/-! ## Items (R309-R312) -/

/-- A core with a good item of queue `q` (R311): at the entry, the descriptor in P0, the argument, the logical core and the queue in S0-S3. -/
def State.loadedCore (s : State) (c q : Nat) (it : WorkItem) : LodeCore :=
  let d := it.desc / 64 * 64
  let w0 := s.descWord d 0
  let entry := s.descWord d 1 % 2 ^ 24
  let tr := s.rd (Reg.LODE_TRAP c)
  let args := [(0, it.arg % 2 ^ 32), (1, it.arg / 2 ^ 32), (2, s.coreLogical c), (3, q)]
  { running := true, queue := q, item := some it, desc := d, sup := bitAt w0 7, local_ := bitAt w0 6, rerun := bitAt w0 4, wdog := s.descWord d 2,
    startCyc := s.lodeCyc, pc := entry, lastPc := entry, p := if d = 0 then [] else [(0, d)], trapAov := getF tr Fld.LODE_TRAP_AOV == 1,
    trapSat := getF tr Fld.LODE_TRAP_SAT == 1, s := args.foldl (fun m x => kvSet (fun _ => 0) m x.1 x.2) [] }

theorem loadedCore_args (s : State) (c q : Nat) (it : WorkItem) :
    kvGet (fun _ => 0) (s.loadedCore c q it).s 0 = it.arg % 2 ^ 32 ∧ kvGet (fun _ => 0) (s.loadedCore c q it).s 1 = it.arg / 2 ^ 32 ∧
      kvGet (fun _ => 0) (s.loadedCore c q it).s 2 = s.coreLogical c ∧ kvGet (fun _ => 0) (s.loadedCore c q it).s 3 = q := by
  simp only [State.loadedCore, List.foldl_cons, List.foldl_nil, ne_eq, reduceCtorEq, not_false_eq_true, kvGet_kvSet_other, Nat.zero_ne_one,
    kvGet_kvSet_same, Nat.reduceEqDiff, and_self]

section
variable {s : State} {c : Fin 34} {q : Nat} {it : WorkItem} {rest : List WorkItem} (hclk : s.vclk = true) (hp : s.pullsFrom c = some q)
  (hq : s.wq q = it :: rest) (hlow : (List.range c).any (fun d => s.pullsFrom d == some q) = false)
include hclk hp hq hlow

theorem exec_itemPull_bad {code : Nat} (hd : s.descBad (it.desc / 64 * 64) = some code) :
    exec (.itemPull c) s =
      .next (State.endCycle ((((((s.setWq q rest).addRunning q true).wr (Reg.LODE_ITEM c) (BitVec.ofNat 32 (it.desc / 64 * 64))).wr (Reg.LODE_CORE_STAT c)
        (setF (setF (s.rd (Reg.LODE_CORE_STAT c)) Fld.LODE_CORE_STAT_STATE 1) Fld.LODE_CORE_STAT_QUEUE q)).setCore c
        { s.core c with running := true, queue := q, item := some it, desc := it.desc / 64 * 64, rerun := false, startCyc := s.lodeCyc,
                        ended := some (code, 0), busErr := false }).raiseLim 10 0x9006 q)) :=
  finish_congr (by simp only [hclk, hp, hq, hlow, hd, Bool.not_true, Bool.false_eq_true, if_false])

/-- A good item clears and loads its core, which starts at the entry (R311). -/
theorem exec_itemPull_good (hd : s.descBad (it.desc / 64 * 64) = none) :
    ∃ u : State, ∃ cfg : Word, exec (.itemPull c) s =
      .next (State.endCycle ((((u.setCore c (s.loadedCore c q it)).wr (Reg.LODE_STICKY c) 0).wr (Reg.LODE_CFG c) cfg).wr (Reg.LODE_CORE_PC c)
        (BitVec.ofNat 32 (s.descWord (it.desc / 64 * 64) 1 % 2 ^ 24)))) :=
  ⟨_, _, finish_congr (by simp only [hclk, hp, hq, hlow, hd, Bool.not_true, Bool.false_eq_true, if_false]; rfl)⟩

/-- The started core's program counter, item and arguments. -/
theorem exec_itemPull_loads (hd : s.descBad (it.desc / 64 * 64) = none) :
    ∃ t : State, exec (.itemPull c) s = .next t.endCycle ∧ t.rd (Reg.LODE_CORE_PC c) = BitVec.ofNat 32 (s.descWord (it.desc / 64 * 64) 1 % 2 ^ 24) ∧
      (t.core c).running = true ∧ (t.core c).pc = s.descWord (it.desc / 64 * 64) 1 % 2 ^ 24 ∧ (t.core c).item = some it ∧ (t.core c).ended = none ∧
      kvGet (fun _ => 0) (t.core c).s 0 = it.arg % 2 ^ 32 ∧ kvGet (fun _ => 0) (t.core c).s 1 = it.arg / 2 ^ 32 ∧
      kvGet (fun _ => 0) (t.core c).s 2 = s.coreLogical c ∧ kvGet (fun _ => 0) (t.core c).s 3 = q := by
  obtain ⟨u, cfg, hexec⟩ := exec_itemPull_good hclk hp hq hlow hd
  refine ⟨_, hexec, State.rd_wr_same _ _ _, ?_⟩
  rw [State.core_wr, State.core_wr, State.core_wr, State.core_setCore_same]
  exact ⟨rfl, rfl, rfl, rfl, loadedCore_args s c q it⟩

end

section
variable {s t : State} {c : Fin 34}

theorem exec_itemComplete_ended {st code : Nat} (hclk : s.vclk = true) (he : (s.core c).ended = some (st, code)) (hb : (s.core c).busErr = false)
    (ht : (s.lodeComplete c st code).coreFree c = t) :
    exec (.itemComplete c) s =
      .next (State.endCycle (if t.lode.retiring = some c.val then t.beginCopy
        else t.setCoreState c (if t.bit (Reg.LODE_CORE_CTL c) Fld.LODE_CORE_CTL_EN then 0 else 2))) :=
  finish_congr (by simp only [hclk, he, hb, ht, Bool.not_true, Bool.false_and, Bool.false_eq_true, if_false])

/-! ## Bundles and traps (R321, R329, R338) -/

theorem exec_wdog_due (hr : s.itemRuns c = true) (hw : s.wdogDue c = true) :
    exec (.wdog c) s = .next (State.endCycle (s.lodeTrap c 8 (s.core c).pc)) :=
  finish_congr (by simp only [hr, hw, Bool.and_self, if_true])

theorem exec_fstBusError_refused (hr : s.itemRuns c = true) (hb : (s.core c).busErr = true) :
    exec (.fstBusError c) s = .next (State.endCycle (s.lodeTrap c 3 (s.core c).lastPc)) :=
  finish_congr (by simp only [hr, hb, Bool.and_self, if_true])

variable {ws : List Nat} (hdue : s.bundleDue c = true) (hws : bundleWords (s.lodeFetch c (s.core c)) (s.core c).pc 3 = ws)
include hdue hws

theorem exec_lodeBundle_done {d : LodeDelta} (hw : s.wdogDue c = false) (hlegal : bundleTrap ws = 0)
    (hin : (s.core c).local_ = false ∨ (s.core c).pc + 4 * ws.length ≤ 0x10000)
    (hd : lodeBundle s c (s.core c) ws (s.bit (Reg.LODE_CFG c) Fld.LODE_CFG_TRUNC) 0 = (0, d)) (hfab : d.fab = none) :
    exec (.lodeBundle c 0) s = .next (State.endCycle (s.bundleDone c (s.core c) ws.length d)) := by
  have hfit : ((s.core c).local_ && decide (0x10000 < (s.core c).pc + 4 * ws.length)) = false := by
    rcases hin with h | h
    · rw [h, Bool.false_and]
    · rw [decide_eq_false (Nat.not_lt.mpr h), Bool.and_false]
  have hecc : ((0 : Fin 4) == 3) = false := rfl
  have hrun : s.bundleRun c (s.core c) ws.length d = s.bundleDone c (s.core c) ws.length d := by
    simp only [State.bundleRun, hfab]
  rw [← hrun]
  exact finish_congr (by
    simp only [hdue, hws, hw, hlegal, hfit, hecc, Fin.val_zero, hd, Bool.not_true, Bool.and_false, Bool.false_eq_true, ne_eq, not_true_eq_false, if_false])

theorem exec_lodeBundle_illegal {code : Nat} (htrap : bundleTrap ws = code) (hcode : code ≠ 0) (hloc : (s.core c).local_ = false) :
    exec (.lodeBundle c 0) s = .next (State.endCycle (s.bundleTraps c code (s.core c).pc)) := by
  have hecc : ((0 : Fin 4) == 3) = false := rfl
  exact finish_congr (by
    simp only [hdue, hws, htrap, hcode, hloc, hecc, Bool.not_true, Bool.and_false, Bool.false_and, Bool.false_eq_true, ne_eq, not_false_eq_true, if_true,
      if_false])

end

/-! ## Relief (R322-R325) -/

section
variable {s t : State} {c : Fin 34}

/-- A spare that faults is retired (R324). -/
theorem exec_coreFault_spare (hclk : s.vclk = true) (hst : s.coreState c = 5) (hit : (s.core c).item = none) :
    exec (.coreFault c) s =
      .next (State.endCycle ((((((s.raise 0x9003 c).withdraw (16 + c)).ownerLost (16 + c) 2).coreFree c).setCoreState c 4).clStat)) :=
  finish_congr (by
    simp only [hclk, hst, hit, Bool.not_true, Bool.false_eq_true, false_or, (by decide : ¬(5 : Nat) = 4), if_false, if_true])

/-- A faulted core without an item is replaced by a spare whose IMEM is cleared (R323). -/
theorem exec_coreFault_replaced {u : Nat} (hclk : s.vclk = true) (h4 : s.coreState c ≠ 4) (h5 : s.coreState c ≠ 5) (hit : (s.core c).item = none)
    (ht : (((s.raise 0x9003 c).withdraw (16 + c)).ownerLost (16 + c) 2).coreFree c = t) (hcopy : t.lode.copy = none) (hret : t.lode.retiring = none)
    (hu : t.spareCore = some u) :
    exec (.coreFault c) s = .next (State.endCycle ((t.clearMem (coreMem u) (coreMem u + 0x10000)).takeCore c (some u))) :=
  finish_congr (by
    simp only [hclk, h4, h5, hit, ht, hcopy, hret, hu, Bool.not_true, Bool.false_eq_true, or_self, Option.map_none, reduceCtorEq, if_false,
      Option.none_beq_some, Option.isSome_none, Bool.and_false])

end

section
variable {s t : State} {v : Word} {c : Nat}

theorem lodeReliefWrite_retires (hr : getF v Fld.LODE_RELIEF_RETIRE = 1) (hc : c = getF v Fld.LODE_RELIEF_CORE)
    (hbusy : s.bit Reg.LODE_RELIEF Fld.LODE_RELIEF_BUSY = false) (h34 : c < 34) (hst : s.coreState c < 3) (hl : s.coreLogical c ≠ 0x3F)
    (ht : ({ s with lode := { s.lode with retiring := some c, copy := none } } : State).setFld Reg.LODE_RELIEF Fld.LODE_RELIEF_BUSY 1 = t) :
    lodeReliefWrite v s = (0, if (s.core c).running then t else t.beginCopy) := by
  simp only [lodeReliefWrite, hr, ← hc, hbusy, Nat.not_le.mpr h34, Nat.not_le.mpr hst, hl, ht, Nat.one_ne_zero, Bool.false_eq_true, or_self, if_false]

variable (hret : s.lode.retiring = some c) (hclk : s.vclk = true) (hrun : (s.core c).running = false)
include hret hclk hrun

/-- With no relief core left the logical core stays empty (R325). -/
theorem exec_coreRelief_empty (hcopy : s.lode.copy = none) : exec .coreRelief s = .next (State.endCycle (s.endRetire.takeCore c none)) :=
  finish_congr (by simp only [hret, hclk, hrun, hcopy, Bool.not_true, Bool.false_eq_true, or_self, if_false])

/-- The copy of IMEM takes 1 024 cycles (R323). -/
theorem exec_coreRelief_copied {u at_ : Nat} (hcopy : s.lode.copy = some (u, at_)) (hend : at_ + 1024 ≤ s.lodeCyc)
    (ht : (s.mem.filter (fun x => decide (coreMem c ≤ x.1 ∧ x.1 < coreMem c + 0x10000))).foldl
      (fun (v : State) x => v.stb (x.1 - coreMem c + coreMem u) x.2) (s.clearMem (coreMem u) (coreMem u + 0x10000)) = t) :
    exec .coreRelief s = .next (State.endCycle ((t.endRetire.takeCore c (some u)).ownerLost (16 + c) 2)) :=
  finish_congr (by
    simp only [hret, hclk, hrun, hcopy, Nat.not_lt.mpr hend, ht, Bool.not_true, Bool.false_eq_true, or_self, if_false])

end

/-! ## Bank arbiters (R303-R307) -/

@[simp] theorem bank_of_kvSet (s : State) (b : Nat) (y : BankArb) :
    ({ s with lode := { s.lode with banks := kvSet (fun _ => {}) s.lode.banks b y } } : State).bank b = y := kvGet_kvSet_same _ _ _ _

/-- Counting an amount of 0 changes nothing. -/
@[simp] theorem State.pmuCount_zero (s : State) (b ev : Nat) : s.pmuCount b ev 0 = s := if_pos (Or.inl rfl)

/-- The performance counters leave the arbiters alone. -/
@[simp] theorem State.bank_pmuCount (s : State) (p ev amt b : Nat) : (s.pmuCount p ev amt).bank b = s.bank b :=
  Untouched.pmuCount (f := fun u => u.bank b)
    ⟨fun _ _ => rfl, fun _ _ => rfl, fun _ _ => rfl, fun _ _ => rfl, fun _ _ => rfl, fun _ _ => rfl, fun _ _ => rfl⟩ s _ _ _

theorem State.bank_foldl_waiting (l : List (Nat × Nat)) (s : State) (b : Nat) :
    (l.foldl (fun (u : State) (r : Nat × Nat) => if 272 ≤ r.1 ∧ r.1 < 306 then u.pmuCount (r.1 - 272) 0x08 else u) s).bank b = s.bank b := by
  induction l generalizing s with
  | nil => rfl
  | cons r l ih =>
    rw [List.foldl_cons, ih]
    split
    · exact s.bank_pmuCount _ _ _ _
    · rfl

/-- Requests that enter leave the owner and the cycle of a bank. -/
theorem bankEnter_keeps (c : Nat) (l : List Nat) (x : BankArb) : (bankEnter c l x).parked = x.parked ∧ (bankEnter c l x).cyc = x.cyc := by
  induction l generalizing x with
  | nil => exact ⟨rfl, rfl⟩
  | cons r l ih => exact ih _

section
variable {s : State} {b : Fin 256}

/-- A lone request of a bank without waiting ones is the only new one. -/
theorem newRequests_of_lone (q : Nat) :
    (([q].filter (fun r => !(([] : List (Nat × Nat)).map (·.1)).contains r)).eraseDups).foldr insertNat [] = [q] := by
  simp only [List.map_nil, List.contains_eq_mem, List.not_mem_nil, decide_false, Bool.not_false, List.filter_cons_of_pos, List.filter_nil,
    List.eraseDups_cons, List.eraseDups_nil, List.foldr_cons, List.foldr_nil, insertNat]

/-- The parked owner's lone request is granted in its own cycle, without a ticket (R304). -/
theorem exec_sharedBankGrant_parked {t : State} {x y : BankArb} {q : Nat} (hclk : s.vclk = true) (hx : s.bank b = x) (hw : x.waiting = [])
    (hp : x.parked = some q) (hy : { x with cyc := Nat.max s.lodeCyc (x.cyc + 1), tLast := Nat.max x.tLast (Nat.max s.lodeCyc (x.cyc + 1)) } = y)
    (ht : { s with lode := { s.lode with banks := kvSet (fun _ => {}) s.lode.banks b y } } = t) :
    exec (.sharedBankGrant b [q] []) s = .next (State.endCycle ((t.pmuCount 34 0x01).pmuCount 34 0x04 (b2n (decide (q < 256))))) := by
  subst hy ht
  refine finish_congr ?_
  simp only [hclk, hx, hw, newRequests_of_lone, hp, List.head?_nil, List.length_singleton, List.head?_cons, and_self, Option.isNone_none,
    Option.isSome_some, Bool.and_self, Bool.not_true, Bool.false_eq_true, if_true, if_false,
    bankEnter, List.drop_nil, List.filter_nil, List.foldl_nil, b2n, State.pmuCount_zero]

/-- The request at the head of the queue is granted and becomes the parked owner (R305). -/
theorem exec_sharedBankGrant_head {arrive leave : List Nat} {q k : Nat} {rest : List (Nat × Nat)} (hclk : s.vclk = true)
    (hw : (s.bank b).waiting = (q, k) :: rest) (hl : leave.contains q = false) :
    ∃ t : State, exec (.sharedBankGrant b arrive leave) s = .next t.endCycle ∧ (t.bank b).parked = some q ∧
      (t.bank b).cyc = Nat.max s.lodeCyc ((s.bank b).cyc + 1) := by
  refine ⟨_, finish_congr (by simp only [hclk, Bool.not_true, Bool.false_eq_true, if_false]; rfl), ?_⟩
  rw [State.bank_foldl_waiting]
  simp only [State.bank_pmuCount, bank_of_kvSet, bankEnter_keeps, hw, List.head?_cons, hl, Bool.false_eq_true, if_false, and_self]

end

/-- Settles O19: each command's hypotheses name one case of its meaning; pushes and retirements are granted writes. -/
theorem lodeClusterCommandsTakeEffect : Obligations.LodeClusterCommandsTakeEffect :=
  ⟨fun s r _ _ hg hq => finish_writeBy hg (wqPushWrite_accepts (s := s.entering r) hq),
   fun s r _ _ hg hq => finish_writeBy hg (wqPushWrite_refuses (s := s.entering r) hq),
   fun _ _ _ _ _ _ hclk hp hq hlow => exec_itemPull_bad hclk hp hq hlow,
   fun _ _ _ _ _ => exec_itemPull_loads,
   fun _ _ => exec_wdog_due,
   fun _ _ _ _ hdue hw hws hlegal => exec_lodeBundle_done hdue hws hw hlegal,
   fun _ _ _ _ hdue hws => exec_lodeBundle_illegal hdue hws,
   fun _ _ => exec_fstBusError_refused,
   fun _ _ _ _ _ => exec_itemComplete_ended,
   fun _ _ => exec_coreFault_spare,
   fun _ _ _ _ => exec_coreFault_replaced,
   fun s _ r _ _ hg hr hc hbusy h34 hst hl ht => finish_writeBy hg (lodeReliefWrite_retires (s := s.entering r) hr hc hbusy h34 hst hl ht),
   fun _ _ => exec_coreRelief_empty,
   fun _ _ _ _ _ hret hclk hrun => exec_coreRelief_copied hret hclk hrun,
   fun _ _ _ _ _ _ => exec_sharedBankGrant_parked,
   fun _ _ _ _ _ _ _ => exec_sharedBankGrant_head⟩

end Sys2Proof.Machine
end

section
/-! SUPPORT. The numbers of pointers, scalar instructions and instruction words (13_lode_instructions, R5, R327-R333, R336, R347): the cases of a
circular post-modify, the two's-complement readings as those of machine words, the words of the worked kernel. -/
namespace Sys2Proof.Machine

/-! ## Circular post-modify (R336) -/

/-- Where the sum stays below 2^24, a circular post-modify corrects it once by the length. -/
theorem LodeCore.circ_of_sum {k : LodeCore} {pa p n : Nat} {m : Int} (hsum : (p : Int) + m = n) (hn : n < 2 ^ 24) (hlen : k.rL (pa % 8) ≠ 0) :
    k.circ pa p m = if k.rB (pa % 8) + k.rL (pa % 8) ≤ n then n - k.rL (pa % 8)
      else if n < k.rB (pa % 8) then (n + k.rL (pa % 8)) % 2 ^ 24 else n := by
  have hwrap : (((p : Int) + m) % (2 ^ 24 : Nat)).toNat = n := by omega
  simp only [LodeCore.circ, hwrap, hlen, if_false]

/-- Settles O45: the sum is past the buffer's end, before its base or inside, by at most one length, which the one correction takes back. -/
theorem circularPointersStayInTheirBuffer : Obligations.CircularPointersStayInTheirBuffer := by
  intro k pa p b len m hb hlen hpos hend hbp hpe hlo hhi h0 h24
  obtain ⟨n, hsum⟩ := Int.eq_ofNat_of_zero_le h0
  rw [LodeCore.circ_of_sum hsum (by omega) (by omega), ← hb, ← hlen, hsum]
  by_cases hpast : b + len ≤ n
  · rw [if_pos hpast]
    omega
  by_cases hbefore : n < b
  · have hwrap : (n + len) % 2 ^ 24 = n + len := Nat.mod_eq_of_lt (by omega)
    rw [if_neg hpast, if_pos hbefore, hwrap]
    omega
  · rw [if_neg hpast, if_neg hbefore]
    omega

/-! ## Words as two's-complement numbers (R5, R347) -/

/-- The two's-complement reading of a word's number is the word's signed value. -/
theorem sext_toNat {w : Nat} (a : BitVec w) : sext a.toNat w = a.toInt := by
  cases w with
  | zero => simp [sext, BitVec.eq_nil a]
  | succ w =>
    have hhalf : 2 * a.toNat < 2 ^ (w + 1) ↔ a.toNat < 2 ^ w := by omega
    simp only [sext, BitVec.toInt_eq_toNat_cond, Nat.mod_eq_of_lt a.isLt, Nat.add_sub_cancel, hhalf]

/-- The two's-complement encoding of an integer is the number of its word. -/
theorem encS_eq_toNat_ofInt (w : Nat) (x : Int) : encS w x = (BitVec.ofInt w x).toNat := (BitVec.toNat_ofInt x).symm

/-- The encoded difference of two words' signed values is their difference. -/
theorem encS_toInt_sub {w : Nat} (a b : BitVec w) : encS w (a.toInt - b.toInt) = (a - b).toNat := by
  have hword : BitVec.ofInt w (a.toInt - b.toInt) = a - b := BitVec.eq_of_toInt_eq (by rw [BitVec.toInt_ofInt, BitVec.toInt_sub])
  rw [encS_eq_toNat_ofInt, hword]

/-- The encoded arithmetic shift of a word's signed value is the word shifted with its sign. -/
theorem encS_asr_toInt {w : Nat} (a : BitVec w) (n : Nat) : encS w (asr a.toInt n) = (a.sshiftRight n).toNat := by
  rw [encS_eq_toNat_ofInt, asr, ← Int.shiftRight_eq_div_pow, ← BitVec.toInt_sshiftRight, BitVec.ofInt_toInt]

/-- Settles O47: the signed readings of the operands are the words' own, and each function is then its word operation. -/
theorem scalarOperationsAreThoseOfWords : Obligations.ScalarOperationsAreThoseOfWords := by
  intro a b
  simp only [saluOp, sext_toNat]
  exact ⟨(BitVec.toNat_add a b).symm,
    encS_toInt_sub a b,
    (BitVec.toNat_and a b).symm,
    (BitVec.toNat_or a b).symm,
    (BitVec.toNat_xor a b).symm,
    by rw [BitVec.toNat_shiftLeft, Nat.shiftLeft_eq],
    encS_asr_toInt a _,
    by rw [BitVec.toNat_ushiftRight, Nat.shiftRight_eq_div_pow],
    (apply_ite BitVec.toNat _ b a).symm,
    (apply_ite BitVec.toNat _ b a).symm,
    by simp only [b2n, decide_eq_true_eq]⟩

/-! ## Words and bundles (R327-R333) -/

/-- Settles O48: a closed statement about the words that the worked kernel writes out, which the decoder evaluates. -/
theorem workedKernelWordsAreLegal : Obligations.WorkedKernelWordsAreLegal := by
  unfold Obligations.WorkedKernelWordsAreLegal
  decide

end Sys2Proof.Machine
end

section
/-! SUPPORT. A step of the machine (00_scope, 01_architecture). -/
namespace Sys2Proof.Machine

/-- Settles O25: a step looks at the queue alone. -/
theorem stepRunsTheFrontCommand : Obligations.StepRunsTheFrontCommand :=
  ⟨fun _ _ _ hq => by simp only [step, hq], fun _ hq => by simp only [step, hq]⟩

end Sys2Proof.Machine
end

section
/-! SUPPORT. Mailboxes (14_dma_mailboxes, R370-R373): what an access does where the channel allows it. -/
namespace Sys2Proof.Machine

/-- A granted read whose rule answers a code, data and a state: that state, with the answer, at the end of the command's cycle (R24). -/
theorem finish_readBy {s t : State} {r : Req} {a c d : Nat} {rule : State → Nat × Nat × State} (hg : s.grants r a) (h : rule s = (c, d, t)) :
    finish (s.readBy r a rule) = .next (State.endCycle (t.answer r c d)) :=
  finish_congr (by rw [readBy_grants hg, h])

section
variable {s : State} {c : Nat}

theorem mbxMsgWrite_of_free {req : Nat} (hf : s.mbxFull c = false) (ht : s.mbxTaken c req = false) (k : Nat) (v : Word) :
    mbxMsgWrite c k req v s = (0, (s.mbxClaim c req).wr (Reg.MBX_MSG c k) v) := by
  simp only [mbxMsgWrite, hf, ht, Bool.or_self, Bool.false_eq_true, if_false]

theorem mbxDoorbell_of_ring {req : Nat} {v : Word} (hv : getF v Fld.MBX_DOORBELL_RING = 1) (hr : s.mbxRefuses c req = false) :
    mbxDoorbell c req v s = (0, s.mbxPost c req) := by
  simp only [mbxDoorbell, hv, hr, Nat.one_ne_zero, Bool.false_eq_true, if_false]

/-- The receiver's read of word 15 of a FULL channel acknowledges it. -/
theorem mbxMsgRead_acknowledges {req : Nat} (hf : s.mbxFull c = true) (hr : s.mbxIsRx c req = true) :
    mbxMsgRead c 15 req s = (0, (s.rd (Reg.MBX_MSG c 15)).toNat,
      let t := (s.setFld (Reg.MBX_STAT c) Fld.MBX_STAT_FULL 0).evSource (0x40 + c)
      if s.bit (Reg.MBX_CFG c) Fld.MBX_CFG_ACKEV then t.raise 0x8005 c else t) := by
  simp only [mbxMsgRead, hf, hr, and_self, if_true]

theorem mbxFlush_of_receiver {req : Nat} {v : Word} (hv : getF v Fld.MBX_FLUSH_FLUSH = 1) (hr : s.mbxIsRx c req = true) :
    mbxFlush c req v s =
      (0, (List.range 16).foldl (fun (t : State) k => t.wr (Reg.MBX_MSG c k) 0)
        ((if s.mbxClaimed c then s.mbxLapse c else s).setFld (Reg.MBX_STAT c) Fld.MBX_STAT_FULL 0)) := by
  simp only [mbxFlush, hv, hr, Nat.one_ne_zero, Bool.not_true, Bool.false_eq_true, if_false]

end

theorem exec_mbxClaimLapsed_due {s : State} {c : Fin 32} (hc : s.mbxClaimed c = true)
    (hd : (kvGet (fun _ => ({} : LockSt)) s.claims c).at_ + usTicks (Nat.max 1 (s.fld Reg.MBX_CLAIM_TMO Fld.MBX_CLAIM_TMO_US)) ≤ s.tick) :
    exec (.mbxClaimLapsed c) s = .next (State.endCycle (s.mbxLapse c)) :=
  finish_congr (if_pos (by simp [hc, hd]))

/-- Settles O1: each access is a granted one, and the state of its channel names the case of its rule; dropping held words changes no channel. -/
theorem mailboxCommandsTakeEffect : Obligations.MailboxCommandsTakeEffect :=
  ⟨fun s r _ k v hg hf ht => finish_writeBy hg (mbxMsgWrite_of_free (s := s.entering r) hf ht k v),
   fun s r _ _ hg hv hr => finish_writeBy hg (mbxDoorbell_of_ring (s := s.entering r) hv hr),
   fun _ _ _ hg hf hr => finish_readBy hg (mbxMsgRead_acknowledges hf hr),
   fun s r _ _ hg hv hr => finish_writeBy hg (mbxFlush_of_receiver (s := s.entering r) hv hr),
   fun _ _ => exec_mbxClaimLapsed_due⟩

end Sys2Proof.Machine
end

section
/-! SUPPORT. Tally locks (14_dma_mailboxes, R375-R379): acquisition, release, the hold limit and the loss of an owner. -/
namespace Sys2Proof.Machine

/-! ## The rules of a lock register (R375, R377) -/

section
variable {s : State} {k : Nat}

/-- A lock free after the hold limit is applied goes to a reader that can own one, with its hold limit. -/
theorem tallyRead_of_free {req : Nat} (h0 : (s.expireLock k).lockOwner k = 0) (hc : canOwn req = true) :
    tallyRead k req s = (0, 0,
      let e := s.expireLock k
      { e.wr (Reg.TALLY_STAT k) (setF (setF (e.rd (Reg.TALLY_STAT k)) Fld.TALLY_STAT_HELD 1) Fld.TALLY_STAT_OWNER req) with
        locks := kvSet (fun _ => {}) e.locks k ⟨e.tick, e.holdUs k⟩ }) := by
  simp only [tallyRead, h0, hc, and_self, if_true]

theorem tallyRead_of_held {req : Nat} (h0 : (s.expireLock k).lockOwner k ≠ 0) :
    tallyRead k req s = (0, (s.expireLock k).lockOwner k, s.expireLock k) := by
  simp only [tallyRead, h0, false_and, if_false]

theorem tallyWrite_by_owner {req : Nat} {v : Word} (h : (s.expireLock k).lockOwner k = req) (h0 : req ≠ 0)
    (hv : getF v Fld.TALLY_LOCK_OWNER = req) : tallyWrite k req v s = (0, (s.expireLock k).freeLock k) :=
  if_pos ⟨h, h0, hv⟩

theorem tallyWrite_refused {req : Nat} {v : Word}
    (h : ¬((s.expireLock k).lockOwner k = req ∧ req ≠ 0 ∧ getF v Fld.TALLY_LOCK_OWNER = req)) :
    tallyWrite k req v s = (6, s.expireLock k) :=
  if_neg h

/-- A held lock whose limit has passed breaks. -/
theorem expireLock_of_due (ho : s.lockOwner k ≠ 0)
    (hd : (kvGet (fun _ => ({} : LockSt)) s.locks k).at_ + usTicks (kvGet (fun _ => ({} : LockSt)) s.locks k).limit ≤ s.tick) :
    s.expireLock k = s.breakLock k 1 :=
  if_pos ⟨ho, hd⟩

/-- Before its limit, and while it is free, a lock is left as it is. -/
theorem expireLock_of_not_due (h : s.lockOwner k = 0 ∨ s.tick <
      (kvGet (fun _ => ({} : LockSt)) s.locks k).at_ + usTicks (kvGet (fun _ => ({} : LockSt)) s.locks k).limit) :
    s.expireLock k = s := by
  refine if_neg fun ⟨ho, hd⟩ => ?_
  cases h with
  | inl h0 => exact ho h0
  | inr hlt => exact absurd hd (Nat.not_le.mpr hlt)

end

theorem exec_portDownLockRelease_due {s : State} {p : Fin 2} {t : Nat} (ht : (s.link p).downAt = some t) (hf : (s.link p).locksFreed = false)
    (hu : s.linkUp p = false) (hd : t + msTicks (Nat.max 1 (s.fld (Reg.LINK_DOWN_TMO p) Fld.LINK_DOWN_TMO_MS)) ≤ s.tick) :
    exec (.portDownLockRelease p) s =
      .next (State.endCycle ((s.setLink p { s.link p with locksFreed := true }).ownerLost (p + 1) 3)) :=
  finish_congr (by simp only [ht, hf, hu, hd, Bool.not_false, Bool.and_self, decide_true, if_true])

/-- Settles O2: the accesses are granted ones of a lock register; the lock's owner after its hold limit names the case. -/
theorem tallyLocksGoToReadersAndBack : Obligations.TallyLocksGoToReadersAndBack :=
  ⟨fun _ _ _ hg h0 hc => finish_readBy hg (tallyRead_of_free h0 hc),
   fun _ _ _ hg h0 => finish_readBy hg (tallyRead_of_held h0),
   fun _ _ _ _ hg h h0 hv => finish_writeBy hg (tallyWrite_by_owner h h0 hv),
   fun _ _ _ _ hg h => finish_writeBy hg (tallyWrite_refused h),
   fun _ _ ho hd => finish_congr (expireLock_of_due ho hd),
   fun _ _ _ => exec_portDownLockRelease_due⟩

end Sys2Proof.Machine
end

section
/-! SUPPORT. The register words below the performance counters, the event log and the links (R20): counting, transmission and the end of a cycle leave them
alone. -/
namespace Sys2Proof.Machine

section
variable {a : Nat} (ha : a < 0x60000) (s : State)
include ha

theorem ne_of_low {b : Nat} (hb : 0x60000 ≤ b) : a ≠ b := Nat.ne_of_lt (Nat.lt_of_lt_of_le ha hb)

theorem State.rd_pmuFrom_low (b ev amt k n : Nat) : (s.pmuFrom b ev amt k n).rd a = s.rd a := by
  have hcnt : ∀ b k, a ≠ Reg.PMU_CNT b k := fun b k => ne_of_low ha (by unfold Reg.PMU_CNT; omega)
  have hovf : ∀ b, a ≠ Reg.PMU_BANK_OVF b := fun b => ne_of_low ha (by unfold Reg.PMU_BANK_OVF; omega)
  have hpmu : ∀ (t : State) x, ({ t with pmu := x } : State).rd a = t.rd a := fun _ _ => rfl
  induction n generalizing s k with
  | zero => rfl
  | succ n ih =>
    unfold State.pmuFrom
    dsimp only
    (repeat' split) <;> simp only [ih, hpmu, ne_eq, hcnt, hovf, not_false_eq_true, State.rd_setFld_other, State.rd_wr_other]

theorem State.rd_pmuCount_low (b ev amt : Nat) : (s.pmuCount b ev amt).rd a = s.rd a := by
  unfold State.pmuCount
  split
  · rfl
  · exact s.rd_pmuFrom_low ha b ev amt 0 8

theorem State.rd_answer_low (r : Req) (code data : Nat) : (s.answer r code data).rd a = s.rd a := by
  unfold State.answer
  (repeat' split) <;> simp only [State.rd_pmuCount_low ha, State.rd_setBus]

omit ha in
theorem State.rd_putPkts (p : Nat) (qs : List Pkt) : (s.putPkts p qs).rd a = s.rd a := by
  induction qs generalizing s with
  | nil => rfl
  | cons q qs ih => exact ih _

theorem State.rd_pumpSome_low (p n : Nat) : (s.pumpSome p n).rd a = s.rd a := by
  simp only [State.pumpSome, State.rd_pmuCount_low ha, State.rd_putPkts, State.rd_setLink]

theorem State.rd_sessionEnd_low (p : Nat) : (s.sessionEnd p).rd a = s.rd a := by
  have hsec : a ≠ Reg.LINK_SEC_STAT p := ne_of_low ha (by unfold Reg.LINK_SEC_STAT; omega)
  have hstat : a ≠ Reg.LINK_STATUS p := ne_of_low ha (by unfold Reg.LINK_STATUS; omega)
  unfold State.sessionEnd
  split
  · exact (State.rd_setFld_other _ _ _ hstat).trans (State.rd_setFld_other _ _ _ hsec)
  · rfl

theorem State.rd_pump_low (p : Nat) : (s.pump p).rd a = s.rd a := by
  unfold State.pump
  dsimp only
  (repeat' split) <;> simp only [State.rd_pumpSome_low ha, State.rd_sessionEnd_low ha]

theorem State.rd_sendEvent_low (p : Nat) (e : EvRec) : (s.sendEvent p e).rd a = s.rd a := by
  unfold State.sendEvent State.sendBk
  (repeat' split) <;> simp only [State.rd_pump_low ha, State.rd_setLink]

theorem State.rd_logEvent_low (r : EvReq) : (s.logEvent r).rd a = s.rd a := by
  have hnext : a ≠ Reg.EVT_NEXT := ne_of_low ha (by decide)
  have hold : a ≠ Reg.EVT_OLDEST := ne_of_low ha (by decide)
  have hstat : a ≠ Reg.EVT_STAT := ne_of_low ha (by decide)
  have hevs : ∀ (t : State) x, ({ t with evs := x } : State).rd a = t.rd a := fun _ _ => rfl
  simp only [State.logEvent, State.rd_sendEvent_low ha, hevs, State.rd_wr_other _ _ hold, State.rd_wr_other _ _ hnext]
  split
  · exact State.rd_setFld_other _ _ _ hstat
  · rfl

theorem State.rd_endCycle_low : s.endCycle.rd a = s.rd a := by
  have hfold : ∀ (l : List EvReq) (t : State), (l.foldl State.logEvent t).rd a = t.rd a := by
    intro l
    induction l with
    | nil => exact fun _ => rfl
    | cons r l ih => exact fun t => (ih _).trans (t.rd_logEvent_low ha r)
  exact hfold _ _

end

end Sys2Proof.Machine
end

section
/-! SUPPORT. The owners of tally locks (14_dma_mailboxes, R376-R378): whose lock each operation leaves. -/
namespace Sys2Proof.Machine

/-! ## Answers on the bus (R24) -/

/-- What an answer leaves of a field that neither counting nor the requester's bus unit is part of. -/
theorem Untouched.answer {α : Type} {f : State → α} (h : Untouched α f) (hb : ∀ s l, f { s with bus := l } = f s) (s : State) (r : Req)
    (code data : Nat) : f (s.answer r code data) = f s := by
  unfold State.answer
  (repeat' split) <;> simp only [h.pmuCount, State.setBus, hb]

theorem State.busOf_answer {s : State} (hh : s.held = false) (r : Req) (code data : Nat) :
    (s.answer r code data).busOf r.id = { s.busOf r.id with resp := code, data := data } := by
  have hcount : ∀ (t : State) b ev amt, (t.pmuCount b ev amt).busOf r.id = t.busOf r.id := fun t b ev amt =>
    Untouched.pmuCount (f := fun t : State => t.busOf r.id)
      ⟨fun _ _ => rfl, fun _ _ => rfl, fun _ _ => rfl, fun _ _ => rfl, fun _ _ => rfl, fun _ _ => rfl, fun _ _ => rfl⟩ t b ev amt
  simp only [State.answer, hh, Bool.false_eq_true, if_false]
  split <;> simp only [hcount, State.busOf_setBus_same]

theorem State.held_answer (s : State) (r : Req) (code data : Nat) : (s.answer r code data).held = s.held :=
  Untouched.answer (f := State.held)
    ⟨fun _ _ => rfl, fun _ _ => rfl, fun _ _ => rfl, fun _ _ => rfl, fun _ _ => rfl, fun _ _ => rfl, fun _ _ => rfl⟩ (fun _ _ => rfl) s r code data

theorem State.held_endCycle (s : State) : s.endCycle.held = s.held := by simp only [State.held, State.power_endCycle]

/-! ## Owners -/

section
variable (s : State) (k : Nat)

theorem State.lockOwner_freeLock_same : (s.freeLock k).lockOwner k = 0 :=
  (congrArg (getF · Fld.TALLY_STAT_OWNER) (s.rd_wr_same _ _)).trans (getF_setF_same _ _ _ (by decide))

theorem State.lockOwner_wr_other {k j : Nat} (h : j ≠ k) (w : Word) : (s.wr (Reg.TALLY_STAT k) w).lockOwner j = s.lockOwner j :=
  congrArg (getF · Fld.TALLY_STAT_OWNER) (s.rd_wr_other w (by unfold Reg.TALLY_STAT; omega))

theorem State.lockOwner_freeLock_other {j : Nat} (h : j ≠ k) : (s.freeLock k).lockOwner j = s.lockOwner j := s.lockOwner_wr_other h _

theorem State.lockOwner_breakLock_other (cause : Nat) {j : Nat} (h : j ≠ k) : (s.breakLock k cause).lockOwner j = s.lockOwner j :=
  (State.lockOwner_wr_other _ h _).trans (s.lockOwner_freeLock_other k h)

/-- Applying a lock's hold limit changes no other lock's owner. -/
theorem State.lockOwner_expireLock_other {j : Nat} (h : j ≠ k) : (s.expireLock k).lockOwner j = s.lockOwner j := by
  unfold State.expireLock
  dsimp only
  split
  · exact s.lockOwner_breakLock_other k 1 h
  · rfl

theorem State.held_expireLock : (s.expireLock k).held = s.held := by
  unfold State.expireLock
  dsimp only
  split <;> rfl

/-- Held words of a requester are no part of the hold limits. -/
theorem State.expireLock_entering (r : Req) : (s.entering r).expireLock k = (s.expireLock k).entering r := by
  unfold State.expireLock
  exact Eq.symm (apply_ite (fun t : State => t.dropHeld r) _ (s.breakLock k 1) s)

end

theorem State.lockOwner_answer (s : State) (k : Fin 64) (r : Req) (code data : Nat) : (s.answer r code data).lockOwner k = s.lockOwner k :=
  congrArg (getF · Fld.TALLY_STAT_OWNER) (s.rd_answer_low (by unfold Reg.TALLY_STAT; omega) r code data)

theorem State.lockOwner_endCycle (s : State) (k : Fin 64) : s.endCycle.lockOwner k = s.lockOwner k :=
  congrArg (getF · Fld.TALLY_STAT_OWNER) (s.rd_endCycle_low (by unfold Reg.TALLY_STAT; omega))

theorem canOwn_lt {id : Nat} (h : canOwn id = true) : id < 256 := by
  simp only [canOwn, Bool.or_eq_true, decide_eq_true_eq] at h
  omega

/-! ## A release and the read after it -/

/-- A read of a free lock makes its reader the owner and returns 0. -/
theorem exec_tallyAcquire_free {s : State} {q : Req} {k : Fin 64} (hg : s.grants q (Reg.TALLY_LOCK k)) (hh : s.held = false)
    (h0 : s.lockOwner k = 0) (hc : canOwn q.id = true) :
    ∃ u : State, exec (.tallyAcquire q k) s = .next u.endCycle ∧ u.lockOwner k = q.id ∧ (u.busOf q.id).data = 0 := by
  have hkeep : s.expireLock k = s := expireLock_of_not_due (.inl h0)
  have hread := tallyRead_of_free (s := s) (k := k) (by rw [hkeep]; exact h0) hc
  rw [hkeep] at hread
  refine ⟨_, finish_readBy hg hread, ?_, ?_⟩
  · refine (State.lockOwner_answer _ k q 0 0).trans ?_
    exact (congrArg (getF · Fld.TALLY_STAT_OWNER) (s.rd_wr_same _ _)).trans
      ((getF_setF_same _ _ _ (by decide)).trans (Nat.mod_eq_of_lt (canOwn_lt hc)))
  · rw [State.busOf_answer (by exact hh)]

/-- The owner's release frees the lock, changes no other owner and answers OK; a read after it finds the lock free. -/
theorem exec_tallyRelease_owner {s : State} {r : Req} {k : Fin 64} {v : Word} (hg : s.grants r (Reg.TALLY_LOCK k)) (hh : s.held = false)
    (ho : (s.expireLock k).lockOwner k = r.id) (h0 : r.id ≠ 0) (hv : getF v Fld.TALLY_LOCK_OWNER = r.id) :
    ∃ t : State, exec (.tallyRelease r k v) s = .next t.endCycle ∧ t.lockOwner k = 0 ∧ (t.busOf r.id).resp = 0 ∧
      (∀ j : Fin 64, j ≠ k → t.lockOwner j = s.lockOwner j) ∧
      (∀ q : Req, t.endCycle.grants q (Reg.TALLY_LOCK k) → canOwn q.id = true →
        ∃ u : State, exec (.tallyAcquire q k) t.endCycle = .next u.endCycle ∧ u.lockOwner k = q.id ∧ (u.busOf q.id).data = 0) := by
  have hwrite := tallyWrite_by_owner (s := s.entering r) (k := k) (by rw [State.expireLock_entering]; exact ho) h0 hv
  rw [State.expireLock_entering] at hwrite
  have hheld : (((s.expireLock k).entering r).freeLock k).held = false := (s.held_expireLock k).trans hh
  have hfree := (State.lockOwner_answer (((s.expireLock k).entering r).freeLock k) k r 0 0).trans (State.lockOwner_freeLock_same _ _)
  refine ⟨_, finish_writeBy hg hwrite, hfree, by rw [State.busOf_answer hheld], fun j hj => ?_, fun q hq hc => ?_⟩
  · have hne := Fin.val_ne_of_ne hj
    exact (State.lockOwner_answer _ j r 0 0).trans ((State.lockOwner_freeLock_other _ _ hne).trans (s.lockOwner_expireLock_other k hne))
  · refine exec_tallyAcquire_free hq ?_ ((State.lockOwner_endCycle _ k).trans hfree) hc
    rw [State.held_endCycle, State.held_answer, hheld]

/-- Any other write answers ERR_NOTOWNER and changes no lock but for the hold limit applied before it. -/
theorem exec_tallyRelease_refused {s : State} {r : Req} {k : Fin 64} {v : Word} (hg : s.grants r (Reg.TALLY_LOCK k)) (hh : s.held = false)
    (hn : (s.expireLock k).lockOwner k ≠ r.id ∨ r.id = 0 ∨ getF v Fld.TALLY_LOCK_OWNER ≠ r.id) :
    ∃ t : State, exec (.tallyRelease r k v) s = .next t.endCycle ∧ (t.busOf r.id).resp = 6 ∧
      (∀ j : Fin 64, t.lockOwner j = (s.expireLock k).lockOwner j) ∧ t.locks = (s.expireLock k).locks := by
  have hwrite := tallyWrite_refused (s := s.entering r) (k := k) (req := r.id) (v := v) (by
    rw [State.expireLock_entering]
    exact fun ⟨ho, h0, hv⟩ => hn.elim (· ho) (·.elim h0 (· hv)))
  rw [State.expireLock_entering] at hwrite
  have hheld : ((s.expireLock k).entering r).held = false := (s.held_expireLock k).trans hh
  refine ⟨_, finish_writeBy hg hwrite, by rw [State.busOf_answer hheld], fun j => State.lockOwner_answer _ j r 6 0, ?_⟩
  exact Untouched.answer (f := State.locks)
    ⟨fun _ _ => rfl, fun _ _ => rfl, fun _ _ => rfl, fun _ _ => rfl, fun _ _ => rfl, fun _ _ => rfl, fun _ _ => rfl⟩ (fun _ _ => rfl) _ r 6 0

/-- Settles O37: the hold limit comes first, then the lock's owner and the written ID name the case. -/
theorem locksFollowTheirOwner : Obligations.LocksFollowTheirOwner :=
  ⟨fun _ _ _ _ => exec_tallyRelease_owner,
   fun _ _ _ _ => exec_tallyRelease_refused,
   fun _ _ => expireLock_of_not_due⟩

end Sys2Proof.Machine
end

section
/-! SUPPORT. DMA (14_dma_mailboxes, R354-R367; 03_link, R95): starts, aborts, the ends of transfers, records and completion queues. The model's readings behind
them: log entries 32, 37. -/
namespace Sys2Proof.Machine

/-! ## Starts and aborts (R354, R360) -/

section
variable {s : State} {c : Nat} (hc : ¬(c = 15 ∧ s.sec.ch15 = true))

theorem dmaStart_of_idle (hi : (s.ch c).phase = .idle) (sec : Bool) : s.dmaStart c sec = (true, s.dmaBegin c sec) := if_pos hi

/-- A start on a busy channel whose set is free queues the shadow set. -/
theorem dmaStart_of_busy (hi : (s.ch c).phase ≠ .idle) (hv : s.bit (Reg.DMA_STAT c) Fld.DMA_STAT_SHADOW_VALID = false) (sec : Bool) :
    s.dmaStart c sec = (true, (s.setFld (Reg.DMA_STAT c) Fld.DMA_STAT_SHADOW_VALID 1).setCh c { s.ch c with nextSec := sec }) := by
  simp only [State.dmaStart, hi, hv, Bool.false_eq_true, if_false]

include hc

/-- A write of `DMA_GO` that starts and does not abort does what an accepted start does. -/
theorem dmaGoWrite_starts {t : State} {v : Word} {sec : Bool} (hv : getF v Fld.DMA_GO_ABORT = 0) (ht : s.dmaStart c sec = (true, t)) :
    dmaGoWrite c sec (setF v Fld.DMA_GO_START 1) s = (0, t) := by
  have hstart : getF (setF v Fld.DMA_GO_START 1) Fld.DMA_GO_START = 1 := getF_setF_same _ _ _ (by decide)
  have habort : getF (setF v Fld.DMA_GO_START 1) Fld.DMA_GO_ABORT = 0 := (getF_setF_other _ _ _ _ (by decide) (by decide)).trans hv
  simp only [dmaGoWrite, hc, habort, hstart, ht, Nat.zero_ne_one, if_false, if_true]

theorem dmaGoWrite_aborts (sec : Bool) : dmaGoWrite c sec (setF 0 Fld.DMA_GO_ABORT 1) s = (0, s.dmaAbort c) := by
  have habort : getF (setF 0 Fld.DMA_GO_ABORT 1) Fld.DMA_GO_ABORT = 1 := by decide
  have hstart : getF (setF 0 Fld.DMA_GO_ABORT 1) Fld.DMA_GO_START ≠ 1 := by decide
  simp only [dmaGoWrite, hc, habort, hstart, if_false, if_true]

end

/-! ## Ends of transfers and records (R358, R359, R364) -/

section
variable {s t : State} {c : Fin 16}

theorem exec_dmaTransferEnd_done {done : Nat} (hp : (s.ch c).phase = .move) (h0 : (s.ch c).sspace = 0)
    (hd : (s.ch c).len / 64 ≤ s.dmaCould (s.ch c)) (hm : s.dmaMove c ((s.ch c).len / 64) = (t, done, none)) :
    exec (.dmaTransferEnd c none) s = .next (State.endCycle (t.dmaFinish c 0 done 0 0 0)) :=
  finish_congr (by simp only [hp, h0, Nat.not_lt.mpr hd, hm, ne_eq, not_true_eq_false, Nat.lt_irrefl, if_false])

theorem exec_dmaTransferEnd_fails {done code a : Nat} (hp : (s.ch c).phase = .move) (h0 : (s.ch c).sspace = 0)
    (hd : (s.ch c).len / 64 ≤ s.dmaCould (s.ch c)) (hm : s.dmaMove c ((s.ch c).len / 64) = (t, done, some (code, a))) :
    exec (.dmaTransferEnd c none) s = .next (State.endCycle (t.dmaFinish c 3 done a 1 code)) :=
  finish_congr (by simp only [hp, h0, Nat.not_lt.mpr hd, hm, ne_eq, not_true_eq_false, if_false])

/-- A written record of a transfer that ended well, without notification, frees the channel and starts its queued set. -/
theorem exec_dmaRecordWritten_ok {x : CqRec} (hp : (s.ch c).phase = .written) (hr : (s.ch c).rec_ = some x) (hx : x.status = 0)
    (hn : (s.ch c).notify = false) :
    exec (.dmaRecordWritten c) s =
      .next (State.endCycle (let t := ((s.evSource (0x10 + c)).setCh c { s.ch c with phase := .idle, rec_ := none }).setFld (Reg.DMA_STAT c) Fld.DMA_STAT_STATE 0
        if t.bit (Reg.DMA_STAT c) Fld.DMA_STAT_SHADOW_VALID then
          (t.setFld (Reg.DMA_STAT c) Fld.DMA_STAT_SHADOW_VALID 0).dmaBegin c (s.ch c).nextSec else t)) :=
  finish_congr (by simp only [hp, hr, hx, hn, ne_eq, not_true_eq_false, Bool.false_eq_true, if_false])

end

/-! ## Completion queues (R366, R367) -/

section
variable {s : State} {q : Nat} {v : Word}

/-- A HEAD not past TAIL is stored. -/
theorem cqHeadWrite_in_range (h : (s.cqTail q + 65536 - getF v Fld.DMA_CQ_HEAD_IDX) % 65536 ≤ s.cqSize q) :
    cqHeadWrite q v s = (0, (s.setFld (Reg.DMA_CQ_HEAD q) Fld.DMA_CQ_HEAD_IDX (getF v Fld.DMA_CQ_HEAD_IDX)).drainQueue q 16) := by
  simp only [cqHeadWrite, h, if_true]

/-- Another HEAD stores TAIL. -/
theorem cqHeadWrite_out_of_range (h : s.cqSize q < (s.cqTail q + 65536 - getF v Fld.DMA_CQ_HEAD_IDX) % 65536) :
    cqHeadWrite q v s = (0, (s.setFld (Reg.DMA_CQ_HEAD q) Fld.DMA_CQ_HEAD_IDX (s.cqTail q)).drainQueue q 16) := by
  simp only [cqHeadWrite, Nat.not_le.mpr h, if_false]

/-- Enabling a queue zeroes both indices and resolves its port. -/
theorem cqCfgWrite_enables (h0 : s.bit (Reg.DMA_CQ_CFG q) Fld.DMA_CQ_CFG_EN = false) (hv : getF v Fld.DMA_CQ_CFG_EN = 1) :
    cqCfgWrite q v s = (0,
      let t1 := (s.plainWrite (Reg.DMA_CQ_CFG q) v).setFld (Reg.DMA_CQ_HEAD q) Fld.DMA_CQ_HEAD_IDX 0
      let t := t1.setFld (Reg.DMA_CQ_TAIL q) Fld.DMA_CQ_TAIL_IDX 0
      { t with dma := { t.dma with cqPort := kvSet (fun _ => 0) t.dma.cqPort q (s.resolveSpace (getF v Fld.DMA_CQ_CFG_LOC)) } }.drainQueue q 16) := by
  simp only [cqCfgWrite, h0, hv, Bool.false_and, Bool.not_false, Bool.true_and, beq_self_eq_true, Bool.false_eq_true, if_false, if_true]

end

/-! ## Completion time-outs (R95) -/

theorem exec_cplTimeout_due {s : State} {p : Fin 2} {tag : BitVec 8} {c : Nat} {m : MemRd} (hf : s.findRead p tag.toNat = some (c, m))
    (hm : m.flush = false) (hd : m.at_ + usTicks (Nat.max 1 (s.fld (Reg.LINK_CPL_TMO p) Fld.LINK_CPL_TMO_US)) ≤ s.tick) :
    exec (.cplTimeout p tag) s =
      .next (State.endCycle (let t := (s.flag (Reg.LINK_ERR p) Fld.LINK_ERR_CPL_TMO).raise 0x3015 p
        t.dmaFinish c 5 (t.ch c).prefix_ ((t.ch c).src + (t.ch c).prefix_) 2 0)) :=
  finish_congr (by simp only [hf, hm, hd, Bool.false_eq_true, if_false, if_true])

/-- Settles O3: the accesses are granted writes, the other commands take the case that their hypotheses name. -/
theorem dmaCommandsTakeEffect : Obligations.DmaCommandsTakeEffect :=
  ⟨fun s r _ _ hg hc hv hi => finish_writeBy hg (dmaGoWrite_starts (s := s.entering r) hc hv (dmaStart_of_idle (s := s.entering r) hi _)),
   fun s r _ _ hg hc hv hi hb => finish_writeBy hg (dmaGoWrite_starts (s := s.entering r) hc hv (dmaStart_of_busy (s := s.entering r) hi hb _)),
   fun s r _ hg hc => finish_writeBy hg (dmaGoWrite_aborts (s := s.entering r) hc _),
   fun _ _ _ _ => exec_dmaTransferEnd_done,
   fun _ _ _ _ _ _ => exec_dmaTransferEnd_fails,
   fun _ _ _ => exec_dmaRecordWritten_ok,
   fun s r _ _ hg h => finish_writeBy hg (cqHeadWrite_in_range (s := s.entering r) h),
   fun s r _ _ hg h => finish_writeBy hg (cqHeadWrite_out_of_range (s := s.entering r) h),
   fun s r _ _ hg h0 hv => finish_writeBy hg (cqCfgWrite_enables (s := s.entering r) h0 hv),
   fun _ _ _ _ _ => exec_cplTimeout_due⟩

end Sys2Proof.Machine
end

section
/-! SUPPORT. Repair and alarms (19_repair_availability, R466-R471, R482; 21_electrical_package, R499): column relief, memory errors, scrub passes, row relief,
acknowledgements, shorted pins. The model's readings behind them: log entry 47. -/
namespace Sys2Proof.Machine

/-! ## Beamforming columns (R466, R467) -/

section
variable {s t : State} {dir : Fin 2} {ant : Fin 64} {car : Fin 8} {re : Nat} (hclk : s.clkOn Fld.SYS_CLK_STATUS_FCLK = true)
  (hon : s.bfOff dir ant = false) (ht : { s with bfErr := (dir.val, ant.val, car.val, re) :: s.bfErr } = t)
include hclk hon ht

/-- The first fault of a group takes its spare column. -/
theorem exec_bfColumnRelief_first (hmap : s.fld (Reg.REPAIR_BFMAP dir) (bfMapF (ant.val / 16)) = 0x1F) :
    exec (.bfColumnRelief dir ant car re) s =
      .next (State.endCycle ((t.setFld (Reg.REPAIR_BFMAP dir) (bfMapF (ant.val / 16)) (ant.val % 16)).raise 0x6002 ant
        (repairWord 4 (dir.val * 4 + ant.val / 16) (ant.val % 16)))) := by
  subst ht
  exact finish_congr (by simp only [hclk, hon, hmap, Bool.not_true, Bool.or_self, Bool.false_eq_true, if_false, if_true])

/-- A later one finds the spare in use and disables its column. -/
theorem exec_bfColumnRelief_later (hmap : s.fld (Reg.REPAIR_BFMAP dir) (bfMapF (ant.val / 16)) ≠ 0x1F) :
    exec (.bfColumnRelief dir ant car re) s =
      .next (State.endCycle ((t.wr64 (Reg.REPAIR_BFFAIL dir) (setBitN (t.rd64 (Reg.REPAIR_BFFAIL dir)) ant true)).raise 0x6003 ant
        (repairWord 4 (dir.val * 4 + ant.val / 16) (ant.val % 16)))) := by
  subst ht
  exact finish_congr (by simp only [hclk, hon, hmap, Bool.not_true, Bool.or_self, Bool.false_eq_true, if_false])

end

/-! ## Memory errors and scrub passes (R469, R470) -/

section
variable {s t : State} {array : Nat} {row : Fin 128} (hclk : s.clkOn Fld.SYS_CLK_STATUS_CCLK = true)
include hclk

/-- An uncorrectable error in a row that is neither due nor failed zeroes its word and makes the row due. -/
theorem exec_eccUncorrectable_new {addr : Nat} (hdue : s.sram.due.contains (array, row.val) = false)
    (hfail : s.sram.failed.contains (array, row.val) = false)
    (ht : { s.clearMem (addr / 8 * 8) (addr / 8 * 8 + 8) with sram := { s.sram with due := s.sram.due ++ [(array, row.val)] } } = t) :
    exec (.eccUncorrectable array row addr) s = .next (State.endCycle ((t.count Reg.REPAIR_UE_CNT).raise 0x6007 0xFF (repairWord 5 0 row) array)) := by
  subst ht
  exact finish_congr (by simp only [hclk, hdue, hfail, Bool.not_true, Bool.or_self, Bool.false_eq_true, if_false])

section
variable {n : Nat} (hper : s.sram.scrubAt + s.scrubTicks ≤ s.tick) (hn : 0 < n)
include hper hn

/-- A scrub pass that corrected words of one row suspects the row, and makes it due where it was suspect, neither due nor failed. -/
theorem exec_scrubPass_single :
    exec (.scrubPass [(array, row, n)]) s =
      .next (State.endCycle (((({ s with sram := { s.sram with
        suspect := [(array, row.val)]
        due := s.sram.due ++ ([(array, row.val)].filter fun r => s.sram.suspect.contains r && !s.sram.due.contains r && !s.sram.failed.contains r).eraseDups
        scrubAt := s.tick } } : State).count Reg.REPAIR_CE_CNT n).raiseLim 10 0x6006 0xFF (repairWord 5 0 row) array))) := by
  have hhit : [(array, row, n)].filter (fun e => decide (0 < e.2.2)) = [(array, row, n)] := by simp [hn]
  refine finish_congr ?_
  simp only [hclk, Nat.not_lt.mpr hper, hhit, Bool.not_true, decide_false, Bool.or_self, Bool.false_eq_true, if_false, List.map_cons, List.map_nil,
    List.foldl_cons, List.foldl_nil, Nat.zero_add]

theorem exec_scrubPass_first (hsus : s.sram.suspect.contains (array, row.val) = false)
    (ht : { s with sram := { s.sram with suspect := [(array, row.val)], scrubAt := s.tick } } = t) :
    exec (.scrubPass [(array, row, n)]) s =
      .next (State.endCycle ((t.count Reg.REPAIR_CE_CNT n).raiseLim 10 0x6006 0xFF (repairWord 5 0 row) array)) := by
  subst ht
  rw [exec_scrubPass_single hclk hper hn, List.filter_cons_of_neg (by simp only [hsus, Bool.false_and]; decide), List.filter_nil, List.eraseDups_nil,
    List.append_nil]

theorem exec_scrubPass_again (hsus : s.sram.suspect.contains (array, row.val) = true) (hdue : s.sram.due.contains (array, row.val) = false)
    (hfail : s.sram.failed.contains (array, row.val) = false)
    (ht : { s with sram := { s.sram with suspect := [(array, row.val)], due := s.sram.due ++ [(array, row.val)], scrubAt := s.tick } } = t) :
    exec (.scrubPass [(array, row, n)]) s =
      .next (State.endCycle ((t.count Reg.REPAIR_CE_CNT n).raiseLim 10 0x6006 0xFF (repairWord 5 0 row) array)) := by
  subst ht
  rw [exec_scrubPass_single hclk hper hn, List.filter_cons_of_pos (by simp only [hsus, hdue, hfail]; decide), List.filter_nil]
  rfl

end

/-! ## Row relief (R471) -/

section
variable (hdue : s.sram.due.contains (array, row.val) = true)
include hdue

/-- A due row takes a spare row of its array, of which there are two. -/
theorem exec_sramRowRelief_spare (hfree : s.rowsUsed array < 2) :
    exec (.sramRowRelief array row) s =
      .next (State.endCycle (({ s with sram := { s.sram with
        due := s.sram.due.filter (fun y => y != (array, row.val)), retired := s.sram.retired ++ [(array, row.val)],
        suspect := s.sram.suspect.filter (fun y => y != (array, row.val)) } } : State).raise 0x6004 0xFF (repairWord 5 0 row) array)) :=
  finish_congr (by simp only [hdue, hclk, hfree, Bool.not_true, Bool.or_self, Bool.false_eq_true, if_false, if_true])

theorem exec_sramRowRelief_none (hfull : 2 ≤ s.rowsUsed array) :
    exec (.sramRowRelief array row) s =
      .next (State.endCycle ((({ s with sram := { s.sram with
        due := s.sram.due.filter (fun y => y != (array, row.val)), failed := (array, row.val) :: s.sram.failed } } : State).flag
          Reg.REPAIR_STAT Fld.REPAIR_STAT_NOROW).raise 0x6005 0xFF (repairWord 5 0 row) array)) :=
  finish_congr (by simp only [hdue, hclk, Nat.not_lt.mpr hfull, Bool.not_true, Bool.or_self, Bool.false_eq_true, if_false])

end

end

/-- Settles O20: each command's hypotheses name one case of its meaning; the acknowledgement is a granted write. -/
theorem memoryRepairAndAlarmsTakeEffect : Obligations.MemoryRepairAndAlarmsTakeEffect :=
  ⟨fun _ _ _ _ _ _ hclk hon hmap ht => exec_bfColumnRelief_first hclk hon ht hmap,
   fun _ _ _ _ _ _ hclk hon hmap ht => exec_bfColumnRelief_later hclk hon ht hmap,
   fun _ _ _ _ _ hclk => exec_eccUncorrectable_new hclk,
   fun _ _ _ _ _ hclk => exec_scrubPass_first hclk,
   fun _ _ _ _ _ hclk => exec_scrubPass_again hclk,
   fun _ _ _ hdue hclk => exec_sramRowRelief_spare hclk hdue,
   fun _ _ _ hdue hclk => exec_sramRowRelief_none hclk hdue,
   fun _ _ _ hg => finish_writeBy hg rfl,
   fun _ _ hh => finish_congr (if_neg (by simp [hh]))⟩

end Sys2Proof.Machine
end

section
/-! SUPPORT. Power, resets and the control of the performance counters (17_power_thermal, R415-R439; 20_performance_counters, R492-R494): each command's effect in
the state it belongs to. The model's readings behind them: log entries 20, 24, 45. -/
namespace Sys2Proof.Machine

/-! ## `PWR_CMD` (R415, R416, R422) -/

section
variable {s : State} {v : Word}

theorem pwrCmdWrite_in_transition (ht : s.power.trans.isSome = true) : pwrCmdWrite v s = (7, s) := by
  simp only [pwrCmdWrite, ht, Bool.or_true, if_true]

variable (hs : s.bit Reg.PWR_STATUS Fld.PWR_STATUS_SAFE = false) (ht : s.power.trans = none)
include hs ht

theorem pwrCmdWrite_ascends (h4 : s.pstate = 4) (hv : getF v Fld.PWR_CMD_TARGET = 5) :
    pwrCmdWrite v s = (0, s.beginTrans ⟨true, 8, 0, s.tick, 5, 4, false⟩) := by
  simp [pwrCmdWrite, hs, ht, h4, hv]

theorem pwrCmdWrite_leaves_ready (h5 : s.pstate = 5) (hv : getF v Fld.PWR_CMD_TARGET = 4) :
    pwrCmdWrite v s = (0, s.beginTrans ⟨false, 12, 0, s.tick, 4, 5, false⟩) := by
  simp [pwrCmdWrite, hs, ht, h5, hv]

/-- READY to ACTIVE takes no steps. -/
theorem pwrCmdWrite_activates (h5 : s.pstate = 5) (hv : getF v Fld.PWR_CMD_TARGET = 6) :
    pwrCmdWrite v s = (0, ((s.setFld Reg.PWR_STATUS Fld.PWR_STATUS_ERR 0).reachState 6).stateMute false) := by
  simp [pwrCmdWrite, hs, ht, h5, hv]

/-- IDLE descends to a low state where no work is in progress. -/
theorem pwrCmdWrite_descends (h4 : s.pstate = 4) (h1 : 1 ≤ getF v Fld.PWR_CMD_TARGET) (h3 : getF v Fld.PWR_CMD_TARGET ≤ 3)
    (hw : s.workInProgress = false) :
    pwrCmdWrite v s =
      (0, s.beginTrans ⟨false, if getF v Fld.PWR_CMD_TARGET = 2 then 13 else 14, 0, s.tick, getF v Fld.PWR_CMD_TARGET, 4, false⟩) := by
  have hne4 : getF v Fld.PWR_CMD_TARGET ≠ 4 := by omega
  have hne5 : getF v Fld.PWR_CMD_TARGET ≠ 5 := by omega
  simp [pwrCmdWrite, hs, ht, h4, h1, h3, hw, hne4, hne5]

end

/-! ## Steps and wakes (R419, R423) -/

/-- A step whose delay has passed goes to the next one, up or down. -/
theorem exec_powerStep_passed {s : State} {refclk swapped : Bool} {lost : BitVec 7} {t : Trans} (ht : s.power.trans = some t) (hh : s.held = false)
    (hd : t.at_ + stepTicks t.step ≤ s.tick) (hs : s.power.safeDue = false) :
    exec (.powerStep refclk swapped lost) s = .next (State.endCycle (if t.up then s.upNext t refclk swapped lost.toNat else s.downNext t)) :=
  finish_congr (by simp only [ht, hh, Nat.not_lt.mpr hd, hs, decide_false, Bool.or_self, Bool.false_and, Bool.false_eq_true, if_false])

/-- An enabled wake source is recorded and wakes the device from a low state. -/
theorem wakeBy_enabled {s : State} {mask src : Nat} (hsrc : src = Nat.land mask (s.fld Reg.PWR_CTL Fld.PWR_CTL_WAKEEN)) (h0 : src ≠ 0)
    (hh : s.held = false) (ht : s.power.trans = none) (h1 : 1 ≤ s.pstate) (h3 : s.pstate ≤ 3) :
    s.wakeBy mask = (s.setFld Reg.PWR_WAKESRC Fld.PWR_WAKESRC_SRC src).beginWake := by
  subst hsrc
  simp only [State.wakeBy, h0, hh, ht, h1, h3, Bool.false_eq_true, or_self, and_self, if_false, if_true]

/-! ## Classes and the reference (R429, R434) -/

section
variable {s : State} {t0 : Nat} (hg : s.power.graceAt = some t0) (ht : s.bit Reg.CANARY_STAT Fld.CANARY_STAT_THROT = true)
  (hd : t0 + s.graceTicks ≤ s.tick)
include hg ht hd

theorem exec_throtEnforced_next_class (hc : s.fld Reg.PWR_CLASS Fld.PWR_CLASS_CLASS < 2) :
    exec .throtEnforced s =
      .next (State.endCycle ((s.raise 0x2006 0xFF).classChange (s.fld Reg.PWR_CLASS Fld.PWR_CLASS_CLASS + 1) (s.fld Reg.PWR_CLASS Fld.PWR_CLASS_NOFF)
        s.nowTh)) :=
  finish_congr (by
    simp only [hg, ht, Nat.not_lt.mpr hd, hc, Bool.not_true, decide_false, Bool.or_self, Bool.false_eq_true, if_false, if_true])

theorem exec_throtEnforced_last_class (hc : s.fld Reg.PWR_CLASS Fld.PWR_CLASS_CLASS = 2) :
    exec .throtEnforced s = .next (State.endCycle ((s.raise 0x2006 0xFF).classChange 3 1 s.nowTh)) :=
  finish_congr (by
    simp only [hg, ht, Nat.not_lt.mpr hd, hc, Nat.lt_irrefl, Bool.not_true, decide_false, Bool.or_self, Bool.false_eq_true, if_false, if_true])

end

/-! ## Control of the performance counters (R492-R494) -/

section
variable {s t : State} {v : Word}

theorem pmuCtlWrite_freezes (ht : s.plainWrite Reg.PMU_CTL (setF v Fld.PMU_CTL_SNAP 0) = t)
    (hw : s.wouldChange Reg.PMU_CTL (setF v Fld.PMU_CTL_SNAP 0) Fld.PMU_CTL_FREEZE = true) :
    pmuCtlWrite (setF v Fld.PMU_CTL_SNAP 0) s =
      (0, { t with pmu := { t.pmu with freeze := t.pmu.freeze ++ [(getF v Fld.PMU_CTL_FREEZE == 1, s.tick + pmuDelay)] } }) := by
  have hsnap : getF (setF v Fld.PMU_CTL_SNAP 0) Fld.PMU_CTL_SNAP = 0 := getF_setF_same _ _ _ (by decide)
  have hfreeze : getF (setF v Fld.PMU_CTL_SNAP 0) Fld.PMU_CTL_FREEZE = getF v Fld.PMU_CTL_FREEZE := getF_setF_other _ _ _ _ (by decide) (by decide)
  simp only [pmuCtlWrite, hsnap, hfreeze, ht, hw, Nat.zero_ne_one, false_and, if_false, if_true]

/-- A write with `SNAP` whose freeze is as it was starts a snapshot; while one runs it is refused. -/
theorem pmuCtlWrite_snaps (hi : s.bit Reg.PMU_STAT Fld.PMU_STAT_SNAPPING = false) (ht : s.plainWrite Reg.PMU_CTL (setF v Fld.PMU_CTL_SNAP 1) = t)
    (hw : s.wouldChange Reg.PMU_CTL (setF v Fld.PMU_CTL_SNAP 1) Fld.PMU_CTL_FREEZE = false) :
    pmuCtlWrite (setF v Fld.PMU_CTL_SNAP 1) s =
      (0, ({ t with pmu := { t.pmu with snapAt := some (s.tick + pmuDelay) } } : State).setFld Reg.PMU_STAT Fld.PMU_STAT_SNAPPING 1) := by
  have hsnap : getF (setF v Fld.PMU_CTL_SNAP 1) Fld.PMU_CTL_SNAP = 1 := getF_setF_same _ _ _ (by decide)
  simp only [pmuCtlWrite, hsnap, hi, ht, hw, Bool.false_eq_true, and_false, if_false, if_true]

theorem pmuCtlWrite_snapping (hi : s.bit Reg.PMU_STAT Fld.PMU_STAT_SNAPPING = true) : pmuCtlWrite (setF v Fld.PMU_CTL_SNAP 1) s = (7, s) :=
  if_pos ⟨getF_setF_same _ _ _ (by decide), hi⟩

end

/-- The first overflow with `FOVF` freezes the counters 8 CCLK after it; the others of its cycle are dropped. -/
theorem exec_pmuOverflowFreeze_first {s t : State} {b at_ : Nat} {rest : List (Nat × Nat)} (ho : s.pmu.ovfs = (b, at_) :: rest)
    (hd : s.pmu.ovfDue = false) (hf : s.bit Reg.PMU_STAT Fld.PMU_STAT_FROZEN = false)
    (ht : (s.wr Reg.PMU_STAT (setF (setF (s.rd Reg.PMU_STAT) Fld.PMU_STAT_OVFZ 1) Fld.PMU_STAT_OVFBANK b)).setFld Reg.PMU_CTL Fld.PMU_CTL_FREEZE 1 = t) :
    exec .pmuOverflowFreeze s =
      .next (State.endCycle { t with pmu := { s.pmu with ovfs := [], freeze := s.pmu.freeze ++ [(true, at_ + pmuDelay)], ovfDue := true } }) := by
  subst ht
  refine finish_congr ?_
  simp only [ho, hd, hf, Bool.or_self, Bool.false_eq_true, if_false]
  rfl

/-! ## Resets (R439) -/

section
variable {s : State} (ho : s.power.off = false)
include ho

/-- `RST_N` rising with `POR_N` high releases the device. -/
theorem exec_resetExit_rst (hp : s.power.porLow = false) (hr : s.power.rstLow = true) :
    exec (.resetExit false) s = .next (State.endCycle (({ s with power := { s.power with rstLow := false } } : State).feSafe)) :=
  finish_congr (by simp [State.held, ho, hp, hr])

theorem exec_resetExit_por (hp : s.power.porLow = true) (hr : s.power.rstLow = false) :
    exec (.resetExit true) s = .next (State.endCycle (({ s with power := { s.power with porLow := false } } : State).feSafe)) :=
  finish_congr (by simp [State.held, ho, hp, hr])

end

/-- Settles O22: each command's hypotheses name one case of its meaning; the accesses are granted writes. -/
theorem powerAndResetCommandsTakeEffect : Obligations.PowerAndResetCommandsTakeEffect :=
  ⟨fun s r _ hg hs ht h4 hv => finish_writeBy hg (pwrCmdWrite_ascends (s := s.entering r) hs ht h4 hv),
   fun s r _ hg hs ht h5 hv => finish_writeBy hg (pwrCmdWrite_leaves_ready (s := s.entering r) hs ht h5 hv),
   fun s r _ hg hs ht h5 hv => finish_writeBy hg (pwrCmdWrite_activates (s := s.entering r) hs ht h5 hv),
   fun s r _ hg hs ht h4 h1 h3 hw => finish_writeBy hg (pwrCmdWrite_descends (s := s.entering r) hs ht h4 h1 h3 hw),
   fun s r _ hg ht => finish_writeBy hg (pwrCmdWrite_in_transition (s := s.entering r) ht),
   fun _ _ _ _ _ => exec_powerStep_passed,
   fun _ _ _ hsrc h0 hh ht h1 h3 => finish_congr (wakeBy_enabled hsrc h0 hh ht h1 h3),
   fun _ _ _ _ hp hsrc h0 hh ht h1 h3 => finish_congr (hp ▸ wakeBy_enabled hsrc h0 hh ht h1 h3),
   fun _ _ _ hg => finish_writeBy hg rfl,
   fun _ _ => exec_throtEnforced_next_class,
   fun _ _ => exec_throtEnforced_last_class,
   fun _ h4 h6 hl => finish_congr (if_pos ⟨h4, h6, hl⟩),
   fun _ _ h4 h6 => finish_congr (if_pos ⟨h4, h6⟩),
   fun s _ r _ hg ht hw => finish_writeBy hg (pmuCtlWrite_freezes (s := s.entering r) ht hw),
   fun s _ r _ hg hi ht hw => finish_writeBy hg (pmuCtlWrite_snaps (s := s.entering r) hi ht hw),
   fun s r _ hg hi => finish_writeBy hg (pmuCtlWrite_snapping (s := s.entering r) hi),
   fun _ _ _ _ _ _ hg ht => ht ▸ finish_writeBy hg rfl,
   fun _ _ _ _ _ => exec_pmuOverflowFreeze_first,
   fun _ _ => rfl,
   fun _ => exec_resetExit_rst,
   fun _ => exec_resetExit_por,
   fun _ => rfl,
   fun _ ho => finish_congr (if_pos ho)⟩

end Sys2Proof.Machine
end

section
/-! SUPPORT. Auxiliary DACs, calibration, the monitor and the sensors (11_converters, R395, R401; 15_assay, R382-R395; 16_monitor_auxdac, R404-R414; 17_power_thermal,
R431-R438): each command's effect in the state it belongs to. The model's readings behind them: log entries 21, 39, 40. -/
namespace Sys2Proof.Machine

/-! ## Auxiliary DACs (R401-R413) -/

section
variable {s t : State} {n : Nat} {v : Word} (ht : s.plainWrite (Reg.AUX_DAC n) v = t)
include ht

/-- Under `PINCLR` a code write is stored and moves no output. -/
theorem auxDacWrite_pin_cleared (hp : t.bit Reg.AUX_CTL Fld.AUX_CTL_PINCLR = true) : auxDacWrite n v s = (0, t) := by
  simp only [auxDacWrite, ht, hp, if_true]

variable (hp : t.bit Reg.AUX_CTL Fld.AUX_CTL_PINCLR = false)
include hp

/-- A code write in the range that the channel has moves its output; a cleared channel starts its test for opens anew. -/
theorem auxDacWrite_same_range (hr : getF v Fld.AUX_DAC_RANGE = (t.auxCh n).rng) :
    auxDacWrite n v s = (0, ((t.setFld (Reg.AUX_STAT n) Fld.AUX_STAT_CLEARED 0).setAux n
      (if t.auxCleared n then { t.auxCh n with openAt := t.tick } else t.auxCh n)).auxMove n (getF v Fld.AUX_DAC_CODE)) := by
  have hr' : getF v Fld.AUX_DAC_RANGE = (if t.auxCleared n then { t.auxCh n with openAt := t.tick } else t.auxCh n : AuxCh).rng := by
    split <;> exact hr
  simp only [auxDacWrite, ht, hp, ← hr', ne_eq, not_true_eq_false, Bool.false_eq_true, if_false]

/-- Another range first drives the clear code. -/
theorem auxDacWrite_other_range {t1 : State} {x : AuxCh} (hr : getF v Fld.AUX_DAC_RANGE ≠ (t.auxCh n).rng)
    (hx : x = (if t.auxCleared n then { t.auxCh n with openAt := t.tick } else t.auxCh n))
    (ht1 : (t.setFld (Reg.AUX_STAT n) Fld.AUX_STAT_CLEARED 0).setAux n x = t1) :
    auxDacWrite n v s = (0, (t1.setAux n { x with
      out := t1.auxDrive n (t1.auxClrCode n), rng := getF v Fld.AUX_DAC_RANGE, next := t1.auxDrive n (getF v Fld.AUX_DAC_CODE), holdAt := none,
      rangeAt := some t1.tick }).setHold n true) := by
  have hr' : getF v Fld.AUX_DAC_RANGE ≠ x.rng := by
    subst hx
    split <;> exact hr
  simp only [auxDacWrite, ht, hp, ← hx, ht1, hr', ne_eq, not_false_eq_true, Bool.false_eq_true, if_false, if_true]

end

section
variable {s : State} {n : Fin 72} {t : Nat}

theorem exec_auxHoldEnd_due (hh : (s.auxCh n).holdAt = some t) (hd : t + 197 ≤ s.tick) :
    exec (.auxHoldEnd n) s = .next (State.endCycle ((s.setAux n { s.auxCh n with out := (s.auxCh n).next, holdAt := none }).setHold n false)) :=
  finish_congr (by simp only [hh, hd, if_true])

theorem exec_auxRangeChangeEnd_due (hr : (s.auxCh n).rangeAt = some t) (hd : t + usTicks 5 ≤ s.tick) :
    exec (.auxRangeChangeEnd n) s = .next (State.endCycle ((s.setAux n { s.auxCh n with out := (s.auxCh n).next, rangeAt := none }).setHold n false)) :=
  finish_congr (by simp only [hr, hd, if_true])

theorem exec_auxOpen_due (hon : s.dieOn (auxDie n) = true) (hm : s.fld (Reg.AUX_LOAD n) Fld.AUX_LOAD_OPENMIN ≠ 0) (hc : s.auxCleared n = false)
    (hd : (s.auxCh n).openAt + usTicks 100 ≤ s.tick) :
    exec (.auxOpen n) s =
      .next (State.endCycle (((s.setAux n { s.auxCh n with openAt := s.tick }).flag (Reg.AUX_FAULT n) Fld.AUX_FAULT_OPEN).raiseLim 10 0xB011 n)) :=
  finish_congr (if_pos (by simp [State.auxTestsOpen, hon, hm, hc, hd]))

end

/-- The falling clear pin clears every channel and raises its event. -/
theorem exec_auxClrNFall_first {s : State} (hp : s.bit Reg.AUX_CTL Fld.AUX_CTL_PINCLR = false) (hh : s.held = false) :
    exec .auxClrNFall s = .next (State.endCycle ((s.setFld Reg.AUX_CTL Fld.AUX_CTL_PINCLR 1).auxClearAll.raise 0xB012 0xFF)) :=
  finish_congr (by simp only [hp, hh, Bool.false_eq_true, if_false])

/-! ## Results of calibration (R382, R385) -/

section
variable {s : State} {item : Fin 9} {unit : Fin 72} {elem : Fin 128} (hrun : s.assayRuns item = true) (hunit : unit.val < (assayUnits item).1)
  (helem : s.assayElem item unit elem = true) (hper : s.assayFrom item unit + s.assayPeriod item ≤ s.tick)
include hrun hunit helem hper

/-- A result of an item that runs, in its period, is the item's to judge. -/
theorem assayResult_in_turn : ¬ (!s.assayRuns item || decide ((assayUnits item).1 ≤ unit.val) || !s.assayElem item unit elem ||
    decide (s.tick < s.assayFrom item unit + s.assayPeriod item)) = true := by
  simp [hrun, hunit, helem, hper]

theorem exec_assayResult_judged {t : State} {q : List Int} {power : Nat} (val nblk : Nat) (h127 : elem.val ≠ 127) (h6 : item.val ≠ 6)
    (hnot : s.assayNotRun item unit power (kvGet (fun _ => 0) s.assay.caps unit) = false) (hop : s.assay.op = none) (ht : s.assayEnds item unit = t) :
    exec (.assayResult item unit elem (some q) power val nblk) s =
      .next (State.endCycle (if assayPlausible item q then t.assayPassed item unit elem val else t.assayFailed item unit elem)) := by
  refine finish_congr ((if_neg (assayResult_in_turn hrun hunit helem hper)).trans ?_)
  simp only [h6, hop, hnot, h127, ht, false_and, Bool.or_self, Bool.false_eq_true, if_false]

end

/-- The power item asks for its capture first (R401). -/
theorem exec_assayResult_captures {s : State} {unit : Fin 72} {elem : Fin 128} (meas : Option (List Int)) (power val nblk : Nat)
    (hrun : s.assayRuns 6 = true) (hunit : unit.val < (assayUnits 6).1) (helem : s.assayElem 6 unit elem = true)
    (hper : s.assayFrom 6 unit + s.assayPeriod 6 ≤ s.tick) (hcap : kvGet (fun _ => 0) s.assay.caps unit = 0) :
    exec (.assayResult 6 unit elem meas power val nblk) s = .next (State.endCycle (s.capRequest ⟨8 * unit, false, nblk, 0, true, 0⟩).2) :=
  finish_congr ((if_neg (assayResult_in_turn (item := 6) hrun hunit helem hper)).trans (if_pos ⟨rfl, hcap⟩))

/-! ## Blobs (R394, R395) -/

section
variable {s : State} {v : Word} (hop : s.assay.op = none)
include hop

theorem assaySaveWrite_starts (hv : getF v Fld.ASSAY_SAVE_GO = 1) (hst : s.pstate = 5 ∨ s.pstate = 6) :
    assaySaveWrite v s =
      (0, ({ s with assay := { s.assay with
        op := some (false, getF v Fld.ASSAY_SAVE_ADDR), snap := s.assay.values, snapTb := s.tb } } : State).setFld
          Reg.ASSAY_STAT Fld.ASSAY_STAT_BUSY 1) := by
  simp only [assaySaveWrite, hv, hop, hst, Nat.one_ne_zero, Option.isSome_none, Bool.false_eq_true, not_true_eq_false, or_self, if_false]

theorem assayRestoreWrite_starts (hv : getF v Fld.ASSAY_RESTORE_GO = 1) (hst : s.pstate = 5)
    (hb : s.blobWord (getF v Fld.ASSAY_RESTORE_ADDR) 0 / 256 = 0x4153 * 256 + 1) :
    assayRestoreWrite v s =
      (0, ({ s with assay := { s.assay with op := some (true, getF v Fld.ASSAY_RESTORE_ADDR) } } : State).setFld Reg.ASSAY_STAT
        Fld.ASSAY_STAT_BUSY 1) := by
  simp only [assayRestoreWrite, hv, hop, hst, hb, Nat.one_ne_zero, Option.isSome_none, Bool.false_eq_true, ne_eq, not_true_eq_false, or_self, if_false]

end

section
variable {s : State} {addr : Nat}

theorem exec_assaySaveDone_fits (hop : s.assay.op = some (false, addr)) (hf : blobFits addr = true) :
    exec .assaySaveDone s = .next (State.endCycle ((s.stBytes (sharedMem + addr) s.blob).blobEnd false 1)) :=
  finish_congr (by simp only [hop, hf, if_true])

variable (hop : s.assay.op = some (true, addr))
include hop

theorem exec_assayRestoreDone_rejects (hc : s.blobCheck addr ≠ 1) :
    exec .assayRestoreDone s = .next (State.endCycle (s.blobEnd true (s.blobCheck addr))) :=
  finish_congr (by simp only [hop, hc, ne_eq, not_false_eq_true, if_true])

/-- A blob that passes its checks replaces the values of the items that both the blob and `ASSAY_CTL` name. -/
theorem exec_assayRestoreDone_accepts (hc : s.blobCheck addr = 1) :
    ∃ vals past, exec .assayRestoreDone s =
      .next (State.endCycle ((({ s with assay := { s.assay with values := vals, past := past, counts := [] } } : State).blobEnd true 1).assayRestart.assayConv)) ∧
      vals = ((Config.assayValues (s.ldBytes (sharedMem + addr + 64) assayLen)).filter (fun (e : Nat × Nat) =>
          (Nat.land (s.blobWord addr 5 % 512) (s.fld Reg.ASSAY_CTL Fld.ASSAY_CTL_ITEMS)).testBit (e.1 / 2 ^ 14))).foldl
        (fun (m : List (Nat × Nat)) e => kvSet (fun _ => 0) m e.1 e.2)
        (s.assay.values.filter (fun (e : Nat × Nat) =>
          !(Nat.land (s.blobWord addr 5 % 512) (s.fld Reg.ASSAY_CTL Fld.ASSAY_CTL_ITEMS)).testBit (e.1 / 2 ^ 14))) :=
  ⟨_, _, finish_congr (by simp only [hop, hc, ne_eq, not_true_eq_false, if_false]; rfl), rfl⟩

end

/-! ## The monitor (R404-R411) -/

section
variable {s : State} {x : MonRun} (hrun : s.mon.run = some x) (hstop : x.stop ≤ s.monSlot) (hon : s.dieOn 0 = true)
include hrun hstop hon

theorem exec_monEntryDone_due {inputs dev : List Int} {vref : Nat} (he : x.entry.isSome = true) :
    exec (.monEntryDone inputs vref dev) s = .next (State.endCycle (s.monDone x (monSamples x.cfg vref inputs dev))) :=
  finish_congr (by simp only [hrun, hstop, hon, he, and_self, if_true])

theorem exec_monUrgDone_due {inputs dev : List Int} {vref : Nat} (he : x.entry = none) :
    exec (.monUrgDone inputs vref dev) s = .next (State.endCycle (s.monDone x (monSamples x.cfg vref inputs dev))) :=
  finish_congr (by simp only [hrun, hstop, hon, he, Option.isNone_none, and_self, if_true])

end

/-- `EN` from 0 to 1 starts the sequence from its first entry. -/
theorem monCtlWrite_enables {s t : State} {v : Word} (h0 : s.bit Reg.MON_CTL Fld.MON_CTL_EN = false) (ht : s.plainWrite Reg.MON_CTL v = t)
    (h1 : t.bit Reg.MON_CTL Fld.MON_CTL_EN = true) (hrun : t.mon.run = none) :
    monCtlWrite v s =
      (0, ({ t with mon := { t.mon with last := t.fld Reg.MON_CTL Fld.MON_CTL_LAST, resume := some 0 } } : State).monGo (t.monSlot + 1)) := by
  simp only [monCtlWrite, h0, ht, h1, hrun, Bool.not_false, and_self, if_true, Option.isSome_none, Bool.false_eq_true, if_false]
  rfl

theorem monUrgWrite_accepted {s : State} {v : Word} (req : Nat) (hv : getF v Fld.MON_URG_GO = 1) (hch : getF v Fld.MON_URG_CH ≤ 47)
    (hq : (s.mon.queue.filter (fun (q : MonReq) => q.req.isSome)).length < 3) :
    monUrgWrite req v s = (0, s.monAccept (some req) v.toNat) := by
  simp only [monUrgWrite, hv, Nat.not_lt.mpr hch, Nat.not_le.mpr hq, Nat.one_ne_zero, or_self, if_false]

/-! ## Sensors, safety and the supplies (R431-R438) -/

section
variable {s : State} (h4 : 4 ≤ s.pstate) (h6 : s.pstate ≤ 6) (hclk : s.clkOn Fld.SYS_CLK_STATUS_CCLK = true)
include h4 h6 hclk

theorem exec_canaryUpdate_due {reads : List SensorRead} (hd : s.power.canaryAt + usTicks 100 ≤ s.tick) :
    ∃ u w, exec (.canaryUpdate reads) s = .next (State.endCycle ((u.wr Reg.CANARY_STAT w).levels u.tmax.2)) ∧
      u = (List.range 40).foldl (fun (t : State) k => t.sensorUpdate k (reads.getD k none))
        (s.setPower (fun (p : PowerSt) => { p with canaryAt := s.tick })) ∧
      w = setF (setF (u.rd Reg.CANARY_STAT) Fld.CANARY_STAT_HOT u.tmax.1) Fld.CANARY_STAT_TMAX (encS 16 u.tmax.2) :=
  ⟨_, _, finish_congr (if_neg (by simp [h4, h6, hclk, hd])), rfl, rfl⟩

theorem exec_faultPin_due {t : State} {low : Bool} (hl : s.faultLow = false) (hd : s.power.faultAt + usTicks 100 ≤ s.tick)
    (ht : (s.setLevel Fld.CANARY_STAT_EXTFAULT low).setPower (fun (p : PowerSt) => { p with faultLow := low, faultAt := s.tick }) = t) :
    exec (.faultPin low) s = .next (State.endCycle (if low && !s.power.faultLow then t.raise 0x2007 0xFF else t)) :=
  ht ▸ finish_congr (if_neg (by simp [h4, h6, hclk, hl, hd]))

end

/-- `SAFE` clears once the hottest sensor is 4 °C below the critical threshold. -/
theorem pwrStatusWrite_clears_safe {s : State} {v : Word} (hv : getF v Fld.PWR_STATUS_SAFE = 1) (ha : getF v Fld.PWR_STATUS_ABORTED = 0)
    (hs : s.bit Reg.PWR_STATUS Fld.PWR_STATUS_SAFE = true) (ht : sext (s.fld Reg.CANARY_STAT Fld.CANARY_STAT_TMAX) 16 < s.thr Fld.CANARY_THR_CRIT - 40) :
    pwrStatusWrite v s = (0, (s.setFld Reg.PWR_STATUS Fld.PWR_STATUS_SAFE 0).setLevel Fld.CANARY_STAT_CRIT false) := by
  simp only [pwrStatusWrite, hv, ha, hs, ht, Nat.zero_ne_one, and_self, if_false, if_true]

theorem exec_supplyCheck_due {s : State} (hc : s.bit Reg.CANARY_CTL Fld.CANARY_CTL_SUPCHK = true) (hon : s.dieOn 0 = true)
    (hd : s.power.supAt + usTicks 100 ≤ s.tick) :
    exec .supplyCheck s =
      .next (State.endCycle ((s.setPower (fun (p : PowerSt) => { p with
        supAt := s.tick, supChan := if s.power.supChan = 39 then 32 else s.power.supChan + 1 })).monAccept none (s.power.supChan + 8 * 4096))) :=
  finish_congr (if_neg (by simp [hc, hon, hd]))

/-- Settles O15: each command's hypotheses name one case of its meaning; the accesses are granted writes. -/
theorem calibrationMonitorAndSensorsTakeEffect : Obligations.CalibrationMonitorAndSensorsTakeEffect :=
  ⟨fun s _ r _ _ hg ht hp hr => finish_writeBy hg (auxDacWrite_same_range (s := s.entering r) ht hp hr),
   fun s _ _ r _ _ _ hg ht hp hr hx ht1 => finish_writeBy hg (auxDacWrite_other_range (s := s.entering r) ht hp hr hx ht1),
   fun s _ r _ _ hg ht hp => finish_writeBy hg (auxDacWrite_pin_cleared (s := s.entering r) ht hp),
   fun _ _ _ => exec_auxHoldEnd_due,
   fun _ _ _ => exec_auxRangeChangeEnd_due,
   fun _ _ _ _ _ hg ht => ht ▸ finish_writeBy hg rfl,
   fun _ => exec_auxClrNFall_first,
   fun _ => rfl,
   fun _ _ _ hg hv => finish_writeBy hg (congrArg (Prod.mk 0) (if_pos hv)),
   fun _ _ hon hd => finish_congr (if_pos (by simp [hon, hd])),
   fun _ _ => exec_auxOpen_due,
   fun _ _ _ _ _ _ _ val nblk hrun hunit helem h127 h6 hper hnot hop ht =>
     exec_assayResult_judged hrun hunit helem hper val nblk h127 h6 hnot hop ht,
   fun _ _ _ meas power val nblk => exec_assayResult_captures meas power val nblk,
   fun s r _ hg hv hop hst => finish_writeBy hg (assaySaveWrite_starts (s := s.entering r) hop hv hst),
   fun _ _ => exec_assaySaveDone_fits,
   fun s r _ hg hv hop hst hb => finish_writeBy hg (assayRestoreWrite_starts (s := s.entering r) hop hv hst hb),
   fun _ _ => exec_assayRestoreDone_rejects,
   fun _ _ => exec_assayRestoreDone_accepts,
   fun _ _ _ _ _ hrun he hstop hon => exec_monEntryDone_due hrun hstop hon he,
   fun _ _ _ _ _ hrun he hstop hon => exec_monUrgDone_due hrun hstop hon he,
   fun s _ r _ hg h0 ht h1 hrun => finish_writeBy hg (monCtlWrite_enables (s := s.entering r) h0 ht h1 hrun),
   fun s r _ hg hv hch hq => finish_writeBy hg (monUrgWrite_accepted (s := s.entering r) r.id hv hch hq),
   fun _ _ h4 h6 hclk => exec_canaryUpdate_due h4 h6 hclk,
   fun s r _ hg hv ha hs ht => finish_writeBy hg (pwrStatusWrite_clears_safe (s := s.entering r) hv ha hs ht),
   fun _ _ _ h4 h6 hclk => exec_faultPin_due h4 h6 hclk,
   fun _ => exec_supplyCheck_due⟩

end Sys2Proof.Machine
end

section
/-! SUPPORT. Boot, firmware and the services of the enclave (18_boot_security, R440-R463; 19_repair_availability, R472, R477): each command's effect on a request that
is served. The model's readings behind them: log entries 22, 23. -/
namespace Sys2Proof.Machine

/-! ## Requests that are served (R446, R454) -/

section
variable {s t : State} {c op : Nat} {q : SvcReq} {ws : List Nat} (hs : s.serves c op q ws t)
include hs

/-- A request that is served runs its service on the channel read empty. -/
theorem serve_of_serves (act : SvcReq → List Nat → State → State) : s.serve c op act = act q ws t := by
  obtain ⟨hready, rfl, hop, rfl, rfl, hreply, hch⟩ := hs
  have hreply' : ¬(24 ≤ c ∧ bitsAt ((s.mbxWords c).getD 0 0) 8 5 < 24) := hreply
  simp only [State.serve, hop, hready, hreply', hch, bne_self_eq_false, Bool.false_and, Bool.not_true, Bool.or_self, Bool.false_eq_true, ne_eq,
    not_true_eq_false, or_self, if_false]

variable (hidle : t.sec.otpOp = none)
include hidle

theorem otpServe_accepts {check : List Nat → State → Nat ⊕ OtpOp} {o : OtpOp} (hc : check ws t = .inr o) :
    s.otpServe c op check = t.startOtp q o :=
  (serve_of_serves hs _).trans (by simp only [hidle, hc, Option.isSome_none, Bool.false_eq_true, if_false]; rfl)

theorem otpServe_refuses {check : List Nat → State → Nat ⊕ OtpOp} {st : Nat} (hc : check ws t = .inl st) :
    s.otpServe c op check = t.otpEnd q st :=
  (serve_of_serves hs _).trans (by simp only [hidle, hc, Option.isSome_none, Bool.false_eq_true, if_false])

end

/-! ## Boot (R440, R441) -/

/-- A fetched boot image is verified: rejected or copied. -/
theorem exec_aditFetch_fetched {s t : State} {dst : BitVec 8} {data bs : List Byte} {t0 st sp : Nat} (ha : s.sec.adit = .port t0)
    (hsp : s.fld Reg.SEC_BOOTSRC Fld.SEC_BOOTSRC_SPACE = sp) (hp : s.portServes (sp - 1) = true)
    (hf : s.fetchImage sp (s.rd64 Reg.SEC_BOOTADDR) (s.rd Reg.SEC_BOOTLEN).toNat dst.toNat data = (st, bs, t)) (h3 : st % 256 ≠ 3) :
    exec (.aditFetch dst data) s =
      .next (State.endCycle (let v := if st ≠ 0 then st else t.verifyImage bs true
        if v ≠ 0 then (t.rejectImage v).aditStep3
        else (t.copyImage 0 bs).setSec (fun (x : SecSt) => { x with adit := .verified (imageOf bs sp (s.rd64 Reg.SEC_BOOTADDR)) none }))) :=
  finish_congr (by simp only [ha, hsp, hp, hf, h3, Bool.not_true, Bool.false_eq_true, if_false])

theorem exec_aditWaitTimeout_due {s : State} {t0 : Nat} (ha : s.sec.adit = .port t0) (hd : t0 + msTicks 2000 ≤ s.tick) :
    exec .aditWaitTimeout s = .next (State.endCycle (s.setSec (fun (x : SecSt) => { x with adit := .message }))) :=
  finish_congr (by simp only [ha, hd, if_true])

theorem exec_load_fetched {s t u : State} {c : Fin 32} {dst : BitVec 8} {data bs : List Byte} {q : SvcReq} {ws : List Nat} {st : Nat}
    (hs : s.serves c 0x01 q ws t) (ha : t.sec.adit = .message) (hok : spaceOk (reqSpace ws) (reqAddr ws) (ws.getD 4 0) = true)
    (hf : t.fetchImage (reqSpace ws) (reqAddr ws) (ws.getD 4 0) dst.toNat data = (st, bs, u)) (h3 : st % 256 ≠ 3) :
    exec (.load c dst data) s =
      .next (State.endCycle (let v := if st ≠ 0 then st else u.verifyImage bs (!bitAt (ws.getD 5 0) 0)
        if v ≠ 0 then ((u.rejectImage v).svcReply q v).aditStep3
        else (u.copyImage 0 bs).setSec (fun (x : SecSt) => { x with adit := .verified (imageOf bs (reqSpace ws) (reqAddr ws)) (some q) }))) := by
  simp only [reqSpace, reqAddr] at hok hf ⊢
  exact finish_congr ((serve_of_serves hs _).trans (by simp only [ha, hok, hf, h3, Bool.not_true, Bool.false_eq_true, if_false]))

theorem exec_bootDone_verified {s : State} {i : Image} {q : Option SvcReq} (ha : s.sec.adit = .verified i q) :
    exec .bootDone s =
      .next (State.endCycle (((((s.setFld Reg.SEC_FW Fld.SEC_FW_FWSEL 0).recordImage i).setSec (fun (x : SecSt) => { x with adit := .done })).fwRestart
        q).raise 0x7001 0xFF)) :=
  finish_congr (by simp only [ha])

/-- The first reply of restarted firmware ends the pause and answers the request that waited for it. -/
theorem exec_firmwareReply_first {s : State} (ha : s.sec.adit = .done) (hp : s.bit Reg.ASSAY_STAT Fld.ASSAY_STAT_FWPAUSE = true) :
    exec .firmwareReply s =
      finish (((match s.sec.fwReply with | some q => s.svcReply q 0 | none => s).setFld Reg.ASSAY_STAT Fld.ASSAY_STAT_FWPAUSE 0).setSec
        (fun (x : SecSt) => { x with fwReply := none, ch15 := false })) :=
  congrArg finish (if_neg (by simp [ha, hp]))

theorem exec_foremanLockstep_clocked {s t : State} (hclk : s.clkOn Fld.SYS_CLK_STATUS_CCLK = true) (ht : s.ownerLost 4 2 = t) :
    exec .foremanLockstep s =
      .next (State.endCycle ((if t.sec.adit = .done then (t.fwRestart none).setSec (fun (x : SecSt) => { x with swapReq := none }) else t.startAdit).raise
        0x6010 0xFF)) :=
  ht ▸ finish_congr (if_neg (by simp [hclk]))

/-! ## Firmware swaps (R451) -/

theorem exec_stage_fetched {s t u : State} {c : Fin 32} {dst : BitVec 8} {data bs : List Byte} {q : SvcReq} {ws : List Nat} {st : Nat}
    (hs : s.serves c 0x02 q ws t) (hp : t.bit Reg.SEC_FW Fld.SEC_FW_SWAP_PEND = false)
    (hok : spaceOk (reqSpace ws) (reqAddr ws) (ws.getD 4 0) = true)
    (hf : t.fetchImage (reqSpace ws) (reqAddr ws) (ws.getD 4 0) dst.toNat data = (st, bs, u)) (h3 : st % 256 ≠ 3) :
    exec (.stage c dst data) s =
      .next (State.endCycle (let v0 := if st ≠ 0 then st else u.verifyImage bs false
        let v := if v0 = 0 ∧ bitsAt (byteWord bs 4) 0 6 < u.fld Reg.SEC_SVN Fld.SEC_SVN_RUN then 8 else v0
        if v ≠ 0 then (u.rejectImage v).svcReply q v
        else ((((u.copyImage u.otherBank bs).setFld Reg.SEC_FW Fld.SEC_FW_STAGED 1).setSec (fun (y : SecSt) =>
          { y with staged := some (imageOf bs (reqSpace ws) (reqAddr ws)) })).raise 0x7003 0xFF).svcReply q 0)) := by
  simp only [reqSpace, reqAddr] at hok hf ⊢
  exact finish_congr ((serve_of_serves hs _).trans (by simp only [hp, hok, hf, h3, Bool.not_true, Bool.false_eq_true, if_false]))

section
variable {s t : State} {c : Fin 32} {q : SvcReq} {ws : List Nat} (hs : s.serves c 0x03 q ws t)
  (hp : t.bit Reg.SEC_FW Fld.SEC_FW_SWAP_PEND = false)
include hs hp

theorem exec_fwSwap_scheduled (ht : t.stNow ≤ reqAddr ws) (hi : t.sec.staged.isSome = true) :
    exec (.fwSwap c) s =
      .next (State.endCycle (((t.setFld Reg.SEC_FW Fld.SEC_FW_SWAP_PEND 1).wr64 Reg.SEC_SWAPT (reqAddr ws)).setSec
        (fun (x : SecSt) => { x with swapReq := some q }))) := by
  have hstaged : ¬ t.sec.staged.isNone = true := by simp [Option.isSome_iff_ne_none.mp hi]
  exact finish_congr ((serve_of_serves hs _).trans ((if_neg (by simp [hp])).trans ((if_neg (Nat.not_lt.mpr ht)).trans (if_neg hstaged))))

theorem exec_fwSwap_past (ht : reqAddr ws < t.stNow) : exec (.fwSwap c) s = .next (State.endCycle (t.svcReply q 11)) :=
  finish_congr ((serve_of_serves hs _).trans ((if_neg (by simp [hp])).trans (if_pos ht)))

end

theorem exec_fwSwapped_due {s t : State} {i : Image} (hp : s.bit Reg.SEC_FW Fld.SEC_FW_SWAP_PEND = true) (hd : s.rd64 Reg.SEC_SWAPT ≤ s.stNow)
    (hclk : s.clkOn Fld.SYS_CLK_STATUS_CCLK = true) (hi : s.sec.staged = some i)
    (ht : ((s.wr Reg.SEC_FW (setF (setF (setF (s.rd Reg.SEC_FW) Fld.SEC_FW_FWSEL s.otherBank) Fld.SEC_FW_STAGED 0) Fld.SEC_FW_SWAP_PEND 0)).recordImage
      i).fwRestart s.sec.swapReq = t) :
    exec .fwSwapped s = .next (State.endCycle ((t.setSec (fun (x : SecSt) => { x with staged := none, swapReq := none })).raise 0x7004 0xFF)) := by
  subst ht
  exact finish_congr (by simp only [hp, Nat.not_lt.mpr hd, hclk, hi, Bool.not_true, decide_false, Bool.or_self, Bool.false_eq_true, if_false])

/-! ## Attestation (R457, R459) -/

section
variable {s t : State} {c : Fin 32} {q : SvcReq} {ws : List Nat}

theorem exec_attest_signed {u v : State} {sig : List Byte} {st : Nat} (hs : s.serves c 0x10 q ws t)
    (hok : spaceOk (reqSpace ws) (reqAddr ws) 1792 = true) (hid : t.sec.identity = true) (hsig : t.idSign (t.report (ws.drop 4)) = (sig, u))
    (hw : u.svcWrite (reqSpace ws) (reqAddr ws) (t.report (ws.drop 4) ++ sig) = (st, v)) :
    exec (.attest c) s = .next (State.endCycle (if st ≠ 0 then v.svcReply q (3 + 256 * st) else (v.raise 0x7008 0xFF).svcReply q 0)) := by
  simp only [reqSpace, reqAddr] at hok hw
  exact finish_congr ((serve_of_serves hs _).trans (by simp only [hok, hid, hsig, hw, Bool.not_true, Bool.false_eq_true, if_false]))

theorem exec_attest_no_identity (hs : s.serves c 0x10 q ws t) (hok : spaceOk (reqSpace ws) (reqAddr ws) 1792 = true)
    (hid : t.sec.identity = false) : exec (.attest c) s = .next (State.endCycle (t.svcReply q 6)) := by
  simp only [reqSpace, reqAddr] at hok
  exact finish_congr ((serve_of_serves hs _).trans (by simp only [hok, hid, Bool.not_true, Bool.not_false, Bool.false_eq_true, if_false, if_true]))

theorem exec_idGet_written {v : State} {st : Nat} (hs : s.serves c 0x11 q ws t) (hok : spaceOk (reqSpace ws) (reqAddr ws) 1793 = true)
    (hid : t.sec.identity = true) (hw : t.svcWrite (reqSpace ws) (reqAddr ws) (idKey (t.otp.seed.getD 0)) = (st, v)) :
    exec (.idGet c) s = .next (State.endCycle (v.svcReply q (if st = 0 then 0 else 3 + 256 * st))) := by
  simp only [reqSpace, reqAddr] at hok hw
  exact finish_congr ((serve_of_serves hs _).trans (by simp only [hok, hid, hw, Bool.not_true, Bool.false_eq_true, if_false]))

/-! ## OTP requests (R454, R462, R463, R477) -/

theorem exec_rootProg_accepted (hs : s.serves c 0x20 q ws t) (hidle : t.sec.otpOp = none) (hn : ws.getD 1 0 < 4) (hlc : t.otp.lc < 2)
    (hprog : t.otp.prog.testBit (ws.getD 1 0) = false) (hdead : t.otp.dead.testBit (ws.getD 1 0) = false) :
    exec (.rootProg c) s = .next (State.endCycle (t.startOtp q (.slot (ws.getD 1 0) ((List.range 8).map (fun k => ws.getD (k + 2) 0))))) :=
  finish_congr (otpServe_accepts hs hidle (by
    simp only [Nat.not_le.mpr hn, Nat.not_le.mpr hlc, hprog, hdead, Bool.or_self, Bool.false_eq_true, if_false]))

theorem exec_rootRevoke_accepted {live : List Nat} (hs : s.serves c 0x21 q ws t) (hidle : t.sec.otpOp = none) (hn : ws.getD 1 0 < 4)
    (h0 : t.otp.lc ≠ 0) (h3 : t.otp.lc ≠ 3) (hlive : live = (List.range 4).filter (fun k => t.otp.prog.testBit k && !t.otp.revoked.testBit k))
    (hc : live.contains (ws.getD 1 0) = true) (hl : 1 < live.length) :
    exec (.rootRevoke c) s = .next (State.endCycle (t.startOtp q (.revoke (ws.getD 1 0)))) :=
  finish_congr (otpServe_accepts hs hidle (by
    simp only [Nat.not_le.mpr hn, h0, h3, ← hlive, hc, Nat.not_le.mpr hl, Bool.not_true, Bool.false_eq_true, or_self, if_false]))

section
variable (hs : s.serves c 0x22 q ws t) (hidle : t.sec.otpOp = none) (hn : ws.getD 1 0 < 64)
include hs hidle hn

theorem exec_svnCommit_accepted (hv : ws.getD 1 0 ≤ t.fld Reg.SEC_SVN Fld.SEC_SVN_RUN) :
    exec (.svnCommit c) s = .next (State.endCycle (t.startOtp q (.svn (ws.getD 1 0)))) :=
  finish_congr (otpServe_accepts hs hidle ((if_neg (Nat.not_le.mpr hn)).trans (if_neg (Nat.not_lt.mpr hv))))

theorem exec_svnCommit_refused (hv : t.fld Reg.SEC_SVN Fld.SEC_SVN_RUN < ws.getD 1 0) :
    exec (.svnCommit c) s = .next (State.endCycle (t.otpEnd q 8)) :=
  finish_congr (otpServe_refuses hs hidle ((if_neg (Nat.not_le.mpr hn)).trans (if_pos hv)))

end

theorem exec_lcAdvance_accepted (hs : s.serves c 0x23 q ws t) (hidle : t.sec.otpOp = none) (hn : ws.getD 1 0 < 4)
    (hnext : (t.otp.lc = 0 ∧ ws.getD 1 0 = 1 ∧ t.otp.seed.isSome = true ∧ t.otp.prog ≠ 0) ∨
      (t.otp.lc = 1 ∧ (ws.getD 1 0 = 2 ∨ ws.getD 1 0 = 3)) ∨ (t.otp.lc = 2 ∧ ws.getD 1 0 = 3)) :
    exec (.lcAdvance c) s = .next (State.endCycle (t.startOtp q (.lifecycle (ws.getD 1 0)))) :=
  finish_congr (otpServe_accepts hs hidle ((if_neg (Nat.not_le.mpr hn)).trans (if_pos hnext)))

theorem exec_idGen_accepted {v : Nat} (hs : s.takeFree.2.serves c 0x24 q ws t) (hv : s.takeFree.1 = v) (hidle : t.sec.otpOp = none)
    (hlc : t.otp.lc = 0) (hused : t.otp.idUsed = false) :
    exec (.idGen c) s = .next (State.endCycle (t.startOtp q (.identity v (hashWords 256 (hash256 (idKey v)).toNat)))) := by
  subst hv
  exact finish_congr (otpServe_accepts hs hidle ((if_neg (Decidable.not_not.mpr hlc)).trans (if_neg (by simp [hused]))))

theorem exec_repairCommit_accepted {w : Nat} (hs : s.serves c 0x25 q ws t) (hidle : t.sec.otpOp = none) (hw : w = ws.getD 1 0 / 256 * 256)
    (hret : t.unitRetired (bitsAt w 28 4) (bitsAt w 20 8) (bitsAt w 8 12) (ws.getD 2 0) = true) (hroom : t.otp.recs.length < 512) :
    exec (.repairCommit c) s = .next (State.endCycle (t.startOtp q (.repair w (ws.getD 2 0)))) := by
  subst hw
  exact finish_congr (otpServe_accepts hs hidle ((if_neg (by simp only [hret]; decide)).trans (if_neg (Nat.not_le.mpr hroom))))

end

/-- The end of an operation marks its fuses, or leaves them cut. -/
theorem exec_otpOperationDone_ends {s t : State} {ok : Bool} {o : OtpOp} {q : SvcReq} (hop : s.sec.otpOp = some (o, q))
    (hclk : s.clkOn Fld.SYS_CLK_STATUS_CCLK = true)
    (ht : (s.setSec (fun (x : SecSt) => { x with otpOp := none })).setFld Reg.SEC_OTP_STAT Fld.SEC_OTP_STAT_BUSY 0 = t) :
    exec (.otpOperationDone ok) s =
      .next (State.endCycle (if ok then (t.otpMark o).otpEnd q 0 else (t.setOtp (fun (x : OtpSt) => x.cut o)).otpEnd q 13)) := by
  subst ht
  exact finish_congr (by simp only [hop, hclk, Bool.not_true, Bool.false_eq_true, if_false])

/-- Settles O23: each request is served, and the hypotheses name the case of its service; the other commands take the case that theirs name. -/
theorem servicesAndBootTakeEffect : Obligations.ServicesAndBootTakeEffect :=
  ⟨fun _ _ _ _ _ _ _ _ => exec_aditFetch_fetched,
   fun _ _ => exec_aditWaitTimeout_due,
   fun _ _ _ _ _ _ _ _ _ _ => exec_load_fetched,
   fun _ _ _ => exec_bootDone_verified,
   fun _ ha hp hr => (exec_firmwareReply_first ha hp).trans (by rw [hr]; rfl),
   fun _ _ ha hp hr => (exec_firmwareReply_first ha hp).trans (by rw [hr]; rfl),
   fun _ _ => exec_foremanLockstep_clocked,
   fun _ _ _ _ _ _ _ _ _ _ => exec_stage_fetched,
   fun _ _ _ _ _ => exec_fwSwap_scheduled,
   fun _ _ _ _ _ => exec_fwSwap_past,
   fun _ _ _ => exec_fwSwapped_due,
   fun _ _ _ _ _ _ _ _ _ => exec_attest_signed,
   fun _ _ _ _ _ => exec_attest_no_identity,
   fun _ _ _ _ _ _ _ => exec_idGet_written,
   fun _ _ _ _ _ => exec_rootProg_accepted,
   fun _ _ _ _ _ _ => exec_rootRevoke_accepted,
   fun _ _ _ _ _ => exec_svnCommit_accepted,
   fun _ _ _ _ _ => exec_svnCommit_refused,
   fun _ _ _ _ _ => exec_lcAdvance_accepted,
   fun _ _ _ _ _ _ => exec_idGen_accepted,
   fun _ _ _ _ _ _ => exec_repairCommit_accepted,
   fun _ _ _ _ _ => exec_otpOperationDone_ends⟩

end Sys2Proof.Machine
end

section
/-! SUPPORT. The operations that leave device memory alone (R4, R426), one equation for each, in the order of the model. A proof turns off
`implicitDefEqProofs` where the kernel would otherwise run a fold over registers to compare two memories. -/
namespace Sys2Proof.Machine

/-! ## Memory through cases and folds -/

@[simp] theorem State.mem_ite (c : Prop) [Decidable c] (s t : State) : (if c then s else t).mem = if c then s.mem else t.mem :=
  apply_ite State.mem c s t

@[simp] theorem snd_ite {α β : Type} (c : Prop) [Decidable c] (x y : α × β) : (if c then x else y).2 = if c then x.2 else y.2 :=
  apply_ite Prod.snd c x y

@[simp] theorem State.mem_foldl {α : Type} {f : State → α → State} (h : ∀ t x, (f t x).mem = t.mem) (l : List α) (s : State) :
    (l.foldl f s).mem = s.mem := by
  induction l generalizing s with
  | nil => rfl
  | cons x l ih => rw [List.foldl_cons, ih, h]

@[simp] theorem mem_foldl_fst {α β : Type} {f : State × β → α → State × β} (h : ∀ a x, (f a x).1.mem = a.1.mem) (l : List α) (a : State × β) :
    (l.foldl f a).1.mem = a.1.mem := by
  induction l generalizing a with
  | nil => rfl
  | cons x l ih => rw [List.foldl_cons, ih, h]

@[simp] theorem mem_foldl_snd {α β : Type} {f : β × State → α → β × State} (h : ∀ a x, (f a x).2.mem = a.2.mem) (l : List α) (a : β × State) :
    (l.foldl f a).2.mem = a.2.mem := by
  induction l generalizing a with
  | nil => rfl
  | cons x l ih => rw [List.foldl_cons, ih, h]

@[simp] theorem State.mem_foldl_wr {α : Type} (a : State → α → Nat) (v : State → α → Word) (l : List α) (s : State) :
    (l.foldl (fun t x => t.wr (a t x) (v t x)) s).mem = s.mem :=
  State.mem_foldl (f := fun t x => t.wr (a t x) (v t x)) (fun _ _ => rfl) l s

@[simp] theorem State.mem_foldl_setFld {α : Type} (a : State → α → Nat) (g : State → α → Field) (v : State → α → Nat) (l : List α) (s : State) :
    (l.foldl (fun t x => t.setFld (a t x) (g t x) (v t x)) s).mem = s.mem :=
  State.mem_foldl (f := fun t x => t.setFld (a t x) (g t x) (v t x)) (fun _ _ => rfl) l s

theorem untouched_mem : Untouched _ State.mem :=
  ⟨fun _ _ => rfl, fun _ _ => rfl, fun _ _ => rfl, fun _ _ => rfl, fun _ _ => rfl, fun _ _ => rfl, fun _ _ => rfl⟩

variable (s : State)

/-! ## Shared operations: registers, the event log, transmission (R6, R81, R482) -/

@[simp] theorem State.mem_count (a d : Nat) : (s.count a d).mem = s.mem := by simp [State.count]
@[simp] theorem State.mem_count64 (a d : Nat) : (s.count64 a d).mem = s.mem := by simp [State.count64]
@[simp] theorem State.mem_pmuFrom (b ev amt k n : Nat) : (s.pmuFrom b ev amt k n).mem = s.mem := untouched_mem.pmuFrom s b ev amt k n
@[simp] theorem State.mem_pmuCount (b ev amt : Nat) : (s.pmuCount b ev amt).mem = s.mem := untouched_mem.pmuCount s b ev amt
@[simp] theorem State.mem_takeFree : s.takeFree.2.mem = s.mem := by simp [State.takeFree]
@[simp] theorem State.mem_wrTime (a t : Nat) : (s.wrTime a t).mem = s.mem := by unfold State.wrTime; split <;> simp
@[simp] theorem State.mem_raise (code unit arg6 arg7 : Nat) : (s.raise code unit arg6 arg7).mem = s.mem := by simp [State.raise]
@[simp] theorem State.mem_putPkts (p : Nat) (qs : List Pkt) : (s.putPkts p qs).mem = s.mem := untouched_mem.putPkts s p qs
@[simp] theorem State.mem_startStream (p n at_ : Nat) : (s.startStream p n at_).mem = s.mem := by simp [State.startStream]
@[simp] theorem State.mem_pumpSome (p n : Nat) : (s.pumpSome p n).mem = s.mem := by simp [State.pumpSome]
@[simp] theorem State.mem_sessionEnd (p : Nat) : (s.sessionEnd p).mem = s.mem := by simp [State.sessionEnd]
@[simp] theorem State.mem_pump (p : Nat) : (s.pump p).mem = s.mem := untouched_mem.pump s p

@[simp] theorem State.mem_sendBk (p type len tspec : Nat) (body : List Nat) : (s.sendBk p type len tspec body).mem = s.mem :=
  untouched_mem.sendBk s p type len tspec body

@[simp] theorem State.mem_sendRt (p type len tspec : Nat) (body : List Nat) : (s.sendRt p type len tspec body).mem = s.mem := by simp [State.sendRt]
@[simp] theorem State.mem_sendLink (p type tspec : Nat) : (s.sendLink p type tspec).mem = s.mem := by simp [State.sendLink]
@[simp] theorem State.mem_sendEvent (p : Nat) (e : EvRec) : (s.sendEvent p e).mem = s.mem := by simp [State.sendEvent]
@[simp] theorem State.mem_logEvent (r : EvReq) : (s.logEvent r).mem = s.mem := untouched_mem.logEvent s r
@[simp] theorem State.mem_flag (a : Nat) (f : Field) : (s.flag a f).mem = s.mem := by simp [State.flag]
@[simp] theorem State.mem_setsWin : s.setsWin.mem = s.mem := by simp -implicitDefEqProofs [State.setsWin]
@[simp] theorem State.mem_raiseLim (ms code unit arg6 arg7 : Nat) : (s.raiseLim ms code unit arg6 arg7).mem = s.mem := by simp [State.raiseLim]
@[simp] theorem State.mem_recordOffline (r : Req) (addr : Nat) : (s.recordOffline r addr).mem = s.mem := by simp [State.recordOffline]
@[simp] theorem State.mem_endEpisodes : s.endEpisodes.mem = s.mem := by simp [State.endEpisodes]
@[simp] theorem State.mem_answer (r : Req) (code data : Nat) : (s.answer r code data).mem = s.mem := by simp [State.answer]
@[simp] theorem State.mem_dropHeld (r : Req) : (s.dropHeld r).mem = s.mem := by simp [State.dropHeld]
@[simp] theorem State.mem_plainWrite (addr : Nat) (v : Word) : (s.plainWrite addr v).mem = s.mem := by unfold State.plainWrite; split <;> simp
@[simp] theorem State.mem_setSpell (k : Nat) (on : Bool) : (s.setSpell k on).mem = s.mem := by simp [State.setSpell]

/-! ## Memory windows (R152, R234, R261) -/

@[simp] theorem State.mem_freeBytes (n : Nat) : (s.freeBytes n).2.mem = s.mem := by
  induction n generalizing s with
  | zero => rfl
  | succ n ih => simp [State.freeBytes, ih]

@[simp] theorem State.mem_winRead (a n : Nat) : (s.winRead a n).2.2.mem = s.mem := by
  unfold State.winRead
  dsimp only
  (repeat' split) <;> simp

@[simp] theorem State.mem_blockRead (r : Req) (a n : Nat) : (s.blockRead r a n).2.2.mem = s.mem := by
  unfold State.blockRead
  split <;> simp

/-! ## Event flags and work queues (R154, R308) -/

@[simp] theorem State.mem_setFlags (e new c : Nat) : (s.setFlags e new c).mem = s.mem := by simp [State.setFlags]
@[simp] theorem State.mem_evOrAt (e mask c : Nat) : (s.evOrAt e mask c).mem = s.mem := by simp [State.evOrAt]
@[simp] theorem State.mem_evClearAt (e mask c : Nat) : (s.evClearAt e mask c).mem = s.mem := by simp [State.evClearAt]
@[simp] theorem State.mem_evOr (e mask : Nat) : (s.evOr e mask).mem = s.mem := by simp [State.evOr]
@[simp] theorem State.mem_evClear (e mask : Nat) : (s.evClear e mask).mem = s.mem := by simp [State.evClear]
@[simp] theorem State.mem_evSource (src : Nat) : (s.evSource src).mem = s.mem := by simp [State.evSource]
@[simp] theorem State.mem_setWq (q : Nat) (l : List WorkItem) : (s.setWq q l).mem = s.mem := by simp [State.setWq]
@[simp] theorem State.mem_wqPush (q desc arg req : Nat) : (s.wqPush q desc arg req).2.mem = s.mem := by simp [State.wqPush]

/-! ## Mailboxes and Tally locks (R370-R379) -/

@[simp] theorem State.mem_touchClaim (c : Nat) : (s.touchClaim c).mem = s.mem := by simp [State.touchClaim]
@[simp] theorem State.mem_mbxClaim (c req : Nat) : (s.mbxClaim c req).mem = s.mem := by simp [State.mbxClaim]
@[simp] theorem mem_mbxMsgWrite (c k req : Nat) (v : Word) : (mbxMsgWrite c k req v s).2.mem = s.mem := by simp [mbxMsgWrite]
@[simp] theorem State.mem_mbxCopy (c p : Nat) : (s.mbxCopy c p).mem = s.mem := by simp [State.mbxCopy]
@[simp] theorem State.mem_mbxDeliver (c req : Nat) : (s.mbxDeliver c req).mem = s.mem := by simp [State.mbxDeliver]
@[simp] theorem State.mem_mbxPost (c req : Nat) : (s.mbxPost c req).mem = s.mem := by simp [State.mbxPost]
@[simp] theorem mem_mbxDoorbell (c req : Nat) (v : Word) : (mbxDoorbell c req v s).2.mem = s.mem := by simp [mbxDoorbell]

@[simp] theorem mem_mbxMessage (c req : Nat) (words : List Nat) : (mbxMessage c req words s).2.mem = s.mem := by
  simp -implicitDefEqProofs [mbxMessage]

@[simp] theorem mem_mbxMsgRead (c k req : Nat) : (mbxMsgRead c k req s).2.2.mem = s.mem := by simp [mbxMsgRead]
@[simp] theorem State.mem_mbxLapse (c : Nat) : (s.mbxLapse c).mem = s.mem := by simp [State.mbxLapse]
@[simp] theorem mem_mbxFlush (c req : Nat) (v : Word) : (mbxFlush c req v s).2.mem = s.mem := by simp -implicitDefEqProofs [mbxFlush]
@[simp] theorem mem_mbxCfgWrite (a c : Nat) (v : Word) : (mbxCfgWrite a c v s).2.mem = s.mem := by simp [mbxCfgWrite]
@[simp] theorem State.mem_freeLock (k : Nat) : (s.freeLock k).mem = s.mem := by simp [State.freeLock]
@[simp] theorem State.mem_breakLock (k cause : Nat) : (s.breakLock k cause).mem = s.mem := by simp [State.breakLock]
@[simp] theorem State.mem_expireLock (k : Nat) : (s.expireLock k).mem = s.mem := by simp [State.expireLock]
@[simp] theorem mem_tallyRead (k req : Nat) : (tallyRead k req s).2.2.mem = s.mem := by simp [tallyRead]
@[simp] theorem mem_tallyWrite (k req : Nat) (v : Word) : (tallyWrite k req v s).2.mem = s.mem := by simp [tallyWrite]
@[simp] theorem State.mem_ownerLost (id cause : Nat) : (s.ownerLost id cause).mem = s.mem := by simp [State.ownerLost]

/-! ## DMA (R354-R369) -/

@[simp] theorem State.mem_issueRead (c p host off len : Nat) (flush : Bool) : (s.issueRead c p host off len flush).mem = s.mem := by
  unfold State.issueRead; split <;> simp

@[simp] theorem State.mem_issueReads (c n : Nat) : (s.issueReads c n).mem = s.mem := by
  induction n generalizing s with
  | zero => rfl
  | succ n ih => simp [State.issueReads, ih]

@[simp] theorem State.mem_retryReads : s.retryReads.mem = s.mem := by
  refine State.mem_foldl (fun t c => ?_) _ _
  dsimp only
  split <;> simp

@[simp] theorem State.mem_dropReads (c : Nat) : (s.dropReads c).mem = s.mem := by simp [State.dropReads]
@[simp] theorem mem_dmaShadowWrite (a c : Nat) (v : Word) : (dmaShadowWrite a c v s).2.mem = s.mem := by simp [dmaShadowWrite]

@[simp] theorem State.mem_readBlocks (r : Req) (src n : Nat) (acc : List Byte) : (s.readBlocks r src n acc).1.mem = s.mem := by
  induction n generalizing s src acc with
  | zero => rfl
  | succ n ih =>
    have hread := s.mem_blockRead r src 64
    unfold State.readBlocks
    split <;> simp_all

@[simp] theorem State.mem_hostWrites (c p dst : Nat) (bs : List Byte) (n : Nat) : (s.hostWrites c p dst bs n).mem = s.mem := by
  induction n generalizing s dst bs with
  | zero => rfl
  | succ n ih => simp [State.hostWrites, ih]

@[simp] theorem State.mem_dmaProgress (x : DmaCh) : (s.dmaProgress x).2.mem = s.mem := by simp [State.dmaProgress]
@[simp] theorem mem_cqBaseWrite (a q : Nat) (v : Word) : (cqBaseWrite a q v s).2.mem = s.mem := by simp [cqBaseWrite]
@[simp] theorem State.mem_dropRead (c p tag : Nat) : (s.dropRead c p tag).mem = s.mem := by simp [State.dropRead]

/-! ## The fall of a port (R99, R106) -/

@[simp] theorem State.mem_triggerFailover (cars p : Nat) : (s.triggerFailover cars p).mem = s.mem := by simp [State.triggerFailover]
@[simp] theorem State.mem_updateRole : s.updateRole.mem = s.mem := rfl

/-! ## Lane operations (R42-R59) -/

@[simp] theorem State.mem_setLst (p k st : Nat) : (s.setLst p k st).mem = s.mem := by simp [State.setLst]
@[simp] theorem State.mem_setPst (p st : Nat) : (s.setPst p st).mem = s.mem := by simp [State.setPst]
@[simp] theorem State.mem_setPmap (a k ph : Nat) : (s.setPmap a k ph).mem = s.mem := by simp [State.setPmap]
@[simp] theorem State.mem_presetTaps (p k : Nat) : (s.presetTaps p k).mem = s.mem := by simp [State.presetTaps]
@[simp] theorem State.mem_sayWords (p : Nat) (s0 : State) : (s.sayWords p s0).mem = s.mem := by simp [State.sayWords]
@[simp] theorem State.mem_sendBack (p cmd arg : Nat) : (s.sendBack p cmd arg).mem = s.mem := by simp [State.sendBack]
@[simp] theorem State.mem_nextReq (p k : Nat) : (s.nextReq p k).mem = s.mem := by simp [State.nextReq]

@[simp] theorem State.mem_toDetect (p : Nat) : (s.toDetect p).mem = s.mem := by
  unfold State.toDetect
  exact State.mem_foldl (by intros; rfl) nine s

@[simp] theorem State.mem_trainLanes (p : Nat) : (s.trainLanes p).mem = s.mem := by simp -implicitDefEqProofs [State.trainLanes]
@[simp] theorem State.mem_startTraining (p : Nat) : (s.startTraining p).mem = s.mem := by simp -implicitDefEqProofs [State.startTraining]
@[simp] theorem State.mem_attemptFails (p : Nat) : (s.attemptFails p).mem = s.mem := by simp -implicitDefEqProofs [State.attemptFails]
@[simp] theorem State.mem_aloneFails (p k : Nat) : (s.aloneFails p k).mem = s.mem := by simp [State.aloneFails]
@[simp] theorem State.mem_sendNeg (p op : Nat) (payload : List Nat) : (s.sendNeg p op payload).mem = s.mem := by simp [State.sendNeg]
@[simp] theorem State.mem_sendOffer (p : Nat) : (s.sendOffer p).mem = s.mem := by simp [State.sendOffer]
@[simp] theorem State.mem_startNeg (p : Nat) : (s.startNeg p).mem = s.mem := by simp [State.startNeg]
@[simp] theorem State.mem_toDeskew (p : Nat) : (s.toDeskew p).mem = s.mem := by simp [State.toDeskew]
@[simp] theorem State.mem_laneReady (p k : Nat) : (s.laneReady p k).mem = s.mem := by simp [State.laneReady]
@[simp] theorem State.mem_retireLane (p ph : Nat) (rx : Bool) : (s.retireLane p ph rx).mem = s.mem := by simp [State.retireLane]
@[simp] theorem State.mem_abortScan (p ph : Nat) : (s.abortScan p ph).mem = s.mem := by simp [State.abortScan]
@[simp] theorem State.mem_startRxRelief (p k : Nat) : (s.startRxRelief p k).mem = s.mem := by simp [State.startRxRelief]
@[simp] theorem State.mem_takeRelief (p k r : Nat) : (s.takeRelief p k r).mem = s.mem := by simp [State.takeRelief]

/-! ## Lanes (R42-R73) -/

@[simp] theorem State.mem_alignInTraining (p k : Nat) (h : HuntObs) (inv : Bool) : (s.alignInTraining p k h inv).mem = s.mem := by
  simp [State.alignInTraining]

@[simp] theorem State.mem_takeReq (p k w : Nat) : (s.takeReq p k w).mem = s.mem := by simp [State.takeReq]
@[simp] theorem State.mem_takeAck (p k w : Nat) : (s.takeAck p k w).mem = s.mem := by simp [State.takeAck]
@[simp] theorem State.mem_takeRdy (p k w : Nat) : (s.takeRdy p k w).mem = s.mem := by simp [State.takeRdy]
@[simp] theorem State.mem_takeMove (p w : Nat) : (s.takeMove p w).mem = s.mem := by unfold State.takeMove; split <;> simp
@[simp] theorem State.mem_takeWord (p k : Nat) (word : BitVec 128) : (s.takeWord p k word).mem = s.mem := by simp [State.takeWord]
@[simp] theorem State.mem_mapReceive (p : Nat) : (s.mapReceive p).mem = s.mem := by simp -implicitDefEqProofs [State.mapReceive]
@[simp] theorem State.mem_orderCheck (p : Nat) : (s.orderCheck p).mem = s.mem := by simp [State.orderCheck]
@[simp] theorem State.mem_lanesUp (p : Nat) : (s.lanesUp p).mem = s.mem := by simp [State.lanesUp]

@[simp] theorem State.mem_portTrained (p base depth : Nat) : (s.portTrained p base depth).mem = s.mem := by
  simp -implicitDefEqProofs [State.portTrained]

@[simp] theorem State.mem_readyTimeout (p : Nat) : (s.readyTimeout p).mem = s.mem := by
  unfold State.readyTimeout; dsimp only; (repeat' split) <;> simp -implicitDefEqProofs

@[simp] theorem State.mem_abandonRx (p : Nat) : (s.abandonRx p).mem = s.mem := by simp [State.abandonRx]
@[simp] theorem State.mem_unstall (p : Nat) : (s.unstall p).mem = s.mem := by simp [State.unstall]
@[simp] theorem State.mem_startTxRelief (p k : Nat) : (s.startTxRelief p k).mem = s.mem := by simp [State.startTxRelief]
@[simp] theorem State.mem_trainAlone (p k : Nat) : (s.trainAlone p k).mem = s.mem := by simp [State.trainAlone]
@[simp] theorem mem_laneCmdWrite (p : Nat) (v : Word) : (laneCmdWrite p v s).2.mem = s.mem := by unfold laneCmdWrite; split <;> simp
@[simp] theorem State.mem_marginLow (p k : Nat) : (s.marginLow p k).mem = s.mem := by unfold State.marginLow; dsimp only; (repeat' split) <;> simp
@[simp] theorem State.mem_beginScan (p m : Nat) (auto : Bool) : (s.beginScan p m auto).mem = s.mem := by simp [State.beginScan]
@[simp] theorem mem_escanWrite (p : Nat) (v : Word) : (escanWrite p v s).2.mem = s.mem := by simp [escanWrite]
@[simp] theorem State.mem_putEyes (p k : Nat) (pts : List (List Nat)) : (s.putEyes p k pts).mem = s.mem := rfl
@[simp] theorem State.mem_endScan (p k : Nat) (auto : Bool) (pts : List (List Nat)) : (s.endScan p k auto pts).mem = s.mem := by simp [State.endScan]

/-! ## Links and host requests (R79-R101) -/

@[simp] theorem State.mem_linkErr (p : Nat) (f : Field) : (s.linkErr p f).mem = s.mem := by simp [State.linkErr]
@[simp] theorem State.mem_malformed (p sf : Nat) : (s.malformed p sf).mem = s.mem := by simp [State.malformed]
@[simp] theorem State.mem_sendNak (p : Nat) : (s.sendNak p).mem = s.mem := by simp [State.sendNak]
@[simp] theorem State.mem_rtError (p : Nat) (f : Field) : (s.rtError p f).mem = s.mem := by simp [State.rtError]

@[simp] theorem State.mem_acknowledge (p aseq : Nat) : (s.acknowledge p aseq).mem = s.mem := by
  unfold State.acknowledge; dsimp only; (repeat' split) <;> simp

@[simp] theorem State.mem_sendReject (p reason : Nat) : (s.sendReject p reason).mem = s.mem := by simp [State.sendReject]
@[simp] theorem State.mem_negFail (p : Nat) : (s.negFail p).mem = s.mem := by simp [State.negFail]
@[simp] theorem State.mem_reduceLane (p ph : Nat) : (s.reduceLane p ph).mem = s.mem := by simp [State.reduceLane]
@[simp] theorem State.mem_reduceLanes (p : Nat) : (s.reduceLanes p).mem = s.mem := by simp [State.reduceLanes]
@[simp] theorem State.mem_repostMailboxes (p : Nat) : (s.repostMailboxes p).mem = s.mem := by simp [State.repostMailboxes]

@[simp] theorem State.mem_sendCpl (p tag status : Nat) (secure : Bool) (len : Nat) (body : List Nat) :
    (s.sendCpl p tag status secure len body).mem = s.mem := by
  simp [State.sendCpl]

@[simp] theorem State.mem_secReject (p : Nat) : (s.secReject p).mem = s.mem := by simp [State.secReject]
@[simp] theorem State.mem_takeCtr (p : Nat) (t : SecTrailer) : (s.takeCtr p t).mem = s.mem := by simp [State.takeCtr]
@[simp] theorem mem_linkDhCtlWrite (v : Word) : (linkDhCtlWrite v s).2.mem = s.mem := by simp [linkDhCtlWrite]
@[simp] theorem mem_linkDhCarmapWrite (v : Word) : (linkDhCarmapWrite v s).2.mem = s.mem := by simp [linkDhCarmapWrite]

/-! ## The time base (R131-R150) -/

@[simp] theorem State.mem_reanchor (x t : Nat) : (s.reanchor x t).mem = s.mem := by simp [State.reanchor]
@[simp] theorem State.mem_stepped (x : Nat) : (s.stepped x).mem = s.mem := by simp [State.stepped]
@[simp] theorem State.mem_offsetCommit (x t : Nat) : (s.offsetCommit x t).mem = s.mem := by simp [State.offsetCommit]
@[simp] theorem State.mem_stepCommit (x v : Nat) : (s.stepCommit x v).mem = s.mem := by simp [State.stepCommit]
@[simp] theorem State.mem_incCommit (x v : Nat) : (s.incCommit x v).mem = s.mem := by simp -implicitDefEqProofs [State.incCommit]
@[simp] theorem State.mem_setTsel (x : Nat) : (s.setTsel x).mem = s.mem := by unfold State.setTsel; dsimp only; (repeat' split) <;> simp
@[simp] theorem State.mem_setPps (b : Bool) : (s.setPps b).mem = s.mem := by simp [State.setPps]
@[simp] theorem mem_timeCtlWrite (v : Word) : (timeCtlWrite v s).2.mem = s.mem := by simp [timeCtlWrite]
@[simp] theorem mem_alignCtlWrite (v : Word) : (alignCtlWrite v s).2.mem = s.mem := by simp [alignCtlWrite]
@[simp] theorem State.mem_timeRestart : s.timeRestart.mem = s.mem := by simp [State.timeRestart]
@[simp] theorem State.mem_slewTick : s.slewTick.mem = s.mem := by simp [State.slewTick]
@[simp] theorem State.mem_ppsTick (before : State) : (s.ppsTick before).mem = s.mem := by simp [State.ppsTick]
@[simp] theorem State.mem_timeTick : s.timeTick.mem = s.mem := by simp [State.timeTick]
@[simp] theorem State.mem_stampNow (p : Nat) (f : Field) : (s.stampNow p f).2.mem = s.mem := by simp [State.stampNow]
@[simp] theorem State.mem_sendDreq (p : Nat) : (s.sendDreq p).mem = s.mem := by unfold State.sendDreq; split <;> simp
@[simp] theorem State.mem_exchTick : s.exchTick.mem = s.mem := by simp [State.exchTick]

/-! ## Presentation instants (R135-R146) -/

@[simp] theorem State.mem_setCar (c : Nat) (x : CarSt) : (s.setCar c x).mem = s.mem := by simp [State.setCar]

@[simp] theorem State.mem_symWriteAs (addr : Nat) (v : Word) (views : List (Nat × Th)) : (s.symWriteAs addr v views).mem = s.mem := by
  simp [State.symWriteAs]

@[simp] theorem State.mem_symWrite (addr : Nat) (v : Word) (thr : Th) : (s.symWrite addr v thr).mem = s.mem := by simp [State.symWrite]
@[simp] theorem State.mem_symWrite2 (addr : Nat) (v : Word) (tw : Th) : (s.symWrite2 addr v tw).mem = s.mem := by simp [State.symWrite2]
@[simp] theorem State.mem_restartSync : s.restartSync.mem = s.mem := by simp [State.restartSync]
@[simp] theorem State.mem_raiseFrame (code c : Nat) : (s.raiseFrame code c).mem = s.mem := by simp [State.raiseFrame]

/-! ## Layer traffic (R107-R130) -/

@[simp] theorem State.mem_matchHeld (x : Section) : (s.matchHeld x).mem = s.mem := by simp [State.matchHeld]
@[simp] theorem State.mem_refuseSection (reason : Nat) (x : Section) : (s.refuseSection reason x).mem = s.mem := by simp [State.refuseSection]

@[simp] theorem State.mem_takeSection (p d : Nat) (standby : Bool) : (s.takeSection p d standby).mem = s.mem := by
  unfold State.takeSection
  dsimp only
  cases s.sections.find? (s.namesake (s.sectionOf p d standby)) <;> simp

@[simp] theorem State.mem_takeData (d : DlData) : (s.takeData d).mem = s.mem := by simp [State.takeData]

/-! ## Weights (R230-R239) -/

@[simp] theorem State.mem_setCw (dir h : Nat) (x : CwSt) : (s.setCw dir h x).mem = s.mem := by simp [State.setCw]
@[simp] theorem State.mem_weightChecks (dir : Nat) (x : Section) (air : Th) : (s.weightChecks dir x air).1.mem = s.mem := by simp [State.weightChecks]

/-! ## The receive path (R203-R220) -/

@[simp] theorem State.mem_setZero (path cause : Nat) (on : Bool) (t : Th) : (s.setZero path cause on t).mem = s.mem := by
  unfold State.setZero; dsimp only; (repeat' split) <;> simp

@[simp] theorem State.mem_rxClip (path stage n : Nat) : (s.rxClip path stage n).mem = s.mem := by simp [State.rxClip]

@[simp] theorem State.mem_u3Count (codes : List (Fin 64 × Nat × BitVec 12)) (p : Nat) (a b : Int) : (s.u3Count codes p a b).mem = s.mem := by
  simp [State.u3Count]

@[simp] theorem State.mem_ulPath (y : TxSym) (prbs sh adv : Nat) (codes : List (Fin 64 × Nat × BitVec 12)) (p : Nat) :
    (s.ulPath y prbs sh adv codes p).2.mem = s.mem := by
  simp [State.ulPath]

/-! ## Symbols of the datapaths (R176-R220, R247-R250) -/

@[simp] theorem State.mem_bfErrPast (dir car : Nat) : (s.bfErrPast dir car).mem = s.mem := by simp [State.bfErrPast]
@[simp] theorem State.mem_txClip (path stage n : Nat) : (s.txClip path stage n).mem = s.mem := by simp [State.txClip]
@[simp] theorem State.mem_dpdClip (path n : Nat) : (s.dpdClip path n).mem = s.mem := by simp [State.dpdClip]
@[simp] theorem State.mem_deliverAt (i : Nat) : (s.deliverAt i).mem = s.mem := by unfold State.deliverAt; split <;> simp

@[simp] theorem State.mem_deliverUnits (ready : UlJob → Bool) (n : Nat) : (s.deliverUnits ready n).mem = s.mem := by
  induction n generalizing s with
  | zero => rfl
  | succ n ih => unfold State.deliverUnits; split <;> simp [ih]

@[simp] theorem State.mem_ulTick : s.ulTick.mem = s.mem := by simp [State.ulTick]

@[simp] theorem State.mem_queueUnits (due : Th) (ports c type tspec cw qual stream rep : Nat) (units : List (List Nat)) :
    (s.queueUnits due ports c type tspec cw qual stream rep units).mem = s.mem := by
  simp [State.queueUnits]

@[simp] theorem State.mem_ulSection (c : Nat) (f : Int) (n : Nat) (res : List UlRe) (x : Section) : (s.ulSection c f n res x).mem = s.mem := by
  simp [State.ulSection]

@[simp] theorem State.mem_srsRaw (c : Nat) (f : Int) (n : Nat) (res : List UlRe) (path : Nat) (x : Section) :
    (s.srsRaw c f n res path x).mem = s.mem := by
  simp [State.srsRaw]

@[simp] theorem State.mem_ulInput (c : Nat) (f : Int) (n : Nat) (inp : RxIn) : (s.ulInput c f n inp).2.mem = s.mem := by
  cases inp <;> simp [State.ulInput]

@[simp] theorem State.mem_formNext (p : Nat) : (s.formNext p).mem = s.mem := by
  unfold State.formNext
  (repeat' split) <;> simp

/-! ## Double-banked resources (R151-R153, R240-R246) -/

@[simp] theorem State.mem_setC (e : Nat) (b : Bool) : (s.setC e b).mem = s.mem := by simp [State.setC]
@[simp] theorem State.mem_swapRefused (eng : Option Nat) : (s.swapRefused eng).mem = s.mem := by unfold State.swapRefused; split <;> simp

@[simp] theorem State.mem_showPending (res idx : Nat) (on : Bool) : (s.showPending res idx on).mem = s.mem := by
  simp -implicitDefEqProofs [State.showPending]

@[simp] theorem State.mem_toEntry (e : Nat) : (s.toEntry e).mem = s.mem := by simp [State.toEntry]
@[simp] theorem State.mem_programSwap (e : Nat) : (s.programSwap e).mem = s.mem := by unfold State.programSwap; dsimp only; (repeat' split) <;> simp

@[simp] theorem State.mem_requestSwap (res idx bnd car t : Nat) (te : Th) (eng : Option Nat) :
    (s.requestSwap res idx bnd car t te eng).2.mem = s.mem := by
  unfold State.requestSwap
  dsimp only
  cases eng <;> simp

@[simp] theorem State.mem_flipHandle (dir h : Nat) (b : Th) : (s.flipHandle dir h b).mem = s.mem := by simp [State.flipHandle]
@[simp] theorem State.mem_dpdSwap (p : Nat) (b : Th) : (s.dpdSwap p b).mem = s.mem := by unfold State.dpdSwap; split <;> simp
@[simp] theorem State.mem_roleChange (w : SwapPend) : (s.roleChange w).mem = s.mem := by simp -implicitDefEqProofs [State.roleChange]
@[simp] theorem State.mem_moveSwap (w w' : SwapPend) : (s.moveSwap w w').mem = s.mem := by simp [State.moveSwap]
@[simp] theorem State.mem_deferSwap (w : SwapPend) : (s.deferSwap w).mem = s.mem := by unfold State.deferSwap; (repeat' split) <;> simp
@[simp] theorem State.mem_showOld (res idx : Nat) (on : Bool) : (s.showOld res idx on).mem = s.mem := by simp [State.showOld]

@[simp] theorem mem_beamSwapreqWrite (v : Word) : (beamSwapreqWrite v s).2.mem = s.mem := by
  unfold beamSwapreqWrite
  dsimp only
  split
  · simp
  · split
    next hswap => simpa using (congrArg (·.2.mem) hswap).symm
    next => simp

@[simp] theorem mem_dpdSwapreqWrite (v : Word) : (dpdSwapreqWrite v s).2.mem = s.mem := by
  unfold dpdSwapreqWrite
  dsimp only
  split
  · simp
  · split
    next hswap => simpa using (congrArg (·.2.mem) hswap).symm
    next => simp

@[simp] theorem mem_sbSwapreqWrite (e : Nat) (v : Word) : (sbSwapreqWrite e v s).2.mem = s.mem := by
  unfold sbSwapreqWrite
  dsimp only
  split
  · simp
  · split
    next hswap => simpa using (congrArg (·.2.mem) hswap).symm
    next => simp

@[simp] theorem State.mem_cwMiss (dir h : Nat) (now : Th) : (s.cwMiss dir h now).mem = s.mem := by simp [State.cwMiss]
@[simp] theorem State.mem_cwRefuse (reason dir h : Nat) : (s.cwRefuse reason dir h).2.mem = s.mem := by simp [State.cwRefuse]
@[simp] theorem mem_cwArmWrite (v : Word) (tw : Th) : (cwArmWrite v tw s).2.mem = s.mem := by simp [cwArmWrite]
@[simp] theorem mem_cwCommitWrite (v : Word) (tc : Th) : (cwCommitWrite v tc s).2.mem = s.mem := by simp [cwCommitWrite]

/-! ## Carriers and slices (R183, R184, R199-R202) -/

@[simp] theorem State.mem_mutedUntil (p : Nat) (t : Th) : (s.mutedUntil p t).mem = s.mem := by simp [State.mutedUntil]
@[simp] theorem State.mem_setMuted (p : Nat) (on : Bool) : (s.setMuted p on).mem = s.mem := by simp [State.setMuted]
@[simp] theorem State.mem_markMuted (p : Nat) : (s.markMuted p).mem = s.mem := by simp [State.markMuted]
@[simp] theorem State.mem_hwMute (p : Nat) (f : Field) : (s.hwMute p f).mem = s.mem := by simp [State.hwMute]
@[simp] theorem State.mem_hwUnmute (p : Nat) (f : Field) : (s.hwUnmute p f).mem = s.mem := by simp [State.hwUnmute]
@[simp] theorem State.mem_hostMute (p : Nat) (on : Bool) (tw : Th) : (s.hostMute p on tw).mem = s.mem := by simp [State.hostMute]
@[simp] theorem mem_txPathCtlWrite (p : Nat) (v : Word) (tw : Th) : (txPathCtlWrite p v tw s).2.mem = s.mem := by simp [txPathCtlWrite]
@[simp] theorem mem_sampleWrite (a : Nat) (d : Th) (v : Word) (tw : Th) : (sampleWrite a d v tw s).2.mem = s.mem := by simp [sampleWrite]
@[simp] theorem State.mem_setSlice (p sl : Nat) : (s.setSlice p sl).mem = s.mem := by simp [State.setSlice]
@[simp] theorem State.mem_markSlice (sl : Nat) : (s.markSlice sl).mem = s.mem := by simp [State.markSlice]
@[simp] theorem State.mem_setSliceSync (u : Nat) (x : Option SliceSync) : (s.setSliceSync u x).mem = s.mem := by simp [State.setSliceSync]
@[simp] theorem mem_txMuteWrite (p : Nat) (v : Word) : (txMuteWrite p v s).2.mem = s.mem := by simp [txMuteWrite]
@[simp] theorem State.mem_takeOver (u p spare : Nat) : (s.takeOver u p spare).mem = s.mem := by simp [State.takeOver]
@[simp] theorem mem_sliceReliefWrite (u : Nat) (v : Word) : (sliceReliefWrite u v s).2.mem = s.mem := by simp [sliceReliefWrite]
@[simp] theorem State.mem_carDown (c dir : Nat) (tw : Th) : (s.carDown c dir tw).mem = s.mem := by simp [State.carDown]
@[simp] theorem State.mem_carRise (c : Nat) : (s.carRise c).mem = s.mem := by simp [State.carRise]
@[simp] theorem State.mem_toffApply (tw : Th) : (s.toffApply tw).mem = s.mem := by simp [State.toffApply]
@[simp] theorem mem_carCtlWrite (c : Nat) (v : Word) (tw : Th) : (carCtlWrite c v tw s).2.mem = s.mem := by simp [carCtlWrite]
@[simp] theorem mem_carLockedWrite (c a : Nat) (v : Word) : (carLockedWrite c a v s).2.mem = s.mem := by simp [carLockedWrite]
@[simp] theorem mem_carTxWrite (a : Nat) (v : Word) (tw : Th) : (carTxWrite a v tw s).2.mem = s.mem := by simp [carTxWrite]
@[simp] theorem mem_carRxWrite (a : Nat) (v : Word) (tw : Th) : (carRxWrite a v tw s).2.mem = s.mem := by simp [carRxWrite]
@[simp] theorem mem_cfrPulseWrite (a : Nat) (v : Word) : (cfrPulseWrite a v s).2.mem = s.mem := by simp [cfrPulseWrite]
@[simp] theorem mem_rxPathCtlWrite (p : Nat) (v : Word) (tw : Th) : (rxPathCtlWrite p v tw s).2.mem = s.mem := by simp [rxPathCtlWrite]

/-! ## PRACH (R221-R225) -/

@[simp] theorem mem_prachCtlWrite (j : Nat) (v : Word) : (prachCtlWrite j v s).2.mem = s.mem := by simp [prachCtlWrite]
@[simp] theorem mem_prachFstartWrite (j : Nat) (v : Word) : (prachFstartWrite j v s).2.mem = s.mem := by simp [prachFstartWrite]

@[simp] theorem State.mem_prachInput (j : Nat) (w : Word) (air a b : Th) (rep n : Nat) (inp : RxIn) :
    (s.prachInput j w air a b rep n inp).2.mem = s.mem := by
  cases inp <;> simp [State.prachInput]

@[simp] theorem State.mem_prachStream (c : Nat) (w : Word) (ports tspec cw : Nat) (a b : Th) (rep : Nat) (vals : List UlRe)
    (st : Nat × Bool × List (Int × Int)) : (s.prachStream c w ports tspec cw a b rep vals st).mem = s.mem := by
  simp [State.prachStream]

/-! ## Dual homing (R100-R102) -/

@[simp] theorem State.mem_setServe (c code : Nat) (b : Th) : (s.setServe c code b).mem = s.mem := by simp [State.setServe]

/-! ## Captures (R262-R274) -/

@[simp] theorem State.mem_setCage (a : Nat) (x : CageArb) : (s.setCage a x).mem = s.mem := by simp [State.setCage]
@[simp] theorem State.mem_showPend (q : CapReq) (on : Bool) : (s.showPend q on).mem = s.mem := by simp [State.showPend]
@[simp] theorem State.mem_showGrant (q : CapReq) (on : Bool) : (s.showGrant q on).mem = s.mem := by simp [State.showGrant]
@[simp] theorem State.mem_capComplete (q : CapReq) (status : Nat) : (s.capComplete q status).mem = s.mem := by simp [State.capComplete]
@[simp] theorem State.mem_giveTicket (q : CapReq) (t : Nat) : (s.giveTicket q t).mem = s.mem := by simp [State.giveTicket]
@[simp] theorem State.mem_capEnqueue (a : Nat) (q : CapReq) : (s.capEnqueue a q).mem = s.mem := by simp [State.capEnqueue]
@[simp] theorem State.mem_capLow (path : Nat) : (s.capLow path).mem = s.mem := by simp [State.capLow]
@[simp] theorem State.mem_capTick : s.capTick.mem = s.mem := by simp [State.capTick]
@[simp] theorem mem_cageCfgWrite (g : Nat) (v : Word) : (cageCfgWrite g v s).2.mem = s.mem := by simp [cageCfgWrite]

/-! ## Converters (R275-R293) -/

@[simp] theorem State.mem_setAdc (u : Nat) (x : ConvAdc) : (s.setAdc u x).mem = s.mem := by simp [State.setAdc]
@[simp] theorem State.mem_adcReplace (u out_ in_ : Nat) : (s.adcReplace u out_ in_).mem = s.mem := by unfold State.adcReplace; split <;> simp
@[simp] theorem State.mem_adcRetire (u sub : Nat) : (s.adcRetire u sub).mem = s.mem := by simp [State.adcRetire]
@[simp] theorem mem_adcCmdWrite (u : Nat) (v : Word) : (adcCmdWrite u v s).2.mem = s.mem := by simp [adcCmdWrite]
@[simp] theorem State.mem_setDac (p : Nat) (x : ConvDac) : (s.setDac p x).mem = s.mem := by simp [State.setDac]
@[simp] theorem State.mem_cellRetire (p : Nat) (cell : Option Nat) : (s.cellRetire p cell).mem = s.mem := by unfold State.cellRetire; split <;> simp
@[simp] theorem mem_dacCmdWrite (p : Nat) (v : Word) : (dacCmdWrite p v s).2.mem = s.mem := by simp [dacCmdWrite]
@[simp] theorem State.mem_refreshAlias : s.refreshAlias.mem = s.mem := by simp -implicitDefEqProofs [State.refreshAlias]

@[simp] theorem mem_ncoWrite (a : Nat) (tx : Bool) (k : Nat) (v : Word) : (ncoWrite a tx k v s).2.mem = s.mem := by
  simp -implicitDefEqProofs [ncoWrite]

@[simp] theorem mem_ncoSelWrite (v : Word) (tw : Th) : (ncoSelWrite v tw s).2.mem = s.mem := by simp -implicitDefEqProofs [ncoSelWrite]
@[simp] theorem mem_convModeWrite (a : Nat) (v : Word) : (convModeWrite a v s).2.mem = s.mem := by simp [convModeWrite]
@[simp] theorem State.mem_startAlign : s.startAlign.mem = s.mem := by simp [State.startAlign]
@[simp] theorem mem_alignSoftWrite (v : Word) : (alignSoftWrite v s).2.mem = s.mem := by simp [alignSoftWrite]
@[simp] theorem State.mem_alignReset : s.alignReset.mem = s.mem := by simp [State.alignReset]

/-! ## Auxiliary DACs (R410-R413) -/

@[simp] theorem State.mem_setAux (n : Nat) (x : AuxCh) : (s.setAux n x).mem = s.mem := by simp [State.setAux]
@[simp] theorem State.mem_setHold (n : Nat) (b : Bool) : (s.setHold n b).mem = s.mem := by simp [State.setHold]
@[simp] theorem State.mem_auxMove (n code : Nat) : (s.auxMove n code).mem = s.mem := by simp [State.auxMove]
@[simp] theorem mem_auxDacWrite (n : Nat) (v : Word) : (auxDacWrite n v s).2.mem = s.mem := by simp [auxDacWrite]
@[simp] theorem mem_auxClrCodeWrite (n : Nat) (v : Word) : (auxClrCodeWrite n v s).2.mem = s.mem := by simp [auxClrCodeWrite]
@[simp] theorem State.mem_auxClear (n : Nat) : (s.auxClear n).mem = s.mem := by simp [State.auxClear]
@[simp] theorem State.mem_auxClearAll : s.auxClearAll.mem = s.mem := by simp [State.auxClearAll]
@[simp] theorem mem_auxCtlWrite (v : Word) : (auxCtlWrite v s).2.mem = s.mem := by simp [auxCtlWrite]
@[simp] theorem State.mem_auxCorrected (n : Nat) : (s.auxCorrected n).mem = s.mem := by simp [State.auxCorrected]

/-! ## Calibration (R381-R401) -/

@[simp] theorem State.mem_assayAny : s.assayAny.mem = s.mem := by simp -implicitDefEqProofs [State.assayAny]
@[simp] theorem State.mem_assayConv : s.assayConv.mem = s.mem := by simp [State.assayConv]
@[simp] theorem State.mem_assayRestart : s.assayRestart.mem = s.mem := by simp [State.assayRestart]

@[simp] theorem State.mem_assayConsequence (item unit elem : Nat) : (s.assayConsequence item unit elem).mem = s.mem := by
  simp [State.assayConsequence]

@[simp] theorem State.mem_assayFailed (item unit elem : Nat) : (s.assayFailed item unit elem).mem = s.mem := by
  simp -implicitDefEqProofs [State.assayFailed]

@[simp] theorem State.mem_assayPut (key val : Nat) : (s.assayPut key val).mem = s.mem := by simp [State.assayPut]
@[simp] theorem State.mem_assayPassed (item unit elem val : Nat) : (s.assayPassed item unit elem val).mem = s.mem := by simp [State.assayPassed]
@[simp] theorem State.mem_assayTick : s.assayTick.mem = s.mem := by simp [State.assayTick]
@[simp] theorem State.mem_assayEnds (item unit : Nat) : (s.assayEnds item unit).mem = s.mem := by simp [State.assayEnds]
@[simp] theorem State.mem_blobEnd (restore : Bool) (result : Nat) : (s.blobEnd restore result).mem = s.mem := by simp [State.blobEnd]
@[simp] theorem mem_assaySaveWrite (v : Word) : (assaySaveWrite v s).2.mem = s.mem := by simp [assaySaveWrite]
@[simp] theorem mem_assayRestoreWrite (v : Word) : (assayRestoreWrite v s).2.mem = s.mem := by simp [assayRestoreWrite]
@[simp] theorem mem_assayCtlWrite (v : Word) : (assayCtlWrite v s).2.mem = s.mem := by simp [assayCtlWrite]
@[simp] theorem mem_assayFailWrite (a : Nat) (v : Word) : (assayFailWrite a v s).2.mem = s.mem := by simp -implicitDefEqProofs [assayFailWrite]
@[simp] theorem mem_assayNetWrite (a item : Nat) (v : Word) : (assayNetWrite a item v s).2.mem = s.mem := by simp [assayNetWrite]

/-! ## The monitor (R402-R409) -/

@[simp] theorem State.mem_monShow : s.monShow.mem = s.mem := by simp [State.monShow]
@[simp] theorem State.mem_setMon (m : MonSt) : (s.setMon m).mem = s.mem := by simp [State.setMon]

@[simp] theorem State.mem_monStart (entry urg : Option Nat) (cfg slot tick : Nat) : (s.monStart entry urg cfg slot tick).mem = s.mem := by
  simp [State.monStart]

@[simp] theorem State.mem_monEntry (k slot : Nat) : (s.monEntry k slot).mem = s.mem := by unfold State.monEntry; dsimp only; (repeat' split) <;> simp
@[simp] theorem State.mem_monGo (slot : Nat) : (s.monGo slot).mem = s.mem := by unfold State.monGo; dsimp only; (repeat' split) <;> simp
@[simp] theorem State.mem_monDone (x : MonRun) (samples : List Int) : (s.monDone x samples).mem = s.mem := by simp [State.monDone]
@[simp] theorem State.mem_monCompare (k code : Nat) : (s.monCompare k code).mem = s.mem := by simp [State.monCompare]
@[simp] theorem State.mem_monWrite (p : MonPipe) : (s.monWrite p).mem = s.mem := by unfold State.monWrite; (repeat' split) <;> simp
@[simp] theorem State.mem_monTick : s.monTick.mem = s.mem := by simp [State.monTick]
@[simp] theorem mem_monCtlWrite (v : Word) : (monCtlWrite v s).2.mem = s.mem := by simp [monCtlWrite]

@[simp] theorem State.mem_monAccept (req : Option Nat) (cfg : Nat) : (s.monAccept req cfg).mem = s.mem := by
  unfold State.monAccept; dsimp only; (repeat' split) <;> simp

@[simp] theorem mem_monUrgWrite (req : Nat) (v : Word) : (monUrgWrite req v s).2.mem = s.mem := by simp [monUrgWrite]
@[simp] theorem mem_monWinWrite (k : Nat) (v : Word) : (monWinWrite k v s).2.mem = s.mem := by simp [monWinWrite]

/-! ## The Lode cluster (R303-R325) -/

@[simp] theorem State.mem_setCore (c : Nat) (k : LodeCore) : (s.setCore c k).mem = s.mem := by simp [State.setCore]
@[simp] theorem State.mem_setCoreState (c st : Nat) : (s.setCoreState c st).mem = s.mem := by simp [State.setCoreState]
@[simp] theorem State.mem_lodeTick : s.lodeTick.mem = s.mem := by simp [State.lodeTick]
@[simp] theorem State.mem_addRunning (q : Nat) (up : Bool) : (s.addRunning q up).mem = s.mem := by simp [State.addRunning]
@[simp] theorem mem_wqPushWrite (q req : Nat) (v : Word) : (wqPushWrite q req v s).2.mem = s.mem := by simp [wqPushWrite]
@[simp] theorem State.mem_withdraw (req : Nat) : (s.withdraw req).mem = s.mem := by simp [State.withdraw]
@[simp] theorem State.mem_lodeTrap (c code pc : Nat) : (s.lodeTrap c code pc).mem = s.mem := by simp [State.lodeTrap]
@[simp] theorem State.mem_coreFree (c : Nat) : (s.coreFree c).mem = s.mem := by simp [State.coreFree]
@[simp] theorem State.mem_clStat : s.clStat.mem = s.mem := by simp [State.clStat]
@[simp] theorem State.mem_beginCopy : s.beginCopy.mem = s.mem := by unfold State.beginCopy; split <;> simp
@[simp] theorem State.mem_takeCore (c : Nat) (r : Option Nat) : (s.takeCore c r).mem = s.mem := by unfold State.takeCore; split <;> simp
@[simp] theorem State.mem_endRetire : s.endRetire.mem = s.mem := by simp [State.endRetire]
@[simp] theorem mem_lodeReliefWrite (v : Word) : (lodeReliefWrite v s).2.mem = s.mem := by simp [lodeReliefWrite]
@[simp] theorem mem_lodeCtlWrite (c : Nat) (v : Word) : (lodeCtlWrite c v s).2.mem = s.mem := by simp [lodeCtlWrite]

/-! ## Shiftboss engines (R154-R175) -/

@[simp] theorem State.mem_setSb (e st : Nat) : (s.setSb e st).mem = s.mem := by simp [State.setSb]
@[simp] theorem State.mem_setPc (e pc : Nat) : (s.setPc e pc).mem = s.mem := by simp [State.setPc]
@[simp] theorem State.mem_setG (e n v : Nat) : (s.setG e n v).mem = s.mem := by simp [State.setG]
@[simp] theorem State.mem_sbFault (e code : Nat) : (s.sbFault e code).mem = s.mem := by simp [State.sbFault]

@[simp] theorem State.mem_setStacks (e : Nat) (loops : List (Nat × Nat)) (calls : List Nat) : (s.setStacks e loops calls).mem = s.mem := by
  simp [State.setStacks]

@[simp] theorem State.mem_sbFaultHere (e code : Nat) : (s.sbFaultHere e code).mem = s.mem := by simp [State.sbFaultHere]

@[simp] theorem State.mem_sbLate (e i t : Nat) (tw : Th) (skip : Option Nat) : (s.sbLate e i t tw skip).mem = s.mem := by
  unfold State.sbLate; split <;> simp

@[simp] theorem State.mem_sbTimeWait (e w i t : Nat) (tw : Th) : (s.sbTimeWait e w i t tw).mem = s.mem := by simp [State.sbTimeWait]
@[simp] theorem State.mem_sbRelease (e at_ : Nat) (relT : Option Th) : (s.sbRelease e at_ relT).mem = s.mem := by simp [State.sbRelease]
@[simp] theorem State.mem_sbStage (e i : Nat) (op : StagedOp) : (s.sbStage e i op).mem = s.mem := by simp [State.sbStage]
@[simp] theorem State.mem_sbCopyRegs (e : Nat) : (s.sbCopyRegs e).mem = s.mem := by simp -implicitDefEqProofs [State.sbCopyRegs]
@[simp] theorem State.mem_sbIssued (e : Nat) (ok : Bool) : (s.sbIssued e ok).mem = s.mem := by simp [State.sbIssued]
@[simp] theorem State.mem_sbTaken (e : Nat) : (s.sbTaken e).mem = s.mem := by simp [State.sbTaken]
@[simp] theorem mem_sbCtlWrite (e : Nat) (v : Word) : (sbCtlWrite e v s).2.mem = s.mem := by unfold sbCtlWrite; dsimp only; (repeat' split) <;> simp
@[simp] theorem mem_sbTlastWrite (e v : Nat) : (sbTlastWrite e v s).2.mem = s.mem := by simp [sbTlastWrite]
@[simp] theorem State.mem_setPins (mask lv : Nat) : (s.setPins mask lv).mem = s.mem := by simp [State.setPins]
@[simp] theorem mem_feSafeWrite (v : Word) : (feSafeWrite v s).2.mem = s.mem := by simp [feSafeWrite]
@[simp] theorem State.mem_feSafe : s.feSafe.mem = s.mem := by simp [State.feSafe]
@[simp] theorem State.mem_sbSafe : s.sbSafe.mem = s.mem := by simp [State.sbSafe]
@[simp] theorem State.mem_setFe (p : Nat) (fs : List FeFrame) (at_ : Nat) : (s.setFe p fs at_).mem = s.mem := by simp [State.setFe]
@[simp] theorem State.mem_feRelease (e p : Nat) : (s.feRelease e p).mem = s.mem := by unfold State.feRelease; split <;> simp

/-! ## Repair (R466-R473) -/

@[simp] theorem State.mem_quiet {f : State → State} (h : (f s).mem = s.mem) : (s.quiet f).mem = s.mem := by
  simp [State.quiet, h]

@[simp] theorem State.mem_retireUnit (kind unit elem array : Nat) : (s.retireUnit kind unit elem array).mem = s.mem := by
  unfold State.retireUnit; (repeat' split) <;> simp

@[simp] theorem State.mem_applyRec (r : OtpRec) : (s.applyRec r).mem = s.mem := by simp [State.applyRec]
@[simp] theorem State.mem_repairStat : s.repairStat.mem = s.mem := by simp [State.repairStat]
@[simp] theorem State.mem_applyRepair : s.applyRepair.mem = s.mem := by simp [State.applyRepair]

/-! ## Power (R415-R439) -/

@[simp] theorem State.mem_setPower (f : PowerSt → PowerSt) : (s.setPower f).mem = s.mem := by simp [State.setPower]
@[simp] theorem State.mem_setClk (f : Field) (on : Bool) : (s.setClk f on).mem = s.mem := by simp [State.setClk]
@[simp] theorem State.mem_setSeq (k : Nat) (on : Bool) : (s.setSeq k on).mem = s.mem := by simp [State.setSeq]
@[simp] theorem State.mem_setTrans (t : Option Trans) : (s.setTrans t).mem = s.mem := by simp [State.setTrans]
@[simp] theorem State.mem_reachState (st : Nat) : (s.reachState st).mem = s.mem := by simp [State.reachState]
@[simp] theorem State.mem_classClock : s.classClock.mem = s.mem := by simp [State.classClock]
@[simp] theorem State.mem_setBroken (k : Nat) (b : Bool) : (s.setBroken k b).mem = s.mem := by simp [State.setBroken]
@[simp] theorem State.mem_sensorOff (k : Nat) : (s.sensorOff k).mem = s.mem := by simp [State.sensorOff]
@[simp] theorem State.mem_convPowerUp : s.convPowerUp.mem = s.mem := by simp -implicitDefEqProofs [State.convPowerUp]
@[simp] theorem State.mem_laneClocks (on : Bool) : (s.laneClocks on).mem = s.mem := by simp [State.laneClocks]
@[simp] theorem State.mem_aditStep3 : s.aditStep3.mem = s.mem := by simp [State.aditStep3]
@[simp] theorem State.mem_startAdit : s.startAdit.mem = s.mem := by simp [State.startAdit]
@[simp] theorem State.mem_arriveIdle (start : Nat) : (s.arriveIdle start).mem = s.mem := by simp -implicitDefEqProofs [State.arriveIdle]
@[simp] theorem State.mem_arriveReady : s.arriveReady.mem = s.mem := by simp [State.arriveReady]
@[simp] theorem State.mem_abortEntry (point : Nat) : (s.abortEntry point).mem = s.mem := by simp [State.abortEntry]
@[simp] theorem State.mem_stateMute (on : Bool) : (s.stateMute on).mem = s.mem := by simp [State.stateMute]
@[simp] theorem State.mem_toReady : s.toReady.mem = s.mem := by simp [State.toReady]
@[simp] theorem State.mem_classChange (cls noff : Nat) (tw : Th) : (s.classChange cls noff tw).mem = s.mem := by simp [State.classChange]
@[simp] theorem mem_pwrClassWrite (v : Word) (tw : Th) : (pwrClassWrite v tw s).2.mem = s.mem := by simp [pwrClassWrite]

/-! ## Temperatures (R434-R438) -/

@[simp] theorem State.mem_sensorUpdate (k : Nat) (r : SensorRead) : (s.sensorUpdate k r).mem = s.mem := by
  unfold State.sensorUpdate; (repeat' split) <;> simp

@[simp] theorem State.mem_setLevel (f : Field) (on : Bool) : (s.setLevel f on).mem = s.mem := by simp [State.setLevel]
@[simp] theorem mem_pwrStatusWrite (v : Word) : (pwrStatusWrite v s).2.mem = s.mem := by simp [pwrStatusWrite]

/-! ## Boot and enclave services (R440-R463) -/

@[simp] theorem State.mem_setSec (f : SecSt → SecSt) : (s.setSec f).mem = s.mem := by simp [State.setSec]
@[simp] theorem State.mem_setOtp (f : OtpSt → OtpSt) : (s.setOtp f).mem = s.mem := by simp [State.setOtp]
@[simp] theorem State.mem_rejectImage (status : Nat) : (s.rejectImage status).mem = s.mem := by simp [State.rejectImage]
@[simp] theorem State.mem_svcReply (q : SvcReq) (status : Nat) : (s.svcReply q status).mem = s.mem := by simp -implicitDefEqProofs [State.svcReply]
@[simp] theorem State.mem_recordImage (i : Image) : (s.recordImage i).mem = s.mem := by simp -implicitDefEqProofs [State.recordImage]
@[simp] theorem State.mem_fwRestart (q : Option SvcReq) : (s.fwRestart q).mem = s.mem := by simp [State.fwRestart]
@[simp] theorem State.mem_idSign (msg : List Byte) : (s.idSign msg).2.mem = s.mem := by simp [State.idSign]
@[simp] theorem State.mem_otpEnd (q : SvcReq) (status : Nat) : (s.otpEnd q status).mem = s.mem := by simp -implicitDefEqProofs [State.otpEnd]

@[simp] theorem State.mem_revokeSlot (n : Nat) : (s.revokeSlot n).mem = s.mem := by
  unfold State.revokeSlot; dsimp only; (repeat' split) <;> simp -implicitDefEqProofs

@[simp] theorem State.mem_otpMark (o : OtpOp) : (s.otpMark o).mem = s.mem := by unfold State.otpMark; split <;> simp -implicitDefEqProofs

/-! ## Performance counters (R490-R494) -/

@[simp] theorem mem_pmuCtlWrite (v : Word) : (pmuCtlWrite v s).2.mem = s.mem := by simp [pmuCtlWrite]
@[simp] theorem mem_pmuSelWrite (b k : Nat) (v : Word) : (pmuSelWrite b k v s).2.mem = s.mem := by simp [pmuSelWrite]
@[simp] theorem State.mem_pmuLost (b : Nat) : (s.pmuLost b).mem = s.mem := by simp [State.pmuLost]
@[simp] theorem State.mem_pmuStore (b k : Nat) (v : Word) (amt : Nat) : (s.pmuStore b k v amt).mem = s.mem := by simp [State.pmuStore]
@[simp] theorem State.mem_pmuCopy (b : Nat) : (s.pmuCopy b).mem = s.mem := by simp -implicitDefEqProofs [State.pmuCopy]

@[simp] theorem State.mem_pmuFreezes (l : List (Bool × Nat)) : (s.pmuFreezes l).mem = s.mem := by
  induction l generalizing s with
  | nil => rfl
  | cons x l ih => simp [State.pmuFreezes, ih]

@[simp] theorem State.mem_pmuTick : s.pmuTick.mem = s.mem := by
  unfold State.pmuTick
  dsimp only
  cases s.pmu.snapAt <;> simp -implicitDefEqProofs

/-! ## Secure sessions (R103-R106) -/

@[simp] theorem State.mem_sendHs (p sub : Nat) (payload : List Byte) : (s.sendHs p sub payload).mem = s.mem := by simp [State.sendHs]
@[simp] theorem State.mem_hsFail (p reason : Nat) : (s.hsFail p reason).mem = s.mem := by simp [State.hsFail]

/-! ## The register bus (R24-R31) -/

@[simp] theorem State.mem_clearRead (a : Nat) : (s.clearRead a).mem = s.mem := by unfold State.clearRead; split <;> simp

@[simp] theorem State.mem_regRead (r : Req) (a : Nat) : (s.regRead r a).2.2.mem = s.mem := by
  unfold State.regRead
  split <;> simp [mbxMsgRead, tallyRead]

@[simp] theorem State.mem_busRead (r : Req) (a : Nat) : (s.busRead r a).2.2.mem = s.mem := by
  unfold State.busRead
  dsimp only
  (repeat' split) <;> simp

@[simp] theorem mem_accerrWrite (v : Word) : (accerrWrite v s).2.mem = s.mem := by simp [accerrWrite]
@[simp] theorem mem_ppsoWrite (v : Word) : (ppsoWrite v s).2.mem = s.mem := by simp [ppsoWrite]
@[simp] theorem mem_plainRule (a : Nat) (v : Word) : (plainRule a v s).2.mem = s.mem := by simp [plainRule]
@[simp] theorem State.mem_dropOther (r : Req) (base : Nat) : (s.dropOther r base).mem = s.mem := by simp [State.dropOther]
@[simp] theorem State.mem_hold (r : Req) (base w : Nat) (v : Word) : (s.hold r base w v).mem = s.mem := by simp [State.hold]

@[simp] theorem State.mem_busRead64 (r : Req) (a : Nat) : (s.busRead64 r a).2.2.mem = s.mem := by
  unfold State.busRead64
  dsimp only
  (repeat' split) <;> simp

/-! ## Bundles of Lode (R321-R338) -/

@[simp] theorem State.mem_lodeSticky (c aov sat : Nat) : (s.lodeSticky c aov sat).mem = s.mem := by simp [State.lodeSticky]
@[simp] theorem State.mem_bundleTraps (c code pc : Nat) : (s.bundleTraps c code pc).mem = s.mem := by simp [State.bundleTraps]

/-! ## The management port (R477) -/

@[simp] theorem State.mem_mspiNote (c : Nat) : (s.mspiNote c).mem = s.mem := by simp [State.mspiNote]

@[simp] theorem State.mem_mspiReads (a n : Nat) : (s.mspiReads a n).2.mem = s.mem := by
  induction n generalizing s a with
  | zero => rfl
  | succ n ih => simp [State.mspiReads, ih]

/-! ## Staged effects (R156, R162) -/

@[simp] theorem State.mem_sbBusErr (e a : Nat) : (s.sbBusErr e a).mem = s.mem := by simp [State.sbBusErr]
@[simp] theorem State.mem_gateRx (sleep : Bool) (p : Nat) : (s.gateRx sleep p).mem = s.mem := by simp [State.gateRx]
@[simp] theorem State.mem_sbGate (dir : Nat) (sleep : Bool) (mask : Nat) : (s.sbGate dir sleep mask).mem = s.mem := by simp [State.sbGate]
@[simp] theorem State.mem_feDenied (e : Nat) : (s.feDenied e).mem = s.mem := by simp [State.feDenied]
@[simp] theorem State.mem_sbFectl (e fop mask v : Nat) : (s.sbFectl e fop mask v).mem = s.mem := by simp [State.sbFectl]

@[simp] theorem State.mem_sbFesend (e due : Nat) (r : Bool) (port nbits data rb : Nat) : (s.sbFesend e due r port nbits data rb).mem = s.mem := by
  simp [State.sbFesend]

/-! ## The transmit path (R176-R198) -/

@[simp] theorem State.mem_symbolPath (secs : List Section) (air : Th) (n c bfs sh a : Nat) : (s.symbolPath secs air n c bfs sh a).2.mem = s.mem := by
  simp [State.symbolPath]

@[simp] theorem State.mem_readSymbol (c : Nat) (f : Int) (n : Nat) (here : List Section) : (s.readSymbol c f n here).mem = s.mem := by
  simp [State.readSymbol]

@[simp] theorem State.mem_frontTick (p : Nat) : (s.frontTick p).mem = s.mem := by simp [State.frontTick]
@[simp] theorem State.mem_backTick (p : Nat) : (s.backTick p).mem = s.mem := by simp [State.backTick]
@[simp] theorem State.mem_txTick : s.txTick.mem = s.mem := by simp [State.txTick]

/-! ## A tick of model time -/

@[simp] theorem State.mem_statePmu : s.statePmu.mem = s.mem := by simp [State.statePmu]
@[simp] theorem State.mem_idleTick : s.idleTick.mem = s.mem := by simp [State.idleTick]

end Sys2Proof.Machine
end

section
/-! SUPPORT. The operations that store into device memory or clear it: each keeps the canonical form (R426). An operation that runs a rule given to it keeps the
form where its rule does. -/
namespace Sys2Proof.Machine

/-! ## The canonical form through cases and folds -/

/-- A function of the state keeps the canonical form of memory (R426). -/
abbrev KeepsForm (f : State → State) : Prop := ∀ t : State, Memory.wf t.mem → Memory.wf (f t).mem

theorem ite_wf {c : Prop} [Decidable c] {s t : State} (hs : c → Memory.wf s.mem) (ht : ¬ c → Memory.wf t.mem) :
    Memory.wf (if c then s else t).mem := by
  split
  · exact hs ‹c›
  · exact ht ‹¬ c›

@[simp] theorem Memory.wf_ite (c : Prop) [Decidable c] (m n : List Host.Cell) :
    Memory.wf (if c then m else n) = if c then Memory.wf m else Memory.wf n := apply_ite Memory.wf c m n

theorem foldl_wf {α : Type} {f : State → α → State} (hf : ∀ x, KeepsForm (f · x)) (l : List α) {s : State} (h : Memory.wf s.mem) :
    Memory.wf (l.foldl f s).mem := by
  induction l generalizing s with
  | nil => exact h
  | cons x l ih => exact ih (hf x s h)

/-- A fold over pairs whose step keeps the form of the first part's memory keeps it. -/
theorem foldl_fst_wf {α β : Type} {f : State × β → α → State × β} {l : List α} {p q : State × β} (hq : l.foldl f p = q)
    (hf : ∀ p x, Memory.wf p.1.mem → Memory.wf (f p x).1.mem) (h : Memory.wf p.1.mem) : Memory.wf q.1.mem := by
  subst hq
  induction l generalizing p with
  | nil => exact h
  | cons x l ih => exact ih (hf p x h)

/-- The rule of a register write, where there is one, keeps the canonical form of memory. -/
def RuleKeepsForm (o : Option (State → Nat × State)) : Prop := ∀ f ∈ o, KeepsForm fun t => (f t).2

@[simp] theorem ruleKeepsForm_some (f : State → Nat × State) : RuleKeepsForm (some f) ↔ ∀ t, Memory.wf t.mem → Memory.wf (f t).2.mem := by
  simp [RuleKeepsForm]

@[simp] theorem ruleKeepsForm_none : RuleKeepsForm none := by simp [RuleKeepsForm]

theorem ruleKeepsForm_ite {c : Prop} [Decidable c] {x y : Option (State → Nat × State)} (hx : RuleKeepsForm x) (hy : RuleKeepsForm y) :
    RuleKeepsForm (if c then x else y) := by
  split
  · exact hx
  · exact hy

variable {s : State}

/-! ## Shared operations: registers, the event log, transmission (R6, R81, R482) -/

theorem writeBy_wf {r : Req} {a : Nat} {rule : State → Nat × State} (hr : KeepsForm fun t => (rule t).2) (h : Memory.wf s.mem) :
    Memory.wf (s.writeBy r a rule).mem := by
  unfold State.writeBy
  dsimp only
  split
  · simpa using hr _ (by simpa using h)
  · simpa using h
  · simpa using h

theorem readBy_wf {r : Req} {a : Nat} {rule : State → Nat × Nat × State} (hr : KeepsForm fun t => (rule t).2.2) (h : Memory.wf s.mem) :
    Memory.wf (s.readBy r a rule).mem := by
  unfold State.readBy
  split
  · simpa using hr _ h
  · simpa using h
  · simpa using h

/-! ## Memory windows (R152, R234, R261) -/

@[simp] theorem winWrite_wf (h : Memory.wf s.mem) (a : Nat) (bs : List Byte) : Memory.wf (s.winWrite a bs).2.mem := by
  unfold State.winWrite
  dsimp only
  (repeat' split) <;> simp [h, stBytes_wf]

@[simp] theorem blockWrite_wf (h : Memory.wf s.mem) (r : Req) (a : Nat) (bs : List Byte) : Memory.wf (s.blockWrite r a bs).2.mem := by
  unfold State.blockWrite
  dsimp only
  (repeat' split) <;> simp [h]

/-! ## Event flags and work queues (R154, R308) -/

theorem sbPageWrite_wf {e : Nat} {rule : State → Nat × State} (hr : KeepsForm fun t => (rule t).2) (h : Memory.wf s.mem) :
    Memory.wf (s.sbPageWrite e rule).2.mem := by
  unfold State.sbPageWrite
  split
  · exact h
  · exact hr s h

/-! ## DMA (R354-R369) -/

@[simp] theorem writeRecord_wf (h : Memory.wf s.mem) (c : Nat) (r : CqRec) : Memory.wf (s.writeRecord c r).mem := by
  simp [State.writeRecord, h, stBytes_wf]

@[simp] theorem recordReady_wf (h : Memory.wf s.mem) (c : Nat) (r : CqRec) : Memory.wf (s.recordReady c r).mem := by simp [State.recordReady, h]

@[simp] theorem drainQueue_wf (h : Memory.wf s.mem) (q n : Nat) : Memory.wf (s.drainQueue q n).mem := by
  induction n generalizing s with
  | zero => exact h
  | succ n ih =>
    unfold State.drainQueue
    (repeat' split) <;> simp [ih, h]

@[simp] theorem dmaFinish_wf (h : Memory.wf s.mem) (c status done failAddr rsrc resp : Nat) :
    Memory.wf (s.dmaFinish c status done failAddr rsrc resp).mem := by
  simp [State.dmaFinish, h]

@[simp] theorem dmaBegin_wf (h : Memory.wf s.mem) (c : Nat) (sec : Bool) : Memory.wf (s.dmaBegin c sec).mem := by
  unfold State.dmaBegin
  dsimp only
  (repeat' split) <;> simp [h]

@[simp] theorem dmaStart_wf (h : Memory.wf s.mem) (c : Nat) (sec : Bool) : Memory.wf (s.dmaStart c sec).2.mem := by simp [State.dmaStart, h]

@[simp] theorem copyBlocks_wf (h : Memory.wf s.mem) (r : Req) (src dst done n : Nat) : Memory.wf (s.copyBlocks r src dst done n).1.mem := by
  induction n generalizing s done with
  | zero => exact h
  | succ n ih =>
    unfold State.copyBlocks
    split
    next bs s1 hread =>
      have h1 : Memory.wf s1.mem := by simpa [hread, h] using congrArg Memory.wf (s.mem_blockRead r (src + done) 64)
      split
      next s2 hwrite =>
        have h2 : Memory.wf s2.mem := by simpa [hwrite] using blockWrite_wf h1 r (dst + done) bs
        exact ih (by simpa using h2) _
      next code s2 _ hwrite => simpa [hwrite] using blockWrite_wf h1 r (dst + done) bs
    next code _ s1 _ hread => simpa [hread, h] using congrArg Memory.wf (s.mem_blockRead r (src + done) 64)

@[simp] theorem dmaMove_wf (h : Memory.wf s.mem) (c n : Nat) : Memory.wf (s.dmaMove c n).1.mem := by
  unfold State.dmaMove
  dsimp only
  split
  · exact copyBlocks_wf h _ _ _ _ _
  · simp [h]

@[simp] theorem dmaAbort_wf (h : Memory.wf s.mem) (c : Nat) : Memory.wf (s.dmaAbort c).mem := by
  unfold State.dmaAbort
  dsimp only
  split
  · simpa using h
  · split
    · simp [h]
    · split
      all_goals
        rename_i hmove
        refine dmaFinish_wf ?_ _ _ _ _ _ _
        have hm := congrArg (·.1.mem) hmove
        exact hm ▸ dmaMove_wf (by simpa using h) _ _

@[simp] theorem dmaGoWrite_wf (h : Memory.wf s.mem) (c : Nat) (sec : Bool) (v : Word) : Memory.wf (dmaGoWrite c sec v s).2.mem := by
  have habort : Memory.wf (if getF v Fld.DMA_GO_ABORT = 1 then s.dmaAbort c else s).mem := ite_wf (fun _ => dmaAbort_wf h c) fun _ => h
  unfold dmaGoWrite
  split
  · exact h
  · dsimp only
    split
    · have hstart := dmaStart_wf habort c sec
      split <;> simp_all
    · exact habort

@[simp] theorem drainPort_wf (h : Memory.wf s.mem) (p : Nat) : Memory.wf (s.drainPort p).mem :=
  foldl_wf (fun q _ ht => ite_wf (fun _ => drainQueue_wf ht q 16) fun _ => ht) _ h

@[simp] theorem cqHeadWrite_wf (h : Memory.wf s.mem) (q : Nat) (v : Word) : Memory.wf (cqHeadWrite q v s).2.mem := by simp [cqHeadWrite, h]

@[simp] theorem cqCfgWrite_wf (h : Memory.wf s.mem) (q : Nat) (v : Word) : Memory.wf (cqCfgWrite q v s).2.mem := by
  unfold cqCfgWrite
  dsimp only
  (repeat' split) <;> simp [h]

@[simp] theorem flushDone_wf (h : Memory.wf s.mem) (c : Nat) (ok : Bool) (status : Nat) : Memory.wf (s.flushDone c ok status).mem := by
  unfold State.flushDone
  dsimp only
  (repeat' split) <;> simp [h]

@[simp] theorem sinkBlocks_wf (h : Memory.wf s.mem) (r : Req) (dst n : Nat) (bs : List Byte) : Memory.wf (s.sinkBlocks r dst n bs).1.mem := by
  induction n generalizing s dst bs with
  | zero => exact h
  | succ n ih =>
    have hw := blockWrite_wf h r dst (bs.take 64)
    unfold State.sinkBlocks
    split
    next s1 hq => exact ih (by simpa [hq] using hw) _ _
    next s1 _ hq => simpa [hq] using hw

@[simp] theorem readCompletion_wf (h : Memory.wf s.mem) (p tag status : Nat) (last : Bool) (offs : Nat) (data : List Byte) :
    Memory.wf (s.readCompletion p tag status last offs data).mem := by
  unfold State.readCompletion
  split
  · exact h
  next c m _ =>
    dsimp only
    split
    · simp [h]
    · split
      · simp [h]
      · have hs := sinkBlocks_wf h (s.chanReq c) ((s.ch c).dst + m.off + m.got) (data.length / 64) data
        split
        next s1 code a hq => simp_all
        next s1 hq =>
          have h1 : Memory.wf s1.mem := by simpa [hq] using hs
          simp [h1]

@[simp] theorem dmaLinkDown_wf (h : Memory.wf s.mem) (p : Nat) : Memory.wf (s.dmaLinkDown p).mem := by
  refine foldl_wf (fun c t ht => ?_) _ h
  dsimp only
  (repeat' split) <;> simp_all

/-! ## The fall of a port (R99, R106) -/

@[simp] theorem linkDown_wf (h : Memory.wf s.mem) (p st : Nat) : Memory.wf (s.linkDown p st).mem := by simp [State.linkDown, h]

/-! ## Lane operations (R42-R59) -/

@[simp] theorem retrain_wf (h : Memory.wf s.mem) (p : Nat) : Memory.wf (s.retrain p).mem := by simp [State.retrain, h]

/-! ## Lanes (R42-R73) -/

@[simp] theorem lanesOff_wf (h : Memory.wf s.mem) (p : Nat) : Memory.wf (s.lanesOff p).mem := by simp -implicitDefEqProofs [State.lanesOff, h]

@[simp] theorem lanePctlWrite_wf (h : Memory.wf s.mem) (p : Nat) (v : Word) : Memory.wf (lanePctlWrite p v s).2.mem := by
  unfold lanePctlWrite
  dsimp only
  (repeat' split) <;> simp [h]

theorem onBack_wf {p : Nat} {b : BackObs} {f : State → State} (hf : KeepsForm f) (h : Memory.wf s.mem) : Memory.wf (s.onBack p b f).mem :=
  ite_wf (fun _ => hf _ h) (fun _ => h)

/-! ## Links and host requests (R79-R101) -/

theorem receive_wf {p : Nat} {x : RxHdr} {st : Nat → Bool} {f : State → State} (hf : KeepsForm f) (h : Memory.wf s.mem) :
    Memory.wf (s.receive p x st f).mem :=
  ite_wf (fun _ => h) fun _ => ite_wf (fun _ => h) fun _ => ite_wf (fun _ => by simpa using h) fun _ => hf _ h

theorem rxLink_wf {p : Nat} {x : RxHdr} {f : State → State} (hf : KeepsForm f) (h : Memory.wf s.mem) : Memory.wf (s.rxLink p x f).mem :=
  receive_wf hf h

theorem rxBk_wf {p : Nat} {x : RxHdr} {st : Nat → Bool} {len : Nat} {q : Bool} {f : State → State} (hf : KeepsForm f)
    (h : Memory.wf s.mem) : Memory.wf (s.rxBk p x st len q f).mem :=
  receive_wf (fun t ht => ite_wf (fun _ => hf _ (by simpa using ht)) fun _ => by simpa using ht) h

theorem rxRt_wf {p : Nat} {x : RxHdr} {type need : Nat} {fmt : Bool} {f : State → State} (hf : KeepsForm f)
    (h : Memory.wf s.mem) : Memory.wf (s.rxRt p x type need f fmt).mem := by
  refine receive_wf (fun t ht => ?_) h
  dsimp only
  refine ite_wf (fun _ => by simpa using ht) fun _ => ite_wf (fun _ => by simpa using ht) fun _ => ?_
  split
  · exact hf _ (by simpa using ht)
  · simpa using ht

@[simp] theorem replay_wf (h : Memory.wf s.mem) (p : Nat) : Memory.wf (s.replay p).mem := by
  unfold State.replay
  dsimp only
  (repeat' split) <;> simp [h]

@[simp] theorem operational_wf (h : Memory.wf s.mem) (p : Nat) (r : NegResult) (credit : Nat) : Memory.wf (s.operational p r credit).mem := by
  simp -implicitDefEqProofs [State.operational, h]

@[simp] theorem negMatch_wf (h : Memory.wf s.mem) (p : Nat) (r : NegResult) (credit : Nat) : Memory.wf (s.negMatch p r credit).mem := by
  simp -implicitDefEqProofs [State.negMatch, h]

@[simp] theorem negCompare_wf (h : Memory.wf s.mem) (p credit : Nat) : Memory.wf (s.negCompare p credit).mem := by
  unfold State.negCompare
  (repeat' split) <;> simp [h]

@[simp] theorem answerOffer_wf (h : Memory.wf s.mem) (p : Nat) (pay : NegPay) : Memory.wf (s.answerOffer p pay).mem := by
  unfold State.answerOffer
  dsimp only
  (repeat' split) <;> simp [h]

@[simp] theorem reneg_wf (h : Memory.wf s.mem) (p : Nat) : Memory.wf (s.reneg p).mem := by simp [State.reneg, h]
@[simp] theorem linkCtlWrite_wf (h : Memory.wf s.mem) (p : Nat) (v : Word) : Memory.wf (linkCtlWrite p v s).2.mem := by simp [linkCtlWrite, h]

theorem hostReq_wf {p : Nat} {x : RxHdr} {sec : Option SecTrailer} {type len tspec tag : Nat} {body : List Nat} {isReg : Bool}
    {act : Req → State → Nat × Nat × List Nat × State} (ha : ∀ r, KeepsForm fun t => (act r t).2.2.2) (h : Memory.wf s.mem) :
    Memory.wf (s.hostReq p x sec type len tspec tag body isReg act).mem := by
  refine rxBk_wf (fun t ht => ?_) h
  cases sec with
  | none => simpa using ha ⟨p + 1, false⟩ t ht
  | some tr =>
    refine ite_wf (fun _ => by simpa using ht) fun _ => ite_wf (fun _ => ?_) fun _ => by simpa using ht
    simpa using ha ⟨p + 1, true⟩ (t.takeCtr p tr) (by simpa using ht)

/-! ## Symbols of the datapaths (R176-R220, R247-R250) -/

@[simp] theorem ssUpdate_wf (h : Memory.wf s.mem) (slot psh fsh : Nat) (ks : List Nat) (res : List UlRe) (e i j : Nat) :
    Memory.wf (s.ssUpdate slot psh fsh ks res e i j).1.mem := by
  simp [State.ssUpdate, h, stN_wf]

@[simp] theorem ssSlot_wf (h : Memory.wf s.mem) (slot psh fsh : Nat) (ks : List Nat) (res : List UlRe) :
    Memory.wf (s.ssSlot slot psh fsh ks res).1.mem := by
  unfold State.ssSlot
  split
  next t n k hfold =>
    refine foldl_fst_wf (q := (t, n, k)) hfold (fun p x hp => ?_) h
    dsimp only
    exact ssUpdate_wf hp _ _ _ _ _ _ _ _

@[simp] theorem accumulate_wf (h : Memory.wf s.mem) (x : SrsPend) : Memory.wf (s.accumulate x).mem := by
  unfold State.accumulate
  extract_lets
  split
  · exact h
  · split
    next t sat hfold =>
      have ht : Memory.wf t.mem := by
        refine foldl_fst_wf (q := (t, sat)) hfold (fun p j hp => ?_) h
        dsimp only
        split
        · exact hp
        · dsimp only
          exact ssSlot_wf hp _ _ _ _ _
      simp [ht]

@[simp] theorem ssZero_wf (h : Memory.wf s.mem) (set : Nat) : Memory.wf (s.ssZero set).mem := by simp [State.ssZero, h, clearMem_wf]
@[simp] theorem ssClrWrite_wf (h : Memory.wf s.mem) (v : Word) : Memory.wf (ssClrWrite v s).2.mem := by simp [ssClrWrite, h]

/-! ## Captures (R262-R274) -/

@[simp] theorem capHeader_wf (h : Memory.wf s.mem) (x : CageArb) (q : CapReq) (status p n : Nat) (low ovr : Bool) :
    Memory.wf (s.capHeader x q status p n low ovr).mem := by
  simp [State.capHeader, h, stBytes_wf]

@[simp] theorem capGrant_wf (h : Memory.wf s.mem) (a : Nat) (q : CapReq) (rest : List CapReq) (parked : Bool) :
    Memory.wf (s.capGrant a q rest parked).mem := by
  simp [State.capGrant, h]

@[simp] theorem capRequest_wf (h : Memory.wf s.mem) (q0 : CapReq) : Memory.wf (s.capRequest q0).2.mem := by
  unfold State.capRequest
  dsimp only
  (repeat' split) <;> simp [h]

@[simp] theorem capReqWrite_wf (h : Memory.wf s.mem) (path : Nat) (v : Word) : Memory.wf (capReqWrite path v s).2.mem := by
  unfold capReqWrite
  split
  · exact h
  · split
    next t hq => exact (congrArg (fun x => Memory.wf x.2.mem) hq).symm.trans (capRequest_wf h _)
    next => exact h

@[simp] theorem capAbort_wf (h : Memory.wf s.mem) (a : Nat) (q : CapReq) : Memory.wf (s.capAbort a q).mem := by simp [State.capAbort, h, stBytes_wf]

@[simp] theorem capCancel_wf (h : Memory.wf s.mem) (path : Nat) (mirror : Bool) : Memory.wf (s.capCancel path mirror).mem := by
  unfold State.capCancel
  dsimp only
  (repeat' split) <;> simp [h]

@[simp] theorem capCancelWrite_wf (h : Memory.wf s.mem) (path : Nat) (v : Word) : Memory.wf (capCancelWrite path v s).2.mem := by
  simp [capCancelWrite, h]

@[simp] theorem cageDieOff_wf (h : Memory.wf s.mem) (die : Nat) : Memory.wf (s.cageDieOff die).mem := by
  refine foldl_wf (fun a t ht => ?_) _ h
  dsimp only
  (repeat' split) <;> simp [ht]

/-! ## The Lode cluster (R303-R325) -/

@[simp] theorem lodeComplete_wf (h : Memory.wf s.mem) (c status tcode : Nat) : Memory.wf (s.lodeComplete c status tcode).mem := by
  have hitem : ∀ t : State, Memory.wf t.mem → ∀ a v pc cyc w, Memory.wf ((((t.stN (a + 12) 4 v).stN (a + 20) 4 pc).stN (a + 24) 8 cyc).stN (a + 16) 4 w).mem :=
    fun t ht a v pc cyc w => stN_wf (stN_wf (stN_wf (stN_wf ht _ _ _) _ _ _) _ _ _) _ _ _
  unfold State.lodeComplete
  dsimp only
  split <;> simp [hitem, h]

/-! ## Shiftboss engines (R154-R175) -/

theorem sbIssue_wf {e op : Nat} {act : State → Nat → Nat → State} (ha : ∀ w i, KeepsForm (act · w i)) (h : Memory.wf s.mem) :
    Memory.wf (s.sbIssue e op act).mem := by
  refine ite_wf (fun _ => h) fun _ => ?_
  split
  · exact h
  · exact ite_wf (fun _ => h) fun _ => ha _ _ _ (by simpa using h)

@[simp] theorem sbCopyBanks_wf (h : Memory.wf s.mem) (e : Nat) : Memory.wf (s.sbCopyBanks e).mem := foldl_stb_wf (clearMem_wf h _ _) _ _

@[simp] theorem sbUnshadow_wf (h : Memory.wf s.mem) : Memory.wf s.sbUnshadow.mem := by
  unfold State.sbUnshadow
  split
  · exact h
  · simp -implicitDefEqProofs only [State.mem_setFld, State.mem_setSb, State.mem_setEng]
    (repeat' split) <;> simp -implicitDefEqProofs [h]

@[simp] theorem sbMismatch_wf (h : Memory.wf s.mem) : Memory.wf s.sbMismatch.mem := by simp [State.sbMismatch, h]

@[simp] theorem sbCompared_wf (h : Memory.wf s.mem) (e : Nat) (mismatch : Bool) : Memory.wf (s.sbCompared e mismatch).mem := by
  simp [State.sbCompared, h]

@[simp] theorem sbTakeover_wf (h : Memory.wf s.mem) (e : Nat) : Memory.wf (s.sbTakeover e).mem := by simp -implicitDefEqProofs [State.sbTakeover, h]

@[simp] theorem sbReliefWrite_wf (h : Memory.wf s.mem) (v : Word) : Memory.wf (sbReliefWrite v s).2.mem := by
  unfold sbReliefWrite
  dsimp only
  (repeat' split) <;> simp [h]

/-! ## Power (R415-R439) -/

@[simp] theorem coreOff_wf (h : Memory.wf s.mem) (groups : Nat) : Memory.wf (s.coreOff groups).mem := by simp [State.coreOff, h, keepMem_wf]
@[simp] theorem groupLost_wf (h : Memory.wf s.mem) (g : Nat) : Memory.wf (s.groupLost g).mem := by simp [State.groupLost, h, keepMem_wf]

@[simp] theorem retentionCheck_wf (h : Memory.wf s.mem) (start lost : Nat) : Memory.wf (s.retentionCheck start lost).mem :=
  foldl_wf (fun g _ ht => groupLost_wf ht g) _ (keepMem_wf h _)

@[simp] theorem convPowerDown_wf (h : Memory.wf s.mem) : Memory.wf s.convPowerDown.mem := by
  have hoff : ∀ l : List Nat, ∀ t : State, Memory.wf t.mem → Memory.wf (l.foldl State.cageDieOff t).mem :=
    fun l _ ht => foldl_wf (fun die _ hu => cageDieOff_wf hu die) l ht
  simp [State.convPowerDown, hoff, h]

@[simp] theorem upAction_wf (h : Memory.wf s.mem) (t : Trans) (lost : Nat) : Memory.wf (s.upAction t lost).mem := by
  unfold State.upAction
  split <;> simp [h]

@[simp] theorem passA2_wf (h : Memory.wf s.mem) : Memory.wf s.passA2.mem := by
  simp -implicitDefEqProofs [State.passA2, h]

@[simp] theorem downAction_wf (h : Memory.wf s.mem) (t : Trans) : Memory.wf (s.downAction t).mem := by
  unfold State.downAction
  split <;> simp [h]

@[simp] theorem beginStep_wf (h : Memory.wf s.mem) (t : Trans) (lost : Nat) : Memory.wf (s.beginStep t lost).mem := by simp [State.beginStep, h]
@[simp] theorem beginTrans_wf (h : Memory.wf s.mem) (t : Trans) : Memory.wf (s.beginTrans t).mem := by simp [State.beginTrans, h]
@[simp] theorem beginWake_wf (h : Memory.wf s.mem) : Memory.wf s.beginWake.mem := by simp [State.beginWake, h]

@[simp] theorem arriveLow_wf (h : Memory.wf s.mem) (t : Trans) : Memory.wf (s.arriveLow t).mem := by
  simp -implicitDefEqProofs [State.arriveLow, h]

@[simp] theorem seqFail_wf (h : Memory.wf s.mem) (t : Trans) : Memory.wf (s.seqFail t).mem := by simp [State.seqFail, h]
@[simp] theorem safeTurn_wf (h : Memory.wf s.mem) (t : Trans) : Memory.wf (s.safeTurn t).mem := by simp [State.safeTurn, h]

@[simp] theorem upNext_wf (h : Memory.wf s.mem) (t : Trans) (refclk swapped : Bool) (lost : Nat) :
    Memory.wf (s.upNext t refclk swapped lost).mem := by
  unfold State.upNext
  dsimp only
  (repeat' split) <;> simp [h]

@[simp] theorem downNext_wf (h : Memory.wf s.mem) (t : Trans) : Memory.wf (s.downNext t).mem := by
  unfold State.downNext
  (repeat' split) <;> simp [h]

@[simp] theorem pwrCmdWrite_wf (h : Memory.wf s.mem) (v : Word) : Memory.wf (pwrCmdWrite v s).2.mem := by simp [pwrCmdWrite, h]

@[simp] theorem wakeBy_wf (h : Memory.wf s.mem) (mask : Nat) : Memory.wf (s.wakeBy mask).mem := by
  unfold State.wakeBy
  dsimp only
  (repeat' split) <;> simp [h]

/-! ## Temperatures (R434-R438) -/

@[simp] theorem enterSafe_wf (h : Memory.wf s.mem) : Memory.wf s.enterSafe.mem := by
  unfold State.enterSafe
  dsimp only
  (repeat' split) <;> simp -implicitDefEqProofs [h]

@[simp] theorem levels_wf (h : Memory.wf s.mem) (t : Int) : Memory.wf (s.levels t).mem := by
  simp -implicitDefEqProofs [State.levels, h]

/-! ## Boot and enclave services (R440-R463) -/

@[simp] theorem copyImage_wf (h : Memory.wf s.mem) (bank : Nat) (bs : List Byte) : Memory.wf (s.copyImage bank bs).mem :=
  foldl_wf (fun _ _ ht => stBytes_wf ht _ _) _ (clearMem_wf h _ _)

@[simp] theorem fetchImage_wf (h : Memory.wf s.mem) (space addr len dst : Nat) (data : List Byte) :
    Memory.wf (s.fetchImage space addr len dst data).2.2.mem := by
  simp [State.fetchImage, h, stBytes_wf]

theorem serve_wf {c op : Nat} {act : SvcReq → List Nat → State → State} (ha : ∀ q ws, KeepsForm (act q ws)) (h : Memory.wf s.mem) :
    Memory.wf (s.serve c op act).mem := by
  unfold State.serve
  dsimp only
  split
  · exact h
  · split
    · simpa using h
    · split
      · simpa using h
      · exact ha _ _ _ (by simpa using h)

@[simp] theorem svcWrite_wf (h : Memory.wf s.mem) (space addr : Nat) (bs : List Byte) : Memory.wf (s.svcWrite space addr bs).2.mem := by
  simp [State.svcWrite, h, stBytes_wf]

theorem otpServe_wf {c op : Nat} {check : List Nat → State → Nat ⊕ OtpOp} (h : Memory.wf s.mem) : Memory.wf (s.otpServe c op check).mem := by
  refine serve_wf (fun q ws t ht => ?_) h
  refine ite_wf (fun _ => by simpa using ht) fun _ => ?_
  split <;> simpa using ht

/-! ## Secure sessions (R103-R106) -/

theorem hsMessage_wf {p : Nat} {x : RxHdr} {sec : Option SecTrailer} {sub : Nat} {tag : BitVec 8} {payload : List Byte} {f : State → State}
    (hf : KeepsForm f) (h : Memory.wf s.mem) : Memory.wf (s.hsMessage p x sec sub tag payload f).mem := by
  refine hostReq_wf (fun r t ht => ?_) h
  dsimp only
  (repeat' split)
  · simpa using ht
  · exact ht
  · exact hf t ht

/-! ## The register bus (R24-R31) -/

theorem bothWords_wf {f g : State → Nat × State} (hf : KeepsForm fun t => (f t).2) (hg : KeepsForm fun t => (g t).2) (h : Memory.wf s.mem) :
    Memory.wf (bothWords f g s).2.mem := by
  unfold bothWords
  split
  next t hft =>
    have ht : Memory.wf t.mem := by simpa [hft] using hf s h
    split
    next u hgu => simpa [hgu] using hg t ht
    next => exact h
  next => exact h

theorem ruleA_keepsForm (r : Req) (b a d : Nat) (v : Word) (tw : Th) (sec : Bool) : RuleKeepsForm (ruleA r b a d v tw sec) := by
  unfold ruleA
  repeat' apply ruleKeepsForm_ite
  all_goals simp +contextual

theorem ruleB_keepsForm (b a d : Nat) (v : Word) (tw : Th) : RuleKeepsForm (ruleB b a d v tw) := by
  unfold ruleB
  repeat' apply ruleKeepsForm_ite
  all_goals simp +contextual
  intro t ht; split <;> simpa using ht

theorem ruleC_keepsForm (r : Req) (b a d : Nat) (v : Word) (tw : Th) : RuleKeepsForm (ruleC r b a d v tw) := by
  unfold ruleC
  repeat' apply ruleKeepsForm_ite
  all_goals simp +contextual

@[simp] theorem regWrite_wf (h : Memory.wf s.mem) (r : Req) (a : Nat) (v : Word) (tw : Th) : Memory.wf (s.regWrite r a v tw).2.mem := by
  unfold State.regWrite
  split
  · simp [h]
  · dsimp only
    split
    · exact h
    · split
      next f hf => exact ruleA_keepsForm _ _ _ _ _ _ _ f hf s h
      next => split
              next f hf => exact ruleB_keepsForm _ _ _ _ _ f hf s h
              next => split
                      next f hf => exact ruleC_keepsForm _ _ _ _ _ _ f hf s h
                      next => simpa using h

theorem twoWords_wf {f : Nat → Word → State → Nat × State} (hf : ∀ a v, KeepsForm fun t => (f a v t).2) (a v : Nat) (h : Memory.wf s.mem) :
    Memory.wf (twoWords f a v s).2.mem := bothWords_wf (hf _ _) (hf _ _) h

@[simp] theorem regCommit_wf (h : Memory.wf s.mem) (a : Nat) (ws : List Nat) (tw : Th) : Memory.wf (s.regCommit a ws tw).2.mem := by
  have htwo : ∀ f : Nat → Word → State → Nat × State, (∀ a v t, (f a v t).2.mem = t.mem) → ∀ a v, Memory.wf (twoWords f a v s).2.mem :=
    fun f hf a v => twoWords_wf (fun b w t ht => by simpa [hf] using ht) a v h
  unfold State.regCommit
  split
  · exact h
  · simp -implicitDefEqProofs only [snd_ite, State.mem_ite, Memory.wf_ite]
    simp -implicitDefEqProofs [h, htwo]

@[simp] theorem busWriteAt_wf (h : Memory.wf s.mem) (r : Req) (a : Nat) (v : Word) (tw : Th) : Memory.wf (s.busWriteAt r a v tw).2.mem := by
  unfold State.busWriteAt
  dsimp only
  (repeat' split) <;> simp [h]

@[simp] theorem busWrite_wf (h : Memory.wf s.mem) (r : Req) (a : Nat) (v : Word) : Memory.wf (s.busWrite r a v).2.mem := busWriteAt_wf h r a v _

@[simp] theorem busWrite64_wf (h : Memory.wf s.mem) (r : Req) (a v : Nat) : Memory.wf (s.busWrite64 r a v).2.mem := by
  unfold State.busWrite64
  dsimp only
  (repeat' split) <;> simp [h]

/-! ## Bundles of Lode (R321-R338) -/

@[simp] theorem bundleDone_wf (h : Memory.wf s.mem) (c : Nat) (k : LodeCore) (n : Nat) (d : LodeDelta) :
    Memory.wf (s.bundleDone c k n d).mem := by
  have hst : ∀ t : State, Memory.wf t.mem → Memory.wf (d.st.foldl (fun (t : State) x => t.stBytes x.1 x.2) t).mem :=
    fun t ht => foldl_wf (fun x t ht => stBytes_wf ht x.1 x.2) _ ht
  unfold State.bundleDone
  dsimp only
  split <;> simp [hst, h]

@[simp] theorem bundleRun_wf (h : Memory.wf s.mem) (c : Nat) (k : LodeCore) (n : Nat) (d : LodeDelta) : Memory.wf (s.bundleRun c k n d).mem := by
  unfold State.bundleRun
  dsimp only
  (repeat' split) <;> simp [h]

/-! ## The management port (R477) -/

@[simp] theorem mspiFall_wf (h : Memory.wf s.mem) : Memory.wf s.mspiFall.mem := wakeBy_wf h 2

@[simp] theorem mspiWrites_wf (h : Memory.wf s.mem) (a : Nat) (ws : List Word) : Memory.wf (s.mspiWrites a ws).mem := by
  induction ws generalizing s a with
  | nil => exact h
  | cons w ws ih =>
    refine ih ?_ (a + 4)
    rw [State.mem_mspiNote]
    exact busWrite_wf h mspiReq _ w

/-! ## Resets (R8, R439) -/

@[simp] theorem allReset_wf (keepBoot : Bool) (p : PowerSt) : Memory.wf (s.allReset keepBoot p).mem := rfl

/-! ## Staged effects (R156, R162) -/

@[simp] theorem sbWrite_wf (h : Memory.wf s.mem) (e a v : Nat) (wide : Bool) (tw : Option Th) : Memory.wf (s.sbWrite e a v wide tw).mem := by
  unfold State.sbWrite
  dsimp only
  (repeat' split) <;> simp_all

@[simp] theorem sbCapture_wf (h : Memory.wf s.mem) (e : Nat) (mirror : Bool) (nblk path dest rb : Nat) :
    Memory.wf (s.sbCapture e mirror nblk path dest rb).mem := by
  have hq := capRequest_wf h ⟨path, mirror, nblk, dest, false, 0⟩
  unfold State.sbCapture
  split <;> simp_all

@[simp] theorem sbEffect_wf (h : Memory.wf s.mem) (e : Nat) (x : Staged) : Memory.wf (s.sbEffect e x).mem := by
  unfold State.sbEffect
  split <;> simp [h]

end Sys2Proof.Machine
end

section
/-! SUPPORT. Every command keeps the canonical form of device memory (R426): each one's meaning is made of operations that do. -/
namespace Sys2Proof.Machine

/-- Where a command answers a next state, memory is in canonical form there (R426). -/
def AnswersForm (r : Res) : Prop := ∀ t : State, r = .next t → Memory.wf t.mem

@[simp] theorem answersForm_finish (s : State) : AnswersForm (finish s) ↔ Memory.wf s.mem := by
  simp [AnswersForm, finish]

variable {s : State}

/-! ## Mailboxes and Tally locks (R370-R379) -/

@[simp] theorem execMbxMsgWrite_form (h : Memory.wf s.mem) (r : Req) (c : Fin 32) (k : Fin 16) (v : Word) : AnswersForm (execMbxMsgWrite r c k v s) :=
  (answersForm_finish _).2 (writeBy_wf (fun t ht => by simp [ht]) h)

@[simp] theorem execMbxDoorbell_form (h : Memory.wf s.mem) (r : Req) (c : Fin 32) (v : Word) : AnswersForm (execMbxDoorbell r c v s) :=
  (answersForm_finish _).2 (writeBy_wf (fun t ht => by simp [ht]) h)

@[simp] theorem execMbxAck_form (h : Memory.wf s.mem) (r : Req) (c : Fin 32) : AnswersForm (execMbxAck r c s) :=
  (answersForm_finish _).2 (readBy_wf (fun t ht => by simp [ht]) h)

@[simp] theorem execMbxFlush_form (h : Memory.wf s.mem) (r : Req) (c : Fin 32) (v : Word) : AnswersForm (execMbxFlush r c v s) :=
  (answersForm_finish _).2 (writeBy_wf (fun t ht => by simp [ht]) h)

@[simp] theorem execMbxClaimLapsed_form (h : Memory.wf s.mem) (c : Fin 32) : AnswersForm (execMbxClaimLapsed c s) := by simp [execMbxClaimLapsed, h]

@[simp] theorem execTallyAcquire_form (h : Memory.wf s.mem) (r : Req) (k : Fin 64) : AnswersForm (execTallyAcquire r k s) :=
  (answersForm_finish _).2 (readBy_wf (fun t ht => by simp [ht]) h)

@[simp] theorem execTallyRelease_form (h : Memory.wf s.mem) (r : Req) (k : Fin 64) (v : Word) : AnswersForm (execTallyRelease r k v s) :=
  (answersForm_finish _).2 (writeBy_wf (fun t ht => by simp [ht]) h)

@[simp] theorem execTallyHoldExpiry_form (h : Memory.wf s.mem) (k : Fin 64) : AnswersForm (execTallyHoldExpiry k s) := by
  simp [execTallyHoldExpiry, h]

@[simp] theorem execPortDownLockRelease_form (h : Memory.wf s.mem) (p : Fin 2) : AnswersForm (execPortDownLockRelease p s) := by
  refine (answersForm_finish _).2 ?_
  (repeat' split) <;> simp [h]

/-! ## DMA (R354-R369) -/

@[simp] theorem execDmaStart_form (h : Memory.wf s.mem) (r : Req) (c : Fin 16) (v : Word) : AnswersForm (execDmaStart r c v s) :=
  (answersForm_finish _).2 (writeBy_wf (fun t ht => by simp [ht]) h)

@[simp] theorem execDmaAbort_form (h : Memory.wf s.mem) (r : Req) (c : Fin 16) : AnswersForm (execDmaAbort r c s) :=
  (answersForm_finish _).2 (writeBy_wf (fun t ht => by simp [ht]) h)

@[simp] theorem execDmaTransferEnd_form (h : Memory.wf s.mem) (c : Fin 16) (ecc : Option Nat) : AnswersForm (execDmaTransferEnd c ecc s) := by
  refine (answersForm_finish _).2 ?_
  refine ite_wf (fun _ => h) fun _ => ite_wf (fun _ => by simp [h]) fun _ => ?_
  extract_lets cut
  have hmove := dmaMove_wf h c (cut / 64)
  refine ite_wf (fun _ => h) fun _ => ?_
  split
  next s1 done code a hq => exact dmaFinish_wf (by simpa [hq] using hmove) ..
  next s1 done hq =>
    have h1 : Memory.wf s1.mem := by simpa [hq] using hmove
    simp [h1]

@[simp] theorem execDmaRecordWritten_form (h : Memory.wf s.mem) (c : Fin 16) : AnswersForm (execDmaRecordWritten c s) := by
  simp [execDmaRecordWritten, h]

@[simp] theorem execDmaCqHeadWrite_form (h : Memory.wf s.mem) (r : Req) (q : Fin 4) (v : Word) : AnswersForm (execDmaCqHeadWrite r q v s) :=
  (answersForm_finish _).2 (writeBy_wf (fun t ht => by simp [ht]) h)

@[simp] theorem execDmaCqEnable_form (h : Memory.wf s.mem) (r : Req) (q : Fin 4) (v : Word) : AnswersForm (execDmaCqEnable r q v s) :=
  (answersForm_finish _).2 (writeBy_wf (fun t ht => by simp [ht]) h)

@[simp] theorem execCplTimeout_form (h : Memory.wf s.mem) (p : Fin 2) (tag : BitVec 8) : AnswersForm (execCplTimeout p tag s) := by
  refine (answersForm_finish _).2 ?_
  dsimp only
  (repeat' split) <;> simp [h]

/-! ## Lanes (R42-R73) -/

@[simp] theorem execTrainingStart_form (h : Memory.wf s.mem) (r : Req) (p : Fin 2) (v : Word) : AnswersForm (execTrainingStart r p v s) :=
  (answersForm_finish _).2 (writeBy_wf (fun t ht => by simp [ht]) h)

@[simp] theorem execPortPowerDown_form (h : Memory.wf s.mem) (r : Req) (p : Fin 2) (v : Word) : AnswersForm (execPortPowerDown r p v s) :=
  (answersForm_finish _).2 (writeBy_wf (fun t ht => by simp [ht]) h)

@[simp] theorem execRateChange_form (h : Memory.wf s.mem) (r : Req) (p : Fin 2) (rate : Bool) : AnswersForm (execRateChange r p rate s) :=
  (answersForm_finish _).2 (writeBy_wf (fun t ht => by simp [ht]) h)

@[simp] theorem execSignalDetect_form (h : Memory.wf s.mem) (p : Fin 2) (k : Fin 9) : AnswersForm (execSignalDetect p k s) := by
  simp [execSignalDetect, h]

@[simp] theorem execClockRecovered_form (h : Memory.wf s.mem) (p : Fin 2) (k : Fin 9) : AnswersForm (execClockRecovered p k s) := by
  simp [execClockRecovered, h]

@[simp] theorem execLaneAligned_form (h : Memory.wf s.mem) (p : Fin 2) (k : Fin 9) (hd : HuntObs) : AnswersForm (execLaneAligned p k hd s) := by
  refine (answersForm_finish _).2 ?_
  dsimp only
  (repeat' split) <;> simp [h]

@[simp] theorem execTapRequest_form (h : Memory.wf s.mem) (p : Fin 2) (k : Fin 9) (word : BitVec 128) : AnswersForm (execTapRequest p k word s) := by
  simp [execTapRequest, h]

@[simp] theorem execReceiverConverged_form (h : Memory.wf s.mem) (p : Fin 2) (k : Fin 9) : AnswersForm (execReceiverConverged p k s) := by
  simp [execReceiverConverged, h]

@[simp] theorem execFarEndRxrdy_form (h : Memory.wf s.mem) (p : Fin 2) (k : Fin 9) (word : BitVec 128) :
    AnswersForm (execFarEndRxrdy p k word s) := by
  simp [execFarEndRxrdy, h]

@[simp] theorem execMoveRequest_form (h : Memory.wf s.mem) (p : Fin 2) (k : Fin 9) (word : BitVec 128) :
    AnswersForm (execMoveRequest p k word s) := by
  simp [execMoveRequest, h]

@[simp] theorem execDeskewDone_form (h : Memory.wf s.mem) (p : Fin 2) : AnswersForm (execDeskewDone p s) := by simp [execDeskewDone, h]

@[simp] theorem execTrainingTimeout_form (h : Memory.wf s.mem) (p : Fin 2) (k : Fin 9) : AnswersForm (execTrainingTimeout p k s) := by
  simp [execTrainingTimeout, h]

@[simp] theorem execAttemptTimeout_form (h : Memory.wf s.mem) (p : Fin 2) : AnswersForm (execAttemptTimeout p s) := by
  refine (answersForm_finish _).2 ?_
  (repeat' split) <;> simp [h]

@[simp] theorem execAlignLost_form (h : Memory.wf s.mem) (p : Fin 2) (k : Fin 9) (uncorr missing : Nat) :
    AnswersForm (execAlignLost p k uncorr missing s) := by
  simp [execAlignLost, h]

@[simp] theorem execRealignWaitExpiry_form (h : Memory.wf s.mem) (p : Fin 2) (k : Fin 8) : AnswersForm (execRealignWaitExpiry p k s) := by
  refine (answersForm_finish _).2 ?_
  dsimp only
  (repeat' split) <;> simp [h]

@[simp] theorem execDeskewRestored_form (h : Memory.wf s.mem) (p : Fin 2) : AnswersForm (execDeskewRestored p s) := by
  refine (answersForm_finish _).2 ?_
  dsimp only
  (repeat' split) <;> simp [h]

@[simp] theorem execReliefReq_form (h : Memory.wf s.mem) (p : Fin 2) (b : BackObs) (k : Fin 8) : AnswersForm (execReliefReq p b k s) :=
  (answersForm_finish _).2 (onBack_wf (fun t ht => by simp [ht]) h)

@[simp] theorem execReliefCompareDone_form (h : Memory.wf s.mem) (p : Fin 2) (k : Fin 8) (hdr : BitVec 20) (mismatch : Bool) :
    AnswersForm (execReliefCompareDone p k hdr mismatch s) := by
  refine (answersForm_finish _).2 ?_
  dsimp only
  (repeat' split) <;> simp [h]

@[simp] theorem execReliefSwitched_form (h : Memory.wf s.mem) (p : Fin 2) (b : BackObs) (k : Fin 8) : AnswersForm (execReliefSwitched p b k s) := by
  refine (answersForm_finish _).2 (onBack_wf (fun t ht => ?_) h)
  dsimp only
  (repeat' split) <;> simp [ht]

@[simp] theorem execReliefRefuse_form (h : Memory.wf s.mem) (p : Fin 2) (b : BackObs) (k : Fin 8) : AnswersForm (execReliefRefuse p b k s) :=
  (answersForm_finish _).2 (onBack_wf (fun t ht => by simp [ht]) h)

@[simp] theorem execRetrainReq_form (h : Memory.wf s.mem) (p : Fin 2) (b : BackObs) (k : Fin 9) : AnswersForm (execRetrainReq p b k s) :=
  (answersForm_finish _).2 (onBack_wf (fun t ht => by simp [ht]) h)

@[simp] theorem execRelieveRx_form (h : Memory.wf s.mem) (r : Req) (p : Fin 2) (k : Fin 16) : AnswersForm (execRelieveRx r p k s) :=
  (answersForm_finish _).2 (writeBy_wf (fun t ht => by simp [ht]) h)

@[simp] theorem execRelieveTx_form (h : Memory.wf s.mem) (r : Req) (p : Fin 2) (k : Fin 16) : AnswersForm (execRelieveTx r p k s) :=
  (answersForm_finish _).2 (writeBy_wf (fun t ht => by simp [ht]) h)

@[simp] theorem execRestore_form (h : Memory.wf s.mem) (r : Req) (p : Fin 2) (k : Fin 16) : AnswersForm (execRestore r p k s) :=
  (answersForm_finish _).2 (writeBy_wf (fun t ht => by simp [ht]) h)

@[simp] theorem execBeaconOn_form (h : Memory.wf s.mem) (r : Req) (p : Fin 2) : AnswersForm (execBeaconOn r p s) :=
  (answersForm_finish _).2 (writeBy_wf (fun t ht => by simp [ht]) h)

@[simp] theorem execBeaconOff_form (h : Memory.wf s.mem) (r : Req) (p : Fin 2) : AnswersForm (execBeaconOff r p s) :=
  (answersForm_finish _).2 (writeBy_wf (fun t ht => by simp [ht]) h)

@[simp] theorem execBeaconBurst_form (h : Memory.wf s.mem) (p : Fin 2) : AnswersForm (execBeaconBurst p s) := by simp [execBeaconBurst, h]

@[simp] theorem execMarginWindowEnd_form (h : Memory.wf s.mem) (p : Fin 2) (k : Fin 9) (corrected uncorr : Nat) :
    AnswersForm (execMarginWindowEnd p k corrected uncorr s) := by
  simp [execMarginWindowEnd, h]

@[simp] theorem execEscanStart_form (h : Memory.wf s.mem) (r : Req) (p : Fin 2) (v : Word) : AnswersForm (execEscanStart r p v s) :=
  (answersForm_finish _).2 (writeBy_wf (fun t ht => by simp [ht]) h)

@[simp] theorem execEscanDone_form (h : Memory.wf s.mem) (p : Fin 2) (pts : List (List Nat)) : AnswersForm (execEscanDone p pts s) := by
  refine (answersForm_finish _).2 ?_
  dsimp only
  (repeat' split) <;> simp [h]

@[simp] theorem execAutoEscanPeriod_form (h : Memory.wf s.mem) (p : Fin 2) : AnswersForm (execAutoEscanPeriod p s) := by
  simp -implicitDefEqProofs [execAutoEscanPeriod, h]

/-! ## Links and host requests (R79-R101) -/

@[simp] theorem execAck_form (h : Memory.wf s.mem) (p : Fin 2) (hd : RxHdr) (aseq : BitVec 8) (cred : BitVec 16) :
    AnswersForm (execAck p hd aseq cred s) :=
  (answersForm_finish _).2 (rxLink_wf (fun t ht => by simp [ht]) h)

@[simp] theorem execNak_form (h : Memory.wf s.mem) (p : Fin 2) (hd : RxHdr) (aseq : BitVec 8) : AnswersForm (execNak p hd aseq s) :=
  (answersForm_finish _).2 (rxLink_wf (fun t ht => by simp [ht]) h)

@[simp] theorem execBkReplayTimeout_form (h : Memory.wf s.mem) (p : Fin 2) : AnswersForm (execBkReplayTimeout p s) := by simp [execBkReplayTimeout, h]

@[simp] theorem execNegOffer_form (h : Memory.wf s.mem) (p : Fin 2) (hd : RxHdr) (pay : NegPay) : AnswersForm (execNegOffer p hd pay s) :=
  (answersForm_finish _).2 (rxBk_wf (fun t ht => by simp [ht]) h)

@[simp] theorem execNegAccept_form (h : Memory.wf s.mem) (p : Fin 2) (hd : RxHdr) (pay : NegPay) : AnswersForm (execNegAccept p hd pay s) :=
  (answersForm_finish _).2 (rxBk_wf (fun t ht => by simp [ht]) h)

@[simp] theorem execNegReject_form (h : Memory.wf s.mem) (p : Fin 2) (hd : RxHdr) (reason : BitVec 8) : AnswersForm (execNegReject p hd reason s) :=
  (answersForm_finish _).2 (rxBk_wf (fun t ht => by simp [ht]) h)

@[simp] theorem execNegOfferRepeat_form (h : Memory.wf s.mem) (p : Fin 2) : AnswersForm (execNegOfferRepeat p s) := by simp [execNegOfferRepeat, h]
@[simp] theorem execNegTimeout_form (h : Memory.wf s.mem) (p : Fin 2) : AnswersForm (execNegTimeout p s) := by simp [execNegTimeout, h]

@[simp] theorem execReneg_form (h : Memory.wf s.mem) (r : Req) (p : Fin 2) (v : Word) : AnswersForm (execReneg r p v s) :=
  (answersForm_finish _).2 (writeBy_wf (fun t ht => by simp [ht]) h)

@[simp] theorem execMemWr_form (h : Memory.wf s.mem) (p : Fin 2) (hd : RxHdr) (sec : Option SecTrailer) (tag ch : BitVec 8) (addr : BitVec 64)
    (data : List Byte) :
    AnswersForm (execMemWr p hd sec tag ch addr data s) := by
  refine (answersForm_finish _).2 (hostReq_wf (fun r t ht => ?_) h)
  dsimp only
  (repeat' split) <;> simp [ht]

@[simp] theorem execMemRd_form (h : Memory.wf s.mem) (p : Fin 2) (x : RxHdr) (sec : Option SecTrailer) (tag : BitVec 8) (flush : Bool) (nblk : BitVec 7)
    (addr : BitVec 64) : AnswersForm (execMemRd p x sec tag flush nblk addr s) := by
  refine (answersForm_finish _).2 (hostReq_wf (fun r t ht => ?_) h)
  dsimp only
  (repeat' split) <;> simp [ht]

@[simp] theorem execRdCpl_form (h : Memory.wf s.mem) (p : Fin 2) (hd : RxHdr) (sec : Option SecTrailer) (tag : BitVec 8) (status : BitVec 4)
    (last : Bool) (offs : BitVec 7) (data : List Byte) :
    AnswersForm (execRdCpl p hd sec tag status last offs data s) := by
  refine (answersForm_finish _).2 (rxBk_wf (fun t ht => ?_) h)
  dsimp only
  (repeat' split) <;> simp [ht]

@[simp] theorem execMsg_form (h : Memory.wf s.mem) (p : Fin 2) (hd : RxHdr) (sec : Option SecTrailer) (chan : Fin 32) (tag : BitVec 8)
    (words : List Word) :
    AnswersForm (execMsg p hd sec chan tag words s) :=
  (answersForm_finish _).2 (hostReq_wf (fun r t ht => by simp [ht]) h)

@[simp] theorem execSwitch_form (h : Memory.wf s.mem) (r : Req) (v : Word) : AnswersForm (execSwitch r v s) :=
  (answersForm_finish _).2 (writeBy_wf (fun t ht => by simp [ht]) h)

@[simp] theorem execFailoverStallTimeout_form (h : Memory.wf s.mem) (p : Fin 2) : AnswersForm (execFailoverStallTimeout p s) := by
  simp [execFailoverStallTimeout, h]

/-! ## The time base (R131-R150) -/

@[simp] theorem execSync_form (h : Memory.wf s.mem) (p : Fin 2) (hd : RxHdr) (top : BitVec 4) (tseq : BitVec 16) :
    AnswersForm (execSync p hd top tseq s) :=
  (answersForm_finish _).2 (rxRt_wf (fun t ht => by simp [ht]) h)

@[simp] theorem execTdOffsetCommit_form (h : Memory.wf s.mem) (r : Req) (x : Fin 2) (w0 w1 w2 w3 : Word) :
    AnswersForm (execTdOffsetCommit r x w0 w1 w2 w3 s) :=
  (answersForm_finish _).2 (writeBy_wf (fun t ht => by simp [ht]) h)

@[simp] theorem execTdStepCommit_form (h : Memory.wf s.mem) (r : Req) (x : Fin 2) (v : DWord) : AnswersForm (execTdStepCommit r x v s) :=
  (answersForm_finish _).2 (writeBy_wf (fun t ht => by simp [ht]) h)

@[simp] theorem execTdIncCommit_form (h : Memory.wf s.mem) (r : Req) (x : Fin 2) (v : DWord) : AnswersForm (execTdIncCommit r x v s) :=
  (answersForm_finish _).2 (writeBy_wf (fun t ht => by simp [ht]) h)

@[simp] theorem execTselSwitch_form (h : Memory.wf s.mem) (r : Req) (v : Word) : AnswersForm (execTselSwitch r v s) :=
  (answersForm_finish _).2 (writeBy_wf (fun t ht => by simp [ht]) h)

@[simp] theorem execSlewDone_form (h : Memory.wf s.mem) : AnswersForm (execSlewDone s) := by simp [execSlewDone, h]
@[simp] theorem execPpsinCapture_form (h : Memory.wf s.mem) : AnswersForm (execPpsinCapture s) := by simp -implicitDefEqProofs [execPpsinCapture, h]

@[simp] theorem execPpsinLost_form (h : Memory.wf s.mem) : AnswersForm (execPpsinLost s) := by
  refine (answersForm_finish _).2 ?_
  (repeat' split) <;> simp [h]

@[simp] theorem execPpsOutRise_form (h : Memory.wf s.mem) : AnswersForm (execPpsOutRise s) := by simp [execPpsOutRise, h]
@[simp] theorem execPpsOutFall_form (h : Memory.wf s.mem) : AnswersForm (execPpsOutFall s) := by simp [execPpsOutFall, h]

/-! ## Layer traffic (R107-R130) -/

@[simp] theorem execCplane_form (h : Memory.wf s.mem) (p : Fin 2) (hd : RxHdr) (descs : List (BitVec 128)) : AnswersForm (execCplane p hd descs s) :=
  (answersForm_finish _).2 (rxRt_wf (fun t ht => by simp [ht]) h)

@[simp] theorem execLayerDl_form (h : Memory.wf s.mem) (p : Fin 2) (hd : RxHdr) (car : Fin 8) (sym : BitVec 4) (slot : BitVec 10) (secid : BitVec 12)
    (poff : BitVec 11) (pcnt : BitVec 11) (cw : BitVec 4) (ant : Bool) (stream : BitVec 7) (data : List Byte) :
    AnswersForm (execLayerDl p hd car sym slot secid poff pcnt cw ant stream data s) :=
  (answersForm_finish _).2 (rxRt_wf (fun t ht => by simp [ht]) h)

@[simp] theorem execSectionLock_form (h : Memory.wf s.mem) (c : Fin 8) (dir : Bool) (slot : BitVec 10) (secid : BitVec 12) :
    AnswersForm (execSectionLock c dir slot secid s) := by
  simp [execSectionLock, h]

@[simp] theorem execOrphanDiscard_form (h : Memory.wf s.mem) (c : Fin 8) : AnswersForm (execOrphanDiscard c s) := by simp [execOrphanDiscard, h]

/-! ## Symbols of the datapaths (R176-R220, R247-R250) -/

@[simp] theorem execUlSymbol_form (h : Memory.wf s.mem) (c : Fin 8) (inp : RxIn) : AnswersForm (execUlSymbol c inp s) := by simp [execUlSymbol, h]

@[simp] theorem execUlPacketSend_form (h : Memory.wf s.mem) (p : Fin 2) : AnswersForm (execUlPacketSend p s) := by
  refine (answersForm_finish _).2 ?_
  dsimp only
  (repeat' split) <;> simp [h]

@[simp] theorem execOvrBlock_form (h : Memory.wf s.mem) (path : Fin 64) : AnswersForm (execOvrBlock path s) := by
  refine (answersForm_finish _).2 ?_
  dsimp only
  (repeat' split) <;> simp [h]

@[simp] theorem execBeamSsClr_form (h : Memory.wf s.mem) (r : Req) (v : Word) : AnswersForm (execBeamSsClr r v s) :=
  (answersForm_finish _).2 (writeBy_wf (fun t ht => by simp [ht]) h)

@[simp] theorem execSsAccumulate_form (h : Memory.wf s.mem) : AnswersForm (execSsAccumulate s) := by
  refine (answersForm_finish _).2 ?_
  dsimp only
  (repeat' split) <;> simp [h]

/-! ## Double-banked resources (R151-R153, R240-R246) -/

@[simp] theorem execBankSwap_form (h : Memory.wf s.mem) (res : Fin 7) (idx : Fin 128) : AnswersForm (execBankSwap res idx s) := by
  refine (answersForm_finish _).2 ?_
  (repeat' split) <;> simp [h]

@[simp] theorem execSwapDeferRetry_form (h : Memory.wf s.mem) (res : Fin 7) (idx : Fin 128) : AnswersForm (execSwapDeferRetry res idx s) := by
  refine (answersForm_finish _).2 ?_
  (repeat' split) <;> simp [h]

@[simp] theorem execOldBankRelease_form (h : Memory.wf s.mem) (res : Fin 7) (idx : Fin 256) : AnswersForm (execOldBankRelease res idx s) := by
  simp [execOldBankRelease, h]

@[simp] theorem execBeamSwapreq_form (h : Memory.wf s.mem) (r : Req) (v : Word) : AnswersForm (execBeamSwapreq r v s) :=
  (answersForm_finish _).2 (writeBy_wf (fun t ht => by simp [ht]) h)

@[simp] theorem execDpdSwapreq_form (h : Memory.wf s.mem) (r : Req) (v : Word) : AnswersForm (execDpdSwapreq r v s) :=
  (answersForm_finish _).2 (writeBy_wf (fun t ht => by simp [ht]) h)

@[simp] theorem execSbSwapreq_form (h : Memory.wf s.mem) (r : Req) (e : Fin 5) (v : Word) : AnswersForm (execSbSwapreq r e v s) :=
  (answersForm_finish _).2 (writeBy_wf (fun _ ht => sbPageWrite_wf (fun u hu => by simpa using hu) ht) h)

@[simp] theorem execBeamCwArm_form (h : Memory.wf s.mem) (r : Req) (v : Word) : AnswersForm (execBeamCwArm r v s) :=
  (answersForm_finish _).2 (writeBy_wf (fun t ht => by simp [ht]) h)

@[simp] theorem execBeamCwCancel_form (h : Memory.wf s.mem) (r : Req) (v : Word) : AnswersForm (execBeamCwCancel r v s) :=
  (answersForm_finish _).2 (writeBy_wf (fun t ht => by simp [ht]) h)

@[simp] theorem execBeamCwCommit_form (h : Memory.wf s.mem) (r : Req) (v : Word) : AnswersForm (execBeamCwCommit r v s) :=
  (answersForm_finish _).2 (writeBy_wf (fun t ht => by simp [ht]) h)

@[simp] theorem execCwFlip_form (h : Memory.wf s.mem) (dir : Fin 2) (hd : Fin 256) : AnswersForm (execCwFlip dir hd s) := by
  refine (answersForm_finish _).2 ?_
  dsimp only
  (repeat' split) <;> simp [h]

@[simp] theorem execCwMiss_form (h : Memory.wf s.mem) (dir : Fin 2) (hd : Fin 256) : AnswersForm (execCwMiss dir hd s) := by simp [execCwMiss, h]

/-! ## Carriers and slices (R183, R184, R199-R202) -/

@[simp] theorem execHostMuteRampEnd_form (h : Memory.wf s.mem) (path : Fin 64) : AnswersForm (execHostMuteRampEnd path s) := by
  refine (answersForm_finish _).2 ?_
  (repeat' split) <;> simp [h]

@[simp] theorem execMuteSourceClear_form (h : Memory.wf s.mem) (r : Req) (path : Fin 64) (v : Word) : AnswersForm (execMuteSourceClear r path v s) :=
  (answersForm_finish _).2 (writeBy_wf (fun t ht => by simp [ht]) h)

@[simp] theorem execSliceReliefTarget_form (h : Memory.wf s.mem) (r : Req) (u : Fin 2) (v : Word) : AnswersForm (execSliceReliefTarget r u v s) :=
  (answersForm_finish _).2 (writeBy_wf (fun t ht => by simp [ht]) h)

@[simp] theorem execSliceRetire_form (h : Memory.wf s.mem) (r : Req) (u : Fin 2) (v : Word) : AnswersForm (execSliceRetire r u v s) :=
  (answersForm_finish _).2 (writeBy_wf (fun t ht => by simp [ht]) h)

@[simp] theorem execSliceSynced_form (h : Memory.wf s.mem) (u : Fin 2) (mismatch : Bool) : AnswersForm (execSliceSynced u mismatch s) := by
  refine (answersForm_finish _).2 ?_
  dsimp only
  (repeat' split) <;> simp [h]

@[simp] theorem execSliceFault_form (h : Memory.wf s.mem) (slice : Fin 66) : AnswersForm (execSliceFault slice s) := by
  refine (answersForm_finish _).2 ?_
  dsimp only
  (repeat' split) <;> simp [h]

@[simp] theorem execSliceTaken_form (h : Memory.wf s.mem) (u : Fin 2) : AnswersForm (execSliceTaken u s) := by
  refine (answersForm_finish _).2 ?_
  dsimp only
  (repeat' split) <;> simp [h]

@[simp] theorem execCarrierEnable_form (h : Memory.wf s.mem) (r : Req) (c : Fin 8) (v : Word) : AnswersForm (execCarrierEnable r c v s) :=
  (answersForm_finish _).2 (writeBy_wf (fun t ht => by simp [ht]) h)

@[simp] theorem execCarrierDrained_form (h : Memory.wf s.mem) (c : Fin 8) : AnswersForm (execCarrierDrained c s) := by simp [execCarrierDrained, h]

/-! ## PRACH (R221-R225) -/

@[simp] theorem execPrachEnable_form (h : Memory.wf s.mem) (r : Req) (j : Fin 4) (v : Word) : AnswersForm (execPrachEnable r j v s) :=
  (answersForm_finish _).2 (writeBy_wf (fun t ht => by simp [ht]) h)

@[simp] theorem execPrachOccasion_form (h : Memory.wf s.mem) (j : Fin 4) (inp : RxIn) : AnswersForm (execPrachOccasion j inp s) := by
  refine (answersForm_finish _).2 ?_
  dsimp only
  (repeat' split) <;> simp [h]

@[simp] theorem execPrachDrained_form (h : Memory.wf s.mem) (j : Fin 4) : AnswersForm (execPrachDrained j s) := by simp [execPrachDrained, h]

/-! ## Dual homing (R100-R102) -/

@[simp] theorem execFailover_form (h : Memory.wf s.mem) (c : Fin 8) : AnswersForm (execFailover c s) := by
  refine (answersForm_finish _).2 ?_
  dsimp only
  (repeat' split) <;> simp [h]

@[simp] theorem execDhModeApply_form (h : Memory.wf s.mem) (c : Fin 8) : AnswersForm (execDhModeApply c s) := by simp [execDhModeApply, h]

/-! ## Captures (R262-R274) -/

@[simp] theorem execObsCapReq_form (h : Memory.wf s.mem) (r : Req) (path : Fin 64) (v : Word) : AnswersForm (execObsCapReq r path v s) :=
  (answersForm_finish _).2 (writeBy_wf (fun t ht => by simp [ht]) h)

@[simp] theorem execCaptureGrant_form (h : Memory.wf s.mem) (a : Fin 72) : AnswersForm (execCaptureGrant a s) := by
  refine (answersForm_finish _).2 ?_
  (repeat' split) <;> simp [h]

@[simp] theorem execCaptureGrantEnd_form (h : Memory.wf s.mem) (a : Fin 72) : AnswersForm (execCaptureGrantEnd a s) := by
  simp [execCaptureGrantEnd, h]

@[simp] theorem execObsCapCancel_form (h : Memory.wf s.mem) (r : Req) (path : Fin 64) (v : Word) : AnswersForm (execObsCapCancel r path v s) :=
  (answersForm_finish _).2 (writeBy_wf (fun t ht => by simp [ht]) h)

@[simp] theorem execCaptureDone_form (h : Memory.wf s.mem) (a : Fin 72) (y : List (BitVec 32)) (ovr : Bool) :
    AnswersForm (execCaptureDone a y ovr s) := by
  refine (answersForm_finish _).2 ?_
  split
  · exact h
  next q _ =>
    extract_lets _ s0 _ _ _ s1 s2
    refine ite_wf (fun _ => h) fun _ => ?_
    have h0 : Memory.wf s0.mem := by simpa [s0] using h
    have h1 : Memory.wf s1.mem := stBytes_wf h0 _ _
    have h2 : Memory.wf s2.mem := by simp [s2, h1]
    simp [h0, h2]

@[simp] theorem execVswrWindow_form (h : Memory.wf s.mem) (path : Fin 64) (seen : Nat) : AnswersForm (execVswrWindow path seen s) := by
  simp [execVswrWindow, h]

/-! ## Converters (R275-R293) -/

@[simp] theorem execAdcRotationStart_form (h : Memory.wf s.mem) (u : Fin 72) : AnswersForm (execAdcRotationStart u s) := by
  simp [execAdcRotationStart, h]

@[simp] theorem execAdcRotationSwap_form (h : Memory.wf s.mem) (u : Fin 72) (agree : Bool) : AnswersForm (execAdcRotationSwap u agree s) := by
  refine (answersForm_finish _).2 ?_
  dsimp only
  (repeat' split) <;> simp [h]

@[simp] theorem execSubadcRetire_form (h : Memory.wf s.mem) (r : Req) (u : Fin 72) (v : Word) : AnswersForm (execSubadcRetire r u v s) :=
  (answersForm_finish _).2 (writeBy_wf (fun t ht => by simp [ht]) h)

@[simp] theorem execDacCellRotation_form (h : Memory.wf s.mem) (path : Fin 64) : AnswersForm (execDacCellRotation path s) := by
  refine (answersForm_finish _).2 ?_
  dsimp only
  (repeat' split) <;> simp [h]

@[simp] theorem execDacCellRetire_form (h : Memory.wf s.mem) (r : Req) (path : Fin 64) (v : Word) : AnswersForm (execDacCellRetire r path v s) :=
  (answersForm_finish _).2 (writeBy_wf (fun t ht => by simp [ht]) h)

@[simp] theorem execSoftAlign_form (h : Memory.wf s.mem) (r : Req) (v : Word) : AnswersForm (execSoftAlign r v s) :=
  (answersForm_finish _).2 (writeBy_wf (fun t ht => by simp [ht]) h)

@[simp] theorem execAlignCapture_form (h : Memory.wf s.mem) (level : Bool) : AnswersForm (execAlignCapture level s) := by simp [execAlignCapture, h]

@[simp] theorem execConverterAlignment_form (h : Memory.wf s.mem) (err : BitVec 8) : AnswersForm (execConverterAlignment err s) := by
  refine (answersForm_finish _).2 ?_
  dsimp only
  (repeat' split) <;> simp [h]

@[simp] theorem execDieLinkLost_form (h : Memory.wf s.mem) (die : Fin 4) : AnswersForm (execDieLinkLost die s) := by simp [execDieLinkLost, h]

/-! ## Auxiliary DACs (R410-R413) -/

@[simp] theorem execAuxDacWrite_form (h : Memory.wf s.mem) (r : Req) (n : Fin 72) (v : Word) : AnswersForm (execAuxDacWrite r n v s) :=
  (answersForm_finish _).2 (writeBy_wf (fun t ht => by simp [ht]) h)

@[simp] theorem execAuxHoldEnd_form (h : Memory.wf s.mem) (n : Fin 72) : AnswersForm (execAuxHoldEnd n s) := by
  refine (answersForm_finish _).2 ?_
  (repeat' split) <;> simp [h]

@[simp] theorem execAuxRangeChangeEnd_form (h : Memory.wf s.mem) (n : Fin 72) : AnswersForm (execAuxRangeChangeEnd n s) := by
  refine (answersForm_finish _).2 ?_
  (repeat' split) <;> simp [h]

@[simp] theorem execAuxClrcodeWrite_form (h : Memory.wf s.mem) (r : Req) (n : Fin 72) (v : Word) : AnswersForm (execAuxClrcodeWrite r n v s) :=
  (answersForm_finish _).2 (writeBy_wf (fun t ht => by simp [ht]) h)

@[simp] theorem execAuxClrNFall_form (h : Memory.wf s.mem) : AnswersForm (execAuxClrNFall s) := by simp [execAuxClrNFall, h]
@[simp] theorem execAuxClrNRise_form (h : Memory.wf s.mem) : AnswersForm (execAuxClrNRise s) := by simp [execAuxClrNRise, h]

@[simp] theorem execClrall_form (h : Memory.wf s.mem) (r : Req) (v : Word) : AnswersForm (execClrall r v s) :=
  (answersForm_finish _).2 (writeBy_wf (fun t ht => by simp [ht]) h)

@[simp] theorem execAuxShort_form (h : Memory.wf s.mem) (n : Fin 72) : AnswersForm (execAuxShort n s) := by simp [execAuxShort, h]
@[simp] theorem execAuxOpen_form (h : Memory.wf s.mem) (n : Fin 72) : AnswersForm (execAuxOpen n s) := by simp [execAuxOpen, h]

/-! ## Calibration (R381-R401) -/

@[simp] theorem execAssayResult_form (h : Memory.wf s.mem) (item : Fin 9) (unit : Fin 72) (elem : Fin 128) (meas : Option (List Int))
    (power val nblk : Nat) :
    AnswersForm (execAssayResult item unit elem meas power val nblk s) := by
  refine (answersForm_finish _).2 ?_
  dsimp only
  (repeat' split) <;> simp [h]

@[simp] theorem execAssaySave_form (h : Memory.wf s.mem) (r : Req) (v : Word) : AnswersForm (execAssaySave r v s) :=
  (answersForm_finish _).2 (writeBy_wf (fun t ht => by simp [ht]) h)

@[simp] theorem execAssaySaveDone_form (h : Memory.wf s.mem) : AnswersForm (execAssaySaveDone s) := by
  refine (answersForm_finish _).2 ?_
  split
  next addr _ => exact ite_wf (fun _ => by simpa using stBytes_wf h (sharedMem + addr) s.blob) fun _ => by simpa using h
  · exact h

@[simp] theorem execAssayRestore_form (h : Memory.wf s.mem) (r : Req) (v : Word) : AnswersForm (execAssayRestore r v s) :=
  (answersForm_finish _).2 (writeBy_wf (fun t ht => by simp [ht]) h)

@[simp] theorem execAssayRestoreDone_form (h : Memory.wf s.mem) : AnswersForm (execAssayRestoreDone s) := by
  refine (answersForm_finish _).2 ?_
  dsimp only
  (repeat' split) <;> simp [h]

/-! ## The monitor (R402-R409) -/

@[simp] theorem execMonEntryDone_form (h : Memory.wf s.mem) (inputs : List Int) (vref : Nat) (dev : List Int) :
    AnswersForm (execMonEntryDone inputs vref dev s) := by
  refine (answersForm_finish _).2 ?_
  (repeat' split) <;> simp [h]

@[simp] theorem execMonUrgDone_form (h : Memory.wf s.mem) (inputs : List Int) (vref : Nat) (dev : List Int) :
    AnswersForm (execMonUrgDone inputs vref dev s) := by
  refine (answersForm_finish _).2 ?_
  (repeat' split) <;> simp [h]

@[simp] theorem execMonEnable_form (h : Memory.wf s.mem) (r : Req) (v : Word) : AnswersForm (execMonEnable r v s) :=
  (answersForm_finish _).2 (writeBy_wf (fun t ht => by simp [ht]) h)

@[simp] theorem execMonUrg_form (h : Memory.wf s.mem) (r : Req) (v : Word) : AnswersForm (execMonUrg r v s) :=
  (answersForm_finish _).2 (writeBy_wf (fun t ht => by simp [ht]) h)

/-! ## The Lode cluster (R303-R325) -/

@[simp] theorem execLodeWqPush_form (h : Memory.wf s.mem) (r : Req) (q : Fin 8) (v : Word) : AnswersForm (execLodeWqPush r q v s) :=
  (answersForm_finish _).2 (writeBy_wf (fun t ht => by simp [ht]) h)

@[simp] theorem execItemPull_form (h : Memory.wf s.mem) (c : Fin 34) : AnswersForm (execItemPull c s) := by
  refine (answersForm_finish _).2 ?_
  dsimp only
  (repeat' split) <;> simp [h]

@[simp] theorem execWdog_form (h : Memory.wf s.mem) (c : Fin 34) : AnswersForm (execWdog c s) := by simp [execWdog, h]

@[simp] theorem execItemComplete_form (h : Memory.wf s.mem) (c : Fin 34) : AnswersForm (execItemComplete c s) := by
  refine (answersForm_finish _).2 ?_
  dsimp only
  (repeat' split) <;> simp [h]

@[simp] theorem execCoreFault_form (h : Memory.wf s.mem) (c : Fin 34) : AnswersForm (execCoreFault c s) := by
  refine (answersForm_finish _).2 ?_
  refine ite_wf (fun _ => h) fun _ => ?_
  extract_lets _ s0 s1 s2 _ _ _ relief s3 s4
  have h0 : Memory.wf s0.mem := by simpa [s0] using h
  have h1 : Memory.wf s1.mem := by
    unfold s1
    (repeat' split) <;> simp [h0]
  have h2 : Memory.wf s2.mem := by simpa [s2] using h1
  refine ite_wf (fun _ => by simpa using h2) fun _ => ite_wf (fun _ => by simpa using h2) fun _ => ?_
  have h3 : Memory.wf s3.mem := by simpa [s3] using h2
  have h4 : Memory.wf s4.mem := by
    unfold s4
    cases relief with
    | none => exact h3
    | some r => exact clearMem_wf h3 _ _
  simp [h4]

@[simp] theorem execLodeReliefRetire_form (h : Memory.wf s.mem) (r : Req) (v : Word) : AnswersForm (execLodeReliefRetire r v s) :=
  (answersForm_finish _).2 (writeBy_wf (fun t ht => by simp [ht]) h)

@[simp] theorem execCoreRelief_form (h : Memory.wf s.mem) : AnswersForm (execCoreRelief s) := by
  refine (answersForm_finish _).2 ?_
  split
  · exact h
  next c _ =>
    refine ite_wf (fun _ => h) fun _ => ?_
    split
    · simpa using h
    next r at_ _ =>
      refine ite_wf (fun _ => h) fun _ => ?_
      have hcopy := foldl_stb_wf (clearMem_wf h (coreMem r) (coreMem r + 0x10000)) (fun x => x.1 - coreMem c + coreMem r)
        (s.mem.filter fun x => decide (coreMem c ≤ x.1 ∧ x.1 < coreMem c + 0x10000))
      simpa using hcopy

@[simp] theorem execSharedBankGrant_form (h : Memory.wf s.mem) (b : Fin 256) (arrive leave : List Nat) :
    AnswersForm (execSharedBankGrant b arrive leave s) := by
  simp [execSharedBankGrant, h]

/-! ## Shiftboss engines (R154-R175) -/

@[simp] theorem execSbNop_form (h : Memory.wf s.mem) (e : Fin 5) : AnswersForm (execSbNop e s) :=
  (answersForm_finish _).2 (sbIssue_wf (fun w i t ht => by simp [ht]) h)

@[simp] theorem execSbHalt_form (h : Memory.wf s.mem) (e : Fin 5) : AnswersForm (execSbHalt e s) :=
  (answersForm_finish _).2 (sbIssue_wf (fun w i t ht => by simp [ht]) h)

@[simp] theorem execSbLoop_form (h : Memory.wf s.mem) (e : Fin 5) : AnswersForm (execSbLoop e s) :=
  (answersForm_finish _).2 (sbIssue_wf (fun w i t ht => by simp [ht]) h)

@[simp] theorem execSbEndl_form (h : Memory.wf s.mem) (e : Fin 5) : AnswersForm (execSbEndl e s) := by
  refine (answersForm_finish _).2 (sbIssue_wf (fun w i t ht => ?_) h)
  dsimp only
  (repeat' split) <;> simp [ht]

@[simp] theorem execSbBr_form (h : Memory.wf s.mem) (e : Fin 5) : AnswersForm (execSbBr e s) :=
  (answersForm_finish _).2 (sbIssue_wf (fun w i t ht => by simp [ht]) h)

@[simp] theorem execSbBrc_form (h : Memory.wf s.mem) (e : Fin 5) : AnswersForm (execSbBrc e s) :=
  (answersForm_finish _).2 (sbIssue_wf (fun w i t ht => by simp [ht]) h)

@[simp] theorem execSbCall_form (h : Memory.wf s.mem) (e : Fin 5) : AnswersForm (execSbCall e s) :=
  (answersForm_finish _).2 (sbIssue_wf (fun w i t ht => by simp [ht]) h)

@[simp] theorem execSbRet_form (h : Memory.wf s.mem) (e : Fin 5) : AnswersForm (execSbRet e s) := by
  refine (answersForm_finish _).2 (sbIssue_wf (fun w i t ht => ?_) h)
  dsimp only
  (repeat' split) <;> simp [ht]

@[simp] theorem execSbAddi_form (h : Memory.wf s.mem) (e : Fin 5) : AnswersForm (execSbAddi e s) :=
  (answersForm_finish _).2 (sbIssue_wf (fun w i t ht => by simp [ht]) h)

@[simp] theorem execSbMovi_form (h : Memory.wf s.mem) (e : Fin 5) : AnswersForm (execSbMovi e s) :=
  (answersForm_finish _).2 (sbIssue_wf (fun w i t ht => by simp [ht]) h)

@[simp] theorem execSbAt_form (h : Memory.wf s.mem) (e : Fin 5) : AnswersForm (execSbAt e s) :=
  (answersForm_finish _).2 (sbIssue_wf (fun w i t ht => by simp [ht]) h)

@[simp] theorem execSbAfter_form (h : Memory.wf s.mem) (e : Fin 5) : AnswersForm (execSbAfter e s) :=
  (answersForm_finish _).2 (sbIssue_wf (fun w i t ht => by simp [ht]) h)

@[simp] theorem execSbSymwait_form (h : Memory.wf s.mem) (e : Fin 5) : AnswersForm (execSbSymwait e s) :=
  (answersForm_finish _).2 (sbIssue_wf (fun w i t ht => by simp [ht]) h)

@[simp] theorem execSbWaitev_form (h : Memory.wf s.mem) (e : Fin 5) : AnswersForm (execSbWaitev e s) :=
  (answersForm_finish _).2 (sbIssue_wf (fun w i t ht => by simp [ht]) h)

@[simp] theorem execSbFence_form (h : Memory.wf s.mem) (e : Fin 5) : AnswersForm (execSbFence e s) :=
  (answersForm_finish _).2 (sbIssue_wf (fun w i t ht => by simp [ht]) h)

@[simp] theorem execWaitRelease_form (h : Memory.wf s.mem) (e : Fin 5) : AnswersForm (execWaitRelease e s) := by
  refine (answersForm_finish _).2 ?_
  dsimp only
  (repeat' split) <;> simp [h]

@[simp] theorem execWaitevTimeout_form (h : Memory.wf s.mem) (e : Fin 5) : AnswersForm (execWaitevTimeout e s) := by
  refine (answersForm_finish _).2 ?_
  (repeat' split) <;> simp [h]

@[simp] theorem execSbSet_form (h : Memory.wf s.mem) (e : Fin 5) : AnswersForm (execSbSet e s) :=
  (answersForm_finish _).2 (sbIssue_wf (fun w i t ht => by simp [ht]) h)

@[simp] theorem execSbSetw_form (h : Memory.wf s.mem) (e : Fin 5) : AnswersForm (execSbSetw e s) :=
  (answersForm_finish _).2 (sbIssue_wf (fun w i t ht => by simp [ht]) h)

@[simp] theorem execSbSwap_form (h : Memory.wf s.mem) (e : Fin 5) : AnswersForm (execSbSwap e s) :=
  (answersForm_finish _).2 (sbIssue_wf (fun w i t ht => by simp [ht]) h)

@[simp] theorem execSbCapture_form (h : Memory.wf s.mem) (e : Fin 5) : AnswersForm (execSbCapture e s) :=
  (answersForm_finish _).2 (sbIssue_wf (fun w i t ht => by simp [ht]) h)

@[simp] theorem execSbGate_form (h : Memory.wf s.mem) (e : Fin 5) : AnswersForm (execSbGate e s) :=
  (answersForm_finish _).2 (sbIssue_wf (fun w i t ht => by simp [ht]) h)

@[simp] theorem execSbFectl_form (h : Memory.wf s.mem) (e : Fin 5) : AnswersForm (execSbFectl e s) :=
  (answersForm_finish _).2 (sbIssue_wf (fun w i t ht => by simp [ht]) h)

@[simp] theorem execSbFesend_form (h : Memory.wf s.mem) (e : Fin 5) : AnswersForm (execSbFesend e s) :=
  (answersForm_finish _).2 (sbIssue_wf (fun w i t ht => by simp [ht]) h)

@[simp] theorem execSbDispatch_form (h : Memory.wf s.mem) (e : Fin 5) (mismatch : Bool) : AnswersForm (execSbDispatch e mismatch s) :=
  (answersForm_finish _).2 (sbIssue_wf (fun w i t ht => by simp [ht]) h)

@[simp] theorem execSbDmago_form (h : Memory.wf s.mem) (e : Fin 5) (mismatch : Bool) : AnswersForm (execSbDmago e mismatch s) :=
  (answersForm_finish _).2 (sbIssue_wf (fun w i t ht => by simp [ht]) h)

@[simp] theorem execSbPost_form (h : Memory.wf s.mem) (e : Fin 5) (mismatch : Bool) : AnswersForm (execSbPost e mismatch s) :=
  (answersForm_finish _).2 (sbIssue_wf (fun w i t ht => by simp [ht]) h)

@[simp] theorem execSbSignal_form (h : Memory.wf s.mem) (e : Fin 5) (mismatch : Bool) : AnswersForm (execSbSignal e mismatch s) :=
  (answersForm_finish _).2 (sbIssue_wf (fun w i t ht => by simp [ht]) h)

@[simp] theorem execEngineFault_form (h : Memory.wf s.mem) (e : Fin 5) (hard : Option Bool) : AnswersForm (execEngineFault e hard s) := by
  refine (answersForm_finish _).2 ?_
  (repeat' split) <;> simp [h]

@[simp] theorem execSbReliefTarget_form (h : Memory.wf s.mem) (r : Req) (target : BitVec 4) (clr : Bool) :
    AnswersForm (execSbReliefTarget r target clr s) :=
  (answersForm_finish _).2 (writeBy_wf (fun t ht => by simp [ht]) h)

@[simp] theorem execSbRetire_form (h : Memory.wf s.mem) (r : Req) : AnswersForm (execSbRetire r s) :=
  (answersForm_finish _).2 (writeBy_wf (fun t ht => by simp [ht]) h)

@[simp] theorem execReliefSynced_form (h : Memory.wf s.mem) : AnswersForm (execReliefSynced s) := by
  refine (answersForm_finish _).2 ?_
  split
  · exact ite_wf (fun _ => by simp -implicitDefEqProofs [h]) fun _ => h
  · exact h

@[simp] theorem execRun_form (h : Memory.wf s.mem) (r : Req) (e : Fin 5) (run : Bool) : AnswersForm (execRun r e run s) :=
  (answersForm_finish _).2 (writeBy_wf (fun _ ht => sbPageWrite_wf (fun u hu => by simpa using hu) ht) h)

@[simp] theorem execRestart_form (h : Memory.wf s.mem) (r : Req) (e : Fin 5) (run : Bool) : AnswersForm (execRestart r e run s) :=
  (answersForm_finish _).2 (writeBy_wf (fun _ ht => sbPageWrite_wf (fun u hu => by simpa using hu) ht) h)

@[simp] theorem execSbEvset_form (h : Memory.wf s.mem) (r : Req) (e : Fin 5) (v : DWord) : AnswersForm (execSbEvset r e v s) :=
  (answersForm_finish _).2 (writeBy_wf (fun _ ht => sbPageWrite_wf (fun u hu => by simpa using hu) ht) h)

@[simp] theorem execSbEvclr_form (h : Memory.wf s.mem) (r : Req) (e : Fin 5) (v : DWord) : AnswersForm (execSbEvclr r e v s) :=
  (answersForm_finish _).2 (writeBy_wf (fun _ ht => sbPageWrite_wf (fun u hu => by simpa using hu) ht) h)

@[simp] theorem execSbFeSafeWrite_form (h : Memory.wf s.mem) (r : Req) (v : Word) : AnswersForm (execSbFeSafeWrite r v s) :=
  (answersForm_finish _).2 (writeBy_wf (fun t ht => by simp [ht]) h)

@[simp] theorem execFespiFrameEnd_form (h : Memory.wf s.mem) (p : Fin 4) (sdi : BitVec 64) : AnswersForm (execFespiFrameEnd p sdi s) := by
  refine (answersForm_finish _).2 ?_
  dsimp only
  (repeat' split) <;> simp [h]

/-! ## Repair (R466-R473) -/

@[simp] theorem execBfColumnRelief_form (h : Memory.wf s.mem) (dir : Fin 2) (ant : Fin 64) (car : Fin 8) (re : Nat) :
    AnswersForm (execBfColumnRelief dir ant car re s) := by
  simp [execBfColumnRelief, h]

@[simp] theorem execEccUncorrectable_form (h : Memory.wf s.mem) (array : Nat) (row : Fin 128) (addr : Nat) :
    AnswersForm (execEccUncorrectable array row addr s) := by
  refine (answersForm_finish _).2 (ite_wf (fun _ => h) fun _ => ?_)
  simpa using clearMem_wf h (addr / 8 * 8) (addr / 8 * 8 + 8)

@[simp] theorem execScrubPass_form (h : Memory.wf s.mem) (errs : List (Nat × Fin 128 × Nat)) : AnswersForm (execScrubPass errs s) := by
  refine (answersForm_finish _).2 ?_
  dsimp only
  (repeat' split) <;> simp [h]

@[simp] theorem execSramRowRelief_form (h : Memory.wf s.mem) (array : Nat) (row : Fin 128) : AnswersForm (execSramRowRelief array row s) := by
  simp [execSramRowRelief, h]

@[simp] theorem execEvtIrqAck_form (h : Memory.wf s.mem) (r : Req) (v : Word) : AnswersForm (execEvtIrqAck r v s) :=
  (answersForm_finish _).2 (writeBy_wf (fun t ht => by simp [ht]) h)

@[simp] theorem execFeShort_form (h : Memory.wf s.mem) (pin : Fin 32) : AnswersForm (execFeShort pin s) := by simp [execFeShort, h]

/-! ## Power (R415-R439) -/

@[simp] theorem execPowerStep_form (h : Memory.wf s.mem) (refclk swapped : Bool) (lost : BitVec 7) :
    AnswersForm (execPowerStep refclk swapped lost s) := by
  refine (answersForm_finish _).2 ?_
  (repeat' split) <;> simp [h]

@[simp] theorem execPwrCmd_form (h : Memory.wf s.mem) (r : Req) (v : Word) : AnswersForm (execPwrCmd r v s) :=
  (answersForm_finish _).2 (writeBy_wf (fun t ht => by simp [ht]) h)

@[simp] theorem execWake_form (h : Memory.wf s.mem) (mask : BitVec 4) : AnswersForm (execWake mask s) := by simp [execWake, h]
@[simp] theorem execWakeActivity_form (h : Memory.wf s.mem) (p : Fin 2) : AnswersForm (execWakeActivity p s) := by simp [execWakeActivity, h]

@[simp] theorem execPwrClassWrite_form (h : Memory.wf s.mem) (r : Req) (v : Word) : AnswersForm (execPwrClassWrite r v s) :=
  (answersForm_finish _).2 (writeBy_wf (fun t ht => by simp [ht]) h)

@[simp] theorem execThrotEnforced_form (h : Memory.wf s.mem) : AnswersForm (execThrotEnforced s) := by
  refine (answersForm_finish _).2 ?_
  (repeat' split) <;> simp [h]

@[simp] theorem execRefclkLost_form (h : Memory.wf s.mem) : AnswersForm (execRefclkLost s) := by simp [execRefclkLost, h]

@[simp] theorem execRefclkRelock_form (h : Memory.wf s.mem) (swapped : Bool) : AnswersForm (execRefclkRelock swapped s) := by
  simp [execRefclkRelock, h]

/-! ## Temperatures (R434-R438) -/

@[simp] theorem execCanaryUpdate_form (h : Memory.wf s.mem) (reads : List SensorRead) : AnswersForm (execCanaryUpdate reads s) := by
  simp [execCanaryUpdate, h]

@[simp] theorem execSafeClear_form (h : Memory.wf s.mem) (r : Req) (v : Word) : AnswersForm (execSafeClear r v s) :=
  (answersForm_finish _).2 (writeBy_wf (fun t ht => by simp [ht]) h)

@[simp] theorem execFaultPin_form (h : Memory.wf s.mem) (low : Bool) : AnswersForm (execFaultPin low s) := by simp [execFaultPin, h]
@[simp] theorem execSupplyCheck_form (h : Memory.wf s.mem) : AnswersForm (execSupplyCheck s) := by simp [execSupplyCheck, h]

/-! ## Boot and enclave services (R440-R463) -/

@[simp] theorem execAditFetch_form (h : Memory.wf s.mem) (dst : BitVec 8) (data : List Byte) : AnswersForm (execAditFetch dst data s) := by
  refine (answersForm_finish _).2 ?_
  dsimp only
  (repeat' split) <;> simp [h]

@[simp] theorem execAditWaitTimeout_form (h : Memory.wf s.mem) : AnswersForm (execAditWaitTimeout s) := by
  refine (answersForm_finish _).2 ?_
  (repeat' split) <;> simp [h]

@[simp] theorem execLoad_form (h : Memory.wf s.mem) (c : Fin 32) (dst : BitVec 8) (data : List Byte) : AnswersForm (execLoad c dst data s) := by
  refine (answersForm_finish _).2 (serve_wf (fun q ws t ht => ?_) h)
  dsimp only
  (repeat' split) <;> simp [ht]

@[simp] theorem execBootDone_form (h : Memory.wf s.mem) : AnswersForm (execBootDone s) := by
  refine (answersForm_finish _).2 ?_
  (repeat' split) <;> simp [h]

@[simp] theorem execFirmwareReply_form (h : Memory.wf s.mem) : AnswersForm (execFirmwareReply s) := by
  refine (answersForm_finish _).2 ?_
  dsimp only
  (repeat' split) <;> simp [h]

@[simp] theorem execForemanLockstep_form (h : Memory.wf s.mem) : AnswersForm (execForemanLockstep s) := by simp [execForemanLockstep, h]

@[simp] theorem execStage_form (h : Memory.wf s.mem) (c : Fin 32) (dst : BitVec 8) (data : List Byte) : AnswersForm (execStage c dst data s) :=
  (answersForm_finish _).2 (serve_wf (fun q ws t ht => by simp [ht]) h)

@[simp] theorem execFwSwap_form (h : Memory.wf s.mem) (c : Fin 32) : AnswersForm (execFwSwap c s) :=
  (answersForm_finish _).2 (serve_wf (fun q ws t ht => by simp [ht]) h)

@[simp] theorem execFwSwapped_form (h : Memory.wf s.mem) : AnswersForm (execFwSwapped s) := by
  refine (answersForm_finish _).2 ?_
  dsimp only
  (repeat' split) <;> simp [h]

@[simp] theorem execAttest_form (h : Memory.wf s.mem) (c : Fin 32) : AnswersForm (execAttest c s) :=
  (answersForm_finish _).2 (serve_wf (fun q ws t ht => by simp [ht]) h)

@[simp] theorem execIdGet_form (h : Memory.wf s.mem) (c : Fin 32) : AnswersForm (execIdGet c s) :=
  (answersForm_finish _).2 (serve_wf (fun q ws t ht => by simp [ht]) h)

@[simp] theorem execRootProg_form (h : Memory.wf s.mem) (c : Fin 32) : AnswersForm (execRootProg c s) := (answersForm_finish _).2 (otpServe_wf h)
@[simp] theorem execRootRevoke_form (h : Memory.wf s.mem) (c : Fin 32) : AnswersForm (execRootRevoke c s) := (answersForm_finish _).2 (otpServe_wf h)
@[simp] theorem execSvnCommit_form (h : Memory.wf s.mem) (c : Fin 32) : AnswersForm (execSvnCommit c s) := (answersForm_finish _).2 (otpServe_wf h)
@[simp] theorem execLcAdvance_form (h : Memory.wf s.mem) (c : Fin 32) : AnswersForm (execLcAdvance c s) := (answersForm_finish _).2 (otpServe_wf h)

@[simp] theorem execIdGen_form (h : Memory.wf s.mem) (c : Fin 32) : AnswersForm (execIdGen c s) := by
  have hfree : Memory.wf s.takeFree.2.mem := by simpa using h
  exact (answersForm_finish _).2 (otpServe_wf hfree)

@[simp] theorem execRepairCommit_form (h : Memory.wf s.mem) (c : Fin 32) : AnswersForm (execRepairCommit c s) :=
  (answersForm_finish _).2 (otpServe_wf h)

@[simp] theorem execOtpOperationDone_form (h : Memory.wf s.mem) (ok : Bool) : AnswersForm (execOtpOperationDone ok s) := by
  refine (answersForm_finish _).2 ?_
  dsimp only
  (repeat' split) <;> simp [h]

/-! ## Performance counters (R490-R494) -/

@[simp] theorem execFreeze_form (h : Memory.wf s.mem) (r : Req) (v : Word) : AnswersForm (execFreeze r v s) :=
  (answersForm_finish _).2 (writeBy_wf (fun t ht => by simp [ht]) h)

@[simp] theorem execSnap_form (h : Memory.wf s.mem) (r : Req) (v : Word) : AnswersForm (execSnap r v s) :=
  (answersForm_finish _).2 (writeBy_wf (fun t ht => by simp [ht]) h)

@[simp] theorem execPmuSelWrite_form (h : Memory.wf s.mem) (r : Req) (b : Fin 46) (k : Fin 8) (v : Word) : AnswersForm (execPmuSelWrite r b k v s) :=
  (answersForm_finish _).2 (writeBy_wf (fun t ht => by simp [ht]) h)

@[simp] theorem execPmuOverflowFreeze_form (h : Memory.wf s.mem) : AnswersForm (execPmuOverflowFreeze s) := by
  refine (answersForm_finish _).2 ?_
  dsimp only
  (repeat' split) <;> simp [h]

/-! ## Secure sessions (R103-R106) -/

@[simp] theorem execHello_form (h : Memory.wf s.mem) (p : Fin 2) (hd : RxHdr) (sec : Option SecTrailer) (tag : BitVec 8) (nonce : BitVec 256)
    (cert : List Byte) :
    AnswersForm (execHello p hd sec tag nonce cert s) :=
  (answersForm_finish _).2 (hsMessage_wf (fun t ht => by simp [ht]) h)

@[simp] theorem execEncap_form (h : Memory.wf s.mem) (p : Fin 2) (hd : RxHdr) (sec : Option SecTrailer) (tag : BitVec 8) (ct sig : List Byte) :
    AnswersForm (execEncap p hd sec tag ct sig s) := by
  refine (answersForm_finish _).2 (hsMessage_wf (fun t ht => ?_) h)
  dsimp only
  (repeat' split) <;> simp [ht]

@[simp] theorem execClose_form (h : Memory.wf s.mem) (p : Fin 2) (hd : RxHdr) (sec : Option SecTrailer) (tag : BitVec 8) :
    AnswersForm (execClose p hd sec tag s) :=
  (answersForm_finish _).2 (hostReq_wf (fun r t ht => by simp [ht]) h)

@[simp] theorem execHandshakeTimeout_form (h : Memory.wf s.mem) (p : Fin 2) : AnswersForm (execHandshakeTimeout p s) := by
  refine (answersForm_finish _).2 ?_
  (repeat' split) <;> simp [h]

/-! ## The register bus (R24-R31) -/

@[simp] theorem execRegisterWrite_form (h : Memory.wf s.mem) (r : Req) (addr : Word) (v : Word) : AnswersForm (execRegisterWrite r addr v s) := by
  simp [execRegisterWrite, h]

@[simp] theorem execRcRegisterRead_form (h : Memory.wf s.mem) (r : Req) (addr : Word) : AnswersForm (execRcRegisterRead r addr s) := by
  simp [execRcRegisterRead, h]

@[simp] theorem execLowWordRead_form (h : Memory.wf s.mem) (r : Req) (addr : Word) : AnswersForm (execLowWordRead r addr s) := by
  simp [execLowWordRead, h]

@[simp] theorem execLowWordWrite_form (h : Memory.wf s.mem) (r : Req) (addr : Word) (v : Word) : AnswersForm (execLowWordWrite r addr v s) := by
  simp [execLowWordWrite, h]

@[simp] theorem execHighWordWrite_form (h : Memory.wf s.mem) (r : Req) (addr : Word) (v : Word) : AnswersForm (execHighWordWrite r addr v s) := by
  simp [execHighWordWrite, h]

@[simp] theorem execAtomic64bitAccess_form (h : Memory.wf s.mem) (r : Req) (addr : Word) (v : Option DWord) :
    AnswersForm (execAtomic64bitAccess r addr v s) := by
  refine (answersForm_finish _).2 ?_
  (repeat' split) <;> simp [h]

@[simp] theorem execSysAccerrClear_form (h : Memory.wf s.mem) (r : Req) (v : Word) : AnswersForm (execSysAccerrClear r v s) := by
  simp [execSysAccerrClear, h]

@[simp] theorem execPmuCounterWrite_form (h : Memory.wf s.mem) (r : Req) (b : Fin 46) (k : Fin 8) (v : Word) (amt : Nat) :
    AnswersForm (execPmuCounterWrite r b k v amt s) := by
  refine (answersForm_finish _).2 (ite_wf (fun _ => writeBy_wf (fun t ht => by simpa using ht) h) fun _ => ?_)
  have hw := busWrite_wf h r (Reg.PMU_CNT b k) v
  dsimp only
  (repeat' split) <;> simp [hw]

@[simp] theorem execRegWr_form (h : Memory.wf s.mem) (p : Fin 2) (hd : RxHdr) (sec : Option SecTrailer) (tag : BitVec 8) (addr : Word) (v : Word) :
    AnswersForm (execRegWr p hd sec tag addr v s) :=
  (answersForm_finish _).2 (hostReq_wf (fun r t ht => by simp [ht]) h)

@[simp] theorem execRegRd_form (h : Memory.wf s.mem) (p : Fin 2) (hd : RxHdr) (sec : Option SecTrailer) (tag : BitVec 8) (addr : Word) :
    AnswersForm (execRegRd p hd sec tag addr s) :=
  (answersForm_finish _).2 (hostReq_wf (fun r t ht => by simp [ht]) h)

/-! ## Bundles of Lode (R321-R338) -/

@[simp] theorem execLodeBundle_form (h : Memory.wf s.mem) (c : Fin 34) (ecc : Fin 4) : AnswersForm (execLodeBundle c ecc s) := by
  refine (answersForm_finish _).2 ?_
  dsimp only
  (repeat' split) <;> simp [h]

@[simp] theorem execFstBusError_form (h : Memory.wf s.mem) (c : Fin 34) : AnswersForm (execFstBusError c s) := by simp [execFstBusError, h]

/-! ## The management port (R477) -/

@[simp] theorem execMspiWrite_form (h : Memory.wf s.mem) (addr : Word) (words : List Word) : AnswersForm (execMspiWrite addr words s) := by
  simp [execMspiWrite, h]

@[simp] theorem execMspiRead_form (h : Memory.wf s.mem) (addr : Word) (n : Fin 64) : AnswersForm (execMspiRead addr n s) := by simp [execMspiRead, h]
@[simp] theorem execMspiStatus_form (h : Memory.wf s.mem) : AnswersForm (execMspiStatus s) := by simp [execMspiStatus, h]

/-! ## Resets (R8, R439) -/

@[simp] theorem execResetEntry_form (por : Bool) : AnswersForm (execResetEntry por s) := by simp [execResetEntry]
@[simp] theorem execResetExit_form (h : Memory.wf s.mem) (por : Bool) : AnswersForm (execResetExit por s) := by simp [execResetExit, h]
@[simp] theorem execVddAonLoss_form : AnswersForm (execVddAonLoss s) := by simp [execVddAonLoss]
@[simp] theorem execVddAonApply_form (h : Memory.wf s.mem) : AnswersForm (execVddAonApply s) := by simp [execVddAonApply, h]

/-! ## Staged effects (R156, R162) -/

@[simp] theorem execStagedEffect_form (h : Memory.wf s.mem) (e : Fin 5) (mismatch : Bool) : AnswersForm (execStagedEffect e mismatch s) := by
  refine (answersForm_finish _).2 ?_
  have heffects : ∀ l : List Staged, ∀ t : State, Memory.wf t.mem → Memory.wf (l.foldl (fun (t : State) y => t.sbEffect (t.sbActor e) y) t).mem :=
    fun l _ ht => foldl_wf (fun y t ht => sbEffect_wf ht (t.sbActor e) y) l ht
  split
  · exact h
  · exact ite_wf (fun _ => h) fun _ => by simp [heffects, h]

/-! ## The transmit path (R176-R198) -/

@[simp] theorem execSymbolRead_form (h : Memory.wf s.mem) (c : Fin 8) : AnswersForm (execSymbolRead c s) := by simp [execSymbolRead, h]

/-! ## Every command, every step -/

theorem exec_form (h : Memory.wf s.mem) (c : Instr) : AnswersForm (exec c s) := by
  cases c
  all_goals simp [exec, h]

theorem step_form (h : Memory.wf s.mem) : AnswersForm (step s) := by
  unfold step
  split
  · rintro t ⟨⟩
    simpa using h
  · exact exec_form (by exact h) _

/-- Settles O29: a command changes memory by stores, clears and losses alone, which keep the form, or empties it. -/
theorem memoryKeepsItsForm : Obligations.MemoryKeepsItsForm := fun _ t h => step_form h t

end Sys2Proof.Machine
end

section
/-! SUPPORT. What every command leaves: the queue, the model's time and `TB_CNT` (R24, R132). One lemma for each operation of the model, in the order of the model. A
proof turns off `implicitDefEqProofs` where the kernel would otherwise run a fold over registers to compare two states. -/
namespace Sys2Proof.Machine

/-- The commands that wait, the model's time and `TB_CNT` are in `t` what they are in `s`. -/
@[simp] abbrev State.Kept (t s : State) : Prop := t.pending = s.pending ∧ t.tick = s.tick ∧ t.tb = s.tb

theorem State.Kept.rfl {s : State} : s.Kept s := ⟨Eq.refl _, Eq.refl _, Eq.refl _⟩

theorem State.Kept.trans {s t u : State} (h : u.Kept t) (h' : t.Kept s) : u.Kept s :=
  ⟨h.1.trans h'.1, h.2.1.trans h'.2.1, h.2.2.trans h'.2.2⟩

/-! ## Cases, folds, and what leaves every field but a few alone -/

@[simp] theorem State.pending_ite (c : Prop) [Decidable c] (s t : State) : (if c then s else t).pending = if c then s.pending else t.pending :=
  apply_ite State.pending c s t

@[simp] theorem State.tick_ite (c : Prop) [Decidable c] (s t : State) : (if c then s else t).tick = if c then s.tick else t.tick :=
  apply_ite State.tick c s t

@[simp] theorem State.tb_ite (c : Prop) [Decidable c] (s t : State) : (if c then s else t).tb = if c then s.tb else t.tb :=
  apply_ite State.tb c s t

@[simp] theorem State.kept_foldl {α : Type} {f : State → α → State} (h : ∀ t x, (f t x).Kept t) (l : List α) (s : State) :
    (l.foldl f s).Kept s := by
  induction l generalizing s with
  | nil => exact .rfl
  | cons x l ih => exact (ih _).trans (h s x)

@[simp] theorem kept_foldl_fst {α β : Type} {f : State × β → α → State × β} (h : ∀ a x, (f a x).1.Kept a.1) (l : List α) (a : State × β) :
    (l.foldl f a).1.Kept a.1 := by
  induction l generalizing a with
  | nil => exact .rfl
  | cons x l ih => exact (ih _).trans (h a x)

@[simp] theorem kept_foldl_snd {α β : Type} {f : β × State → α → β × State} (h : ∀ a x, (f a x).2.Kept a.2) (l : List α) (a : β × State) :
    (l.foldl f a).2.Kept a.2 := by
  induction l generalizing a with
  | nil => exact .rfl
  | cons x l ih => exact (ih _).trans (h a x)

/-- The three parts together, as a field that logging and transmission leave alone. -/
def State.clock (s : State) : List Instr × Nat × Nat := (s.pending, s.tick, s.tb)

theorem State.Kept.of_clock {s t : State} (h : t.clock = s.clock) : t.Kept s := by simpa [State.clock] using h

theorem untouched_clock : Untouched _ State.clock :=
  ⟨fun _ _ => rfl, fun _ _ => rfl, fun _ _ => rfl, fun _ _ => rfl, fun _ _ => rfl, fun _ _ => rfl, fun _ _ => rfl⟩

variable (s : State)

/-! ## Device memory (R4, R426) -/

@[simp] theorem State.kept_stBytes (a : Nat) (bs : List Byte) : (s.stBytes a bs).Kept s := by
  induction bs generalizing s a with
  | nil => exact .rfl
  | cons b bs ih => exact ih (s.stb a b) (a + 1)

@[simp] theorem State.kept_stN (a n v : Nat) : (s.stN a n v).Kept s := s.kept_stBytes a _
@[simp] theorem State.kept_clearMem (lo hi : Nat) : (s.clearMem lo hi).Kept s := .rfl
@[simp] theorem State.kept_keepMem (g : Nat) : (s.keepMem g).Kept s := .rfl

/-! ## Shared operations: registers, the event log, transmission (R6, R81, R482) -/

@[simp] theorem State.kept_count (a d : Nat) : (s.count a d).Kept s := by simp [State.count]
@[simp] theorem State.kept_count64 (a d : Nat) : (s.count64 a d).Kept s := by simp [State.count64]
@[simp] theorem State.kept_pmuFrom (b ev amt k n : Nat) : (s.pmuFrom b ev amt k n).Kept s := .of_clock (untouched_clock.pmuFrom s b ev amt k n)
@[simp] theorem State.kept_pmuCount (b ev amt : Nat) : (s.pmuCount b ev amt).Kept s := .of_clock (untouched_clock.pmuCount s b ev amt)
@[simp] theorem State.kept_takeFree : s.takeFree.2.Kept s := by simp [State.takeFree]
@[simp] theorem State.kept_wrTime (a t : Nat) : (s.wrTime a t).Kept s := by unfold State.wrTime; split <;> simp
@[simp] theorem State.kept_raise (code unit arg6 arg7 : Nat) : (s.raise code unit arg6 arg7).Kept s := by simp [State.raise]
@[simp] theorem State.kept_putPkts (p : Nat) (qs : List Pkt) : (s.putPkts p qs).Kept s := .of_clock (untouched_clock.putPkts s p qs)
@[simp] theorem State.kept_startStream (p n at_ : Nat) : (s.startStream p n at_).Kept s := by simp [State.startStream]
@[simp] theorem State.kept_pumpSome (p n : Nat) : (s.pumpSome p n).Kept s := by simp [State.pumpSome]
@[simp] theorem State.kept_sessionEnd (p : Nat) : (s.sessionEnd p).Kept s := by simp [State.sessionEnd]
@[simp] theorem State.kept_pump (p : Nat) : (s.pump p).Kept s := .of_clock (untouched_clock.pump s p)

@[simp] theorem State.kept_sendBk (p type len tspec : Nat) (body : List Nat) : (s.sendBk p type len tspec body).Kept s :=
  .of_clock (untouched_clock.sendBk s p type len tspec body)

@[simp] theorem State.kept_sendRt (p type len tspec : Nat) (body : List Nat) : (s.sendRt p type len tspec body).Kept s := by simp [State.sendRt]
@[simp] theorem State.kept_sendLink (p type tspec : Nat) : (s.sendLink p type tspec).Kept s := by simp [State.sendLink]
@[simp] theorem State.kept_sendEvent (p : Nat) (e : EvRec) : (s.sendEvent p e).Kept s := by simp [State.sendEvent]
@[simp] theorem State.kept_logEvent (r : EvReq) : (s.logEvent r).Kept s := .of_clock (untouched_clock.logEvent s r)
@[simp] theorem State.kept_flag (a : Nat) (f : Field) : (s.flag a f).Kept s := by simp [State.flag]
@[simp] theorem State.kept_setsWin : s.setsWin.Kept s := by simp -implicitDefEqProofs [State.setsWin]
@[simp] theorem State.kept_raiseLim (ms code unit arg6 arg7 : Nat) : (s.raiseLim ms code unit arg6 arg7).Kept s := by simp [State.raiseLim]
@[simp] theorem State.kept_recordOffline (r : Req) (addr : Nat) : (s.recordOffline r addr).Kept s := by simp [State.recordOffline]
@[simp] theorem State.kept_endEpisodes : s.endEpisodes.Kept s := by simp [State.endEpisodes]
@[simp] theorem State.kept_answer (r : Req) (code data : Nat) : (s.answer r code data).Kept s := by simp [State.answer]
@[simp] theorem State.kept_dropHeld (r : Req) : (s.dropHeld r).Kept s := by simp [State.dropHeld]
@[simp] theorem State.kept_plainWrite (addr : Nat) (v : Word) : (s.plainWrite addr v).Kept s := by unfold State.plainWrite; split <;> simp
@[simp] theorem State.kept_setSpell (k : Nat) (on : Bool) : (s.setSpell k on).Kept s := by simp [State.setSpell]

/-! ## Memory windows (R152, R234, R261) -/

@[simp] theorem State.kept_freeBytes (n : Nat) : (s.freeBytes n).2.Kept s := by
  induction n generalizing s with
  | zero => exact .rfl
  | succ n ih => simp [State.freeBytes, ih]

@[simp] theorem State.kept_winRead (a n : Nat) : (s.winRead a n).2.2.Kept s := by
  unfold State.winRead
  dsimp only
  (repeat' split) <;> simp

@[simp] theorem State.kept_blockRead (r : Req) (a n : Nat) : (s.blockRead r a n).2.2.Kept s := by
  unfold State.blockRead
  split <;> simp

/-! ## Event flags and work queues (R154, R308) -/

@[simp] theorem State.kept_setFlags (e new c : Nat) : (s.setFlags e new c).Kept s := by simp [State.setFlags]
@[simp] theorem State.kept_evOrAt (e mask c : Nat) : (s.evOrAt e mask c).Kept s := by simp [State.evOrAt]
@[simp] theorem State.kept_evClearAt (e mask c : Nat) : (s.evClearAt e mask c).Kept s := by simp [State.evClearAt]
@[simp] theorem State.kept_evOr (e mask : Nat) : (s.evOr e mask).Kept s := by simp [State.evOr]
@[simp] theorem State.kept_evClear (e mask : Nat) : (s.evClear e mask).Kept s := by simp [State.evClear]
@[simp] theorem State.kept_evSource (src : Nat) : (s.evSource src).Kept s := by simp [State.evSource]
@[simp] theorem State.kept_setWq (q : Nat) (l : List WorkItem) : (s.setWq q l).Kept s := by simp [State.setWq]
@[simp] theorem State.kept_wqPush (q desc arg req : Nat) : (s.wqPush q desc arg req).2.Kept s := by simp [State.wqPush]

/-! ## Mailboxes and Tally locks (R370-R379) -/

@[simp] theorem State.kept_touchClaim (c : Nat) : (s.touchClaim c).Kept s := by simp [State.touchClaim]
@[simp] theorem State.kept_mbxClaim (c req : Nat) : (s.mbxClaim c req).Kept s := by simp [State.mbxClaim]
@[simp] theorem kept_mbxMsgWrite (c k req : Nat) (v : Word) : (mbxMsgWrite c k req v s).2.Kept s := by simp [mbxMsgWrite]
@[simp] theorem State.kept_mbxCopy (c p : Nat) : (s.mbxCopy c p).Kept s := by simp [State.mbxCopy]
@[simp] theorem State.kept_mbxDeliver (c req : Nat) : (s.mbxDeliver c req).Kept s := by simp [State.mbxDeliver]
@[simp] theorem State.kept_mbxPost (c req : Nat) : (s.mbxPost c req).Kept s := by simp [State.mbxPost]
@[simp] theorem kept_mbxDoorbell (c req : Nat) (v : Word) : (mbxDoorbell c req v s).2.Kept s := by simp [mbxDoorbell]

@[simp] theorem kept_mbxMessage (c req : Nat) (words : List Nat) : (mbxMessage c req words s).2.Kept s := by
  simp -implicitDefEqProofs [mbxMessage]

@[simp] theorem kept_mbxMsgRead (c k req : Nat) : (mbxMsgRead c k req s).2.2.Kept s := by simp [mbxMsgRead]
@[simp] theorem State.kept_mbxLapse (c : Nat) : (s.mbxLapse c).Kept s := by simp [State.mbxLapse]
@[simp] theorem kept_mbxFlush (c req : Nat) (v : Word) : (mbxFlush c req v s).2.Kept s := by simp -implicitDefEqProofs [mbxFlush]
@[simp] theorem kept_mbxCfgWrite (a c : Nat) (v : Word) : (mbxCfgWrite a c v s).2.Kept s := by simp [mbxCfgWrite]
@[simp] theorem State.kept_freeLock (k : Nat) : (s.freeLock k).Kept s := by simp [State.freeLock]
@[simp] theorem State.kept_breakLock (k cause : Nat) : (s.breakLock k cause).Kept s := by simp [State.breakLock]
@[simp] theorem State.kept_expireLock (k : Nat) : (s.expireLock k).Kept s := by simp [State.expireLock]
@[simp] theorem kept_tallyRead (k req : Nat) : (tallyRead k req s).2.2.Kept s := by simp [tallyRead]
@[simp] theorem kept_tallyWrite (k req : Nat) (v : Word) : (tallyWrite k req v s).2.Kept s := by simp [tallyWrite]
@[simp] theorem State.kept_ownerLost (id cause : Nat) : (s.ownerLost id cause).Kept s := by simp [State.ownerLost]

/-! ## DMA (R354-R369) -/

@[simp] theorem State.kept_issueRead (c p host off len : Nat) (flush : Bool) : (s.issueRead c p host off len flush).Kept s := by
  unfold State.issueRead; split <;> simp

@[simp] theorem State.kept_issueReads (c n : Nat) : (s.issueReads c n).Kept s := by
  induction n generalizing s with
  | zero => exact .rfl
  | succ n ih => simp [State.issueReads, ih]

@[simp] theorem State.kept_retryReads : s.retryReads.Kept s := by
  refine kept_foldl (fun t c => ?_) _ _
  dsimp only
  split <;> simp

@[simp] theorem State.kept_dropReads (c : Nat) : (s.dropReads c).Kept s := by simp [State.dropReads]
@[simp] theorem kept_dmaShadowWrite (a c : Nat) (v : Word) : (dmaShadowWrite a c v s).2.Kept s := by simp [dmaShadowWrite]

@[simp] theorem State.kept_readBlocks (r : Req) (src n : Nat) (acc : List Byte) : (s.readBlocks r src n acc).1.Kept s := by
  induction n generalizing s src acc with
  | zero => exact .rfl
  | succ n ih =>
    have hread := s.kept_blockRead r src 64
    unfold State.readBlocks
    split <;> simp_all

@[simp] theorem State.kept_hostWrites (c p dst : Nat) (bs : List Byte) (n : Nat) : (s.hostWrites c p dst bs n).Kept s := by
  induction n generalizing s dst bs with
  | zero => exact .rfl
  | succ n ih => simp [State.hostWrites, ih]

@[simp] theorem State.kept_dmaProgress (x : DmaCh) : (s.dmaProgress x).2.Kept s := by simp [State.dmaProgress]
@[simp] theorem kept_cqBaseWrite (a q : Nat) (v : Word) : (cqBaseWrite a q v s).2.Kept s := by simp [cqBaseWrite]
@[simp] theorem State.kept_dropRead (c p tag : Nat) : (s.dropRead c p tag).Kept s := by simp [State.dropRead]

/-! ## The fall of a port (R99, R106) -/

@[simp] theorem State.kept_triggerFailover (cars p : Nat) : (s.triggerFailover cars p).Kept s := by simp [State.triggerFailover]
@[simp] theorem State.kept_updateRole : s.updateRole.Kept s := .rfl

/-! ## Lane operations (R42-R59) -/

@[simp] theorem State.kept_setLst (p k st : Nat) : (s.setLst p k st).Kept s := by simp [State.setLst]
@[simp] theorem State.kept_setPst (p st : Nat) : (s.setPst p st).Kept s := by simp [State.setPst]
@[simp] theorem State.kept_setPmap (a k ph : Nat) : (s.setPmap a k ph).Kept s := by simp [State.setPmap]
@[simp] theorem State.kept_presetTaps (p k : Nat) : (s.presetTaps p k).Kept s := by simp [State.presetTaps]
@[simp] theorem State.kept_sayWords (p : Nat) (s0 : State) : (s.sayWords p s0).Kept s := by simp [State.sayWords]
@[simp] theorem State.kept_sendBack (p cmd arg : Nat) : (s.sendBack p cmd arg).Kept s := by simp [State.sendBack]
@[simp] theorem State.kept_nextReq (p k : Nat) : (s.nextReq p k).Kept s := by simp [State.nextReq]

@[simp] theorem State.kept_toDetect (p : Nat) : (s.toDetect p).Kept s := by
  unfold State.toDetect
  exact kept_foldl (by intros; exact .rfl) nine s

@[simp] theorem State.kept_trainLanes (p : Nat) : (s.trainLanes p).Kept s := by simp -implicitDefEqProofs [State.trainLanes]
@[simp] theorem State.kept_startTraining (p : Nat) : (s.startTraining p).Kept s := by simp -implicitDefEqProofs [State.startTraining]
@[simp] theorem State.kept_attemptFails (p : Nat) : (s.attemptFails p).Kept s := by simp -implicitDefEqProofs [State.attemptFails]
@[simp] theorem State.kept_aloneFails (p k : Nat) : (s.aloneFails p k).Kept s := by simp [State.aloneFails]
@[simp] theorem State.kept_sendNeg (p op : Nat) (payload : List Nat) : (s.sendNeg p op payload).Kept s := by simp [State.sendNeg]
@[simp] theorem State.kept_sendOffer (p : Nat) : (s.sendOffer p).Kept s := by simp [State.sendOffer]
@[simp] theorem State.kept_startNeg (p : Nat) : (s.startNeg p).Kept s := by simp [State.startNeg]
@[simp] theorem State.kept_toDeskew (p : Nat) : (s.toDeskew p).Kept s := by simp [State.toDeskew]
@[simp] theorem State.kept_laneReady (p k : Nat) : (s.laneReady p k).Kept s := by simp [State.laneReady]
@[simp] theorem State.kept_retireLane (p ph : Nat) (rx : Bool) : (s.retireLane p ph rx).Kept s := by simp [State.retireLane]
@[simp] theorem State.kept_abortScan (p ph : Nat) : (s.abortScan p ph).Kept s := by simp [State.abortScan]
@[simp] theorem State.kept_startRxRelief (p k : Nat) : (s.startRxRelief p k).Kept s := by simp [State.startRxRelief]
@[simp] theorem State.kept_takeRelief (p k r : Nat) : (s.takeRelief p k r).Kept s := by simp [State.takeRelief]

/-! ## Lanes (R42-R73) -/

@[simp] theorem State.kept_alignInTraining (p k : Nat) (h : HuntObs) (inv : Bool) : (s.alignInTraining p k h inv).Kept s := by
  simp [State.alignInTraining]

@[simp] theorem State.kept_takeReq (p k w : Nat) : (s.takeReq p k w).Kept s := by simp [State.takeReq]
@[simp] theorem State.kept_takeAck (p k w : Nat) : (s.takeAck p k w).Kept s := by simp [State.takeAck]
@[simp] theorem State.kept_takeRdy (p k w : Nat) : (s.takeRdy p k w).Kept s := by simp [State.takeRdy]
@[simp] theorem State.kept_takeMove (p w : Nat) : (s.takeMove p w).Kept s := by unfold State.takeMove; split <;> simp
@[simp] theorem State.kept_takeWord (p k : Nat) (word : BitVec 128) : (s.takeWord p k word).Kept s := by simp [State.takeWord]
@[simp] theorem State.kept_mapReceive (p : Nat) : (s.mapReceive p).Kept s := by simp -implicitDefEqProofs [State.mapReceive]
@[simp] theorem State.kept_orderCheck (p : Nat) : (s.orderCheck p).Kept s := by simp [State.orderCheck]
@[simp] theorem State.kept_lanesUp (p : Nat) : (s.lanesUp p).Kept s := by simp [State.lanesUp]

@[simp] theorem State.kept_portTrained (p base depth : Nat) : (s.portTrained p base depth).Kept s := by
  simp -implicitDefEqProofs [State.portTrained]

@[simp] theorem State.kept_readyTimeout (p : Nat) : (s.readyTimeout p).Kept s := by
  unfold State.readyTimeout; dsimp only; (repeat' split) <;> simp -implicitDefEqProofs

@[simp] theorem State.kept_abandonRx (p : Nat) : (s.abandonRx p).Kept s := by simp [State.abandonRx]
@[simp] theorem State.kept_unstall (p : Nat) : (s.unstall p).Kept s := by simp [State.unstall]
@[simp] theorem State.kept_startTxRelief (p k : Nat) : (s.startTxRelief p k).Kept s := by simp [State.startTxRelief]
@[simp] theorem State.kept_trainAlone (p k : Nat) : (s.trainAlone p k).Kept s := by simp [State.trainAlone]
@[simp] theorem kept_laneCmdWrite (p : Nat) (v : Word) : (laneCmdWrite p v s).2.Kept s := by unfold laneCmdWrite; split <;> simp
@[simp] theorem State.kept_marginLow (p k : Nat) : (s.marginLow p k).Kept s := by unfold State.marginLow; dsimp only; (repeat' split) <;> simp
@[simp] theorem State.kept_beginScan (p m : Nat) (auto : Bool) : (s.beginScan p m auto).Kept s := by simp [State.beginScan]
@[simp] theorem kept_escanWrite (p : Nat) (v : Word) : (escanWrite p v s).2.Kept s := by simp [escanWrite]
@[simp] theorem State.kept_putEyes (p k : Nat) (pts : List (List Nat)) : (s.putEyes p k pts).Kept s := .rfl
@[simp] theorem State.kept_endScan (p k : Nat) (auto : Bool) (pts : List (List Nat)) : (s.endScan p k auto pts).Kept s := by simp [State.endScan]

/-! ## Links and host requests (R79-R101) -/

@[simp] theorem State.kept_linkErr (p : Nat) (f : Field) : (s.linkErr p f).Kept s := by simp [State.linkErr]
@[simp] theorem State.kept_malformed (p sf : Nat) : (s.malformed p sf).Kept s := by simp [State.malformed]
@[simp] theorem State.kept_sendNak (p : Nat) : (s.sendNak p).Kept s := by simp [State.sendNak]
@[simp] theorem State.kept_rtError (p : Nat) (f : Field) : (s.rtError p f).Kept s := by simp [State.rtError]

@[simp] theorem State.kept_acknowledge (p aseq : Nat) : (s.acknowledge p aseq).Kept s := by
  unfold State.acknowledge; dsimp only; (repeat' split) <;> simp

@[simp] theorem State.kept_sendReject (p reason : Nat) : (s.sendReject p reason).Kept s := by simp [State.sendReject]
@[simp] theorem State.kept_negFail (p : Nat) : (s.negFail p).Kept s := by simp [State.negFail]
@[simp] theorem State.kept_reduceLane (p ph : Nat) : (s.reduceLane p ph).Kept s := by simp [State.reduceLane]
@[simp] theorem State.kept_reduceLanes (p : Nat) : (s.reduceLanes p).Kept s := by simp [State.reduceLanes]
@[simp] theorem State.kept_repostMailboxes (p : Nat) : (s.repostMailboxes p).Kept s := by simp [State.repostMailboxes]

@[simp] theorem State.kept_sendCpl (p tag status : Nat) (secure : Bool) (len : Nat) (body : List Nat) :
    (s.sendCpl p tag status secure len body).Kept s := by
  simp [State.sendCpl]

@[simp] theorem State.kept_secReject (p : Nat) : (s.secReject p).Kept s := by simp [State.secReject]
@[simp] theorem State.kept_takeCtr (p : Nat) (t : SecTrailer) : (s.takeCtr p t).Kept s := by simp [State.takeCtr]
@[simp] theorem kept_linkDhCtlWrite (v : Word) : (linkDhCtlWrite v s).2.Kept s := by simp [linkDhCtlWrite]
@[simp] theorem kept_linkDhCarmapWrite (v : Word) : (linkDhCarmapWrite v s).2.Kept s := by simp [linkDhCarmapWrite]

/-! ## The time base (R131-R150) -/

@[simp] theorem State.kept_reanchor (x t : Nat) : (s.reanchor x t).Kept s := by simp [State.reanchor]
@[simp] theorem State.kept_stepped (x : Nat) : (s.stepped x).Kept s := by simp [State.stepped]
@[simp] theorem State.kept_offsetCommit (x t : Nat) : (s.offsetCommit x t).Kept s := by simp [State.offsetCommit]
@[simp] theorem State.kept_stepCommit (x v : Nat) : (s.stepCommit x v).Kept s := by simp [State.stepCommit]
@[simp] theorem State.kept_incCommit (x v : Nat) : (s.incCommit x v).Kept s := by simp -implicitDefEqProofs [State.incCommit]
@[simp] theorem State.kept_setTsel (x : Nat) : (s.setTsel x).Kept s := by unfold State.setTsel; dsimp only; (repeat' split) <;> simp
@[simp] theorem State.kept_setPps (b : Bool) : (s.setPps b).Kept s := by simp [State.setPps]
@[simp] theorem kept_timeCtlWrite (v : Word) : (timeCtlWrite v s).2.Kept s := by simp [timeCtlWrite]
@[simp] theorem kept_alignCtlWrite (v : Word) : (alignCtlWrite v s).2.Kept s := by simp [alignCtlWrite]
@[simp] theorem State.kept_timeRestart : s.timeRestart.Kept s := by simp [State.timeRestart]
@[simp] theorem State.kept_slewTick : s.slewTick.Kept s := by simp [State.slewTick]
@[simp] theorem State.kept_ppsTick (before : State) : (s.ppsTick before).Kept s := by simp [State.ppsTick]
@[simp] theorem State.kept_stampNow (p : Nat) (f : Field) : (s.stampNow p f).2.Kept s := by simp [State.stampNow]
@[simp] theorem State.kept_sendDreq (p : Nat) : (s.sendDreq p).Kept s := by unfold State.sendDreq; split <;> simp
@[simp] theorem State.kept_exchTick : s.exchTick.Kept s := by simp [State.exchTick]

/-! ## Presentation instants (R135-R146) -/

@[simp] theorem State.kept_setCar (c : Nat) (x : CarSt) : (s.setCar c x).Kept s := by simp [State.setCar]

@[simp] theorem State.kept_symWriteAs (addr : Nat) (v : Word) (views : List (Nat × Th)) : (s.symWriteAs addr v views).Kept s := by
  simp [State.symWriteAs]

@[simp] theorem State.kept_symWrite (addr : Nat) (v : Word) (thr : Th) : (s.symWrite addr v thr).Kept s := by simp [State.symWrite]
@[simp] theorem State.kept_symWrite2 (addr : Nat) (v : Word) (tw : Th) : (s.symWrite2 addr v tw).Kept s := by simp [State.symWrite2]
@[simp] theorem State.kept_restartSync : s.restartSync.Kept s := by simp [State.restartSync]
@[simp] theorem State.kept_raiseFrame (code c : Nat) : (s.raiseFrame code c).Kept s := by simp [State.raiseFrame]

/-! ## Layer traffic (R107-R130) -/

@[simp] theorem State.kept_matchHeld (x : Section) : (s.matchHeld x).Kept s := by simp [State.matchHeld]
@[simp] theorem State.kept_refuseSection (reason : Nat) (x : Section) : (s.refuseSection reason x).Kept s := by simp [State.refuseSection]

@[simp] theorem State.kept_takeSection (p d : Nat) (standby : Bool) : (s.takeSection p d standby).Kept s := by
  unfold State.takeSection
  dsimp only
  cases s.sections.find? (s.namesake (s.sectionOf p d standby)) <;> simp

@[simp] theorem State.kept_takeData (d : DlData) : (s.takeData d).Kept s := by simp [State.takeData]

/-! ## Weights (R230-R239) -/

@[simp] theorem State.kept_setCw (dir h : Nat) (x : CwSt) : (s.setCw dir h x).Kept s := by simp [State.setCw]
@[simp] theorem State.kept_weightChecks (dir : Nat) (x : Section) (air : Th) : (s.weightChecks dir x air).1.Kept s := by simp [State.weightChecks]

/-! ## The receive path (R203-R220) -/

@[simp] theorem State.kept_setZero (path cause : Nat) (on : Bool) (t : Th) : (s.setZero path cause on t).Kept s := by
  unfold State.setZero; dsimp only; (repeat' split) <;> simp

@[simp] theorem State.kept_rxClip (path stage n : Nat) : (s.rxClip path stage n).Kept s := by simp [State.rxClip]

@[simp] theorem State.kept_u3Count (codes : List (Fin 64 × Nat × BitVec 12)) (p : Nat) (a b : Int) : (s.u3Count codes p a b).Kept s := by
  simp [State.u3Count]

@[simp] theorem State.kept_ulPath (y : TxSym) (prbs sh adv : Nat) (codes : List (Fin 64 × Nat × BitVec 12)) (p : Nat) :
    (s.ulPath y prbs sh adv codes p).2.Kept s := by
  simp [State.ulPath]

/-! ## Symbols of the datapaths (R176-R220, R247-R250) -/

@[simp] theorem State.kept_bfErrPast (dir car : Nat) : (s.bfErrPast dir car).Kept s := by simp [State.bfErrPast]
@[simp] theorem State.kept_txClip (path stage n : Nat) : (s.txClip path stage n).Kept s := by simp [State.txClip]
@[simp] theorem State.kept_dpdClip (path n : Nat) : (s.dpdClip path n).Kept s := by simp [State.dpdClip]
@[simp] theorem State.kept_deliverAt (i : Nat) : (s.deliverAt i).Kept s := by unfold State.deliverAt; split <;> simp

@[simp] theorem State.kept_deliverUnits (ready : UlJob → Bool) (n : Nat) : (s.deliverUnits ready n).Kept s := by
  induction n generalizing s with
  | zero => exact .rfl
  | succ n ih => unfold State.deliverUnits; split <;> simp [ih]

@[simp] theorem State.kept_ulTick : s.ulTick.Kept s := by simp [State.ulTick]

@[simp] theorem State.kept_queueUnits (due : Th) (ports c type tspec cw qual stream rep : Nat) (units : List (List Nat)) :
    (s.queueUnits due ports c type tspec cw qual stream rep units).Kept s := by
  simp [State.queueUnits]

@[simp] theorem State.kept_ulSection (c : Nat) (f : Int) (n : Nat) (res : List UlRe) (x : Section) : (s.ulSection c f n res x).Kept s := by
  simp [State.ulSection]

@[simp] theorem State.kept_srsRaw (c : Nat) (f : Int) (n : Nat) (res : List UlRe) (path : Nat) (x : Section) :
    (s.srsRaw c f n res path x).Kept s := by
  simp [State.srsRaw]

@[simp] theorem State.kept_ulInput (c : Nat) (f : Int) (n : Nat) (inp : RxIn) : (s.ulInput c f n inp).2.Kept s := by
  cases inp <;> simp [State.ulInput]

@[simp] theorem State.kept_formNext (p : Nat) : (s.formNext p).Kept s := by
  unfold State.formNext
  (repeat' split) <;> simp

/-! ## Double-banked resources (R151-R153, R240-R246) -/

@[simp] theorem State.kept_setC (e : Nat) (b : Bool) : (s.setC e b).Kept s := by simp [State.setC]
@[simp] theorem State.kept_swapRefused (eng : Option Nat) : (s.swapRefused eng).Kept s := by unfold State.swapRefused; split <;> simp

@[simp] theorem State.kept_showPending (res idx : Nat) (on : Bool) : (s.showPending res idx on).Kept s := by
  simp -implicitDefEqProofs [State.showPending]

@[simp] theorem State.kept_toEntry (e : Nat) : (s.toEntry e).Kept s := by simp [State.toEntry]
@[simp] theorem State.kept_programSwap (e : Nat) : (s.programSwap e).Kept s := by unfold State.programSwap; dsimp only; (repeat' split) <;> simp

@[simp] theorem State.kept_requestSwap (res idx bnd car t : Nat) (te : Th) (eng : Option Nat) :
    (s.requestSwap res idx bnd car t te eng).2.Kept s := by
  unfold State.requestSwap
  dsimp only
  cases eng <;> simp

@[simp] theorem State.kept_flipHandle (dir h : Nat) (b : Th) : (s.flipHandle dir h b).Kept s := by simp [State.flipHandle]
@[simp] theorem State.kept_dpdSwap (p : Nat) (b : Th) : (s.dpdSwap p b).Kept s := by unfold State.dpdSwap; split <;> simp
@[simp] theorem State.kept_roleChange (w : SwapPend) : (s.roleChange w).Kept s := by simp -implicitDefEqProofs [State.roleChange]
@[simp] theorem State.kept_moveSwap (w w' : SwapPend) : (s.moveSwap w w').Kept s := by simp [State.moveSwap]
@[simp] theorem State.kept_deferSwap (w : SwapPend) : (s.deferSwap w).Kept s := by unfold State.deferSwap; (repeat' split) <;> simp
@[simp] theorem State.kept_showOld (res idx : Nat) (on : Bool) : (s.showOld res idx on).Kept s := by simp [State.showOld]

@[simp] theorem kept_beamSwapreqWrite (v : Word) : (beamSwapreqWrite v s).2.Kept s := by
  unfold beamSwapreqWrite
  dsimp only
  split
  · simp
  · split
    next hswap => exact (congrArg (·.2.Kept s) hswap).mp (State.kept_requestSwap ..)
    next => simp

@[simp] theorem kept_dpdSwapreqWrite (v : Word) : (dpdSwapreqWrite v s).2.Kept s := by
  unfold dpdSwapreqWrite
  dsimp only
  split
  · simp
  · split
    next hswap => exact (congrArg (·.2.Kept s) hswap).mp (State.kept_requestSwap ..)
    next => simp

@[simp] theorem kept_sbSwapreqWrite (e : Nat) (v : Word) : (sbSwapreqWrite e v s).2.Kept s := by
  unfold sbSwapreqWrite
  dsimp only
  split
  · simp
  · split
    next hswap => exact ((congrArg (fun x : Nat × State => x.2.Kept _) hswap).mp (State.kept_requestSwap ..)).trans (s.kept_plainWrite _ v)
    next => simp

@[simp] theorem State.kept_cwMiss (dir h : Nat) (now : Th) : (s.cwMiss dir h now).Kept s := by simp [State.cwMiss]
@[simp] theorem State.kept_cwRefuse (reason dir h : Nat) : (s.cwRefuse reason dir h).2.Kept s := by simp [State.cwRefuse]
@[simp] theorem kept_cwArmWrite (v : Word) (tw : Th) : (cwArmWrite v tw s).2.Kept s := by simp [cwArmWrite]
@[simp] theorem kept_cwCommitWrite (v : Word) (tc : Th) : (cwCommitWrite v tc s).2.Kept s := by simp [cwCommitWrite]

/-! ## Carriers and slices (R183, R184, R199-R202) -/

@[simp] theorem State.kept_mutedUntil (p : Nat) (t : Th) : (s.mutedUntil p t).Kept s := by simp [State.mutedUntil]
@[simp] theorem State.kept_setMuted (p : Nat) (on : Bool) : (s.setMuted p on).Kept s := by simp [State.setMuted]
@[simp] theorem State.kept_markMuted (p : Nat) : (s.markMuted p).Kept s := by simp [State.markMuted]
@[simp] theorem State.kept_hwMute (p : Nat) (f : Field) : (s.hwMute p f).Kept s := by simp [State.hwMute]
@[simp] theorem State.kept_hwUnmute (p : Nat) (f : Field) : (s.hwUnmute p f).Kept s := by simp [State.hwUnmute]
@[simp] theorem State.kept_hostMute (p : Nat) (on : Bool) (tw : Th) : (s.hostMute p on tw).Kept s := by simp [State.hostMute]
@[simp] theorem kept_txPathCtlWrite (p : Nat) (v : Word) (tw : Th) : (txPathCtlWrite p v tw s).2.Kept s := by simp [txPathCtlWrite]
@[simp] theorem kept_sampleWrite (a : Nat) (d : Th) (v : Word) (tw : Th) : (sampleWrite a d v tw s).2.Kept s := by simp [sampleWrite]
@[simp] theorem State.kept_setSlice (p sl : Nat) : (s.setSlice p sl).Kept s := by simp [State.setSlice]
@[simp] theorem State.kept_markSlice (sl : Nat) : (s.markSlice sl).Kept s := by simp [State.markSlice]
@[simp] theorem State.kept_setSliceSync (u : Nat) (x : Option SliceSync) : (s.setSliceSync u x).Kept s := by simp [State.setSliceSync]
@[simp] theorem kept_txMuteWrite (p : Nat) (v : Word) : (txMuteWrite p v s).2.Kept s := by simp [txMuteWrite]
@[simp] theorem State.kept_takeOver (u p spare : Nat) : (s.takeOver u p spare).Kept s := by simp [State.takeOver]
@[simp] theorem kept_sliceReliefWrite (u : Nat) (v : Word) : (sliceReliefWrite u v s).2.Kept s := by simp [sliceReliefWrite]
@[simp] theorem State.kept_carDown (c dir : Nat) (tw : Th) : (s.carDown c dir tw).Kept s := by simp [State.carDown]
@[simp] theorem State.kept_carRise (c : Nat) : (s.carRise c).Kept s := by simp [State.carRise]
@[simp] theorem State.kept_toffApply (tw : Th) : (s.toffApply tw).Kept s := by simp [State.toffApply]
@[simp] theorem kept_carCtlWrite (c : Nat) (v : Word) (tw : Th) : (carCtlWrite c v tw s).2.Kept s := by simp [carCtlWrite]
@[simp] theorem kept_carLockedWrite (c a : Nat) (v : Word) : (carLockedWrite c a v s).2.Kept s := by simp [carLockedWrite]
@[simp] theorem kept_carTxWrite (a : Nat) (v : Word) (tw : Th) : (carTxWrite a v tw s).2.Kept s := by simp [carTxWrite]
@[simp] theorem kept_carRxWrite (a : Nat) (v : Word) (tw : Th) : (carRxWrite a v tw s).2.Kept s := by simp [carRxWrite]
@[simp] theorem kept_cfrPulseWrite (a : Nat) (v : Word) : (cfrPulseWrite a v s).2.Kept s := by simp [cfrPulseWrite]
@[simp] theorem kept_rxPathCtlWrite (p : Nat) (v : Word) (tw : Th) : (rxPathCtlWrite p v tw s).2.Kept s := by simp [rxPathCtlWrite]

/-! ## PRACH (R221-R225) -/

@[simp] theorem kept_prachCtlWrite (j : Nat) (v : Word) : (prachCtlWrite j v s).2.Kept s := by simp [prachCtlWrite]
@[simp] theorem kept_prachFstartWrite (j : Nat) (v : Word) : (prachFstartWrite j v s).2.Kept s := by simp [prachFstartWrite]

@[simp] theorem State.kept_prachInput (j : Nat) (w : Word) (air a b : Th) (rep n : Nat) (inp : RxIn) :
    (s.prachInput j w air a b rep n inp).2.Kept s := by
  cases inp <;> simp [State.prachInput]

@[simp] theorem State.kept_prachStream (c : Nat) (w : Word) (ports tspec cw : Nat) (a b : Th) (rep : Nat) (vals : List UlRe)
    (st : Nat × Bool × List (Int × Int)) : (s.prachStream c w ports tspec cw a b rep vals st).Kept s := by
  simp [State.prachStream]

/-! ## Dual homing (R100-R102) -/

@[simp] theorem State.kept_setServe (c code : Nat) (b : Th) : (s.setServe c code b).Kept s := by simp [State.setServe]

/-! ## Captures (R262-R274) -/

@[simp] theorem State.kept_setCage (a : Nat) (x : CageArb) : (s.setCage a x).Kept s := by simp [State.setCage]
@[simp] theorem State.kept_showPend (q : CapReq) (on : Bool) : (s.showPend q on).Kept s := by simp [State.showPend]
@[simp] theorem State.kept_showGrant (q : CapReq) (on : Bool) : (s.showGrant q on).Kept s := by simp [State.showGrant]
@[simp] theorem State.kept_capComplete (q : CapReq) (status : Nat) : (s.capComplete q status).Kept s := by simp [State.capComplete]
@[simp] theorem State.kept_giveTicket (q : CapReq) (t : Nat) : (s.giveTicket q t).Kept s := by simp [State.giveTicket]
@[simp] theorem State.kept_capEnqueue (a : Nat) (q : CapReq) : (s.capEnqueue a q).Kept s := by simp [State.capEnqueue]
@[simp] theorem State.kept_capLow (path : Nat) : (s.capLow path).Kept s := by simp [State.capLow]
@[simp] theorem State.kept_capTick : s.capTick.Kept s := by simp [State.capTick]
@[simp] theorem kept_cageCfgWrite (g : Nat) (v : Word) : (cageCfgWrite g v s).2.Kept s := by simp [cageCfgWrite]

/-! ## Converters (R275-R293) -/

@[simp] theorem State.kept_setAdc (u : Nat) (x : ConvAdc) : (s.setAdc u x).Kept s := by simp [State.setAdc]
@[simp] theorem State.kept_adcReplace (u out_ in_ : Nat) : (s.adcReplace u out_ in_).Kept s := by unfold State.adcReplace; split <;> simp
@[simp] theorem State.kept_adcRetire (u sub : Nat) : (s.adcRetire u sub).Kept s := by simp [State.adcRetire]
@[simp] theorem kept_adcCmdWrite (u : Nat) (v : Word) : (adcCmdWrite u v s).2.Kept s := by simp [adcCmdWrite]
@[simp] theorem State.kept_setDac (p : Nat) (x : ConvDac) : (s.setDac p x).Kept s := by simp [State.setDac]
@[simp] theorem State.kept_cellRetire (p : Nat) (cell : Option Nat) : (s.cellRetire p cell).Kept s := by unfold State.cellRetire; split <;> simp
@[simp] theorem kept_dacCmdWrite (p : Nat) (v : Word) : (dacCmdWrite p v s).2.Kept s := by simp [dacCmdWrite]
@[simp] theorem State.kept_refreshAlias : s.refreshAlias.Kept s := by simp -implicitDefEqProofs [State.refreshAlias]

@[simp] theorem kept_ncoWrite (a : Nat) (tx : Bool) (k : Nat) (v : Word) : (ncoWrite a tx k v s).2.Kept s := by
  simp -implicitDefEqProofs [ncoWrite]

@[simp] theorem kept_ncoSelWrite (v : Word) (tw : Th) : (ncoSelWrite v tw s).2.Kept s := by simp -implicitDefEqProofs [ncoSelWrite]
@[simp] theorem kept_convModeWrite (a : Nat) (v : Word) : (convModeWrite a v s).2.Kept s := by simp [convModeWrite]
@[simp] theorem State.kept_startAlign : s.startAlign.Kept s := by simp [State.startAlign]
@[simp] theorem kept_alignSoftWrite (v : Word) : (alignSoftWrite v s).2.Kept s := by simp [alignSoftWrite]
@[simp] theorem State.kept_alignReset : s.alignReset.Kept s := by simp [State.alignReset]

/-! ## Auxiliary DACs (R410-R413) -/

@[simp] theorem State.kept_setAux (n : Nat) (x : AuxCh) : (s.setAux n x).Kept s := by simp [State.setAux]
@[simp] theorem State.kept_setHold (n : Nat) (b : Bool) : (s.setHold n b).Kept s := by simp [State.setHold]
@[simp] theorem State.kept_auxMove (n code : Nat) : (s.auxMove n code).Kept s := by simp [State.auxMove]
@[simp] theorem kept_auxDacWrite (n : Nat) (v : Word) : (auxDacWrite n v s).2.Kept s := by simp [auxDacWrite]
@[simp] theorem kept_auxClrCodeWrite (n : Nat) (v : Word) : (auxClrCodeWrite n v s).2.Kept s := by simp [auxClrCodeWrite]
@[simp] theorem State.kept_auxClear (n : Nat) : (s.auxClear n).Kept s := by simp [State.auxClear]
@[simp] theorem State.kept_auxClearAll : s.auxClearAll.Kept s := by simp [State.auxClearAll]
@[simp] theorem kept_auxCtlWrite (v : Word) : (auxCtlWrite v s).2.Kept s := by simp [auxCtlWrite]
@[simp] theorem State.kept_auxCorrected (n : Nat) : (s.auxCorrected n).Kept s := by simp [State.auxCorrected]

/-! ## Calibration (R381-R401) -/

@[simp] theorem State.kept_assayAny : s.assayAny.Kept s := by simp -implicitDefEqProofs [State.assayAny]
@[simp] theorem State.kept_assayConv : s.assayConv.Kept s := by simp [State.assayConv]
@[simp] theorem State.kept_assayRestart : s.assayRestart.Kept s := by simp [State.assayRestart]

@[simp] theorem State.kept_assayConsequence (item unit elem : Nat) : (s.assayConsequence item unit elem).Kept s := by
  simp [State.assayConsequence]

@[simp] theorem State.kept_assayFailed (item unit elem : Nat) : (s.assayFailed item unit elem).Kept s := by
  simp -implicitDefEqProofs [State.assayFailed]

@[simp] theorem State.kept_assayPut (key val : Nat) : (s.assayPut key val).Kept s := by simp [State.assayPut]
@[simp] theorem State.kept_assayPassed (item unit elem val : Nat) : (s.assayPassed item unit elem val).Kept s := by simp [State.assayPassed]
@[simp] theorem State.kept_assayTick : s.assayTick.Kept s := by simp [State.assayTick]
@[simp] theorem State.kept_assayEnds (item unit : Nat) : (s.assayEnds item unit).Kept s := by simp [State.assayEnds]
@[simp] theorem State.kept_blobEnd (restore : Bool) (result : Nat) : (s.blobEnd restore result).Kept s := by simp [State.blobEnd]
@[simp] theorem kept_assaySaveWrite (v : Word) : (assaySaveWrite v s).2.Kept s := by simp [assaySaveWrite]
@[simp] theorem kept_assayRestoreWrite (v : Word) : (assayRestoreWrite v s).2.Kept s := by simp [assayRestoreWrite]
@[simp] theorem kept_assayCtlWrite (v : Word) : (assayCtlWrite v s).2.Kept s := by simp [assayCtlWrite]
@[simp] theorem kept_assayFailWrite (a : Nat) (v : Word) : (assayFailWrite a v s).2.Kept s := by simp -implicitDefEqProofs [assayFailWrite]
@[simp] theorem kept_assayNetWrite (a item : Nat) (v : Word) : (assayNetWrite a item v s).2.Kept s := by simp [assayNetWrite]

/-! ## The monitor (R402-R409) -/

@[simp] theorem State.kept_monShow : s.monShow.Kept s := by simp [State.monShow]
@[simp] theorem State.kept_setMon (m : MonSt) : (s.setMon m).Kept s := by simp [State.setMon]

@[simp] theorem State.kept_monStart (entry urg : Option Nat) (cfg slot tick : Nat) : (s.monStart entry urg cfg slot tick).Kept s := by
  simp [State.monStart]

@[simp] theorem State.kept_monEntry (k slot : Nat) : (s.monEntry k slot).Kept s := by unfold State.monEntry; dsimp only; (repeat' split) <;> simp
@[simp] theorem State.kept_monGo (slot : Nat) : (s.monGo slot).Kept s := by unfold State.monGo; dsimp only; (repeat' split) <;> simp
@[simp] theorem State.kept_monDone (x : MonRun) (samples : List Int) : (s.monDone x samples).Kept s := by simp [State.monDone]
@[simp] theorem State.kept_monCompare (k code : Nat) : (s.monCompare k code).Kept s := by simp [State.monCompare]
@[simp] theorem State.kept_monWrite (p : MonPipe) : (s.monWrite p).Kept s := by unfold State.monWrite; (repeat' split) <;> simp
@[simp] theorem State.kept_monTick : s.monTick.Kept s := by simp [State.monTick]
@[simp] theorem kept_monCtlWrite (v : Word) : (monCtlWrite v s).2.Kept s := by simp [monCtlWrite]

@[simp] theorem State.kept_monAccept (req : Option Nat) (cfg : Nat) : (s.monAccept req cfg).Kept s := by
  unfold State.monAccept; dsimp only; (repeat' split) <;> simp

@[simp] theorem kept_monUrgWrite (req : Nat) (v : Word) : (monUrgWrite req v s).2.Kept s := by simp [monUrgWrite]
@[simp] theorem kept_monWinWrite (k : Nat) (v : Word) : (monWinWrite k v s).2.Kept s := by simp [monWinWrite]

/-! ## The Lode cluster (R303-R325) -/

@[simp] theorem State.kept_setCore (c : Nat) (k : LodeCore) : (s.setCore c k).Kept s := by simp [State.setCore]
@[simp] theorem State.kept_setCoreState (c st : Nat) : (s.setCoreState c st).Kept s := by simp [State.setCoreState]
@[simp] theorem State.kept_lodeTick : s.lodeTick.Kept s := by simp [State.lodeTick]
@[simp] theorem State.kept_addRunning (q : Nat) (up : Bool) : (s.addRunning q up).Kept s := by simp [State.addRunning]
@[simp] theorem kept_wqPushWrite (q req : Nat) (v : Word) : (wqPushWrite q req v s).2.Kept s := by simp [wqPushWrite]
@[simp] theorem State.kept_withdraw (req : Nat) : (s.withdraw req).Kept s := by simp [State.withdraw]
@[simp] theorem State.kept_lodeTrap (c code pc : Nat) : (s.lodeTrap c code pc).Kept s := by simp [State.lodeTrap]
@[simp] theorem State.kept_coreFree (c : Nat) : (s.coreFree c).Kept s := by simp [State.coreFree]
@[simp] theorem State.kept_clStat : s.clStat.Kept s := by simp [State.clStat]
@[simp] theorem State.kept_beginCopy : s.beginCopy.Kept s := by unfold State.beginCopy; split <;> simp
@[simp] theorem State.kept_takeCore (c : Nat) (r : Option Nat) : (s.takeCore c r).Kept s := by unfold State.takeCore; split <;> simp
@[simp] theorem State.kept_endRetire : s.endRetire.Kept s := by simp [State.endRetire]
@[simp] theorem kept_lodeReliefWrite (v : Word) : (lodeReliefWrite v s).2.Kept s := by simp [lodeReliefWrite]
@[simp] theorem kept_lodeCtlWrite (c : Nat) (v : Word) : (lodeCtlWrite c v s).2.Kept s := by simp [lodeCtlWrite]

/-! ## Shiftboss engines (R154-R175) -/

@[simp] theorem State.kept_setSb (e st : Nat) : (s.setSb e st).Kept s := by simp [State.setSb]
@[simp] theorem State.kept_setPc (e pc : Nat) : (s.setPc e pc).Kept s := by simp [State.setPc]
@[simp] theorem State.kept_setG (e n v : Nat) : (s.setG e n v).Kept s := by simp [State.setG]
@[simp] theorem State.kept_sbFault (e code : Nat) : (s.sbFault e code).Kept s := by simp [State.sbFault]

@[simp] theorem State.kept_setStacks (e : Nat) (loops : List (Nat × Nat)) (calls : List Nat) : (s.setStacks e loops calls).Kept s := by
  simp [State.setStacks]

@[simp] theorem State.kept_sbFaultHere (e code : Nat) : (s.sbFaultHere e code).Kept s := by simp [State.sbFaultHere]

@[simp] theorem State.kept_sbLate (e i t : Nat) (tw : Th) (skip : Option Nat) : (s.sbLate e i t tw skip).Kept s := by
  unfold State.sbLate; split <;> simp

@[simp] theorem State.kept_sbTimeWait (e w i t : Nat) (tw : Th) : (s.sbTimeWait e w i t tw).Kept s := by simp [State.sbTimeWait]
@[simp] theorem State.kept_sbRelease (e at_ : Nat) (relT : Option Th) : (s.sbRelease e at_ relT).Kept s := by simp [State.sbRelease]
@[simp] theorem State.kept_sbStage (e i : Nat) (op : StagedOp) : (s.sbStage e i op).Kept s := by simp [State.sbStage]
@[simp] theorem State.kept_sbCopyRegs (e : Nat) : (s.sbCopyRegs e).Kept s := by simp -implicitDefEqProofs [State.sbCopyRegs]
@[simp] theorem State.kept_sbIssued (e : Nat) (ok : Bool) : (s.sbIssued e ok).Kept s := by simp [State.sbIssued]
@[simp] theorem State.kept_sbTaken (e : Nat) : (s.sbTaken e).Kept s := by simp [State.sbTaken]
@[simp] theorem kept_sbCtlWrite (e : Nat) (v : Word) : (sbCtlWrite e v s).2.Kept s := by unfold sbCtlWrite; dsimp only; (repeat' split) <;> simp
@[simp] theorem kept_sbTlastWrite (e v : Nat) : (sbTlastWrite e v s).2.Kept s := by simp [sbTlastWrite]
@[simp] theorem State.kept_setPins (mask lv : Nat) : (s.setPins mask lv).Kept s := by simp [State.setPins]
@[simp] theorem kept_feSafeWrite (v : Word) : (feSafeWrite v s).2.Kept s := by simp [feSafeWrite]
@[simp] theorem State.kept_feSafe : s.feSafe.Kept s := by simp [State.feSafe]
@[simp] theorem State.kept_sbSafe : s.sbSafe.Kept s := by simp [State.sbSafe]
@[simp] theorem State.kept_setFe (p : Nat) (fs : List FeFrame) (at_ : Nat) : (s.setFe p fs at_).Kept s := by simp [State.setFe]
@[simp] theorem State.kept_feRelease (e p : Nat) : (s.feRelease e p).Kept s := by unfold State.feRelease; split <;> simp

/-! ## Repair (R466-R473) -/

@[simp] theorem State.kept_quiet {f : State → State} (h : (f s).Kept s) : (s.quiet f).Kept s := by
  simp [State.quiet, h]

@[simp] theorem State.kept_retireUnit (kind unit elem array : Nat) : (s.retireUnit kind unit elem array).Kept s := by
  unfold State.retireUnit; (repeat' split) <;> simp

@[simp] theorem State.kept_applyRec (r : OtpRec) : (s.applyRec r).Kept s := by simp [State.applyRec]
@[simp] theorem State.kept_repairStat : s.repairStat.Kept s := by simp [State.repairStat]
@[simp] theorem State.kept_applyRepair : s.applyRepair.Kept s := by simp [State.applyRepair]

/-! ## Power (R415-R439) -/

@[simp] theorem State.kept_setPower (f : PowerSt → PowerSt) : (s.setPower f).Kept s := by simp [State.setPower]
@[simp] theorem State.kept_setClk (f : Field) (on : Bool) : (s.setClk f on).Kept s := by simp [State.setClk]
@[simp] theorem State.kept_setSeq (k : Nat) (on : Bool) : (s.setSeq k on).Kept s := by simp [State.setSeq]
@[simp] theorem State.kept_setTrans (t : Option Trans) : (s.setTrans t).Kept s := by simp [State.setTrans]
@[simp] theorem State.kept_reachState (st : Nat) : (s.reachState st).Kept s := by simp [State.reachState]
@[simp] theorem State.kept_classClock : s.classClock.Kept s := by simp [State.classClock]
@[simp] theorem State.kept_setBroken (k : Nat) (b : Bool) : (s.setBroken k b).Kept s := by simp [State.setBroken]
@[simp] theorem State.kept_sensorOff (k : Nat) : (s.sensorOff k).Kept s := by simp [State.sensorOff]
@[simp] theorem State.kept_convPowerUp : s.convPowerUp.Kept s := by simp -implicitDefEqProofs [State.convPowerUp]
@[simp] theorem State.kept_laneClocks (on : Bool) : (s.laneClocks on).Kept s := by simp [State.laneClocks]
@[simp] theorem State.kept_aditStep3 : s.aditStep3.Kept s := by simp [State.aditStep3]
@[simp] theorem State.kept_startAdit : s.startAdit.Kept s := by simp [State.startAdit]
@[simp] theorem State.kept_arriveIdle (start : Nat) : (s.arriveIdle start).Kept s := by simp -implicitDefEqProofs [State.arriveIdle]
@[simp] theorem State.kept_arriveReady : s.arriveReady.Kept s := by simp [State.arriveReady]
@[simp] theorem State.kept_abortEntry (point : Nat) : (s.abortEntry point).Kept s := by simp [State.abortEntry]
@[simp] theorem State.kept_stateMute (on : Bool) : (s.stateMute on).Kept s := by simp [State.stateMute]
@[simp] theorem State.kept_toReady : s.toReady.Kept s := by simp [State.toReady]
@[simp] theorem State.kept_classChange (cls noff : Nat) (tw : Th) : (s.classChange cls noff tw).Kept s := by simp [State.classChange]
@[simp] theorem kept_pwrClassWrite (v : Word) (tw : Th) : (pwrClassWrite v tw s).2.Kept s := by simp [pwrClassWrite]

/-! ## Temperatures (R434-R438) -/

@[simp] theorem State.kept_sensorUpdate (k : Nat) (r : SensorRead) : (s.sensorUpdate k r).Kept s := by
  unfold State.sensorUpdate; (repeat' split) <;> simp

@[simp] theorem State.kept_setLevel (f : Field) (on : Bool) : (s.setLevel f on).Kept s := by simp [State.setLevel]
@[simp] theorem kept_pwrStatusWrite (v : Word) : (pwrStatusWrite v s).2.Kept s := by simp [pwrStatusWrite]

/-! ## Boot and enclave services (R440-R463) -/

@[simp] theorem State.kept_setSec (f : SecSt → SecSt) : (s.setSec f).Kept s := by simp [State.setSec]
@[simp] theorem State.kept_setOtp (f : OtpSt → OtpSt) : (s.setOtp f).Kept s := by simp [State.setOtp]
@[simp] theorem State.kept_rejectImage (status : Nat) : (s.rejectImage status).Kept s := by simp [State.rejectImage]
@[simp] theorem State.kept_svcReply (q : SvcReq) (status : Nat) : (s.svcReply q status).Kept s := by simp -implicitDefEqProofs [State.svcReply]
@[simp] theorem State.kept_recordImage (i : Image) : (s.recordImage i).Kept s := by simp -implicitDefEqProofs [State.recordImage]
@[simp] theorem State.kept_fwRestart (q : Option SvcReq) : (s.fwRestart q).Kept s := by simp [State.fwRestart]
@[simp] theorem State.kept_idSign (msg : List Byte) : (s.idSign msg).2.Kept s := by simp [State.idSign]
@[simp] theorem State.kept_otpEnd (q : SvcReq) (status : Nat) : (s.otpEnd q status).Kept s := by simp -implicitDefEqProofs [State.otpEnd]

@[simp] theorem State.kept_revokeSlot (n : Nat) : (s.revokeSlot n).Kept s := by
  unfold State.revokeSlot; dsimp only; (repeat' split) <;> simp -implicitDefEqProofs

@[simp] theorem State.kept_otpMark (o : OtpOp) : (s.otpMark o).Kept s := by unfold State.otpMark; split <;> simp -implicitDefEqProofs

/-! ## Performance counters (R490-R494) -/

@[simp] theorem kept_pmuCtlWrite (v : Word) : (pmuCtlWrite v s).2.Kept s := by simp [pmuCtlWrite]
@[simp] theorem kept_pmuSelWrite (b k : Nat) (v : Word) : (pmuSelWrite b k v s).2.Kept s := by simp [pmuSelWrite]
@[simp] theorem State.kept_pmuLost (b : Nat) : (s.pmuLost b).Kept s := by simp [State.pmuLost]
@[simp] theorem State.kept_pmuStore (b k : Nat) (v : Word) (amt : Nat) : (s.pmuStore b k v amt).Kept s := by simp [State.pmuStore]
@[simp] theorem State.kept_pmuCopy (b : Nat) : (s.pmuCopy b).Kept s := by simp -implicitDefEqProofs [State.pmuCopy]

@[simp] theorem State.kept_pmuFreezes (l : List (Bool × Nat)) : (s.pmuFreezes l).Kept s := by
  induction l generalizing s with
  | nil => exact .rfl
  | cons x l ih => simp [State.pmuFreezes, ih]

@[simp] theorem State.kept_pmuTick : s.pmuTick.Kept s := by
  unfold State.pmuTick
  dsimp only
  cases s.pmu.snapAt <;> simp -implicitDefEqProofs

/-! ## Secure sessions (R103-R106) -/

@[simp] theorem State.kept_sendHs (p sub : Nat) (payload : List Byte) : (s.sendHs p sub payload).Kept s := by simp [State.sendHs]
@[simp] theorem State.kept_hsFail (p reason : Nat) : (s.hsFail p reason).Kept s := by simp [State.hsFail]

/-! ## The register bus (R24-R31) -/

@[simp] theorem State.kept_clearRead (a : Nat) : (s.clearRead a).Kept s := by unfold State.clearRead; split <;> simp

@[simp] theorem State.kept_regRead (r : Req) (a : Nat) : (s.regRead r a).2.2.Kept s := by
  unfold State.regRead
  split <;> simp [mbxMsgRead, tallyRead]

@[simp] theorem State.kept_busRead (r : Req) (a : Nat) : (s.busRead r a).2.2.Kept s := by
  unfold State.busRead
  dsimp only
  (repeat' split) <;> simp

@[simp] theorem kept_accerrWrite (v : Word) : (accerrWrite v s).2.Kept s := by simp [accerrWrite]
@[simp] theorem kept_ppsoWrite (v : Word) : (ppsoWrite v s).2.Kept s := by simp [ppsoWrite]
@[simp] theorem kept_plainRule (a : Nat) (v : Word) : (plainRule a v s).2.Kept s := by simp [plainRule]
@[simp] theorem State.kept_dropOther (r : Req) (base : Nat) : (s.dropOther r base).Kept s := by simp [State.dropOther]
@[simp] theorem State.kept_hold (r : Req) (base w : Nat) (v : Word) : (s.hold r base w v).Kept s := by simp [State.hold]

@[simp] theorem State.kept_busRead64 (r : Req) (a : Nat) : (s.busRead64 r a).2.2.Kept s := by
  unfold State.busRead64
  dsimp only
  (repeat' split) <;> simp

/-! ## Bundles of Lode (R321-R338) -/

@[simp] theorem State.kept_lodeSticky (c aov sat : Nat) : (s.lodeSticky c aov sat).Kept s := by simp [State.lodeSticky]
@[simp] theorem State.kept_bundleTraps (c code pc : Nat) : (s.bundleTraps c code pc).Kept s := by simp [State.bundleTraps]

/-! ## The management port (R477) -/

@[simp] theorem State.kept_mspiNote (c : Nat) : (s.mspiNote c).Kept s := by simp [State.mspiNote]

@[simp] theorem State.kept_mspiReads (a n : Nat) : (s.mspiReads a n).2.Kept s := by
  induction n generalizing s a with
  | zero => exact .rfl
  | succ n ih => simp [State.mspiReads, ih]

/-! ## Staged effects (R156, R162) -/

@[simp] theorem State.kept_sbBusErr (e a : Nat) : (s.sbBusErr e a).Kept s := by simp [State.sbBusErr]
@[simp] theorem State.kept_gateRx (sleep : Bool) (p : Nat) : (s.gateRx sleep p).Kept s := by simp [State.gateRx]
@[simp] theorem State.kept_sbGate (dir : Nat) (sleep : Bool) (mask : Nat) : (s.sbGate dir sleep mask).Kept s := by simp [State.sbGate]
@[simp] theorem State.kept_feDenied (e : Nat) : (s.feDenied e).Kept s := by simp [State.feDenied]
@[simp] theorem State.kept_sbFectl (e fop mask v : Nat) : (s.sbFectl e fop mask v).Kept s := by simp [State.sbFectl]

@[simp] theorem State.kept_sbFesend (e due : Nat) (r : Bool) (port nbits data rb : Nat) : (s.sbFesend e due r port nbits data rb).Kept s := by
  simp [State.sbFesend]

/-! ## The transmit path (R176-R198) -/

@[simp] theorem State.kept_symbolPath (secs : List Section) (air : Th) (n c bfs sh a : Nat) : (s.symbolPath secs air n c bfs sh a).2.Kept s := by
  simp [State.symbolPath]

@[simp] theorem State.kept_readSymbol (c : Nat) (f : Int) (n : Nat) (here : List Section) : (s.readSymbol c f n here).Kept s := by
  simp [State.readSymbol]

@[simp] theorem State.kept_frontTick (p : Nat) : (s.frontTick p).Kept s := by simp [State.frontTick]
@[simp] theorem State.kept_backTick (p : Nat) : (s.backTick p).Kept s := by simp [State.backTick]
@[simp] theorem State.kept_txTick : s.txTick.Kept s := by simp [State.txTick]

/-! ## A tick of model time -/

@[simp] theorem State.kept_statePmu : s.statePmu.Kept s := by simp [State.statePmu]

@[simp] theorem State.tick_timeTick : s.timeTick.tick = s.tick + 1 := by simp [State.timeTick]

@[simp] theorem State.tb_timeTick : s.timeTick.tb = if s.tclk then (s.tb + 1) % 2 ^ 64 else s.tb := by
  have hclk : ({ s with tick := s.tick + 1 } : State).tclk = s.tclk := rfl
  unfold State.timeTick
  dsimp only
  rw [hclk]
  split <;> simp

/-- A tick counts one in the model's time, and one in `TB_CNT` while TCLK runs (R132). -/
theorem State.idleTick_counts : s.idleTick.tick = s.tick + 1 ∧ s.idleTick.tb = if s.tclk then (s.tb + 1) % 2 ^ 64 else s.tb := by
  simp [State.idleTick]

end Sys2Proof.Machine
end

section
/-! SUPPORT. The operations that store into device memory, and those that run a rule given to them: they too leave the queue and the time where the rule does. -/
namespace Sys2Proof.Machine

theorem State.Kept.of_ite {c : Prop} [Decidable c] {s t u : State} (hs : c → s.Kept u) (ht : ¬ c → t.Kept u) : (if c then s else t).Kept u := by
  split
  · exact hs ‹c›
  · exact ht ‹¬ c›

variable (s : State)

/-! ## Shared operations: registers, the event log, transmission (R6, R81, R482) -/

@[simp] theorem State.kept_writeBy {r : Req} {a : Nat} {rule : State → Nat × State} (hr : ∀ t, (rule t).2.Kept t) : (s.writeBy r a rule).Kept s := by
  unfold State.writeBy
  dsimp only
  split
  · exact (State.kept_answer ..).trans ((hr _).trans (s.kept_dropHeld r))
  · simp
  · simp

@[simp] theorem State.kept_readBy {r : Req} {a : Nat} {rule : State → Nat × Nat × State} (hr : ∀ t, (rule t).2.2.Kept t) :
    (s.readBy r a rule).Kept s := by
  unfold State.readBy
  split
  · exact (State.kept_answer ..).trans (hr s)
  · simp
  · simp

/-! ## Memory windows (R152, R234, R261) -/

@[simp] theorem State.kept_winWrite (a : Nat) (bs : List Byte) : (s.winWrite a bs).2.Kept s := by
  unfold State.winWrite
  dsimp only
  (repeat' split) <;> simp

@[simp] theorem State.kept_blockWrite (r : Req) (a : Nat) (bs : List Byte) : (s.blockWrite r a bs).2.Kept s := by
  unfold State.blockWrite
  dsimp only
  (repeat' split) <;> simp

/-! ## Event flags and work queues (R154, R308) -/

@[simp] theorem State.kept_sbPageWrite {e : Nat} {rule : State → Nat × State} (hr : ∀ t, (rule t).2.Kept t) : (s.sbPageWrite e rule).2.Kept s := by
  unfold State.sbPageWrite
  split
  · exact .rfl
  · exact hr s

/-! ## DMA (R354-R369) -/

@[simp] theorem State.kept_writeRecord (c : Nat) (r : CqRec) : (s.writeRecord c r).Kept s := by
  simp -implicitDefEqProofs [State.writeRecord]

@[simp] theorem State.kept_recordReady (c : Nat) (r : CqRec) : (s.recordReady c r).Kept s := by simp [State.recordReady]

@[simp] theorem State.kept_drainQueue (q n : Nat) : (s.drainQueue q n).Kept s := by
  induction n generalizing s with
  | zero => exact .rfl
  | succ n ih =>
    unfold State.drainQueue
    (repeat' split) <;> simp [ih]

@[simp] theorem State.kept_dmaFinish (c status done failAddr rsrc resp : Nat) :
    (s.dmaFinish c status done failAddr rsrc resp).Kept s := by
  simp [State.dmaFinish]

@[simp] theorem State.kept_dmaBegin (c : Nat) (sec : Bool) : (s.dmaBegin c sec).Kept s := by
  unfold State.dmaBegin
  dsimp only
  (repeat' split) <;> simp

@[simp] theorem State.kept_dmaStart (c : Nat) (sec : Bool) : (s.dmaStart c sec).2.Kept s := by simp [State.dmaStart]

@[simp] theorem State.kept_copyBlocks (r : Req) (src dst done n : Nat) : (s.copyBlocks r src dst done n).1.Kept s := by
  induction n generalizing s done with
  | zero => exact .rfl
  | succ n ih =>
    have hread := s.kept_blockRead r (src + done) 64
    unfold State.copyBlocks
    split
    next bs s1 hq =>
      rw [hq] at hread
      have hwrite := s1.kept_blockWrite r (dst + done) bs
      split
      next s2 hq2 => rw [hq2] at hwrite; exact (ih _ _).trans (by simpa using hwrite.trans hread)
      next code s2 _ hq2 => rw [hq2] at hwrite; exact hwrite.trans hread
    next code _ s1 _ hq => rw [hq] at hread; exact hread

@[simp] theorem State.kept_dmaMove (c n : Nat) : (s.dmaMove c n).1.Kept s := by
  unfold State.dmaMove
  dsimp only
  split <;> simp

@[simp] theorem State.kept_dmaAbort (c : Nat) : (s.dmaAbort c).Kept s := by
  unfold State.dmaAbort
  dsimp only
  split
  · simp
  · split
    · simp
    · split
      all_goals
        rename_i hmove
        have hm := congrArg (fun x => x.1.Kept s) hmove
        simp at hm
        simp [hm]

@[simp] theorem kept_dmaGoWrite (c : Nat) (sec : Bool) (v : Word) : (dmaGoWrite c sec v s).2.Kept s := by
  have hstart := (if getF v Fld.DMA_GO_ABORT = 1 then s.dmaAbort c else s).kept_dmaStart c sec
  unfold dmaGoWrite
  dsimp only
  (repeat' split) <;> simp_all

@[simp] theorem State.kept_drainPort (p : Nat) : (s.drainPort p).Kept s := by simp [State.drainPort]
@[simp] theorem kept_cqHeadWrite (q : Nat) (v : Word) : (cqHeadWrite q v s).2.Kept s := by simp [cqHeadWrite]

@[simp] theorem kept_cqCfgWrite (q : Nat) (v : Word) : (cqCfgWrite q v s).2.Kept s := by
  unfold cqCfgWrite
  dsimp only
  (repeat' split) <;> simp

@[simp] theorem State.kept_flushDone (c : Nat) (ok : Bool) (status : Nat) : (s.flushDone c ok status).Kept s := by
  unfold State.flushDone
  dsimp only
  (repeat' split) <;> simp

@[simp] theorem State.kept_sinkBlocks (r : Req) (dst n : Nat) (bs : List Byte) : (s.sinkBlocks r dst n bs).1.Kept s := by
  induction n generalizing s dst bs with
  | zero => exact .rfl
  | succ n ih =>
    have hwrite := s.kept_blockWrite r dst (bs.take 64)
    unfold State.sinkBlocks
    split
    next s1 hq => rw [hq] at hwrite; exact (ih _ _ _).trans (by simpa using hwrite)
    next s1 _ hq => rw [hq] at hwrite; exact hwrite

@[simp] theorem State.kept_readCompletion (p tag status : Nat) (last : Bool) (offs : Nat) (data : List Byte) :
    (s.readCompletion p tag status last offs data).Kept s := by
  unfold State.readCompletion
  split
  · exact .rfl
  next c m _ =>
    dsimp only
    split
    · simp
    · split
      · simp
      · have hs := s.kept_sinkBlocks (s.chanReq c) ((s.ch c).dst + m.off + m.got) (data.length / 64) data
        split <;> simp_all

@[simp] theorem State.kept_dmaLinkDown (p : Nat) : (s.dmaLinkDown p).Kept s := by
  refine State.kept_foldl (fun t c => ?_) _ _
  dsimp only
  (repeat' split) <;> simp

/-! ## The fall of a port (R99, R106) -/

@[simp] theorem State.kept_linkDown (p st : Nat) : (s.linkDown p st).Kept s := by simp [State.linkDown]

/-! ## Lane operations (R42-R59) -/

@[simp] theorem State.kept_retrain (p : Nat) : (s.retrain p).Kept s := by simp [State.retrain]

/-! ## Lanes (R42-R73) -/

@[simp] theorem State.kept_lanesOff (p : Nat) : (s.lanesOff p).Kept s := by simp -implicitDefEqProofs [State.lanesOff]

@[simp] theorem kept_lanePctlWrite (p : Nat) (v : Word) : (lanePctlWrite p v s).2.Kept s := by
  unfold lanePctlWrite
  dsimp only
  (repeat' split) <;> simp

@[simp] theorem State.kept_onBack {p : Nat} {b : BackObs} {f : State → State} (hf : ∀ t, (f t).Kept t) : (s.onBack p b f).Kept s := by
  unfold State.onBack
  split
  · exact (hf _).trans .rfl
  · exact .rfl

/-! ## Links and host requests (R79-R101) -/

@[simp] theorem State.kept_receive {p : Nat} {x : RxHdr} {st : Nat → Bool} {f : State → State} (hf : ∀ t, (f t).Kept t) :
    (s.receive p x st f).Kept s := by
  unfold State.receive
  dsimp only
  (repeat' split)
  · exact .rfl
  · exact .rfl
  · simp
  · exact (hf _).trans (by simp)

@[simp] theorem State.kept_rxLink {p : Nat} {x : RxHdr} {f : State → State} (hf : ∀ t, (f t).Kept t) : (s.rxLink p x f).Kept s := s.kept_receive hf

@[simp] theorem State.kept_rxBk {p : Nat} {x : RxHdr} {st : Nat → Bool} {len : Nat} {q : Bool} {f : State → State} (hf : ∀ t, (f t).Kept t) :
    (s.rxBk p x st len q f).Kept s := by
  refine s.kept_receive (fun t => ?_)
  dsimp only
  split
  · exact (hf _).trans (by simp)
  · simp

@[simp] theorem State.kept_rxRt {p : Nat} {x : RxHdr} {type need : Nat} {fmt : Bool} {f : State → State} (hf : ∀ t, (f t).Kept t) :
    (s.rxRt p x type need f fmt).Kept s := by
  refine s.kept_receive (fun t => ?_)
  extract_lets _ _ gap s2 s3 _
  have h3 : s3.Kept t := by simp [s3, s2]
  refine .of_ite (fun _ => ?_) fun _ => .of_ite (fun _ => ?_) fun _ => ?_
  · simpa using h3
  · simpa using h3
  · split
    · exact (hf _).trans (by simpa using h3)
    · simpa using h3

@[simp] theorem State.kept_replay (p : Nat) : (s.replay p).Kept s := by
  unfold State.replay
  dsimp only
  (repeat' split) <;> simp

@[simp] theorem State.kept_operational (p : Nat) (r : NegResult) (credit : Nat) : (s.operational p r credit).Kept s := by
  simp -implicitDefEqProofs [State.operational]

@[simp] theorem State.kept_negMatch (p : Nat) (r : NegResult) (credit : Nat) : (s.negMatch p r credit).Kept s := by
  simp -implicitDefEqProofs [State.negMatch]

@[simp] theorem State.kept_negCompare (p credit : Nat) : (s.negCompare p credit).Kept s := by
  unfold State.negCompare
  (repeat' split) <;> simp

@[simp] theorem State.kept_answerOffer (p : Nat) (pay : NegPay) : (s.answerOffer p pay).Kept s := by
  unfold State.answerOffer
  dsimp only
  (repeat' split) <;> simp

@[simp] theorem State.kept_reneg (p : Nat) : (s.reneg p).Kept s := by simp [State.reneg]
@[simp] theorem kept_linkCtlWrite (p : Nat) (v : Word) : (linkCtlWrite p v s).2.Kept s := by simp [linkCtlWrite]

@[simp] theorem State.kept_hostReq {p : Nat} {x : RxHdr} {sec : Option SecTrailer} {type len tspec tag : Nat} {body : List Nat} {isReg : Bool}
    {act : Req → State → Nat × Nat × List Nat × State} (ha : ∀ r t, (act r t).2.2.2.Kept t) :
    (s.hostReq p x sec type len tspec tag body isReg act).Kept s := by
  refine s.kept_rxBk (fun t => ?_)
  cases sec with
  | none => exact (State.kept_sendCpl ..).trans (ha ⟨p + 1, false⟩ t)
  | some tr =>
    refine .of_ite (fun _ => by simp) fun _ => .of_ite (fun _ => ?_) fun _ => by simp
    have hact := (ha ⟨p + 1, true⟩ _).trans (t.kept_takeCtr p tr)
    exact (State.kept_sendCpl ..).trans (.of_ite (fun _ => (State.kept_sessionEnd ..).trans hact) fun _ => hact)

/-! ## Symbols of the datapaths (R176-R220, R247-R250) -/

@[simp] theorem State.kept_ssUpdate (slot psh fsh : Nat) (ks : List Nat) (res : List UlRe) (e i j : Nat) :
    (s.ssUpdate slot psh fsh ks res e i j).1.Kept s := by
  simp -implicitDefEqProofs [State.ssUpdate]

/-- A fold over pairs whose step leaves queue and time leaves them. -/
theorem kept_of_foldl_fst {α β : Type} {f : State × β → α → State × β} {l : List α} {p q : State × β} (hq : l.foldl f p = q)
    (hf : ∀ a x, (f a x).1.Kept a.1) : q.1.Kept p.1 := hq ▸ kept_foldl_fst hf l p

@[simp] theorem State.kept_ssSlot (slot psh fsh : Nat) (ks : List Nat) (res : List UlRe) : (s.ssSlot slot psh fsh ks res).1.Kept s := by
  unfold State.ssSlot
  split
  next t n k hfold => exact kept_of_foldl_fst (q := (t, n, k)) hfold fun a _ => a.1.kept_ssUpdate ..

@[simp] theorem State.kept_accumulate (x : SrsPend) : (s.accumulate x).Kept s := by simp [State.accumulate, apply_ite Prod.fst]
@[simp] theorem State.kept_ssZero (set : Nat) : (s.ssZero set).Kept s := by simp [State.ssZero]
@[simp] theorem kept_ssClrWrite (v : Word) : (ssClrWrite v s).2.Kept s := by simp [ssClrWrite]

/-! ## Captures (R262-R274) -/

@[simp] theorem State.kept_capHeader (x : CageArb) (q : CapReq) (status p n : Nat) (low ovr : Bool) :
    (s.capHeader x q status p n low ovr).Kept s := by
  simp [State.capHeader]

@[simp] theorem State.kept_capGrant (a : Nat) (q : CapReq) (rest : List CapReq) (parked : Bool) :
    (s.capGrant a q rest parked).Kept s := by
  simp [State.capGrant]

@[simp] theorem State.kept_capRequest (q0 : CapReq) : (s.capRequest q0).2.Kept s := by
  unfold State.capRequest
  dsimp only
  (repeat' split) <;> simp

@[simp] theorem kept_capReqWrite (path : Nat) (v : Word) : (capReqWrite path v s).2.Kept s := by
  unfold capReqWrite
  split
  · exact .rfl
  · split
    next t hq => exact (congrArg (fun x : Option Nat × State => x.2.Kept s) hq).mp (State.kept_capRequest ..)
    next => exact .rfl

@[simp] theorem State.kept_capAbort (a : Nat) (q : CapReq) : (s.capAbort a q).Kept s := by simp [State.capAbort]

@[simp] theorem State.kept_capCancel (path : Nat) (mirror : Bool) : (s.capCancel path mirror).Kept s := by
  unfold State.capCancel
  dsimp only
  (repeat' split) <;> simp

@[simp] theorem kept_capCancelWrite (path : Nat) (v : Word) : (capCancelWrite path v s).2.Kept s := by
  simp [capCancelWrite]

@[simp] theorem State.kept_cageDieOff (die : Nat) : (s.cageDieOff die).Kept s := by
  refine State.kept_foldl (fun t a => ?_) _ _
  dsimp only
  (repeat' split) <;> simp

/-! ## The Lode cluster (R303-R325) -/

@[simp] theorem State.kept_lodeComplete (c status tcode : Nat) : (s.lodeComplete c status tcode).Kept s := by
  unfold State.lodeComplete
  dsimp only
  split <;> simp

/-! ## Shiftboss engines (R154-R175) -/

@[simp] theorem State.kept_sbIssue {e op : Nat} {act : State → Nat → Nat → State} (ha : ∀ t w i, (act t w i).Kept t) : (s.sbIssue e op act).Kept s := by
  unfold State.sbIssue
  split
  · exact .rfl
  · split
    · exact .rfl
    · split
      · exact .rfl
      · exact (ha _ _ _).trans (by simp)

@[simp] theorem State.kept_sbCopyBanks (e : Nat) : (s.sbCopyBanks e).Kept s := by simp [State.sbCopyBanks]

@[simp] theorem State.kept_sbUnshadow : s.sbUnshadow.Kept s := by
  unfold State.sbUnshadow
  split
  · exact .rfl
  · (repeat' split) <;> simp -implicitDefEqProofs

@[simp] theorem State.kept_sbMismatch : s.sbMismatch.Kept s := by simp [State.sbMismatch]

@[simp] theorem State.kept_sbCompared (e : Nat) (mismatch : Bool) : (s.sbCompared e mismatch).Kept s := by
  simp [State.sbCompared]

@[simp] theorem State.kept_sbTakeover (e : Nat) : (s.sbTakeover e).Kept s := by simp -implicitDefEqProofs [State.sbTakeover]

@[simp] theorem kept_sbReliefWrite (v : Word) : (sbReliefWrite v s).2.Kept s := by
  unfold sbReliefWrite
  dsimp only
  (repeat' split) <;> simp

/-! ## Power (R415-R439) -/

@[simp] theorem State.kept_coreOff (groups : Nat) : (s.coreOff groups).Kept s := by simp [State.coreOff]
@[simp] theorem State.kept_groupLost (g : Nat) : (s.groupLost g).Kept s := by simp [State.groupLost]
@[simp] theorem State.kept_retentionCheck (start lost : Nat) : (s.retentionCheck start lost).Kept s := by simp [State.retentionCheck]
@[simp] theorem State.kept_convPowerDown : s.convPowerDown.Kept s := by simp [State.convPowerDown]

@[simp] theorem State.kept_upAction (t : Trans) (lost : Nat) : (s.upAction t lost).Kept s := by
  unfold State.upAction
  split <;> simp

@[simp] theorem State.kept_passA2 : s.passA2.Kept s := by
  simp -implicitDefEqProofs [State.passA2]

@[simp] theorem State.kept_downAction (t : Trans) : (s.downAction t).Kept s := by
  unfold State.downAction
  split <;> simp

@[simp] theorem State.kept_beginStep (t : Trans) (lost : Nat) : (s.beginStep t lost).Kept s := by simp [State.beginStep]
@[simp] theorem State.kept_beginTrans (t : Trans) : (s.beginTrans t).Kept s := by simp [State.beginTrans]
@[simp] theorem State.kept_beginWake : s.beginWake.Kept s := by simp [State.beginWake]

@[simp] theorem State.kept_arriveLow (t : Trans) : (s.arriveLow t).Kept s := by
  simp -implicitDefEqProofs [State.arriveLow]

@[simp] theorem State.kept_seqFail (t : Trans) : (s.seqFail t).Kept s := by simp [State.seqFail]
@[simp] theorem State.kept_safeTurn (t : Trans) : (s.safeTurn t).Kept s := by simp [State.safeTurn]

@[simp] theorem State.kept_upNext (t : Trans) (refclk swapped : Bool) (lost : Nat) :
    (s.upNext t refclk swapped lost).Kept s := by
  unfold State.upNext
  dsimp only
  (repeat' split) <;> simp

@[simp] theorem State.kept_downNext (t : Trans) : (s.downNext t).Kept s := by
  unfold State.downNext
  (repeat' split) <;> simp

@[simp] theorem kept_pwrCmdWrite (v : Word) : (pwrCmdWrite v s).2.Kept s := by simp [pwrCmdWrite]

@[simp] theorem State.kept_wakeBy (mask : Nat) : (s.wakeBy mask).Kept s := by
  unfold State.wakeBy
  dsimp only
  (repeat' split) <;> simp

/-! ## Temperatures (R434-R438) -/

@[simp] theorem State.kept_enterSafe : s.enterSafe.Kept s := by
  unfold State.enterSafe
  dsimp only
  (repeat' split) <;> simp -implicitDefEqProofs

@[simp] theorem State.kept_levels (t : Int) : (s.levels t).Kept s := by
  simp -implicitDefEqProofs [State.levels]

/-! ## Boot and enclave services (R440-R463) -/

@[simp] theorem State.kept_copyImage (bank : Nat) (bs : List Byte) : (s.copyImage bank bs).Kept s := by simp [State.copyImage]

@[simp] theorem State.kept_fetchImage (space addr len dst : Nat) (data : List Byte) :
    (s.fetchImage space addr len dst data).2.2.Kept s := by
  simp [State.fetchImage]

@[simp] theorem State.kept_serve {c op : Nat} {act : SvcReq → List Nat → State → State} (ha : ∀ q ws t, (act q ws t).Kept t) : (s.serve c op act).Kept s := by
  unfold State.serve
  dsimp only
  split
  · exact .rfl
  · split
    · simp
    · split
      · simp
      · exact (ha _ _ _).trans (by simp)

@[simp] theorem State.kept_svcWrite (space addr : Nat) (bs : List Byte) : (s.svcWrite space addr bs).2.Kept s := by
  simp [State.svcWrite]

@[simp] theorem State.kept_otpServe {c op : Nat} {check : List Nat → State → Nat ⊕ OtpOp} : (s.otpServe c op check).Kept s := by
  refine s.kept_serve (fun q ws t => ?_)
  split
  · simp
  · split <;> simp

/-! ## Secure sessions (R103-R106) -/

@[simp] theorem State.kept_hsMessage {p : Nat} {x : RxHdr} {sec : Option SecTrailer} {sub : Nat} {tag : BitVec 8} {payload : List Byte}
    {f : State → State} (hf : ∀ t, (f t).Kept t) : (s.hsMessage p x sec sub tag payload f).Kept s := by
  refine s.kept_hostReq (fun r t => ?_)
  (repeat' split)
  · simp
  · exact .rfl
  · exact hf t

/-! ## The register bus (R24-R31) -/

@[simp] theorem kept_bothWords {f g : State → Nat × State} (hf : ∀ t, (f t).2.Kept t) (hg : ∀ t, (g t).2.Kept t) : (bothWords f g s).2.Kept s := by
  have hft := hf s
  unfold bothWords
  split
  next t hq =>
    rw [hq] at hft
    have hgu := hg t
    split
    next u hq2 => rw [hq2] at hgu; exact hgu.trans hft
    next => exact .rfl
  next => exact .rfl

/-- The rule of a register write, where there is one, leaves queue and time. -/
def RuleKeeps (o : Option (State → Nat × State)) : Prop := ∀ f ∈ o, ∀ t, (f t).2.Kept t

@[simp] theorem ruleKeeps_some (f : State → Nat × State) : RuleKeeps (some f) ↔ ∀ t, (f t).2.Kept t := by simp [RuleKeeps]
@[simp] theorem ruleKeeps_none : RuleKeeps none := by simp [RuleKeeps]

theorem ruleKeeps_ite {c : Prop} [Decidable c] {x y : Option (State → Nat × State)} (hx : RuleKeeps x) (hy : RuleKeeps y) :
    RuleKeeps (if c then x else y) := by
  split
  · exact hx
  · exact hy

theorem ruleA_keeps (r : Req) (b a d : Nat) (v : Word) (tw : Th) (sec : Bool) : RuleKeeps (ruleA r b a d v tw sec) := by
  unfold ruleA
  repeat' apply ruleKeeps_ite
  all_goals simp

theorem ruleB_keeps (b a d : Nat) (v : Word) (tw : Th) : RuleKeeps (ruleB b a d v tw) := by
  unfold ruleB
  repeat' apply ruleKeeps_ite
  all_goals simp
  intro t; split <;> simp

theorem ruleC_keeps (r : Req) (b a d : Nat) (v : Word) (tw : Th) : RuleKeeps (ruleC r b a d v tw) := by
  unfold ruleC
  repeat' apply ruleKeeps_ite
  all_goals simp

@[simp] theorem State.kept_regWrite (r : Req) (a : Nat) (v : Word) (tw : Th) : (s.regWrite r a v tw).2.Kept s := by
  unfold State.regWrite
  split
  · simp
  · dsimp only
    split
    · exact .rfl
    · split
      next f hf => exact ruleA_keeps _ _ _ _ _ _ _ f hf s
      next => split
              next f hf => exact ruleB_keeps _ _ _ _ _ f hf s
              next => split
                      next f hf => exact ruleC_keeps _ _ _ _ _ _ f hf s
                      next => simp

@[simp] theorem kept_twoWords {f : Nat → Word → State → Nat × State} (hf : ∀ a v t, (f a v t).2.Kept t) (a v : Nat) : (twoWords f a v s).2.Kept s :=
  kept_bothWords s (hf _ _) (hf _ _)

@[simp] theorem State.kept_regCommit (a : Nat) (ws : List Nat) (tw : Th) : (s.regCommit a ws tw).2.Kept s := by
  unfold State.regCommit
  split
  · exact .rfl
  · simp -implicitDefEqProofs

@[simp] theorem State.kept_busWriteAt (r : Req) (a : Nat) (v : Word) (tw : Th) : (s.busWriteAt r a v tw).2.Kept s := by
  unfold State.busWriteAt
  dsimp only
  (repeat' split) <;> simp

@[simp] theorem State.kept_busWrite (r : Req) (a : Nat) (v : Word) : (s.busWrite r a v).2.Kept s := s.kept_busWriteAt r a v _

@[simp] theorem State.kept_busWrite64 (r : Req) (a v : Nat) : (s.busWrite64 r a v).2.Kept s := by
  unfold State.busWrite64
  dsimp only
  (repeat' split) <;> simp

/-! ## Bundles of Lode (R321-R338) -/

@[simp] theorem State.kept_bundleDone (c : Nat) (k : LodeCore) (n : Nat) (d : LodeDelta) : (s.bundleDone c k n d).Kept s := by
  unfold State.bundleDone
  dsimp only
  split <;> simp

@[simp] theorem State.kept_bundleRun (c : Nat) (k : LodeCore) (n : Nat) (d : LodeDelta) : (s.bundleRun c k n d).Kept s := by
  unfold State.bundleRun
  dsimp only
  (repeat' split) <;> simp

/-! ## The management port (R477) -/

@[simp] theorem State.kept_mspiFall : s.mspiFall.Kept s := s.kept_wakeBy 2

@[simp] theorem State.kept_mspiWrites (a : Nat) (ws : List Word) : (s.mspiWrites a ws).Kept s := by
  induction ws generalizing s a with
  | nil => exact .rfl
  | cons w ws ih => simp [State.mspiWrites, ih]

/-! ## Resets (R8, R439) -/

@[simp] theorem State.kept_allReset (keepBoot : Bool) (p : PowerSt) : (s.allReset keepBoot p).Kept s := by simp [State.allReset]

/-! ## Staged effects (R156, R162) -/

@[simp] theorem State.kept_sbWrite (e a v : Nat) (wide : Bool) (tw : Option Th) : (s.sbWrite e a v wide tw).Kept s := by
  unfold State.sbWrite
  dsimp only
  (repeat' split) <;> simp_all

@[simp] theorem State.kept_sbCapture (e : Nat) (mirror : Bool) (nblk path dest rb : Nat) : (s.sbCapture e mirror nblk path dest rb).Kept s := by
  have hreq := s.kept_capRequest ⟨path, mirror, nblk, dest, false, 0⟩
  unfold State.sbCapture
  split <;> simp_all

@[simp] theorem State.kept_sbEffect (e : Nat) (x : Staged) : (s.sbEffect e x).Kept s := by
  unfold State.sbEffect
  split <;> simp

end Sys2Proof.Machine
end

section
/-! SUPPORT. Every command answers a next state, and leaves the queue, the model's time and `TB_CNT` as they are (R24, R132): its meaning is made of operations that do. -/
namespace Sys2Proof.Machine

/-- A command answers a next state that keeps queue and time. -/
def Res.Keeps (r : Res) (s : State) : Prop := ∃ t, r = .next t ∧ t.Kept s

@[simp] theorem keeps_finish {s t : State} : (finish t).Keeps s ↔ t.Kept s := by simp [Res.Keeps, finish]

variable (s : State)

/-! ## Mailboxes and Tally locks (R370-R379) -/

@[simp] theorem execMbxMsgWrite_keeps (r : Req) (c : Fin 32) (k : Fin 16) (v : Word) : (execMbxMsgWrite r c k v s).Keeps s :=
  keeps_finish.2 (s.kept_writeBy (fun t => by simp))

@[simp] theorem execMbxDoorbell_keeps (r : Req) (c : Fin 32) (v : Word) : (execMbxDoorbell r c v s).Keeps s :=
  keeps_finish.2 (s.kept_writeBy (fun t => by simp))

@[simp] theorem execMbxAck_keeps (r : Req) (c : Fin 32) : (execMbxAck r c s).Keeps s :=
  keeps_finish.2 (s.kept_readBy (fun t => by simp))

@[simp] theorem execMbxFlush_keeps (r : Req) (c : Fin 32) (v : Word) : (execMbxFlush r c v s).Keeps s :=
  keeps_finish.2 (s.kept_writeBy (fun t => by simp))

@[simp] theorem execMbxClaimLapsed_keeps (c : Fin 32) : (execMbxClaimLapsed c s).Keeps s := by simp [execMbxClaimLapsed]

@[simp] theorem execTallyAcquire_keeps (r : Req) (k : Fin 64) : (execTallyAcquire r k s).Keeps s :=
  keeps_finish.2 (s.kept_readBy (fun t => by simp))

@[simp] theorem execTallyRelease_keeps (r : Req) (k : Fin 64) (v : Word) : (execTallyRelease r k v s).Keeps s :=
  keeps_finish.2 (s.kept_writeBy (fun t => by simp))

@[simp] theorem execTallyHoldExpiry_keeps (k : Fin 64) : (execTallyHoldExpiry k s).Keeps s := by
  simp [execTallyHoldExpiry]

@[simp] theorem execPortDownLockRelease_keeps (p : Fin 2) : (execPortDownLockRelease p s).Keeps s := by
  refine keeps_finish.2 ?_
  (repeat' split) <;> simp

/-! ## DMA (R354-R369) -/

@[simp] theorem execDmaStart_keeps (r : Req) (c : Fin 16) (v : Word) : (execDmaStart r c v s).Keeps s :=
  keeps_finish.2 (s.kept_writeBy (fun t => by simp))

@[simp] theorem execDmaAbort_keeps (r : Req) (c : Fin 16) : (execDmaAbort r c s).Keeps s :=
  keeps_finish.2 (s.kept_writeBy (fun t => by simp))

@[simp] theorem execDmaTransferEnd_keeps (c : Fin 16) (ecc : Option Nat) : (execDmaTransferEnd c ecc s).Keeps s := by
  refine keeps_finish.2 (.of_ite (fun _ => .rfl) fun _ => .of_ite (fun _ => by simp) fun _ => ?_)
  extract_lets cut
  have hmove := s.kept_dmaMove c (cut / 64)
  refine .of_ite (fun _ => .rfl) fun _ => ?_
  split
  all_goals
    rename_i hq
    rw [hq] at hmove
    simpa using hmove

@[simp] theorem execDmaRecordWritten_keeps (c : Fin 16) : (execDmaRecordWritten c s).Keeps s := by
  simp [execDmaRecordWritten]

@[simp] theorem execDmaCqHeadWrite_keeps (r : Req) (q : Fin 4) (v : Word) : (execDmaCqHeadWrite r q v s).Keeps s :=
  keeps_finish.2 (s.kept_writeBy (fun t => by simp))

@[simp] theorem execDmaCqEnable_keeps (r : Req) (q : Fin 4) (v : Word) : (execDmaCqEnable r q v s).Keeps s :=
  keeps_finish.2 (s.kept_writeBy (fun t => by simp))

@[simp] theorem execCplTimeout_keeps (p : Fin 2) (tag : BitVec 8) : (execCplTimeout p tag s).Keeps s := by
  refine keeps_finish.2 ?_
  dsimp only
  (repeat' split) <;> simp

/-! ## Lanes (R42-R73) -/

@[simp] theorem execTrainingStart_keeps (r : Req) (p : Fin 2) (v : Word) : (execTrainingStart r p v s).Keeps s :=
  keeps_finish.2 (s.kept_writeBy (fun t => by simp))

@[simp] theorem execPortPowerDown_keeps (r : Req) (p : Fin 2) (v : Word) : (execPortPowerDown r p v s).Keeps s :=
  keeps_finish.2 (s.kept_writeBy (fun t => by simp))

@[simp] theorem execRateChange_keeps (r : Req) (p : Fin 2) (rate : Bool) : (execRateChange r p rate s).Keeps s :=
  keeps_finish.2 (s.kept_writeBy (fun t => by simp))

@[simp] theorem execSignalDetect_keeps (p : Fin 2) (k : Fin 9) : (execSignalDetect p k s).Keeps s := by
  simp [execSignalDetect]

@[simp] theorem execClockRecovered_keeps (p : Fin 2) (k : Fin 9) : (execClockRecovered p k s).Keeps s := by
  simp [execClockRecovered]

@[simp] theorem execLaneAligned_keeps (p : Fin 2) (k : Fin 9) (hd : HuntObs) : (execLaneAligned p k hd s).Keeps s := by
  refine keeps_finish.2 ?_
  dsimp only
  (repeat' split) <;> simp

@[simp] theorem execTapRequest_keeps (p : Fin 2) (k : Fin 9) (word : BitVec 128) : (execTapRequest p k word s).Keeps s := by
  simp [execTapRequest]

@[simp] theorem execReceiverConverged_keeps (p : Fin 2) (k : Fin 9) : (execReceiverConverged p k s).Keeps s := by
  simp [execReceiverConverged]

@[simp] theorem execFarEndRxrdy_keeps (p : Fin 2) (k : Fin 9) (word : BitVec 128) :
    (execFarEndRxrdy p k word s).Keeps s := by
  simp [execFarEndRxrdy]

@[simp] theorem execMoveRequest_keeps (p : Fin 2) (k : Fin 9) (word : BitVec 128) :
    (execMoveRequest p k word s).Keeps s := by
  simp [execMoveRequest]

@[simp] theorem execDeskewDone_keeps (p : Fin 2) : (execDeskewDone p s).Keeps s := by simp [execDeskewDone]

@[simp] theorem execTrainingTimeout_keeps (p : Fin 2) (k : Fin 9) : (execTrainingTimeout p k s).Keeps s := by
  simp [execTrainingTimeout]

@[simp] theorem execAttemptTimeout_keeps (p : Fin 2) : (execAttemptTimeout p s).Keeps s := by
  refine keeps_finish.2 ?_
  (repeat' split) <;> simp

@[simp] theorem execAlignLost_keeps (p : Fin 2) (k : Fin 9) (uncorr missing : Nat) :
    (execAlignLost p k uncorr missing s).Keeps s := by
  simp [execAlignLost]

@[simp] theorem execRealignWaitExpiry_keeps (p : Fin 2) (k : Fin 8) : (execRealignWaitExpiry p k s).Keeps s := by
  refine keeps_finish.2 ?_
  dsimp only
  (repeat' split) <;> simp

@[simp] theorem execDeskewRestored_keeps (p : Fin 2) : (execDeskewRestored p s).Keeps s := by
  refine keeps_finish.2 ?_
  dsimp only
  (repeat' split) <;> simp

@[simp] theorem execReliefReq_keeps (p : Fin 2) (b : BackObs) (k : Fin 8) : (execReliefReq p b k s).Keeps s :=
  keeps_finish.2 (s.kept_onBack (fun t => by simp))

@[simp] theorem execReliefCompareDone_keeps (p : Fin 2) (k : Fin 8) (hdr : BitVec 20) (mismatch : Bool) :
    (execReliefCompareDone p k hdr mismatch s).Keeps s := by
  refine keeps_finish.2 ?_
  dsimp only
  (repeat' split) <;> simp

@[simp] theorem execReliefSwitched_keeps (p : Fin 2) (b : BackObs) (k : Fin 8) : (execReliefSwitched p b k s).Keeps s := by
  refine keeps_finish.2 (s.kept_onBack (fun t => ?_))
  dsimp only
  (repeat' split) <;> simp

@[simp] theorem execReliefRefuse_keeps (p : Fin 2) (b : BackObs) (k : Fin 8) : (execReliefRefuse p b k s).Keeps s :=
  keeps_finish.2 (s.kept_onBack (fun t => by simp))

@[simp] theorem execRetrainReq_keeps (p : Fin 2) (b : BackObs) (k : Fin 9) : (execRetrainReq p b k s).Keeps s :=
  keeps_finish.2 (s.kept_onBack (fun t => by simp))

@[simp] theorem execRelieveRx_keeps (r : Req) (p : Fin 2) (k : Fin 16) : (execRelieveRx r p k s).Keeps s :=
  keeps_finish.2 (s.kept_writeBy (fun t => by simp))

@[simp] theorem execRelieveTx_keeps (r : Req) (p : Fin 2) (k : Fin 16) : (execRelieveTx r p k s).Keeps s :=
  keeps_finish.2 (s.kept_writeBy (fun t => by simp))

@[simp] theorem execRestore_keeps (r : Req) (p : Fin 2) (k : Fin 16) : (execRestore r p k s).Keeps s :=
  keeps_finish.2 (s.kept_writeBy (fun t => by simp))

@[simp] theorem execBeaconOn_keeps (r : Req) (p : Fin 2) : (execBeaconOn r p s).Keeps s :=
  keeps_finish.2 (s.kept_writeBy (fun t => by simp))

@[simp] theorem execBeaconOff_keeps (r : Req) (p : Fin 2) : (execBeaconOff r p s).Keeps s :=
  keeps_finish.2 (s.kept_writeBy (fun t => by simp))

@[simp] theorem execBeaconBurst_keeps (p : Fin 2) : (execBeaconBurst p s).Keeps s := by simp [execBeaconBurst]

@[simp] theorem execMarginWindowEnd_keeps (p : Fin 2) (k : Fin 9) (corrected uncorr : Nat) :
    (execMarginWindowEnd p k corrected uncorr s).Keeps s := by
  simp [execMarginWindowEnd]

@[simp] theorem execEscanStart_keeps (r : Req) (p : Fin 2) (v : Word) : (execEscanStart r p v s).Keeps s :=
  keeps_finish.2 (s.kept_writeBy (fun t => by simp))

@[simp] theorem execEscanDone_keeps (p : Fin 2) (pts : List (List Nat)) : (execEscanDone p pts s).Keeps s := by
  refine keeps_finish.2 ?_
  dsimp only
  (repeat' split) <;> simp

@[simp] theorem execAutoEscanPeriod_keeps (p : Fin 2) : (execAutoEscanPeriod p s).Keeps s := by
  simp -implicitDefEqProofs [execAutoEscanPeriod]

/-! ## Links and host requests (R79-R101) -/

@[simp] theorem execAck_keeps (p : Fin 2) (hd : RxHdr) (aseq : BitVec 8) (cred : BitVec 16) :
    (execAck p hd aseq cred s).Keeps s :=
  keeps_finish.2 (s.kept_rxLink (fun t => by simp))

@[simp] theorem execNak_keeps (p : Fin 2) (hd : RxHdr) (aseq : BitVec 8) : (execNak p hd aseq s).Keeps s :=
  keeps_finish.2 (s.kept_rxLink (fun t => by simp))

@[simp] theorem execBkReplayTimeout_keeps (p : Fin 2) : (execBkReplayTimeout p s).Keeps s := by simp [execBkReplayTimeout]

@[simp] theorem execNegOffer_keeps (p : Fin 2) (hd : RxHdr) (pay : NegPay) : (execNegOffer p hd pay s).Keeps s :=
  keeps_finish.2 (s.kept_rxBk (fun t => by simp))

@[simp] theorem execNegAccept_keeps (p : Fin 2) (hd : RxHdr) (pay : NegPay) : (execNegAccept p hd pay s).Keeps s :=
  keeps_finish.2 (s.kept_rxBk (fun t => by simp))

@[simp] theorem execNegReject_keeps (p : Fin 2) (hd : RxHdr) (reason : BitVec 8) : (execNegReject p hd reason s).Keeps s :=
  keeps_finish.2 (s.kept_rxBk (fun t => by simp))

@[simp] theorem execNegOfferRepeat_keeps (p : Fin 2) : (execNegOfferRepeat p s).Keeps s := by simp [execNegOfferRepeat]
@[simp] theorem execNegTimeout_keeps (p : Fin 2) : (execNegTimeout p s).Keeps s := by simp [execNegTimeout]

@[simp] theorem execReneg_keeps (r : Req) (p : Fin 2) (v : Word) : (execReneg r p v s).Keeps s :=
  keeps_finish.2 (s.kept_writeBy (fun t => by simp))

@[simp] theorem execMemWr_keeps (p : Fin 2) (hd : RxHdr) (sec : Option SecTrailer) (tag ch : BitVec 8) (addr : BitVec 64)
    (data : List Byte) :
    (execMemWr p hd sec tag ch addr data s).Keeps s := by
  refine keeps_finish.2 (s.kept_hostReq (fun r t => ?_))
  dsimp only
  (repeat' split) <;> simp

@[simp] theorem execMemRd_keeps (p : Fin 2) (x : RxHdr) (sec : Option SecTrailer) (tag : BitVec 8) (flush : Bool) (nblk : BitVec 7)
    (addr : BitVec 64) : (execMemRd p x sec tag flush nblk addr s).Keeps s := by
  refine keeps_finish.2 (s.kept_hostReq (fun r t => ?_))
  dsimp only
  (repeat' split) <;> simp

@[simp] theorem execRdCpl_keeps (p : Fin 2) (hd : RxHdr) (sec : Option SecTrailer) (tag : BitVec 8) (status : BitVec 4)
    (last : Bool) (offs : BitVec 7) (data : List Byte) :
    (execRdCpl p hd sec tag status last offs data s).Keeps s := by
  refine keeps_finish.2 (s.kept_rxBk (fun t => ?_))
  dsimp only
  (repeat' split) <;> simp

@[simp] theorem execMsg_keeps (p : Fin 2) (hd : RxHdr) (sec : Option SecTrailer) (chan : Fin 32) (tag : BitVec 8)
    (words : List Word) :
    (execMsg p hd sec chan tag words s).Keeps s :=
  keeps_finish.2 (s.kept_hostReq (fun r t => by simp))

@[simp] theorem execSwitch_keeps (r : Req) (v : Word) : (execSwitch r v s).Keeps s :=
  keeps_finish.2 (s.kept_writeBy (fun t => by simp))

@[simp] theorem execFailoverStallTimeout_keeps (p : Fin 2) : (execFailoverStallTimeout p s).Keeps s := by
  simp [execFailoverStallTimeout]

/-! ## The time base (R131-R150) -/

@[simp] theorem execSync_keeps (p : Fin 2) (hd : RxHdr) (top : BitVec 4) (tseq : BitVec 16) :
    (execSync p hd top tseq s).Keeps s :=
  keeps_finish.2 (s.kept_rxRt (fun t => by simp))

@[simp] theorem execTdOffsetCommit_keeps (r : Req) (x : Fin 2) (w0 w1 w2 w3 : Word) :
    (execTdOffsetCommit r x w0 w1 w2 w3 s).Keeps s :=
  keeps_finish.2 (s.kept_writeBy (fun t => by simp))

@[simp] theorem execTdStepCommit_keeps (r : Req) (x : Fin 2) (v : DWord) : (execTdStepCommit r x v s).Keeps s :=
  keeps_finish.2 (s.kept_writeBy (fun t => by simp))

@[simp] theorem execTdIncCommit_keeps (r : Req) (x : Fin 2) (v : DWord) : (execTdIncCommit r x v s).Keeps s :=
  keeps_finish.2 (s.kept_writeBy (fun t => by simp))

@[simp] theorem execTselSwitch_keeps (r : Req) (v : Word) : (execTselSwitch r v s).Keeps s :=
  keeps_finish.2 (s.kept_writeBy (fun t => by simp))

@[simp] theorem execSlewDone_keeps : (execSlewDone s).Keeps s := by simp [execSlewDone]
@[simp] theorem execPpsinCapture_keeps : (execPpsinCapture s).Keeps s := by simp -implicitDefEqProofs [execPpsinCapture]

@[simp] theorem execPpsinLost_keeps : (execPpsinLost s).Keeps s := by
  refine keeps_finish.2 ?_
  (repeat' split) <;> simp

@[simp] theorem execPpsOutRise_keeps : (execPpsOutRise s).Keeps s := by simp [execPpsOutRise]
@[simp] theorem execPpsOutFall_keeps : (execPpsOutFall s).Keeps s := by simp [execPpsOutFall]

/-! ## Layer traffic (R107-R130) -/

@[simp] theorem execCplane_keeps (p : Fin 2) (hd : RxHdr) (descs : List (BitVec 128)) : (execCplane p hd descs s).Keeps s :=
  keeps_finish.2 (s.kept_rxRt (fun t => by simp))

@[simp] theorem execLayerDl_keeps (p : Fin 2) (hd : RxHdr) (car : Fin 8) (sym : BitVec 4) (slot : BitVec 10) (secid : BitVec 12)
    (poff : BitVec 11) (pcnt : BitVec 11) (cw : BitVec 4) (ant : Bool) (stream : BitVec 7) (data : List Byte) :
    (execLayerDl p hd car sym slot secid poff pcnt cw ant stream data s).Keeps s :=
  keeps_finish.2 (s.kept_rxRt (fun t => by simp))

@[simp] theorem execSectionLock_keeps (c : Fin 8) (dir : Bool) (slot : BitVec 10) (secid : BitVec 12) :
    (execSectionLock c dir slot secid s).Keeps s := by
  simp [execSectionLock]

@[simp] theorem execOrphanDiscard_keeps (c : Fin 8) : (execOrphanDiscard c s).Keeps s := by simp [execOrphanDiscard]

/-! ## Symbols of the datapaths (R176-R220, R247-R250) -/

@[simp] theorem execUlSymbol_keeps (c : Fin 8) (inp : RxIn) : (execUlSymbol c inp s).Keeps s := by simp [execUlSymbol]

@[simp] theorem execUlPacketSend_keeps (p : Fin 2) : (execUlPacketSend p s).Keeps s := by
  refine keeps_finish.2 ?_
  dsimp only
  (repeat' split) <;> simp

@[simp] theorem execOvrBlock_keeps (path : Fin 64) : (execOvrBlock path s).Keeps s := by
  refine keeps_finish.2 ?_
  dsimp only
  (repeat' split) <;> simp

@[simp] theorem execBeamSsClr_keeps (r : Req) (v : Word) : (execBeamSsClr r v s).Keeps s :=
  keeps_finish.2 (s.kept_writeBy (fun t => by simp))

@[simp] theorem execSsAccumulate_keeps : (execSsAccumulate s).Keeps s := by
  refine keeps_finish.2 ?_
  dsimp only
  (repeat' split) <;> simp

/-! ## Double-banked resources (R151-R153, R240-R246) -/

@[simp] theorem execBankSwap_keeps (res : Fin 7) (idx : Fin 128) : (execBankSwap res idx s).Keeps s := by
  refine keeps_finish.2 ?_
  (repeat' split) <;> simp

@[simp] theorem execSwapDeferRetry_keeps (res : Fin 7) (idx : Fin 128) : (execSwapDeferRetry res idx s).Keeps s := by
  refine keeps_finish.2 ?_
  (repeat' split) <;> simp

@[simp] theorem execOldBankRelease_keeps (res : Fin 7) (idx : Fin 256) : (execOldBankRelease res idx s).Keeps s := by
  simp [execOldBankRelease]

@[simp] theorem execBeamSwapreq_keeps (r : Req) (v : Word) : (execBeamSwapreq r v s).Keeps s :=
  keeps_finish.2 (s.kept_writeBy (fun t => by simp))

@[simp] theorem execDpdSwapreq_keeps (r : Req) (v : Word) : (execDpdSwapreq r v s).Keeps s :=
  keeps_finish.2 (s.kept_writeBy (fun t => by simp))

@[simp] theorem execSbSwapreq_keeps (r : Req) (e : Fin 5) (v : Word) : (execSbSwapreq r e v s).Keeps s :=
  keeps_finish.2 (s.kept_writeBy fun t => t.kept_sbPageWrite fun u => by simp)

@[simp] theorem execBeamCwArm_keeps (r : Req) (v : Word) : (execBeamCwArm r v s).Keeps s :=
  keeps_finish.2 (s.kept_writeBy (fun t => by simp))

@[simp] theorem execBeamCwCancel_keeps (r : Req) (v : Word) : (execBeamCwCancel r v s).Keeps s :=
  keeps_finish.2 (s.kept_writeBy (fun t => by simp))

@[simp] theorem execBeamCwCommit_keeps (r : Req) (v : Word) : (execBeamCwCommit r v s).Keeps s :=
  keeps_finish.2 (s.kept_writeBy (fun t => by simp))

@[simp] theorem execCwFlip_keeps (dir : Fin 2) (hd : Fin 256) : (execCwFlip dir hd s).Keeps s := by
  refine keeps_finish.2 ?_
  dsimp only
  (repeat' split) <;> simp

@[simp] theorem execCwMiss_keeps (dir : Fin 2) (hd : Fin 256) : (execCwMiss dir hd s).Keeps s := by simp [execCwMiss]

/-! ## Carriers and slices (R183, R184, R199-R202) -/

@[simp] theorem execHostMuteRampEnd_keeps (path : Fin 64) : (execHostMuteRampEnd path s).Keeps s := by
  refine keeps_finish.2 ?_
  (repeat' split) <;> simp

@[simp] theorem execMuteSourceClear_keeps (r : Req) (path : Fin 64) (v : Word) : (execMuteSourceClear r path v s).Keeps s :=
  keeps_finish.2 (s.kept_writeBy (fun t => by simp))

@[simp] theorem execSliceReliefTarget_keeps (r : Req) (u : Fin 2) (v : Word) : (execSliceReliefTarget r u v s).Keeps s :=
  keeps_finish.2 (s.kept_writeBy (fun t => by simp))

@[simp] theorem execSliceRetire_keeps (r : Req) (u : Fin 2) (v : Word) : (execSliceRetire r u v s).Keeps s :=
  keeps_finish.2 (s.kept_writeBy (fun t => by simp))

@[simp] theorem execSliceSynced_keeps (u : Fin 2) (mismatch : Bool) : (execSliceSynced u mismatch s).Keeps s := by
  refine keeps_finish.2 ?_
  dsimp only
  (repeat' split) <;> simp

@[simp] theorem execSliceFault_keeps (slice : Fin 66) : (execSliceFault slice s).Keeps s := by
  refine keeps_finish.2 ?_
  dsimp only
  (repeat' split) <;> simp

@[simp] theorem execSliceTaken_keeps (u : Fin 2) : (execSliceTaken u s).Keeps s := by
  refine keeps_finish.2 ?_
  dsimp only
  (repeat' split) <;> simp

@[simp] theorem execCarrierEnable_keeps (r : Req) (c : Fin 8) (v : Word) : (execCarrierEnable r c v s).Keeps s :=
  keeps_finish.2 (s.kept_writeBy (fun t => by simp))

@[simp] theorem execCarrierDrained_keeps (c : Fin 8) : (execCarrierDrained c s).Keeps s := by simp [execCarrierDrained]

/-! ## PRACH (R221-R225) -/

@[simp] theorem execPrachEnable_keeps (r : Req) (j : Fin 4) (v : Word) : (execPrachEnable r j v s).Keeps s :=
  keeps_finish.2 (s.kept_writeBy (fun t => by simp))

@[simp] theorem execPrachOccasion_keeps (j : Fin 4) (inp : RxIn) : (execPrachOccasion j inp s).Keeps s := by
  refine keeps_finish.2 ?_
  dsimp only
  (repeat' split) <;> simp

@[simp] theorem execPrachDrained_keeps (j : Fin 4) : (execPrachDrained j s).Keeps s := by simp [execPrachDrained]

/-! ## Dual homing (R100-R102) -/

@[simp] theorem execFailover_keeps (c : Fin 8) : (execFailover c s).Keeps s := by
  refine keeps_finish.2 ?_
  dsimp only
  (repeat' split) <;> simp

@[simp] theorem execDhModeApply_keeps (c : Fin 8) : (execDhModeApply c s).Keeps s := by simp [execDhModeApply]

/-! ## Captures (R262-R274) -/

@[simp] theorem execObsCapReq_keeps (r : Req) (path : Fin 64) (v : Word) : (execObsCapReq r path v s).Keeps s :=
  keeps_finish.2 (s.kept_writeBy (fun t => by simp))

@[simp] theorem execCaptureGrant_keeps (a : Fin 72) : (execCaptureGrant a s).Keeps s := by
  refine keeps_finish.2 ?_
  (repeat' split) <;> simp

@[simp] theorem execCaptureGrantEnd_keeps (a : Fin 72) : (execCaptureGrantEnd a s).Keeps s := by
  simp [execCaptureGrantEnd]

@[simp] theorem execObsCapCancel_keeps (r : Req) (path : Fin 64) (v : Word) : (execObsCapCancel r path v s).Keeps s :=
  keeps_finish.2 (s.kept_writeBy (fun t => by simp))

@[simp] theorem execCaptureDone_keeps (a : Fin 72) (y : List (BitVec 32)) (ovr : Bool) : (execCaptureDone a y ovr s).Keeps s := by
  refine keeps_finish.2 ?_
  split
  · exact .rfl
  next q _ =>
    extract_lets _ s0 _ _ _ s1 s2
    refine .of_ite (fun _ => .rfl) fun _ => ?_
    have h0 : s0.Kept s := by simp [s0]
    have h2 : s2.Kept s := by simp [s2, s1, h0]
    simp [h0, h2]

@[simp] theorem execVswrWindow_keeps (path : Fin 64) (seen : Nat) : (execVswrWindow path seen s).Keeps s := by
  simp [execVswrWindow]

/-! ## Converters (R275-R293) -/

@[simp] theorem execAdcRotationStart_keeps (u : Fin 72) : (execAdcRotationStart u s).Keeps s := by
  simp [execAdcRotationStart]

@[simp] theorem execAdcRotationSwap_keeps (u : Fin 72) (agree : Bool) : (execAdcRotationSwap u agree s).Keeps s := by
  refine keeps_finish.2 ?_
  dsimp only
  (repeat' split) <;> simp

@[simp] theorem execSubadcRetire_keeps (r : Req) (u : Fin 72) (v : Word) : (execSubadcRetire r u v s).Keeps s :=
  keeps_finish.2 (s.kept_writeBy (fun t => by simp))

@[simp] theorem execDacCellRotation_keeps (path : Fin 64) : (execDacCellRotation path s).Keeps s := by
  refine keeps_finish.2 ?_
  dsimp only
  (repeat' split) <;> simp

@[simp] theorem execDacCellRetire_keeps (r : Req) (path : Fin 64) (v : Word) : (execDacCellRetire r path v s).Keeps s :=
  keeps_finish.2 (s.kept_writeBy (fun t => by simp))

@[simp] theorem execSoftAlign_keeps (r : Req) (v : Word) : (execSoftAlign r v s).Keeps s :=
  keeps_finish.2 (s.kept_writeBy (fun t => by simp))

@[simp] theorem execAlignCapture_keeps (level : Bool) : (execAlignCapture level s).Keeps s := by simp [execAlignCapture]

@[simp] theorem execConverterAlignment_keeps (err : BitVec 8) : (execConverterAlignment err s).Keeps s := by
  refine keeps_finish.2 ?_
  dsimp only
  (repeat' split) <;> simp

@[simp] theorem execDieLinkLost_keeps (die : Fin 4) : (execDieLinkLost die s).Keeps s := by simp [execDieLinkLost]

/-! ## Auxiliary DACs (R410-R413) -/

@[simp] theorem execAuxDacWrite_keeps (r : Req) (n : Fin 72) (v : Word) : (execAuxDacWrite r n v s).Keeps s :=
  keeps_finish.2 (s.kept_writeBy (fun t => by simp))

@[simp] theorem execAuxHoldEnd_keeps (n : Fin 72) : (execAuxHoldEnd n s).Keeps s := by
  refine keeps_finish.2 ?_
  (repeat' split) <;> simp

@[simp] theorem execAuxRangeChangeEnd_keeps (n : Fin 72) : (execAuxRangeChangeEnd n s).Keeps s := by
  refine keeps_finish.2 ?_
  (repeat' split) <;> simp

@[simp] theorem execAuxClrcodeWrite_keeps (r : Req) (n : Fin 72) (v : Word) : (execAuxClrcodeWrite r n v s).Keeps s :=
  keeps_finish.2 (s.kept_writeBy (fun t => by simp))

@[simp] theorem execAuxClrNFall_keeps : (execAuxClrNFall s).Keeps s := by simp [execAuxClrNFall]
@[simp] theorem execAuxClrNRise_keeps : (execAuxClrNRise s).Keeps s := by simp [execAuxClrNRise]

@[simp] theorem execClrall_keeps (r : Req) (v : Word) : (execClrall r v s).Keeps s :=
  keeps_finish.2 (s.kept_writeBy (fun t => by simp))

@[simp] theorem execAuxShort_keeps (n : Fin 72) : (execAuxShort n s).Keeps s := by simp [execAuxShort]
@[simp] theorem execAuxOpen_keeps (n : Fin 72) : (execAuxOpen n s).Keeps s := by simp [execAuxOpen]

/-! ## Calibration (R381-R401) -/

@[simp] theorem execAssayResult_keeps (item : Fin 9) (unit : Fin 72) (elem : Fin 128) (meas : Option (List Int))
    (power val nblk : Nat) :
    (execAssayResult item unit elem meas power val nblk s).Keeps s := by
  refine keeps_finish.2 ?_
  dsimp only
  (repeat' split) <;> simp

@[simp] theorem execAssaySave_keeps (r : Req) (v : Word) : (execAssaySave r v s).Keeps s :=
  keeps_finish.2 (s.kept_writeBy (fun t => by simp))

@[simp] theorem execAssaySaveDone_keeps : (execAssaySaveDone s).Keeps s := by
  refine keeps_finish.2 ?_
  (repeat' split) <;> simp

@[simp] theorem execAssayRestore_keeps (r : Req) (v : Word) : (execAssayRestore r v s).Keeps s :=
  keeps_finish.2 (s.kept_writeBy (fun t => by simp))

@[simp] theorem execAssayRestoreDone_keeps : (execAssayRestoreDone s).Keeps s := by
  refine keeps_finish.2 ?_
  dsimp only
  (repeat' split) <;> simp

/-! ## The monitor (R402-R409) -/

@[simp] theorem execMonEntryDone_keeps (inputs : List Int) (vref : Nat) (dev : List Int) :
    (execMonEntryDone inputs vref dev s).Keeps s := by
  refine keeps_finish.2 ?_
  (repeat' split) <;> simp

@[simp] theorem execMonUrgDone_keeps (inputs : List Int) (vref : Nat) (dev : List Int) :
    (execMonUrgDone inputs vref dev s).Keeps s := by
  refine keeps_finish.2 ?_
  (repeat' split) <;> simp

@[simp] theorem execMonEnable_keeps (r : Req) (v : Word) : (execMonEnable r v s).Keeps s :=
  keeps_finish.2 (s.kept_writeBy (fun t => by simp))

@[simp] theorem execMonUrg_keeps (r : Req) (v : Word) : (execMonUrg r v s).Keeps s :=
  keeps_finish.2 (s.kept_writeBy (fun t => by simp))

/-! ## The Lode cluster (R303-R325) -/

@[simp] theorem execLodeWqPush_keeps (r : Req) (q : Fin 8) (v : Word) : (execLodeWqPush r q v s).Keeps s :=
  keeps_finish.2 (s.kept_writeBy (fun t => by simp))

@[simp] theorem execItemPull_keeps (c : Fin 34) : (execItemPull c s).Keeps s := by
  refine keeps_finish.2 ?_
  dsimp only
  (repeat' split) <;> simp

@[simp] theorem execWdog_keeps (c : Fin 34) : (execWdog c s).Keeps s := by simp [execWdog]

@[simp] theorem execItemComplete_keeps (c : Fin 34) : (execItemComplete c s).Keeps s := by
  refine keeps_finish.2 ?_
  dsimp only
  (repeat' split) <;> simp

@[simp] theorem execCoreFault_keeps (c : Fin 34) : (execCoreFault c s).Keeps s := by
  refine keeps_finish.2 (.of_ite (fun _ => .rfl) fun _ => ?_)
  extract_lets _ s0 s1 s2 _ _ _ relief s3 s4
  have h0 : s0.Kept s := by simp [s0]
  have h1 : s1.Kept s := by
    unfold s1
    (repeat' split) <;> simp [h0]
  have h2 : s2.Kept s := by simpa [s2] using h1
  refine .of_ite (fun _ => by simpa using h2) fun _ => .of_ite (fun _ => by simpa using h2) fun _ => ?_
  have h3 : s3.Kept s := by simpa [s3] using h2
  have h4 : s4.Kept s := by
    unfold s4
    cases relief <;> simpa using h3
  simpa using h4

@[simp] theorem execLodeReliefRetire_keeps (r : Req) (v : Word) : (execLodeReliefRetire r v s).Keeps s :=
  keeps_finish.2 (s.kept_writeBy (fun t => by simp))

@[simp] theorem execCoreRelief_keeps : (execCoreRelief s).Keeps s := by
  refine keeps_finish.2 ?_
  dsimp only
  (repeat' split) <;> simp

@[simp] theorem execSharedBankGrant_keeps (b : Fin 256) (arrive leave : List Nat) :
    (execSharedBankGrant b arrive leave s).Keeps s := by
  simp [execSharedBankGrant]

/-! ## Shiftboss engines (R154-R175) -/

@[simp] theorem execSbNop_keeps (e : Fin 5) : (execSbNop e s).Keeps s :=
  keeps_finish.2 (s.kept_sbIssue (fun _ _ _ => by simp))

@[simp] theorem execSbHalt_keeps (e : Fin 5) : (execSbHalt e s).Keeps s :=
  keeps_finish.2 (s.kept_sbIssue (fun _ _ _ => by simp))

@[simp] theorem execSbLoop_keeps (e : Fin 5) : (execSbLoop e s).Keeps s :=
  keeps_finish.2 (s.kept_sbIssue (fun _ _ _ => by simp))

@[simp] theorem execSbEndl_keeps (e : Fin 5) : (execSbEndl e s).Keeps s := by
  refine keeps_finish.2 (s.kept_sbIssue (fun t w i => ?_))
  dsimp only
  (repeat' split) <;> simp

@[simp] theorem execSbBr_keeps (e : Fin 5) : (execSbBr e s).Keeps s :=
  keeps_finish.2 (s.kept_sbIssue (fun _ _ _ => by simp))

@[simp] theorem execSbBrc_keeps (e : Fin 5) : (execSbBrc e s).Keeps s :=
  keeps_finish.2 (s.kept_sbIssue (fun _ _ _ => by simp))

@[simp] theorem execSbCall_keeps (e : Fin 5) : (execSbCall e s).Keeps s :=
  keeps_finish.2 (s.kept_sbIssue (fun _ _ _ => by simp))

@[simp] theorem execSbRet_keeps (e : Fin 5) : (execSbRet e s).Keeps s := by
  refine keeps_finish.2 (s.kept_sbIssue (fun t w i => ?_))
  dsimp only
  (repeat' split) <;> simp

@[simp] theorem execSbAddi_keeps (e : Fin 5) : (execSbAddi e s).Keeps s :=
  keeps_finish.2 (s.kept_sbIssue (fun _ _ _ => by simp))

@[simp] theorem execSbMovi_keeps (e : Fin 5) : (execSbMovi e s).Keeps s :=
  keeps_finish.2 (s.kept_sbIssue (fun _ _ _ => by simp))

@[simp] theorem execSbAt_keeps (e : Fin 5) : (execSbAt e s).Keeps s :=
  keeps_finish.2 (s.kept_sbIssue (fun _ _ _ => by simp))

@[simp] theorem execSbAfter_keeps (e : Fin 5) : (execSbAfter e s).Keeps s :=
  keeps_finish.2 (s.kept_sbIssue (fun _ _ _ => by simp))

@[simp] theorem execSbSymwait_keeps (e : Fin 5) : (execSbSymwait e s).Keeps s :=
  keeps_finish.2 (s.kept_sbIssue (fun _ _ _ => by simp))

@[simp] theorem execSbWaitev_keeps (e : Fin 5) : (execSbWaitev e s).Keeps s :=
  keeps_finish.2 (s.kept_sbIssue (fun _ _ _ => by simp))

@[simp] theorem execSbFence_keeps (e : Fin 5) : (execSbFence e s).Keeps s :=
  keeps_finish.2 (s.kept_sbIssue (fun _ _ _ => by simp))

@[simp] theorem execWaitRelease_keeps (e : Fin 5) : (execWaitRelease e s).Keeps s := by
  refine keeps_finish.2 ?_
  dsimp only
  (repeat' split) <;> simp

@[simp] theorem execWaitevTimeout_keeps (e : Fin 5) : (execWaitevTimeout e s).Keeps s := by
  refine keeps_finish.2 ?_
  (repeat' split) <;> simp

@[simp] theorem execSbSet_keeps (e : Fin 5) : (execSbSet e s).Keeps s :=
  keeps_finish.2 (s.kept_sbIssue (fun _ _ _ => by simp))

@[simp] theorem execSbSetw_keeps (e : Fin 5) : (execSbSetw e s).Keeps s :=
  keeps_finish.2 (s.kept_sbIssue (fun _ _ _ => by simp))

@[simp] theorem execSbSwap_keeps (e : Fin 5) : (execSbSwap e s).Keeps s :=
  keeps_finish.2 (s.kept_sbIssue (fun _ _ _ => by simp))

@[simp] theorem execSbCapture_keeps (e : Fin 5) : (execSbCapture e s).Keeps s :=
  keeps_finish.2 (s.kept_sbIssue (fun _ _ _ => by simp))

@[simp] theorem execSbGate_keeps (e : Fin 5) : (execSbGate e s).Keeps s :=
  keeps_finish.2 (s.kept_sbIssue (fun _ _ _ => by simp))

@[simp] theorem execSbFectl_keeps (e : Fin 5) : (execSbFectl e s).Keeps s :=
  keeps_finish.2 (s.kept_sbIssue (fun _ _ _ => by simp))

@[simp] theorem execSbFesend_keeps (e : Fin 5) : (execSbFesend e s).Keeps s :=
  keeps_finish.2 (s.kept_sbIssue (fun _ _ _ => by simp))

@[simp] theorem execSbDispatch_keeps (e : Fin 5) (mismatch : Bool) : (execSbDispatch e mismatch s).Keeps s :=
  keeps_finish.2 (s.kept_sbIssue (fun _ _ _ => by simp))

@[simp] theorem execSbDmago_keeps (e : Fin 5) (mismatch : Bool) : (execSbDmago e mismatch s).Keeps s :=
  keeps_finish.2 (s.kept_sbIssue (fun _ _ _ => by simp))

@[simp] theorem execSbPost_keeps (e : Fin 5) (mismatch : Bool) : (execSbPost e mismatch s).Keeps s :=
  keeps_finish.2 (s.kept_sbIssue (fun _ _ _ => by simp))

@[simp] theorem execSbSignal_keeps (e : Fin 5) (mismatch : Bool) : (execSbSignal e mismatch s).Keeps s :=
  keeps_finish.2 (s.kept_sbIssue (fun _ _ _ => by simp))

@[simp] theorem execEngineFault_keeps (e : Fin 5) (hard : Option Bool) : (execEngineFault e hard s).Keeps s := by
  refine keeps_finish.2 ?_
  (repeat' split) <;> simp

@[simp] theorem execSbReliefTarget_keeps (r : Req) (target : BitVec 4) (clr : Bool) :
    (execSbReliefTarget r target clr s).Keeps s :=
  keeps_finish.2 (s.kept_writeBy (fun t => by simp))

@[simp] theorem execSbRetire_keeps (r : Req) : (execSbRetire r s).Keeps s :=
  keeps_finish.2 (s.kept_writeBy (fun t => by simp))

@[simp] theorem execReliefSynced_keeps : (execReliefSynced s).Keeps s := by
  refine keeps_finish.2 ?_
  (repeat' split) <;> simp -implicitDefEqProofs

@[simp] theorem execRun_keeps (r : Req) (e : Fin 5) (run : Bool) : (execRun r e run s).Keeps s :=
  keeps_finish.2 (s.kept_writeBy fun t => t.kept_sbPageWrite fun u => by simp)

@[simp] theorem execRestart_keeps (r : Req) (e : Fin 5) (run : Bool) : (execRestart r e run s).Keeps s :=
  keeps_finish.2 (s.kept_writeBy fun t => t.kept_sbPageWrite fun u => by simp)

@[simp] theorem execSbEvset_keeps (r : Req) (e : Fin 5) (v : DWord) : (execSbEvset r e v s).Keeps s :=
  keeps_finish.2 (s.kept_writeBy fun t => t.kept_sbPageWrite fun u => by simp)

@[simp] theorem execSbEvclr_keeps (r : Req) (e : Fin 5) (v : DWord) : (execSbEvclr r e v s).Keeps s :=
  keeps_finish.2 (s.kept_writeBy fun t => t.kept_sbPageWrite fun u => by simp)

@[simp] theorem execSbFeSafeWrite_keeps (r : Req) (v : Word) : (execSbFeSafeWrite r v s).Keeps s :=
  keeps_finish.2 (s.kept_writeBy (fun t => by simp))

@[simp] theorem execFespiFrameEnd_keeps (p : Fin 4) (sdi : BitVec 64) : (execFespiFrameEnd p sdi s).Keeps s := by
  refine keeps_finish.2 ?_
  dsimp only
  (repeat' split) <;> simp

/-! ## Repair (R466-R473) -/

@[simp] theorem execBfColumnRelief_keeps (dir : Fin 2) (ant : Fin 64) (car : Fin 8) (re : Nat) :
    (execBfColumnRelief dir ant car re s).Keeps s := by
  simp [execBfColumnRelief]

@[simp] theorem execEccUncorrectable_keeps (array : Nat) (row : Fin 128) (addr : Nat) : (execEccUncorrectable array row addr s).Keeps s := by
  simp [execEccUncorrectable]

@[simp] theorem execScrubPass_keeps (errs : List (Nat × Fin 128 × Nat)) : (execScrubPass errs s).Keeps s := by
  refine keeps_finish.2 ?_
  dsimp only
  (repeat' split) <;> simp

@[simp] theorem execSramRowRelief_keeps (array : Nat) (row : Fin 128) : (execSramRowRelief array row s).Keeps s := by
  simp [execSramRowRelief]

@[simp] theorem execEvtIrqAck_keeps (r : Req) (v : Word) : (execEvtIrqAck r v s).Keeps s :=
  keeps_finish.2 (s.kept_writeBy (fun t => by simp))

@[simp] theorem execFeShort_keeps (pin : Fin 32) : (execFeShort pin s).Keeps s := by simp [execFeShort]

/-! ## Power (R415-R439) -/

@[simp] theorem execPowerStep_keeps (refclk swapped : Bool) (lost : BitVec 7) :
    (execPowerStep refclk swapped lost s).Keeps s := by
  refine keeps_finish.2 ?_
  (repeat' split) <;> simp

@[simp] theorem execPwrCmd_keeps (r : Req) (v : Word) : (execPwrCmd r v s).Keeps s :=
  keeps_finish.2 (s.kept_writeBy (fun t => by simp))

@[simp] theorem execWake_keeps (mask : BitVec 4) : (execWake mask s).Keeps s := by simp [execWake]
@[simp] theorem execWakeActivity_keeps (p : Fin 2) : (execWakeActivity p s).Keeps s := by simp [execWakeActivity]

@[simp] theorem execPwrClassWrite_keeps (r : Req) (v : Word) : (execPwrClassWrite r v s).Keeps s :=
  keeps_finish.2 (s.kept_writeBy (fun t => by simp))

@[simp] theorem execThrotEnforced_keeps : (execThrotEnforced s).Keeps s := by
  refine keeps_finish.2 ?_
  (repeat' split) <;> simp

@[simp] theorem execRefclkLost_keeps : (execRefclkLost s).Keeps s := by simp [execRefclkLost]

@[simp] theorem execRefclkRelock_keeps (swapped : Bool) : (execRefclkRelock swapped s).Keeps s := by
  simp [execRefclkRelock]

/-! ## Temperatures (R434-R438) -/

@[simp] theorem execCanaryUpdate_keeps (reads : List SensorRead) : (execCanaryUpdate reads s).Keeps s := by
  simp [execCanaryUpdate]

@[simp] theorem execSafeClear_keeps (r : Req) (v : Word) : (execSafeClear r v s).Keeps s :=
  keeps_finish.2 (s.kept_writeBy (fun t => by simp))

@[simp] theorem execFaultPin_keeps (low : Bool) : (execFaultPin low s).Keeps s := by simp [execFaultPin]
@[simp] theorem execSupplyCheck_keeps : (execSupplyCheck s).Keeps s := by simp [execSupplyCheck]

/-! ## Boot and enclave services (R440-R463) -/

@[simp] theorem execAditFetch_keeps (dst : BitVec 8) (data : List Byte) : (execAditFetch dst data s).Keeps s := by
  refine keeps_finish.2 ?_
  dsimp only
  (repeat' split) <;> simp

@[simp] theorem execAditWaitTimeout_keeps : (execAditWaitTimeout s).Keeps s := by
  refine keeps_finish.2 ?_
  (repeat' split) <;> simp

@[simp] theorem execLoad_keeps (c : Fin 32) (dst : BitVec 8) (data : List Byte) : (execLoad c dst data s).Keeps s := by
  refine keeps_finish.2 (s.kept_serve (fun q ws t => ?_))
  dsimp only
  (repeat' split) <;> simp

@[simp] theorem execBootDone_keeps : (execBootDone s).Keeps s := by
  refine keeps_finish.2 ?_
  (repeat' split) <;> simp

@[simp] theorem execFirmwareReply_keeps : (execFirmwareReply s).Keeps s := by
  refine keeps_finish.2 ?_
  dsimp only
  (repeat' split) <;> simp

@[simp] theorem execForemanLockstep_keeps : (execForemanLockstep s).Keeps s := by simp [execForemanLockstep]

@[simp] theorem execStage_keeps (c : Fin 32) (dst : BitVec 8) (data : List Byte) : (execStage c dst data s).Keeps s :=
  keeps_finish.2 (s.kept_serve (fun q ws t => by simp))

@[simp] theorem execFwSwap_keeps (c : Fin 32) : (execFwSwap c s).Keeps s :=
  keeps_finish.2 (s.kept_serve (fun q ws t => by simp))

@[simp] theorem execFwSwapped_keeps : (execFwSwapped s).Keeps s := by
  refine keeps_finish.2 ?_
  dsimp only
  (repeat' split) <;> simp

@[simp] theorem execAttest_keeps (c : Fin 32) : (execAttest c s).Keeps s :=
  keeps_finish.2 (s.kept_serve (fun q ws t => by simp))

@[simp] theorem execIdGet_keeps (c : Fin 32) : (execIdGet c s).Keeps s :=
  keeps_finish.2 (s.kept_serve (fun q ws t => by simp))

@[simp] theorem execRootProg_keeps (c : Fin 32) : (execRootProg c s).Keeps s := keeps_finish.2 s.kept_otpServe
@[simp] theorem execRootRevoke_keeps (c : Fin 32) : (execRootRevoke c s).Keeps s := keeps_finish.2 s.kept_otpServe
@[simp] theorem execSvnCommit_keeps (c : Fin 32) : (execSvnCommit c s).Keeps s := keeps_finish.2 s.kept_otpServe
@[simp] theorem execLcAdvance_keeps (c : Fin 32) : (execLcAdvance c s).Keeps s := keeps_finish.2 s.kept_otpServe
@[simp] theorem execIdGen_keeps (c : Fin 32) : (execIdGen c s).Keeps s := keeps_finish.2 (s.takeFree.2.kept_otpServe.trans s.kept_takeFree)

@[simp] theorem execRepairCommit_keeps (c : Fin 32) : (execRepairCommit c s).Keeps s :=
  keeps_finish.2 s.kept_otpServe

@[simp] theorem execOtpOperationDone_keeps (ok : Bool) : (execOtpOperationDone ok s).Keeps s := by
  refine keeps_finish.2 ?_
  dsimp only
  (repeat' split) <;> simp

/-! ## Performance counters (R490-R494) -/

@[simp] theorem execFreeze_keeps (r : Req) (v : Word) : (execFreeze r v s).Keeps s :=
  keeps_finish.2 (s.kept_writeBy (fun t => by simp))

@[simp] theorem execSnap_keeps (r : Req) (v : Word) : (execSnap r v s).Keeps s :=
  keeps_finish.2 (s.kept_writeBy (fun t => by simp))

@[simp] theorem execPmuSelWrite_keeps (r : Req) (b : Fin 46) (k : Fin 8) (v : Word) : (execPmuSelWrite r b k v s).Keeps s :=
  keeps_finish.2 (s.kept_writeBy (fun t => by simp))

@[simp] theorem execPmuOverflowFreeze_keeps : (execPmuOverflowFreeze s).Keeps s := by
  refine keeps_finish.2 ?_
  dsimp only
  (repeat' split) <;> simp

/-! ## Secure sessions (R103-R106) -/

@[simp] theorem execHello_keeps (p : Fin 2) (hd : RxHdr) (sec : Option SecTrailer) (tag : BitVec 8) (nonce : BitVec 256)
    (cert : List Byte) :
    (execHello p hd sec tag nonce cert s).Keeps s :=
  keeps_finish.2 (s.kept_hsMessage (fun t => by simp))

@[simp] theorem execEncap_keeps (p : Fin 2) (hd : RxHdr) (sec : Option SecTrailer) (tag : BitVec 8) (ct sig : List Byte) :
    (execEncap p hd sec tag ct sig s).Keeps s := by
  refine keeps_finish.2 (s.kept_hsMessage (fun t => ?_))
  dsimp only
  (repeat' split) <;> simp

@[simp] theorem execClose_keeps (p : Fin 2) (hd : RxHdr) (sec : Option SecTrailer) (tag : BitVec 8) :
    (execClose p hd sec tag s).Keeps s :=
  keeps_finish.2 (s.kept_hostReq (fun r t => by simp))

@[simp] theorem execHandshakeTimeout_keeps (p : Fin 2) : (execHandshakeTimeout p s).Keeps s := by
  refine keeps_finish.2 ?_
  (repeat' split) <;> simp

/-! ## The register bus (R24-R31) -/

@[simp] theorem execRegisterWrite_keeps (r : Req) (addr : Word) (v : Word) : (execRegisterWrite r addr v s).Keeps s := by
  simp [execRegisterWrite]

@[simp] theorem execRcRegisterRead_keeps (r : Req) (addr : Word) : (execRcRegisterRead r addr s).Keeps s := by
  simp [execRcRegisterRead]

@[simp] theorem execLowWordRead_keeps (r : Req) (addr : Word) : (execLowWordRead r addr s).Keeps s := by
  simp [execLowWordRead]

@[simp] theorem execLowWordWrite_keeps (r : Req) (addr : Word) (v : Word) : (execLowWordWrite r addr v s).Keeps s := by
  simp [execLowWordWrite]

@[simp] theorem execHighWordWrite_keeps (r : Req) (addr : Word) (v : Word) : (execHighWordWrite r addr v s).Keeps s := by
  simp [execHighWordWrite]

@[simp] theorem execAtomic64bitAccess_keeps (r : Req) (addr : Word) (v : Option DWord) :
    (execAtomic64bitAccess r addr v s).Keeps s := by
  refine keeps_finish.2 ?_
  (repeat' split) <;> simp

@[simp] theorem execSysAccerrClear_keeps (r : Req) (v : Word) : (execSysAccerrClear r v s).Keeps s := by
  simp [execSysAccerrClear]

@[simp] theorem execPmuCounterWrite_keeps (r : Req) (b : Fin 46) (k : Fin 8) (v : Word) (amt : Nat) : (execPmuCounterWrite r b k v amt s).Keeps s := by
  refine keeps_finish.2 (.of_ite (fun _ => s.kept_writeBy (fun t => by simp)) fun _ => ?_)
  dsimp only
  (repeat' split) <;> simp

@[simp] theorem execRegWr_keeps (p : Fin 2) (hd : RxHdr) (sec : Option SecTrailer) (tag : BitVec 8) (addr : Word) (v : Word) :
    (execRegWr p hd sec tag addr v s).Keeps s :=
  keeps_finish.2 (s.kept_hostReq (fun r t => by simp))

@[simp] theorem execRegRd_keeps (p : Fin 2) (hd : RxHdr) (sec : Option SecTrailer) (tag : BitVec 8) (addr : Word) :
    (execRegRd p hd sec tag addr s).Keeps s :=
  keeps_finish.2 (s.kept_hostReq (fun r t => by simp))

/-! ## Bundles of Lode (R321-R338) -/

@[simp] theorem execLodeBundle_keeps (c : Fin 34) (ecc : Fin 4) : (execLodeBundle c ecc s).Keeps s := by
  refine keeps_finish.2 ?_
  dsimp only
  (repeat' split) <;> simp

@[simp] theorem execFstBusError_keeps (c : Fin 34) : (execFstBusError c s).Keeps s := by simp [execFstBusError]

/-! ## The management port (R477) -/

@[simp] theorem execMspiWrite_keeps (addr : Word) (words : List Word) : (execMspiWrite addr words s).Keeps s := by
  simp [execMspiWrite]

@[simp] theorem execMspiRead_keeps (addr : Word) (n : Fin 64) : (execMspiRead addr n s).Keeps s := by simp [execMspiRead]
@[simp] theorem execMspiStatus_keeps : (execMspiStatus s).Keeps s := by simp [execMspiStatus]

/-! ## Resets (R8, R439) -/

@[simp] theorem execResetEntry_keeps (por : Bool) : (execResetEntry por s).Keeps s := by simp [execResetEntry]
@[simp] theorem execResetExit_keeps (por : Bool) : (execResetExit por s).Keeps s := by simp [execResetExit]

/-- The loss of `VDD_AON` sets `TB_CNT` to 0 and leaves the queue (R132). -/
theorem execVddAonLoss_pending : ∃ t, execVddAonLoss s = .next t ∧ t.pending = s.pending := by simp [execVddAonLoss, finish]

theorem execVddAonApply_pending : ∃ t, execVddAonApply s = .next t ∧ t.pending = s.pending := by simp [execVddAonApply, finish]

/-! ## Staged effects (R156, R162) -/

@[simp] theorem execStagedEffect_keeps (e : Fin 5) (mismatch : Bool) : (execStagedEffect e mismatch s).Keeps s := by
  refine keeps_finish.2 ?_
  dsimp only
  (repeat' split) <;> simp

/-! ## The transmit path (R176-R198) -/

@[simp] theorem execSymbolRead_keeps (c : Fin 8) : (execSymbolRead c s).Keeps s := by simp [execSymbolRead]

/-! ## Every command -/

theorem exec_keeps (c : Instr) (hloss : c ≠ .vddAonLoss) (happly : c ≠ .vddAonApply) : Res.Keeps (exec c s) s := by
  cases c
  case vddAonLoss => exact absurd rfl hloss
  case vddAonApply => exact absurd rfl happly
  all_goals simp [exec]

/-- Every command answers a next state, and none touches the queue. -/
theorem exec_next (c : Instr) : ∃ t, exec c s = .next t ∧ t.pending = s.pending := by
  by_cases hloss : c = .vddAonLoss
  · subst hloss; exact execVddAonLoss_pending s
  by_cases happly : c = .vddAonApply
  · subst happly; exact execVddAonApply_pending s
  obtain ⟨t, ht, hkept⟩ := exec_keeps s c hloss happly
  exact ⟨t, ht, hkept.1⟩

variable {s}

theorem pending_of_exec {c : Instr} {t : State} (h : exec c s = .next t) : t.pending = s.pending := by
  obtain ⟨u, hu, hpend⟩ := exec_next s c
  rw [hu] at h
  cases h
  exact hpend

/-- Settles O26: an empty queue passes a tick, and every command answers a next state. -/
theorem everyStepGoesOn : Obligations.EveryStepGoesOn := by
  intro s
  unfold State.goesOn step
  split
  · exact ⟨_, rfl⟩
  next c rest _ =>
    obtain ⟨t, ht, _⟩ := exec_next { s with pending := rest } c
    exact ⟨t, ht⟩

/-- Settles O28: no command but those of `VDD_AON` touches the two counts, and of a tick's operations only the first does. -/
theorem onlyTheAlwaysOnSupplySetsTheCountBack : Obligations.OnlyTheAlwaysOnSupplySetsTheCountBack := by
  refine ⟨fun c s t h hloss happly => ?_, State.idleTick_counts⟩
  obtain ⟨u, hu, _, htick, htb⟩ := exec_keeps s c hloss happly
  rw [hu] at h
  cases h
  exact ⟨htb, htick⟩

/-! ## Runs of the queue -/

/-- A step with a command in front runs it on the queue's rest, and leaves that rest. -/
theorem step_front {c : Instr} {rest : List Instr} (h : s.pending = c :: rest) :
    ∃ t, step s = .next t ∧ exec c { s with pending := rest } = .next t ∧ t.pending = rest := by
  obtain ⟨t, ht, hpend⟩ := exec_next { s with pending := rest } c
  refine ⟨t, ?_, ht, hpend⟩
  unfold step
  rw [h]
  exact ht

/-- As many steps as commands wait in front leave the others. -/
theorem runs_queue {cs rest : List Instr} (h : s.pending = cs ++ rest) : ∃ t, runs cs.length s t ∧ t.pending = rest := by
  induction cs generalizing s with
  | nil => exact ⟨s, rfl, h⟩
  | cons c cs ih =>
    obtain ⟨u, hstep, _, hpend⟩ := step_front h
    obtain ⟨t, hrun, ht⟩ := ih hpend
    exact ⟨t, ⟨u, hstep, hrun⟩, ht⟩

theorem runs_succ {n : Nat} {t u : State} (hrun : runs n s t) (hstep : step t = .next u) : runs (n + 1) s u := by
  induction n generalizing s with
  | zero => cases hrun; exact ⟨u, hstep, rfl⟩
  | succ n ih =>
    obtain ⟨v, hv, hrest⟩ := hrun
    exact ⟨v, hv, ih hrest⟩

/-- Settles O27: no command touches the queue, so each step takes the command in front off it and leaves the rest. -/
theorem commandsRunFirstInFirstOut : Obligations.CommandsRunFirstInFirstOut := by
  refine ⟨fun c s t => pending_of_exec, fun cs rest s => runs_queue, fun c cs rest s h => ?_⟩
  obtain ⟨t, hrun, hpend⟩ := runs_queue h
  obtain ⟨u, hstep, hexec, _⟩ := step_front hpend
  exact ⟨t, u, hrun, hexec, runs_succ hrun hstep⟩

end Sys2Proof.Machine
end

section
/-! SUPPORT. The read equation of a time domain (R135), what re-anchoring and a change of the selected domain leave, and the statements on them. -/
namespace Sys2Proof.Machine

/-- A time-form register reads back the time value stored in it, within its 48 bits of seconds (R134). -/
theorem State.rdTime_wrTime (s : State) (a : Nat) {t : Nat} (h : t < 2 ^ 48 * uPerSec) : (s.wrTime a t).rdTime a = t := by
  simp only [uPerSec] at h
  simp [State.rdTime, State.wrTime, timeWords, uPerSec, State.rd_wr_other]
  omega

/-- Storing a time value leaves every word outside its four. -/
theorem State.rd_wrTime_other (s : State) {a b : Nat} (t : Nat) (h : b < a ∨ a + 12 < b) : (s.wrTime a t).rd b = s.rd b := by
  have hb : b ≠ a + 12 ∧ b ≠ a + 8 ∧ b ≠ a + 4 ∧ b ≠ a := by omega
  simp [State.wrTime, timeWords, State.rd_wr_other, hb]

/-- A time-form register is as it was after a write of another word. -/
theorem State.rdTime_wr64_other (s : State) {a b : Nat} (v : Nat) (h : a + 12 < b) : (s.wr64 b v).rdTime a = s.rdTime a := by
  simp only [State.rdTime]
  rw [State.rd_wr64_other, State.rd_wr64_other, State.rd_wr64_other, State.rd_wr64_other] <;> omega

/-- No count has passed since an anchor at the current count, whatever is below 2^64. -/
theorem count_since_same {tb : Nat} (h : tb < 2 ^ 64) : (tb + 2 ^ 64 - tb) % 2 ^ 64 = 0 := by omega

theorem State.rd64_anchor_reanchor (s : State) (x t : Nat) (htb : s.tb < 2 ^ 64) : (s.reanchor x t).rd64 (Reg.TD_ANCHOR x) = s.tb := by
  rw [State.reanchor, State.rd64_wr64_same, Nat.mod_eq_of_lt htb]

@[simp] theorem State.tb_reanchor (s : State) (x t : Nat) : (s.reanchor x t).tb = s.tb := (s.kept_reanchor x t).2.2

/-- A domain whose anchor is the current count shows its offset (R135). -/
theorem State.dom_of_anchor_now {s : State} {x : Nat} (htb : s.tb < 2 ^ 64) (ha : s.rd64 (Reg.TD_ANCHOR x) = s.tb) :
    s.dom x = s.rdTime (Reg.TD_OFFSET x) := by
  simp only [State.dom, State.domAt, ha, count_since_same htb, Nat.zero_mul, Nat.zero_div, Nat.add_zero]

/-- After re-anchoring at a time value the domain shows that value (R136). -/
theorem State.dom_reanchor (s : State) (x : Nat) {t : Nat} (htb : s.tb < 2 ^ 64) (ht : t < 2 ^ 48 * uPerSec) : (s.reanchor x t).dom x = t := by
  rw [State.dom_of_anchor_now (by simpa using htb) (by simpa using s.rd64_anchor_reanchor x t htb), State.reanchor,
    State.rdTime_wr64_other _ _ (by simp only [Reg.TD_OFFSET, Reg.TD_ANCHOR]; omega), State.rdTime_wrTime _ _ ht]

theorem timeMod_lt (t : Int) : timeMod t < 2 ^ 48 * uPerSec := by
  simp only [timeMod, uPerSec]; omega

/-- Two states that hold the same domain words and the same count show the same domain time. -/
theorem State.dom_congr {s t : State} {x : Nat} (htb : t.tb = s.tb)
    (hr : ∀ a, Reg.TD_OFFSET x ≤ a → a ≤ Reg.TD_ANCHOR x + 4 → t.rd a = s.rd a) : t.dom x = s.dom x := by
  have hw : ∀ k, k ≤ 36 → t.rd (Reg.TD_OFFSET x + k) = s.rd (Reg.TD_OFFSET x + k) := fun k hk => hr _ (by omega) (by
    simp only [Reg.TD_OFFSET, Reg.TD_ANCHOR]; omega)
  have hinc : Reg.TD_INC x = Reg.TD_OFFSET x + 16 := by simp only [Reg.TD_OFFSET, Reg.TD_INC]; omega
  have hanc : Reg.TD_ANCHOR x = Reg.TD_OFFSET x + 32 := by simp only [Reg.TD_OFFSET, Reg.TD_ANCHOR]; omega
  have h0 : t.rd (Reg.TD_OFFSET x) = s.rd (Reg.TD_OFFSET x) := hw 0 (by omega)
  have h4 := hw 4 (by omega)
  have h8 := hw 8 (by omega)
  have h12 := hw 12 (by omega)
  have h16 := hw 16 (by omega)
  have h20 := hw 20 (by omega)
  have h32 := hw 32 (by omega)
  have h36 := hw 36 (by omega)
  simp only [State.dom, State.domAt, State.rdTime, State.incInForce, State.rd64, hinc, hanc, Nat.add_assoc, Nat.reduceAdd, htb, h0, h4, h8, h12, h16, h20,
    h32, h36]

/-- A committed OFFSET shows the value written plus the steps of its own cycle: the model adds them whichever was sent first (R136). -/
theorem State.dom_offsetCommit (s : State) (x t : Nat) (htb : s.tb < 2 ^ 64) :
    (s.offsetCommit x t).dom x = timeMod ((t : Int) + s.stepsNow x) := by
  have hst : ∀ u : State, (u.stepped x).dom x = u.dom x := fun u =>
    State.dom_congr (by simp only [State.stepped]; split <;> rfl) (fun a _ _ => by simp only [State.stepped]; split <;> rfl)
  rw [State.offsetCommit, hst]
  refine Eq.trans (State.dom_congr (by rfl) (fun a h1 _ => State.rd_setFld_other _ _ _ ?_)) (s.dom_reanchor x htb (timeMod_lt _))
  simp only [Reg.TD_OFFSET, Reg.TIME_STATUS] at h1 ⊢
  omega

/-- Settles O31: the count since the anchor is a plain difference when the anchor is not later. -/
theorem domainTimeFollowsTheReadEquation : Obligations.DomainTimeFollowsTheReadEquation := by
  unfold Obligations.DomainTimeFollowsTheReadEquation
  refine ⟨?_, ?_, rd64_reset_TD_INC, rfl, by decide, by decide⟩
  · intro s x tb anchor inc offSec offNs offSubns d q t ha hle htb hinc hd hq hsub hns hsec ht
    have hcount : (tb + 2 ^ 64 - anchor) % 2 ^ 64 = d := by omega
    refine ⟨?_, rfl⟩
    rw [State.domAt, ← ha, hcount, ← hinc, ht, hq, Nat.shiftRight_eq_div_pow, State.rdTime, hsub, hns, hsec]
  · intro s x hlo hhi
    have hmod : s.rd64 (Reg.TD_INC x) % 2 ^ 48 = s.rd64 (Reg.TD_INC x) := Nat.mod_eq_of_lt (by omega)
    rw [State.incInForce, hmod, if_neg (by omega), if_neg (by omega)]

/-- A state in which domain A was stepped by one unit in the cycle of the current count. -/
def steppedThisCycle : State := { State.reset with time := { steps := [(0, 0, 1)] } }

/-- Refutes O32: an OFFSET committed in the cycle of a committed STEP shows the value written plus that step, so of 0 the domain reads 1. -/
theorem not_committedWritesReanchorTheirDomain : ¬ Obligations.CommittedWritesReanchorTheirDomain := by
  unfold Obligations.CommittedWritesReanchorTheirDomain
  intro h
  have hdom : steppedThisCycle.dom ((0 : Fin 2) : Nat) < 2 ^ 48 * uPerSec := by decide +kernel
  have hread := ((h steppedThisCycle 0 (by decide) hdom).1 0 (by decide)).1
  rw [State.dom_offsetCommit _ _ _ (by decide)] at hread
  exact absurd hread (by decide)

/-- The fields of `TIME_CTL` and `TIME_STATUS` that a change of the selected domain writes lie outside the words of every domain. -/
theorem State.dom_congr_status {s t : State} {x : Nat} (htb : t.tb = s.tb)
    (hr : ∀ a, a ≠ Reg.TIME_CTL → a ≠ Reg.TIME_STATUS → t.rd a = s.rd a) : t.dom x = s.dom x :=
  State.dom_congr htb fun a h1 _ => hr a (by simp only [Reg.TD_OFFSET, Reg.TIME_CTL] at h1 ⊢; omega)
    (by simp only [Reg.TD_OFFSET, Reg.TIME_STATUS] at h1 ⊢; omega)

/-- A value in units u that `TIME_TRANS` holds as whole units reads back as itself. -/
theorem transU_of_units {s : State} {k : Int} (h : s.time.trans = k * 65536) : s.transU = k := by
  rw [State.transU, h, divz, Int.mul_tdiv_cancel _ (by decide)]

/-- Raising an event writes no register. -/
@[simp] theorem State.rd_raise (s : State) (code unit arg6 arg7 a : Nat) : (s.raise code unit arg6 arg7).rd a = s.rd a := rfl

theorem State.rd_raise_withTime (s : State) (m : TimeSt) (code unit a : Nat) : (({ s with time := m } : State).raise code unit).rd a = s.rd a := rfl

/-- What a change of the selected domain leaves: `TIME_TRANS` as the difference of the times, every domain as it was, the domain selected (R139). -/
theorem State.setTsel_of_ne (s : State) {x : Nat} (hx : x ≠ s.tsel) :
    (s.setTsel x).time.trans = ((s.outU : Int) - s.dom x) * 65536 ∧ (∀ y, (s.setTsel x).dom y = s.dom y) ∧ (s.setTsel x).tsel = x % 2 := by
  have hne : Reg.TIME_CTL ≠ Reg.TIME_STATUS := by decide
  have hd : ∀ y, ((s.setFld Reg.TIME_CTL Fld.TIME_CTL_TSEL x).setFld Reg.TIME_STATUS Fld.TIME_STATUS_TSEL_ACT x).dom y = s.dom y := fun y =>
    State.dom_congr_status rfl fun a h1 h2 => by rw [State.rd_setFld_other _ _ _ h2, State.rd_setFld_other _ _ _ h1]
  have hregs : ∀ a, a ≠ Reg.TIME_STATUS → (s.setTsel x).rd a = (s.setFld Reg.TIME_CTL Fld.TIME_CTL_TSEL x).rd a := by
    intro a ha
    simp only [State.setTsel, if_neg hx]
    split
    · rw [State.rd_setFld_other _ _ _ ha, State.rd_raise_withTime, State.rd_setFld_other _ _ _ ha]
    · split
      · rw [State.rd_raise, State.rd_setFld_other _ _ _ ha, State.rd_raise_withTime, State.rd_setFld_other _ _ _ ha]
      · rw [State.rd_raise_withTime, State.rd_setFld_other _ _ _ ha]
  refine ⟨?_, fun y => State.dom_congr_status (s.kept_setTsel x).2.2 fun a h1 h2 => ?_, ?_⟩
  · rw [← hd x]
    simp only [State.setTsel, if_neg hx]
    generalize (s.setFld Reg.TIME_CTL Fld.TIME_CTL_TSEL x).setFld Reg.TIME_STATUS Fld.TIME_STATUS_TSEL_ACT x = u
    generalize (s.outU : Int) - u.dom x = k
    split
    · rfl
    · split <;> rfl
  · rw [hregs a h2, State.rd_setFld_other _ _ _ h1]
  · rw [State.tsel, State.fld, hregs _ hne]
    exact State.fld_setFld_same _ _ _ _ (by decide)

/-- Settles O33: where the domain changes, `TIME_TRANS` becomes the output time less the new domain's time, so the output time is their sum again. -/
theorem outputTimeDoesNotJumpAtASwitch : Obligations.OutputTimeDoesNotJumpAtASwitch := by
  unfold Obligations.OutputTimeDoesNotJumpAtASwitch
  intro s x
  by_cases hx : x.val = s.tsel
  · rw [State.setTsel, if_pos hx]
    exact ⟨rfl, hx.symm, fun h => absurd hx.symm h⟩
  · obtain ⟨htrans, hdom, hsel⟩ := s.setTsel_of_ne hx
    rw [Nat.mod_eq_of_lt x.isLt] at hsel
    have htu := transU_of_units htrans
    refine ⟨?_, hsel, fun _ => htu⟩
    rw [State.outU, hsel, htu, hdom]
    omega

end Sys2Proof.Machine
end

section
/-! SUPPORT. The stamping of an exchange, and the statement on the whole effect of each time command. -/
namespace Sys2Proof.Machine

/-- While TCLK runs a stamp is the port's domain time, adjusted, and no free value is drawn (R141). -/
theorem State.stampNow_of_tclk {s : State} (h : s.tclk = true) (p : Nat) (f : Field) :
    s.stampNow p f = (timeMod ((s.dom p : Int) + adjU (s.fld (Reg.TIME_PORTCOMP p) f)), s) := if_pos h

@[simp] theorem State.exch_heard (s : State) (p : Nat) : ((s.heard p).link p).exch = (s.link p).exch := by
  have hl : (s.heard p).link p = { s.link p with discardSf := none } := State.link_setLink_same _ _ _
  rw [hl]

theorem State.exch_tookRt (s : State) (p : Nat) (h : RxHdr) (type : Nat) : ((s.tookRt p h type).link p).exch = (s.link p).exch := by
  have hl : (s.tookRt p h type).link p =
      { (s.heard p).link p with rtRx := kvSet (fun _ => none) ((s.heard p).link p).rtRx type (some h.seq.toNat) } := State.link_setLink_same _ _ _
  rw [hl]
  exact s.exch_heard p

theorem State.tclk_tookRt (s : State) (p : Nat) (h : RxHdr) (type : Nat) : (s.tookRt p h type).tclk = s.tclk := by
  have hr : (s.tookRt p h type).rd Reg.SYS_CLK_STATUS = s.rd Reg.SYS_CLK_STATUS := by
    refine (State.rd_wr64_other (s := (s.heard p).setLink p _) (a := Reg.LINK_RT_RX_CNT p) _ ?_ ?_).trans rfl <;>
      (simp only [Reg.SYS_CLK_STATUS, Reg.LINK_RT_RX_CNT]; omega)
  simp only [State.tclk, State.clkOn, State.bit, State.fld, hr]

/-- The running exchange of a port whose DREQ is due sends both packets, with t3 of this instant (R142). -/
theorem State.sendDreq_of_due {s : State} {p due tseq t2 : Nat} (hc : s.tclk = true) (he : (s.link p).exch = some (due, tseq, t2)) (hd : due ≤ s.tick) :
    s.sendDreq p =
      (let t3 := timeMod ((s.dom p : Int) + adjU (s.fld (Reg.TIME_PORTCOMP p) Fld.TIME_PORTCOMP_TX_ADJ));
        ((s.setLink p { s.link p with exch := none }).sendRt p 6 1 (2 * 2 ^ 28 + tseq) [0, 0]).sendRt p 6 3
          (3 * 2 ^ 28 + tseq) ([0, 0] ++ wordsOf (stampBytes t2 ++ stampBytes t3) ++ [0, 0])) := by
  rw [State.sendDreq, he]
  simp only [if_neg (Nat.not_lt.2 hd), State.stampNow_of_tclk hc]

/-- What a SYNC of TOP 1 that starts an exchange leaves (R141, R142). -/
theorem exec_sync_starts {s : State} {p : Fin 2} {h : RxHdr} (tseq : BitVec 16) (ht : s.takesRt p h 6 0) (hc : s.tclk = true)
    (he : (s.link p).exch = none) :
    exec (.sync p h 1 tseq) s =
      .next (State.endCycle (let u := (s.tookRt p h 6).takeFree.2
        let t2 := timeMod ((u.dom p : Int) + adjU (u.fld (Reg.TIME_PORTCOMP p) Fld.TIME_PORTCOMP_RX_ADJ))
        u.setLink p { u.link p with exch := some (u.tick + 1 + (s.tookRt p h 6).takeFree.1 % 9830, tseq.toNat, t2) })) := by
  have hu : (s.tookRt p h 6).takeFree.2.tclk = true := (s.tclk_tookRt p h 6).trans hc
  have hx : ¬((s.tookRt p h 6).link p).exch.isSome = true := by rw [s.exch_tookRt, he]; exact Bool.false_ne_true
  refine finish_congr ?_
  rw [rxRt_takes ht _ rfl]
  simp only [ne_eq, not_true_eq_false, if_false, if_neg hx, State.stampNow_of_tclk hu]

/-- The time between the last `PPS_IN` edge and now, where there was one, tells an early edge (R144). -/
theorem exec_ppsinCapture_taken {s : State} (hc : s.tclk = true)
    (hb : ∀ b, s.time.ppsAt = some b → 491520000 ≤ (s.tb + 2 ^ 64 - b) % 2 ^ 64) :
    exec .ppsinCapture s = .next (State.endCycle
      (let t := (((s.wrTime (Reg.TIME_PPSIN 0) (s.dom 0)).wrTime (Reg.TIME_PPSIN 1) (s.dom 1)).wr64 Reg.TIME_PPSIN_TB s.tb).setFld
        Reg.TIME_STATUS Fld.TIME_STATUS_PPSIN_LOST 0
      ({ t with time := { t.time with ppsAt := some s.tb } }.evSource 0x60).raise 0xC003 0xFF)) := by
  have hearly : (match s.time.ppsAt with
      | some t => decide ((s.tb + 2 ^ 64 - t) % 2 ^ 64 < 491520000)
      | none => false) = false := by
    cases h : s.time.ppsAt with
    | none => rfl
    | some b => exact decide_eq_false (Nat.not_lt.2 (hb b h))
  refine finish_congr ((if_neg ?_).trans rfl)
  rw [hc]
  exact fun hcon => Bool.false_ne_true (hearly.symm.trans hcon)

/-- Settles O8: each command runs its rule once where its conditions hold. -/
theorem timeCommandsTakeEffect : Obligations.TimeCommandsTakeEffect := by
  unfold Obligations.TimeCommandsTakeEffect
  refine ⟨?_, fun s p due tseq t2 hc he hd => State.sendDreq_of_due hc he hd, fun s r x w0 w1 w2 w3 hg => finish_writeBy hg rfl,
    fun s r x v hg => finish_writeBy hg rfl, fun s r x v hg => finish_writeBy hg rfl, ?_, ?_, ?_, ?_, ?_, ?_, ?_⟩
  · rintro s t p h tseq ht rfl hc he
    exact exec_sync_starts tseq ht hc he
  · intro s r v hg hen
    exact finish_writeBy hg (by simp only [timeCtlWrite, hen, if_true])
  · intro s r v hg hen
    exact finish_writeBy hg (by simp only [timeCtlWrite, hen, if_neg Nat.one_ne_zero])
  · exact fun s h0 hs => finish_congr (if_pos ⟨h0, hs⟩)
  · rintro s t hc hb rfl
    exact exec_ppsinCapture_taken hc hb
  · intro s b hc hl hb hd
    refine finish_congr ?_
    simp only [hb, hc, hl, decide_eq_true hd, Bool.not_false, Bool.and_self, if_true]
  · intro s hc hen hdue
    exact finish_congr (if_pos (by rw [hc, hen, hdue]; rfl))
  · exact fun s hout hfall => finish_congr (if_pos (by rw [hout, decide_eq_true hfall]; rfl))

end Sys2Proof.Machine
end

section
/-! SUPPORT. What counting, transmission, the log and an answer leave (R24, R37, R106, R481, R484): register words outside their own, and every other component of the
state. -/
namespace Sys2Proof.Machine

/-! ## Register words outside the performance counters -/

/-- The word lies outside the page of the performance counters. -/
abbrev offPmu (a : Nat) : Prop := a / 0x10000 ≠ Reg.PMU_CTL / 0x10000

theorem ne_of_offPmu {a b : Nat} (ha : offPmu a) (h1 : 0x60000 ≤ b) (h2 : b < 0x70000) : a ≠ b := by
  simp only [offPmu, Reg.PMU_CTL] at ha
  omega

section
variable {a : Nat} (ha : offPmu a) (s : State)
include ha

/-- Counting from counter `k` on writes counters of its bank and the bank's overflow word only. -/
theorem State.rd_pmuFrom_off {b k n : Nat} (hb : b < 46) (hk : k + n ≤ 8) (ev amt : Nat) : (s.pmuFrom b ev amt k n).rd a = s.rd a := by
  have hcnt : ∀ j, j ≤ 8 → a ≠ Reg.PMU_CNT b j := fun j hj => ne_of_offPmu ha (by unfold Reg.PMU_CNT; omega) (by unfold Reg.PMU_CNT; omega)
  have hovf : a ≠ Reg.PMU_BANK_OVF b := ne_of_offPmu ha (by unfold Reg.PMU_BANK_OVF; omega) (by unfold Reg.PMU_BANK_OVF; omega)
  have hpmu : ∀ (t : State) x, ({ t with pmu := x } : State).rd a = t.rd a := fun _ _ => rfl
  induction n generalizing s k with
  | zero => rfl
  | succ n ih =>
    have hthis := hcnt k (by omega)
    have hnext := hcnt (k + 1) (by omega)
    have hrest : ∀ t : State, (t.pmuFrom b ev amt (k + 1) n).rd a = t.rd a := fun t => ih t (by omega)
    unfold State.pmuFrom
    dsimp only
    (repeat' split) <;> simp only [hrest, hpmu, State.rd_setFld_other _ _ _ hovf, State.rd_wr_other _ _ hthis, State.rd_wr_other _ _ hnext]

theorem State.rd_pmuCount_off {b : Nat} (hb : b < 46) (ev amt : Nat) : (s.pmuCount b ev amt).rd a = s.rd a := by
  unfold State.pmuCount
  split
  · rfl
  · exact s.rd_pmuFrom_off ha hb (by omega) ev amt

theorem State.rd_answer_off (r : Req) (code data : Nat) : (s.answer r code data).rd a = s.rd a := by
  unfold State.answer
  (repeat' split) <;> simp only [State.rd_pmuCount_off ha _ (show 45 < 46 by decide), State.rd_setBus]

theorem State.rd_pumpSome_off (p : Fin 2) (n : Nat) : (s.pumpSome p n).rd a = s.rd a := by
  simp only [State.pumpSome, State.rd_pmuCount_off ha _ (show 40 + p.val < 46 by omega), State.rd_putPkts, State.rd_setLink]

/-! ## Register words outside a port's session bits, and outside the event log -/

section
variable (hl : ∀ p : Fin 2, a ≠ Reg.LINK_SEC_STAT p ∧ a ≠ Reg.LINK_STATUS p)
include hl

omit ha in
theorem State.rd_sessionEnd_off (p : Fin 2) : (s.sessionEnd p).rd a = s.rd a := by
  unfold State.sessionEnd
  split
  · exact (State.rd_setFld_other _ _ _ (hl p).2).trans (State.rd_setFld_other _ _ _ (hl p).1)
  · rfl

theorem State.rd_pump_off (p : Fin 2) : (s.pump p).rd a = s.rd a := by
  unfold State.pump
  dsimp only
  (repeat' split) <;> simp only [State.rd_pumpSome_off ha, State.rd_sessionEnd_off _ hl]

theorem State.rd_sendBk_off (p : Fin 2) (type len tspec : Nat) (body : List Nat) : (s.sendBk p type len tspec body).rd a = s.rd a := by
  unfold State.sendBk
  split <;> simp only [State.rd_pump_off ha _ hl, State.rd_setLink]

theorem State.rd_sendEvent_off (p : Fin 2) (e : EvRec) : (s.sendEvent p e).rd a = s.rd a := by
  unfold State.sendEvent
  split
  · exact s.rd_sendBk_off ha hl p _ _ _ _
  · rfl

theorem State.rd_logEvent_off (hlog : logWord a = false) (r : EvReq) : (s.logEvent r).rd a = s.rd a := by
  simp only [logWord, Bool.or_eq_false_iff, beq_eq_false_iff_ne] at hlog
  obtain ⟨⟨⟨hnext, hold⟩, hstat⟩, -⟩ := hlog
  have hevs : ∀ (t : State) x, ({ t with evs := x } : State).rd a = t.rd a := fun _ _ => rfl
  refine (State.rd_sendEvent_off ha _ hl 1 _).trans ((State.rd_sendEvent_off ha _ hl 0 _).trans ?_)
  simp only [hevs, State.rd_wr_other _ _ hold, State.rd_wr_other _ _ hnext]
  split
  · exact State.rd_setFld_other _ _ _ hstat
  · rfl

end

end

theorem offPmu_of_not_logWord {a : Nat} (h : logWord a = false) : offPmu a := by
  simp only [logWord, Bool.or_eq_false_iff, decide_eq_false_iff_not] at h
  exact fun he => h.2 he.symm

theorem State.rd_endCycle_off {a : Nat} (hlog : logWord a = false) (hl : ∀ p : Fin 2, a ≠ Reg.LINK_SEC_STAT p ∧ a ≠ Reg.LINK_STATUS p) (s : State) :
    s.endCycle.rd a = s.rd a := by
  have hfold : ∀ (l : List EvReq) (t : State), (l.foldl State.logEvent t).rd a = t.rd a := by
    intro l
    induction l with
    | nil => exact fun _ => rfl
    | cons r l ih => exact fun t => (ih _).trans (t.rd_logEvent_off (offPmu_of_not_logWord hlog) hl hlog r)
  exact hfold _ _

/-! ## Components outside the counters -/

/-- A state without its registers and the PMU's own record: what counting leaves. -/
def State.uncounted (s : State) : State := { s with regs := [], pmu := {} }

theorem State.uncounted_wr (s : State) (a : Nat) (v : Word) : (s.wr a v).uncounted = s.uncounted := rfl
theorem State.uncounted_setFld (s : State) (a : Nat) (f : Field) (v : Nat) : (s.setFld a f v).uncounted = s.uncounted := rfl
theorem State.uncounted_withPmu (s : State) (x : PmuSt) : ({ s with pmu := x } : State).uncounted = s.uncounted := rfl

theorem State.uncounted_pmuFrom (s : State) (b ev amt k n : Nat) : (s.pmuFrom b ev amt k n).uncounted = s.uncounted := by
  induction n generalizing s k with
  | zero => rfl
  | succ n ih =>
    unfold State.pmuFrom
    dsimp only
    (repeat' split) <;> simp only [ih, State.uncounted_setFld, State.uncounted_wr, State.uncounted_withPmu]

theorem State.uncounted_pmuCount (s : State) (b ev amt : Nat) : (s.pmuCount b ev amt).uncounted = s.uncounted := by
  unfold State.pmuCount
  split
  · rfl
  · exact s.uncounted_pmuFrom b ev amt 0 8

/-- A state with another's registers, bus records and PMU record. -/
def State.withAnswerOf (s t : State) : State := { s with regs := t.regs, bus := t.bus, pmu := t.pmu }

/-- An answer changes registers, bus records and the PMU's record at most. -/
theorem State.answer_eq (s : State) (r : Req) (code data : Nat) : s.answer r code data = s.withAnswerOf (s.answer r code data) := by
  have hsame : ∀ u : State, (u.uncounted = s.uncounted ∨ ∃ b, u.uncounted = (s.setBus r.id b).uncounted) → u = s.withAnswerOf u := by
    rintro u (h | ⟨b, h⟩)
    · exact congrArg (State.withAnswerOf · u) (a₁ := u.uncounted) (a₂ := s.uncounted) h
    · exact congrArg (State.withAnswerOf · u) (a₁ := u.uncounted) (a₂ := (s.setBus r.id b).uncounted) h
  refine hsame _ ?_
  unfold State.answer
  split
  · exact .inl rfl
  · split
    · exact .inr ⟨_, State.uncounted_pmuCount _ _ _ _⟩
    · exact .inr ⟨_, (State.uncounted_pmuCount _ _ _ _).trans (State.uncounted_pmuCount _ _ _ _)⟩

end Sys2Proof.Machine
end

section
/-! SUPPORT. The end of a cycle as a whole (R37, R106, R481): the events and flags of the cycle that are left, and the components that stay. -/
namespace Sys2Proof.Machine

/-! ## The cycle's own lists -/

/-- The cycle's own lists, of events and of flags set, in which the only events are ends of secure sessions. -/
def State.OnlySessionEnds (s : State) : Prop := (∀ x ∈ s.raised, x.code = 0x3017) ∧ s.sets = []

/-- The cycle's own lists. -/
def State.cycleLists (s : State) : List EvReq × List (Nat × Word) := (s.raised, s.sets)

theorem State.OnlySessionEnds.congr {s t : State} (h : s.OnlySessionEnds) (he : t.cycleLists = s.cycleLists) : t.OnlySessionEnds := by
  obtain ⟨hr, hs⟩ := Prod.mk.inj he
  exact ⟨hr ▸ h.1, hs.trans h.2⟩

theorem State.cycleLists_wr (s : State) (a : Nat) (v : Word) : (s.wr a v).cycleLists = s.cycleLists := rfl
theorem State.cycleLists_setFld (s : State) (a : Nat) (f : Field) (v : Nat) : (s.setFld a f v).cycleLists = s.cycleLists := rfl
theorem State.cycleLists_withEvs (s : State) (l : List EvRec) : ({ s with evs := l } : State).cycleLists = s.cycleLists := rfl

theorem State.cycleLists_putPkts (s : State) (p : Nat) (qs : List Pkt) : (s.putPkts p qs).cycleLists = s.cycleLists := by
  induction qs generalizing s with
  | nil => rfl
  | cons q qs ih => exact ih _

theorem State.cycleLists_pmuCount (s : State) (b ev amt : Nat) : (s.pmuCount b ev amt).cycleLists = s.cycleLists :=
  congrArg State.cycleLists (a₁ := (s.pmuCount b ev amt).uncounted) (a₂ := s.uncounted) (s.uncounted_pmuCount b ev amt)

theorem State.cycleLists_pumpSome (s : State) (p n : Nat) : (s.pumpSome p n).cycleLists = s.cycleLists := by
  unfold State.pumpSome
  exact (State.cycleLists_pmuCount _ _ _ _).trans (State.cycleLists_putPkts _ _ _)

section
variable {s : State} (h : s.OnlySessionEnds)
include h

theorem State.OnlySessionEnds.sessionEnd (p : Nat) : (s.sessionEnd p).OnlySessionEnds := by
  unfold State.sessionEnd
  split
  · exact ⟨fun x hx => (List.mem_cons.1 hx).elim (fun he => congrArg EvReq.code he) (h.1 x), h.2⟩
  · exact h

theorem State.OnlySessionEnds.pump (p : Nat) : (s.pump p).OnlySessionEnds := by
  unfold State.pump
  generalize (if !s.rtReady p then (s.link p).waiting.length else if 31 ≤ (s.link p).rtRun then 1 else 0) = n
  have hsome : (s.pumpSome p n).OnlySessionEnds := h.congr (s.cycleLists_pumpSome p n)
  dsimp only
  split
  · exact (hsome.sessionEnd p).congr (State.cycleLists_pumpSome _ p n)
  · exact hsome

theorem State.OnlySessionEnds.sendBk (p type len tspec : Nat) (body : List Nat) : (s.sendBk p type len tspec body).OnlySessionEnds := by
  unfold State.sendBk
  split
  · refine State.OnlySessionEnds.pump ?_ p
    exact ⟨h.1, h.2⟩
  · exact h

theorem State.OnlySessionEnds.sendEvent (p : Nat) (e : EvRec) : (s.sendEvent p e).OnlySessionEnds := by
  unfold State.sendEvent
  split
  · exact h.sendBk _ _ _ _ _
  · exact h

theorem State.OnlySessionEnds.logEvent (r : EvReq) : (s.logEvent r).OnlySessionEnds := by
  unfold State.logEvent
  refine State.OnlySessionEnds.sendEvent (State.OnlySessionEnds.sendEvent (h.congr ?_) 0 _) 1 _
  refine (State.cycleLists_withEvs _ _).trans ((State.cycleLists_wr _ _ _).trans ((State.cycleLists_wr _ _ _).trans ?_))
  split
  · exact State.cycleLists_setFld _ _ _ _
  · rfl

end

/-- After the end of a cycle only ends of secure sessions wait for the next one (R106). -/
theorem State.onlySessionEnds_endCycle (s : State) : s.endCycle.OnlySessionEnds := by
  have hfold : ∀ (l : List EvReq) (t : State), t.OnlySessionEnds → (l.foldl State.logEvent t).OnlySessionEnds := by
    intro l
    induction l with
    | nil => exact fun _ h => h
    | cons r l ih => exact fun t h => ih _ (h.logEvent r)
  refine hfold _ _ ⟨fun x hx => absurd hx List.not_mem_nil, rfl⟩

/-! ## The other components -/

/-- A state without what the end of a cycle may change. -/
def State.uncycled (s : State) : State := { s with regs := [], evs := [], out := [], links := [], pmu := {}, raised := [], sets := [] }

/-- A state with what the end of a cycle may change as another state has it. -/
def State.withCycleOf (s t : State) : State :=
  { s with regs := t.regs, evs := t.evs, out := t.out, links := t.links, pmu := t.pmu, raised := t.raised, sets := t.sets }

theorem untouched_uncycled : Untouched State State.uncycled :=
  ⟨fun _ _ => rfl, fun _ _ => rfl, fun _ _ => rfl, fun _ _ => rfl, fun _ _ => rfl, fun _ _ => rfl, fun _ _ => rfl⟩

theorem State.endCycle_eq (s : State) : s.endCycle = s.withCycleOf s.endCycle :=
  congrArg (State.withCycleOf · s.endCycle) (a₁ := s.endCycle.uncycled) (a₂ := s.uncycled) (untouched_uncycled.endCycle s)

/-- An answer leaves the other requesters' records. -/
theorem State.busOf_answer_other (s : State) {q : Nat} (r : Req) (hq : q ≠ r.id) (code data : Nat) : (s.answer r code data).busOf q = s.busOf q := by
  have hcount : ∀ (t : State) b ev amt, (t.pmuCount b ev amt).busOf q = t.busOf q := fun t b ev amt =>
    congrArg (State.busOf · q) (a₁ := (t.pmuCount b ev amt).uncounted) (a₂ := t.uncounted) (t.uncounted_pmuCount b ev amt)
  unfold State.answer
  (repeat' split) <;> simp only [hcount, State.busOf_setBus_other _ _ hq]

/-- Settles O40: the frame of the log and of an answer, component by component. -/
theorem loggingAndAnsweringLeaveTheRest : Obligations.LoggingAndAnsweringLeaveTheRest := by
  unfold Obligations.LoggingAndAnsweringLeaveTheRest
  refine ⟨?_, ?_⟩
  · rintro s t rfl
    obtain ⟨hraised, hsets⟩ := s.onlySessionEnds_endCycle
    refine ⟨?_, hraised, fun a hlog hl => s.rd_endCycle_off hlog hl⟩
    have heq := s.endCycle_eq
    rwa [State.withCycleOf, hsets] at heq
  · rintro s t r code data rfl
    exact ⟨s.answer_eq r code data, fun a ha => s.rd_answer_off ha r code data, fun q hq => s.busOf_answer_other r hq code data,
      fun hh => State.busOf_answer hh r code data⟩

end Sys2Proof.Machine
end

section
/-! SUPPORT. Accesses over the register bus (R24-R32): what a read or a write comes to in each case of its cause and of the word it names, and the statements on held,
latched and refused words. -/
namespace Sys2Proof.Machine

/-! ## Stores of one key, one after the other -/

section
variable {α : Type} [DecidableEq α] (d : Nat → α)

omit [DecidableEq α] in
theorem kvErase_kvErase (m : List (Nat × α)) (k : Nat) : kvErase k (kvErase k m) = kvErase k m := by
  induction m with
  | nil => rfl
  | cons e m ih =>
    obtain ⟨a, v⟩ := e
    by_cases h : a = k <;> simp [kvErase, h, ih]

omit [DecidableEq α] in
theorem kvErase_kvInsert (m : List (Nat × α)) (k : Nat) (x : α) : kvErase k (kvInsert k x m) = kvErase k m := by
  induction m with
  | nil => simp [kvInsert, kvErase]
  | cons e m ih =>
    obtain ⟨a, v⟩ := e
    rw [kvInsert]
    split
    · simp [kvErase]
    · by_cases h : a = k <;> simp [kvErase, h, ih]

/-- Of two stores under one key the later one stands. -/
theorem kvSet_kvSet (m : List (Nat × α)) (k : Nat) (x y : α) : kvSet d (kvSet d m k x) k y = kvSet d m k y := by
  have herase : kvErase k (kvSet d m k x) = kvErase k m := by
    rw [kvSet]
    split
    · exact kvErase_kvErase m k
    · rw [kvErase_kvInsert, kvErase_kvErase]
  simp only [kvSet] at herase ⊢
  rw [herase]

end

theorem State.setBus_setBus (s : State) (r : Nat) (x y : BusUnit) : (s.setBus r x).setBus r y = s.setBus r y :=
  congrArg (fun b => ({ s with bus := b } : State)) (kvSet_kvSet (fun _ => ({} : BusUnit)) s.bus r x y)

section
variable (s : State) (r : Req)

@[simp] theorem State.busOf_dropHeld : (s.dropHeld r).busOf r.id = { s.busOf r.id with wrTag := none, wrHold := [] } := State.busOf_setBus_same _ _ _

@[simp] theorem State.dropHeld_dropHeld : (s.dropHeld r).dropHeld r = s.dropHeld r := by
  rw [State.dropHeld, State.busOf_dropHeld, State.dropHeld, State.setBus_setBus]

end

/-! ## What an access comes to -/

section
variable {s : State} {r : Req} {a : Nat}

theorem State.holds_of_single (hg : s.wordGroup a = none) : s.holds a = none := by simp only [State.holds, hg]

theorem State.holds_of_later {base n w : Nat} (hg : s.wordGroup a = some (base, n, w)) (hw : w + 1 < n) : s.holds a = some (base, w) := by
  simp only [State.holds, hg, if_pos hw]

theorem State.holds_of_last {base n : Nat} (hg : s.wordGroup a = some (base, n + 1, n)) : s.holds a = none := by
  simp only [State.holds, hg, if_neg (Nat.lt_irrefl (n + 1))]

/-- A write of a register of one word runs the register's rule (R25). -/
theorem busWrite_of_single (hc : s.writeCauses r a = 0) (hg : s.wordGroup a = none) (v : Word) :
    s.busWrite r a v = (((s.dropHeld r).regWrite r a v s.nowTh).1,
      ((s.dropHeld r).regWrite r a v s.nowTh).2.answer r ((s.dropHeld r).regWrite r a v s.nowTh).1 0) := by
  simp only [State.busWrite, State.busWriteAt, hc, State.holds_of_single hg, hg]

/-- A write of a word that does not commit its register is held (R27, R31). -/
theorem busWrite_of_later {base n w : Nat} (hc : s.writeCauses r a = 0) (hg : s.wordGroup a = some (base, n, w)) (hw : w + 1 < n) (v : Word) :
    s.busWrite r a v = (0, (s.hold r base w v).answer r 0 0) := by
  simp only [State.busWrite, State.busWriteAt, hc, State.holds_of_later hg hw]

/-- A write of the last word of a register of several commits it (R31, R134). -/
theorem busWrite_of_last {base n : Nat} (hc : s.writeCauses r a = 0) (hg : s.wordGroup a = some (base, n + 1, n)) (v : Word) :
    s.busWrite r a v = (((s.dropHeld r).regCommit base (s.commitWords r base (n + 1) v) s.nowTh).1,
      ((s.dropHeld r).regCommit base (s.commitWords r base (n + 1) v) s.nowTh).2.answer r
        ((s.dropHeld r).regCommit base (s.commitWords r base (n + 1) v) s.nowTh).1 0) := by
  simp only [State.busWrite, State.busWriteAt, hc, State.holds_of_last hg, hg]

/-- A refused write answers its cause; it drops the held word, and an access to a block that is off is recorded (R26, R35). -/
theorem busWrite_of_refused {c : Nat} (hc : s.writeCauses r a = c) (h0 : c ≠ 0) (h7 : c = 7 → s.holds a = none) (v : Word) :
    s.busWrite r a v = (c, (if c = 1 then (s.dropHeld r).recordOffline r a else s.dropHeld r).answer r c 0) := by
  simp only [State.busWrite, State.busWriteAt, hc]
  split
  next => exact absurd rfl h0
  next hh => exact absurd ((h7 rfl).symm.trans hh) (by simp)
  next => exact absurd rfl h0
  next => rw [if_pos rfl]
  next h1 _ _ _ => rw [if_neg h1]

theorem busRead_of_single (hc : s.grants r a) (hg : s.wordGroup a = none) :
    s.busRead r a = ((s.regRead r a).1, (s.regRead r a).2.1, (s.regRead r a).2.2.answer r (s.regRead r a).1 (s.regRead r a).2.1) := by
  have hc' : s.causes r a = 0 := hc
  simp only [State.busRead, hc', hg]

/-- A read of a low word latches the later words (R30, R134). -/
theorem busRead_of_low {base n : Nat} (hc : s.grants r a) (hg : s.wordGroup a = some (base, n, 0)) :
    s.busRead r a = (0, s.readWord a (s.secureReq r), (s.setBus r.id { s.busOf r.id with
      rdTag := some base
      rdHold := (List.range (n - 1)).map (fun k => s.readWord (a + 4 * (k + 1)) (s.secureReq r)) }).answer r 0 (s.readWord a (s.secureReq r))) := by
  have hc' : s.causes r a = 0 := hc
  simp only [State.busRead, hc', hg, if_true]

/-- A read of a later word that matches the tag returns the latched word. -/
theorem busRead_of_latched {base n w : Nat} (hc : s.grants r a) (hg : s.wordGroup a = some (base, n, w + 1)) (ht : (s.busOf r.id).rdTag = some base) :
    s.busRead r a = (0, (s.busOf r.id).rdHold.getD w 0, s.answer r 0 ((s.busOf r.id).rdHold.getD w 0)) := by
  have hc' : s.causes r a = 0 := hc
  simp only [State.busRead, hc', hg, if_neg (Nat.succ_ne_zero w), if_pos ht, Nat.add_sub_cancel]

/-- A read of a later word that does not match the tag returns the live word. -/
theorem busRead_of_live {base n w : Nat} (hc : s.grants r a) (hg : s.wordGroup a = some (base, n, w + 1)) (ht : (s.busOf r.id).rdTag ≠ some base) :
    s.busRead r a = (0, s.readWord a (s.secureReq r), s.answer r 0 (s.readWord a (s.secureReq r))) := by
  have hc' : s.causes r a = 0 := hc
  simp only [State.busRead, hc', hg, if_neg (Nat.succ_ne_zero w), if_neg ht]

/-- A refused read answers its cause and returns 0, or 0x0FF0_0FF0 from a block that is off (R24, R33). -/
theorem busRead_of_refused {c : Nat} (hc : s.causes r a = c) (h0 : c ≠ 0) :
    s.busRead r a = (c, if c = 1 then 0x0FF00FF0 else 0,
      (if c = 1 then s.recordOffline r a else s).answer r c (if c = 1 then 0x0FF00FF0 else 0)) := by
  simp only [State.busRead, hc]
  split
  next => exact absurd rfl h0
  next => simp only [if_true]
  next h1 => rw [if_neg (fun he => h1 he), if_neg (fun he => h1 he)]

end

end Sys2Proof.Machine
end

section
/-! SUPPORT. The statements on bus accesses: their whole effect, held and latched words, and what a refused access leaves (R24-R35, R443). -/
namespace Sys2Proof.Machine

/-! ## The register SYS_ACCERR (R35) -/

theorem findReg_SYS_ACCERR : ∃ row, findReg Reg.SYS_ACCERR = some (row, 0) ∧ row.base = Reg.SYS_ACCERR ∧ row.words = 1 := by
  have h : (findReg Reg.SYS_ACCERR).any (fun x => x.2 == 0 && x.1.base == Reg.SYS_ACCERR && x.1.words == 1) = true := by decide +kernel
  obtain ⟨⟨row, w⟩, hrow, hx⟩ := (Option.any_eq_true _ _).1 h
  simp only [Bool.and_eq_true, beq_iff_eq] at hx
  obtain ⟨⟨rfl, hb⟩, hw⟩ := hx
  exact ⟨row, hrow, hb, hw⟩

theorem wordGroup_SYS_ACCERR (s : State) : s.wordGroup Reg.SYS_ACCERR = none := by
  obtain ⟨row, hrow, hb, hw⟩ := findReg_SYS_ACCERR
  have h1 : Reg.SYS_ACCERR ≠ Reg.PMU_CNT 0 0 := by decide
  have h2 : ¬(Reg.SYS_ACCERR = Reg.ASSAY_NETTX 0 ∨ Reg.SYS_ACCERR = Reg.ASSAY_NETRX 0) := by decide
  simp only [State.wordGroup, hrow, hb, hw, if_neg h1, if_neg h2, if_neg (Nat.lt_irrefl 1)]

theorem shadowAddr_SYS_ACCERR (s : State) : s.shadowAddr Reg.SYS_ACCERR = Reg.SYS_ACCERR :=
  if_neg fun h => absurd h.2.1 (by decide)

theorem regWrite_SYS_ACCERR (s : State) (r : Req) (v : Word) (tw : Th) : s.regWrite r Reg.SYS_ACCERR v tw = accerrWrite v s := by
  obtain ⟨row, hrow, hb, -⟩ := findReg_SYS_ACCERR
  simp only [State.regWrite, hrow, hb, shadowAddr_SYS_ACCERR, ne_eq, not_true_eq_false, if_false, ruleA, if_true]

/-- A write with VALID clears the record of refused accesses. -/
theorem exec_sysAccerrClear_granted {s : State} {r : Req} (hg : s.grants r Reg.SYS_ACCERR) (v : Word) :
    exec (.sysAccerrClear r v) s = .next (State.endCycle ((((s.entering r).wr Reg.SYS_ACCERR 0).wr Reg.SYS_ACCERR_ADDR 0).answer r 0 0)) := by
  have hc : s.writeCauses r Reg.SYS_ACCERR = 0 := (if_neg fun h => absurd h.1 (by decide)).trans hg
  have hv : getF (setF v Fld.SYS_ACCERR_VALID 1) Fld.SYS_ACCERR_VALID = 1 := getF_setF_same _ _ _ (by decide)
  refine finish_congr ?_
  rw [busWrite_of_single hc (wordGroup_SYS_ACCERR s), regWrite_SYS_ACCERR, accerrWrite, if_pos hv]

/-- Settles O21: each access comes to the case of its cause and of its word. -/
theorem busAccessesTakeEffect : Obligations.BusAccessesTakeEffect := by
  unfold Obligations.BusAccessesTakeEffect
  refine ⟨?_, ?_, ?_, ?_, ?_, ?_, ?_, ?_, fun s r v hg => exec_sysAccerrClear_granted hg v, ?_, ?_, ?_, ?_, ?_, ?_, ?_⟩
  · intro s t r addr v code hc hg hrule
    exact finish_congr (by rw [busWrite_of_single hc hg, hrule])
  · intro s r addr code d t hc hg hrule
    exact finish_congr (by rw [busRead_of_single hc hg, hrule])
  · intro s r addr n hc hg
    exact finish_congr (by rw [busRead_of_low hc hg])
  · intro s r addr base n w hc hg ht
    exact finish_congr (by rw [busRead_of_latched hc hg ht])
  · intro s r addr v base n w hc hg hw
    exact finish_congr (by rw [busWrite_of_later hc hg hw])
  · intro s t r addr v base n code hc hg hrule
    exact finish_congr (by rw [busWrite_of_last hc hg, hrule])
  · intro s t r addr v code hw hc hreg hrule
    exact finish_congr (by simp only [hw, Bool.not_true, Bool.false_eq_true, if_false, State.busWrite64, hc, hreg, if_true, hrule])
  · intro s r addr hw hc hreg
    exact finish_congr (by simp only [hw, Bool.not_true, Bool.false_eq_true, if_false, State.busRead64, hc, hreg, if_true])
  · intro s r b k v amt hg hgroup
    exact (congrArg finish (if_pos (by rw [hgroup]; rfl))).trans (finish_writeBy hg rfl)
  · intro s t p h tag addr v code h2 hv hw
    exact finish_congr ((hostReq_plain h2 hv _ _ _ _ _ _ _).trans (by simp only [hw]))
  · intro s t p h tag addr code d h2 hv hw
    exact finish_congr ((hostReq_plain h2 hv _ _ _ _ _ _ _).trans (by simp only [hw]))
  · exact fun s addr words hh => finish_congr (if_neg (Bool.eq_false_iff.1 hh))
  · intro s t addr n bs hh hr
    exact finish_congr (by rw [if_neg (Bool.eq_false_iff.1 hh), hr])
  · intro s code hh he
    exact finish_congr (by simp only [hh, Bool.false_eq_true, if_false, he])
  · intro s hh he
    exact finish_congr (by simp only [hh, Bool.false_eq_true, if_false, he])

/-! ## Held words (R31) -/

/-- An answer keeps what a requester's record holds and latches. -/
theorem State.busOf_answer_keeps (s : State) (r : Req) (code data : Nat) :
    ((s.answer r code data).busOf r.id).wrTag = (s.busOf r.id).wrTag ∧ ((s.answer r code data).busOf r.id).wrHold = (s.busOf r.id).wrHold := by
  cases hh : s.held with
  | true => rw [State.answer, if_pos hh]; exact ⟨rfl, rfl⟩
  | false => rw [State.busOf_answer hh]; exact ⟨rfl, rfl⟩

section
variable {s : State} {r : Req} {base : Nat}

theorem State.dropOther_of_other (ht : (s.busOf r.id).wrTag ≠ some base) : s.dropOther r base = s.dropHeld r := if_neg ht

theorem State.dropOther_dropHeld : (s.dropHeld r).dropOther r base = s.dropHeld r := by
  rw [State.dropOther_of_other (by rw [State.busOf_dropHeld]; exact Option.some_ne_none base |>.symm), State.dropHeld_dropHeld]

/-- The words that a commit writes where the low word is held, and where it is not. -/
theorem State.commitWords_of_held {w : Nat} (ht : (s.busOf r.id).wrTag = some base)
    (hw : (s.busOf r.id).wrHold.find? (fun x => x.1 == 0) = some (0, w)) (v : Word) : s.commitWords r base 2 v = [w, v.toNat] := by
  simp [State.commitWords, State.dropOther, ht, List.range_succ, hw]

theorem State.commitWords_of_free (ht : (s.busOf r.id).wrTag ≠ some base) (v : Word) :
    s.commitWords r base 2 v = [(s.rd base).toNat, v.toNat] := by
  simp [State.commitWords, State.dropOther_of_other ht, List.range_succ]

theorem State.hold_dropHeld (ht : (s.busOf r.id).wrTag ≠ some base) (w : Nat) (v : Word) : (s.dropHeld r).hold r base w v = s.hold r base w v := by
  rw [State.hold, State.dropOther_dropHeld, State.hold, State.dropOther_of_other ht]
  exact s.setBus_setBus _ _ _

theorem State.commitWords_dropHeld (ht : (s.busOf r.id).wrTag ≠ some base) (n : Nat) (v : Word) :
    (s.dropHeld r).commitWords r base n v = s.commitWords r base n v := by
  simp only [State.commitWords, State.dropOther_dropHeld, State.dropOther_of_other ht]
  rfl

/-- A write where no held word could matter is that of the state without held words. -/
theorem busWrite_dropHeld {a : Nat} (h : ∀ base n w, s.wordGroup a = some (base, n, w) → (s.busOf r.id).wrTag ≠ some base) (v : Word) :
    s.busWrite r a v = (s.dropHeld r).busWrite r a v := by
  have hcauses : (s.dropHeld r).writeCauses r a = s.writeCauses r a := rfl
  have hholds : (s.dropHeld r).holds a = s.holds a := rfl
  have hgroup : (s.dropHeld r).wordGroup a = s.wordGroup a := rfl
  have hnow : (s.dropHeld r).nowTh = s.nowTh := rfl
  have hhold : ∀ base w, s.holds a = some (base, w) → (s.dropHeld r).hold r base w v = s.hold r base w v := by
    intro base w hh
    simp only [State.holds] at hh
    split at hh
    next b n k hg =>
      split at hh
      · obtain ⟨rfl, rfl⟩ := Prod.mk.inj (Option.some.inj hh)
        exact State.hold_dropHeld (h _ _ _ hg) k v
      · exact absurd hh (by simp)
    next => exact absurd hh (by simp)
  simp only [State.busWrite, State.busWriteAt, hcauses, hholds, hgroup, hnow, State.dropHeld_dropHeld]
  split
  next hh => rw [hhold _ _ hh]
  next hh => rw [hhold _ _ hh]
  next =>
    split
    next => rfl
    next base n w hg => rw [State.commitWords_dropHeld (h _ _ _ hg)]
  next => rfl
  next => rfl

end

/-- Settles O34: a low word is held in its requester's record, and the last word commits what `commitWords` finds. -/
theorem lowWordsAreHeldUntilTheHighWordCommits : Obligations.LowWordsAreHeldUntilTheHighWordCommits := by
  unfold Obligations.LowWordsAreHeldUntilTheHighWordCommits
  refine ⟨?_, ?_, ?_, ?_, ?_, fun s r => by rw [State.busOf_dropHeld]⟩
  · intro s r addr v base hc hg
    obtain ⟨htag, hhold⟩ := (s.hold r base 0 v).busOf_answer_keeps r 0 0
    have hbus : ∀ x : BusUnit, ((s.setBus r.id x).busOf r.id) = x := fun x => State.busOf_setBus_same _ _ _
    refine ⟨(s.hold r base 0 v).answer r 0 0, finish_congr (by rw [busWrite_of_later hc hg (by decide)]), fun a ha => ?_, State.mem_answer _ _ _ _, ?_, ?_, ?_⟩
    · exact (s.hold r base 0 v).rd_answer_off ha r 0 0
    · exact fun q hq => (State.busOf_answer_other _ r hq 0 0).trans (State.busOf_setBus_other _ _ hq)
    · intro _
      rw [htag, State.hold, hbus]
    · rw [hhold, State.hold, hbus]
      simp
  · intro s r addr v base w code u hc hg ht hw hrule
    exact finish_congr (by rw [busWrite_of_last hc hg, State.commitWords_of_held ht hw, hrule])
  · intro s r addr v base code u hc hg ht hrule
    exact finish_congr (by rw [busWrite_of_last hc hg, State.commitWords_of_free ht, hrule])
  · intro s r addr v hg
    exact congrArg (fun x : Nat × State => finish x.2) (busWrite_dropHeld (fun _ _ _ h => absurd (hg.symm.trans h) (by simp)) v)
  · intro s r addr v base n w hg ht
    refine congrArg (fun x : Nat × State => finish x.2) (busWrite_dropHeld (fun b _ _ h => ?_) v)
    obtain ⟨rfl, -⟩ := Prod.mk.inj (Option.some.inj (hg.symm.trans h))
    exact ht

/-- Settles O35: the three cases of a read of a 64-bit register, with the requester's record after its answer. -/
theorem lowReadsLatchTheHighWord : Obligations.LowReadsLatchTheHighWord := by
  unfold Obligations.LowReadsLatchTheHighWord
  refine ⟨?_, ?_, ?_⟩
  · intro s r addr hc hh hg
    have hbus : ∀ x : BusUnit, ((s.setBus r.id x).busOf r.id) = x := fun x => State.busOf_setBus_same _ _ _
    refine ⟨_, finish_congr (by rw [busRead_of_low hc hg]), ?_⟩
    rw [State.busOf_answer (by exact hh), hbus]
    exact ⟨rfl, rfl, rfl, rfl, fun q hq => (State.busOf_answer_other _ r hq _ _).trans (State.busOf_setBus_other _ _ hq)⟩
  · intro s r addr base h hc hh hg ht hl
    refine ⟨_, finish_congr (by rw [busRead_of_latched hc hg ht]), ?_⟩
    rw [State.busOf_answer hh, hl]
    exact ⟨rfl, rfl, ht, rfl⟩
  · intro s r addr base hc hh hg ht
    refine ⟨_, finish_congr (by rw [busRead_of_live hc hg ht]), ?_⟩
    rw [State.busOf_answer hh]
    exact ⟨rfl, rfl⟩

/-! ## Refused accesses (R26, R35) -/

section
variable (s : State) (r : Req) (addr : Nat)

/-- Recording a refused access writes `SYS_ACCERR` and its address only. -/
theorem State.rd_recordOffline_other {a : Nat} (h1 : a ≠ Reg.SYS_ACCERR) (h2 : a ≠ Reg.SYS_ACCERR_ADDR) : (s.recordOffline r addr).rd a = s.rd a := by
  have hev : ∀ (t : State) l, (({ t with episodes := l } : State).raise 0x1010 r.id addr).rd a = t.rd a := fun _ _ => rfl
  unfold State.recordOffline
  dsimp only
  (repeat' split) <;> simp only [hev, State.rd_setFld_other _ _ _ h1, State.rd_wr_other _ _ h1, State.rd_wr_other _ _ h2]

theorem State.held_recordOffline : (s.recordOffline r addr).held = s.held := by
  unfold State.recordOffline
  dsimp only
  (repeat' split) <;> rfl

end

/-- What a refused access leaves: the answer of its cause, memory, and the registers outside the log, the counters and its record. -/
theorem refused_leaves (s : State) (r : Req) (addr c data : Nat) (hh : s.held = false) :
    let t := (if c = 1 then s.recordOffline r addr else s).answer r c data
    (t.busOf r.id).resp = c ∧ (t.busOf r.id).data = data ∧ t.mem = s.mem ∧
      ∀ a, logWord a = false → a ≠ Reg.SYS_ACCERR → a ≠ Reg.SYS_ACCERR_ADDR → t.rd a = s.rd a := by
  have hheld : (if c = 1 then s.recordOffline r addr else s).held = false := by
    split
    · rw [State.held_recordOffline, hh]
    · exact hh
  dsimp only
  rw [State.busOf_answer hheld, State.mem_answer]
  refine ⟨rfl, rfl, ?_, fun a hlog h1 h2 => ?_⟩
  · split
    · exact State.mem_recordOffline _ _ _
    · rfl
  · rw [State.rd_answer_off (offPmu_of_not_logWord hlog)]
    split
    · exact s.rd_recordOffline_other r addr h1 h2
    · rfl

/-- Settles O36: the order of the causes is that of their definition, and a refused access answers, records and changes nothing else. -/
theorem refusedAccessesAnswerTheirCause : Obligations.RefusedAccessesAnswerTheirCause := by
  unfold Obligations.RefusedAccessesAnswerTheirCause
  refine ⟨?_, ?_, ?_⟩
  · intro s r a
    simp only [State.causes, State.ch15Busy, Bool.and_eq_true, Bool.or_eq_true, Bool.not_eq_true', Option.isNone_iff_eq_none, bne_iff_ne, decide_eq_true_eq,
      and_assoc]
  · intro s r addr v c hh hc h0 h7
    obtain ⟨hresp, -, hmem, hrd⟩ := refused_leaves (s.dropHeld r) r addr.toNat c 0 hh
    exact ⟨_, finish_congr (by rw [busWrite_of_refused hc h0 h7]), hresp, hmem.trans (State.mem_dropHeld _ _), hrd⟩
  · intro s r addr c hh hc h0
    obtain ⟨hresp, hdata, hmem, hrd⟩ := refused_leaves s r addr.toNat c (if c = 1 then 0x0FF00FF0 else 0) hh
    exact ⟨_, finish_congr (by rw [busRead_of_refused hc h0]), hresp, hdata, hmem, hrd⟩

end Sys2Proof.Machine
end

section
/-! SUPPORT. The event log (R37, R38, R480, R481): the order of a cycle's events, the record that each leaves, and the ring they fill. -/
namespace Sys2Proof.Machine

/-! ## The order of a cycle's events (R38) -/

/-- The key that orders the events of a cycle: base of the raising block, code, `UNIT`. -/
def EvReq.key (x : EvReq) : Nat := (x.base * 2 ^ 16 + x.code) * 256 + x.unit % 256

theorem EvReq.before_iff {x y : EvReq} : x.before y = true ↔ x.key ≤ y.key := decide_eq_true_iff

theorem insertEvent_eq (x : EvReq) (l : List EvReq) : insertEvent x l = l.orderedInsert (fun a b => a.key ≤ b.key) x := by
  induction l with
  | nil => rfl
  | cons y l ih => simp only [insertEvent, List.orderedInsert, EvReq.before_iff, ih]

theorem pairwise_insertEvent (x : EvReq) {l : List EvReq} (h : l.Pairwise fun a b => a.key ≤ b.key) :
    (insertEvent x l).Pairwise fun a b => a.key ≤ b.key := by
  have : Std.Total fun a b : EvReq => a.key ≤ b.key := ⟨fun a b => Nat.le_total a.key b.key⟩
  have : IsTrans EvReq fun a b => a.key ≤ b.key := ⟨fun _ _ _ => Nat.le_trans⟩
  rw [insertEvent_eq]
  exact h.orderedInsert x l

theorem orderEvents_perm (l : List EvReq) : (orderEvents l).Perm l := by
  have hfold : ∀ (l acc : List EvReq), (l.foldl (fun acc r => insertEvent r acc) acc).Perm (l ++ acc) := by
    intro l
    induction l with
    | nil => exact fun acc => .refl acc
    | cons x l ih =>
      intro acc
      refine (ih (insertEvent x acc)).trans ?_
      rw [insertEvent_eq]
      exact ((List.perm_orderedInsert _ x acc).append_left l).trans List.perm_middle
  exact (hfold l []).trans (by rw [List.append_nil])

theorem orderEvents_pairwise (l : List EvReq) : (orderEvents l).Pairwise fun a b => a.key ≤ b.key := by
  have hfold : ∀ (l acc : List EvReq), (acc.Pairwise fun a b => a.key ≤ b.key) →
      (l.foldl (fun acc r => insertEvent r acc) acc).Pairwise fun a b => a.key ≤ b.key := by
    intro l
    induction l with
    | nil => exact fun _ h => h
    | cons x l ih => exact fun _ h => ih _ (pairwise_insertEvent x h)
  exact hfold l [] .nil

/-- Of events with codes of 16 and units of 8 bits the keys are in the lexical order of R38. -/
theorem EvReq.lex_of_key_le {x y : EvReq} (hx : x.code < 2 ^ 16 ∧ x.unit < 256) (hy : y.code < 2 ^ 16 ∧ y.unit < 256) (h : x.key ≤ y.key) :
    x.base < y.base ∨ (x.base = y.base ∧ (x.code < y.code ∨ (x.code = y.code ∧ x.unit ≤ y.unit))) := by
  simp only [EvReq.key] at h
  omega

/-! ## One record (R37, R480, R481) -/

/-- The record of an event logged now. -/
def State.recordOf (s : State) (r : EvReq) : EvRec :=
  ⟨(s.rd Reg.EVT_NEXT).toNat, r.code, r.unit % 256, s.selValid, s.overrun,
    if s.selValid then timeWords s.outU else [s.tb % 2 ^ 32, s.tb / 2 ^ 32 % 2 ^ 32, 0, 0], r.arg6, r.arg7⟩

/-- The state with the log's registers and its ring replaced. -/
def State.withLog (s : State) (lost : Bool) (next oldest : Word) (l : List EvRec) : State :=
  { (((if lost then s.setFld Reg.EVT_STAT Fld.EVT_STAT_OVERRUN 1 else s).wr Reg.EVT_NEXT next).wr Reg.EVT_OLDEST oldest) with evs := l }

section
variable (s : State) (lost : Bool) (next oldest : Word) (l : List EvRec)

theorem State.rd_next_withLog : (s.withLog lost next oldest l).rd Reg.EVT_NEXT = next :=
  (State.rd_wr_other _ _ (by decide)).trans (State.rd_wr_same _ _ _)

theorem State.rd_oldest_withLog : (s.withLog lost next oldest l).rd Reg.EVT_OLDEST = oldest := State.rd_wr_same _ _ _

theorem State.rd_stat_withLog : (s.withLog lost next oldest l).rd Reg.EVT_STAT =
    (if lost then s.setFld Reg.EVT_STAT Fld.EVT_STAT_OVERRUN 1 else s).rd Reg.EVT_STAT :=
  (State.rd_wr_other _ _ (by decide)).trans (State.rd_wr_other _ _ (by decide))

end

/-- The state with the record in the ring, before the ports send it. -/
def State.recorded (s : State) (r : EvReq) : State :=
  s.withLog s.overrun (BitVec.ofNat 32 ((s.rd Reg.EVT_NEXT).toNat + 1))
    (BitVec.ofNat 32 ((s.rd Reg.EVT_NEXT).toNat + 1 + 2 ^ 32 - ((s.recordOf r :: s.evs).take 1024).length)) ((s.recordOf r :: s.evs).take 1024)

theorem State.logEvent_eq (s : State) (r : EvReq) :
    s.logEvent r = ((s.recorded r).sendEvent 0 (s.recordOf r)).sendEvent 1 (s.recordOf r) := rfl

/-! ## Sending leaves the log -/

section
variable (s : State)

theorem State.evs_putPkts (p : Nat) (qs : List Pkt) : (s.putPkts p qs).evs = s.evs := by
  induction qs generalizing s with
  | nil => rfl
  | cons q qs ih => exact ih _

theorem State.evs_pmuCount (b ev amt : Nat) : (s.pmuCount b ev amt).evs = s.evs :=
  congrArg State.evs (a₁ := (s.pmuCount b ev amt).uncounted) (a₂ := s.uncounted) (s.uncounted_pmuCount b ev amt)

theorem State.evs_pumpSome (p n : Nat) : (s.pumpSome p n).evs = s.evs := by
  unfold State.pumpSome
  exact (State.evs_pmuCount _ _ _ _).trans (State.evs_putPkts _ _ _)

theorem State.evs_sessionEnd (p : Nat) : (s.sessionEnd p).evs = s.evs := by
  unfold State.sessionEnd
  split <;> rfl

theorem State.evs_pump (p : Nat) : (s.pump p).evs = s.evs := by
  unfold State.pump
  generalize (if !s.rtReady p then (s.link p).waiting.length else if 31 ≤ (s.link p).rtRun then 1 else 0) = n
  dsimp only
  split
  · rw [State.evs_pumpSome, State.evs_sessionEnd, State.evs_pumpSome]
  · exact s.evs_pumpSome p n

theorem State.evs_sendEvent (p : Nat) (e : EvRec) : (s.sendEvent p e).evs = s.evs := by
  unfold State.sendEvent State.sendBk
  (repeat' split)
  · exact State.evs_pump _ p
  · rfl
  · rfl

end

/-- The words of the log lie outside the counters and the links' session bits. -/
theorem State.rd_log_sendEvent {a : Nat} (h1 : 0x70000 ≤ a) (h2 : a < 0x80000) (s : State) (p : Fin 2) (e : EvRec) : (s.sendEvent p e).rd a = s.rd a :=
  s.rd_sendEvent_off (by simp only [offPmu, Reg.PMU_CTL]; omega)
    (fun q => ⟨by simp only [Reg.LINK_SEC_STAT]; omega, by simp only [Reg.LINK_STATUS]; omega⟩) p e

section
variable (s : State) (r : EvReq)

theorem State.evs_logEvent : (s.logEvent r).evs = (s.recordOf r :: s.evs).take 1024 := by
  rw [State.logEvent_eq, State.evs_sendEvent, State.evs_sendEvent, State.recorded, State.withLog]

theorem State.rd_log_logEvent {a : Nat} (h1 : 0x70000 ≤ a) (h2 : a < 0x80000) : (s.logEvent r).rd a = (s.recorded r).rd a := by
  rw [State.logEvent_eq]
  exact (State.rd_log_sendEvent h1 h2 _ 1 _).trans (State.rd_log_sendEvent h1 h2 _ 0 _)

theorem State.rd_next_logEvent : (s.logEvent r).rd Reg.EVT_NEXT = s.rd Reg.EVT_NEXT + 1 := by
  rw [State.rd_log_logEvent s r (by decide) (by decide), State.recorded, State.rd_next_withLog]
  exact BitVec.eq_of_toNat_eq (by simp)

/-- The number of the oldest of `n` kept records, the newest of which has the number `x`. -/
theorem oldest_number (x : Word) {n : Nat} (hn : n ≤ 1024) : BitVec.ofNat 32 (x.toNat + 1 + 2 ^ 32 - n) = x + 1 - BitVec.ofNat 32 n := by
  bv_omega

theorem State.rd_oldest_logEvent :
    (s.logEvent r).rd Reg.EVT_OLDEST = s.rd Reg.EVT_NEXT + 1 - BitVec.ofNat 32 (Nat.min 1024 (s.evs.length + 1)) := by
  rw [State.rd_log_logEvent s r (by decide) (by decide), State.recorded, State.rd_oldest_withLog, List.length_take, List.length_cons]
  exact oldest_number _ (Nat.min_le_left _ _)

theorem State.overrun_logEvent :
    (s.logEvent r).bit Reg.EVT_STAT Fld.EVT_STAT_OVERRUN = true ↔ s.bit Reg.EVT_STAT Fld.EVT_STAT_OVERRUN = true ∨ s.overrun = true := by
  have hrd : (s.logEvent r).rd Reg.EVT_STAT = (if s.overrun then s.setFld Reg.EVT_STAT Fld.EVT_STAT_OVERRUN 1 else s).rd Reg.EVT_STAT := by
    rw [State.rd_log_logEvent s r (by decide) (by decide), State.recorded, State.rd_stat_withLog]
  rw [State.bit_eq_true_iff, hrd]
  split
  next h =>
    have hset : getF ((s.setFld Reg.EVT_STAT Fld.EVT_STAT_OVERRUN 1).rd Reg.EVT_STAT) Fld.EVT_STAT_OVERRUN = 1 :=
      State.fld_setFld_same _ _ _ _ (by decide)
    rw [hset]
    exact ⟨fun _ => .inr h, fun _ => Nat.one_ne_zero⟩
  next h => rw [State.bit_eq_true_iff, or_iff_left h]

end

/-! ## The end of a cycle (R38) -/

/-- What a record says of its event. -/
def State.logged (s : State) : List (Nat × Nat) := s.evs.map fun e => (e.code, e.unit)

theorem State.logged_logEvent (s : State) (r : EvReq) : (s.logEvent r).logged = ((r.code, r.unit % 256) :: s.logged).take 1024 := by
  rw [State.logged, State.evs_logEvent, List.map_take]
  rfl

/-- Events logged one after the other stand before the old ones, newest first; the ring is cut at 1 024 as soon as one is logged. -/
theorem State.logged_foldl (l : List EvReq) (s : State) :
    (l.foldl State.logEvent s).logged =
      (l.reverse.map (fun x : EvReq => (x.code, x.unit % 256)) ++ s.logged).take (if l = [] then s.logged.length else 1024) := by
  induction l using List.reverseRecOn with
  | nil => exact (List.take_length (l := s.logged)).symm
  | append_singleton l r ih =>
    have hcut : ((l.foldl State.logEvent s).logged).take 1023 = (l.reverse.map (fun x : EvReq => (x.code, x.unit % 256)) ++ s.logged).take 1023 := by
      rw [ih, List.take_take]
      split
      next h => subst h; simp [List.take_eq_take_iff]
      next => rfl
    rw [List.foldl_append, List.foldl_cons, List.foldl_nil, State.logged_logEvent, if_neg (by simp), List.take_succ_cons, hcut]
    simp

theorem State.rd_next_foldl (l : List EvReq) (s : State) :
    (l.foldl State.logEvent s).rd Reg.EVT_NEXT = s.rd Reg.EVT_NEXT + BitVec.ofNat 32 l.length := by
  induction l generalizing s with
  | nil => simp
  | cons r l ih =>
    rw [List.foldl_cons, ih, State.rd_next_logEvent, List.length_cons]
    bv_omega

/-- Settles O39: the order is that of an insertion sort by the key, and each record takes the next number. -/
theorem loggedEventsTakeTheNextNumber : Obligations.LoggedEventsTakeTheNextNumber := by
  unfold Obligations.LoggedEventsTakeTheNextNumber
  refine ⟨fun _ _ _ _ _ => rfl, ?_, ?_, ?_⟩
  · refine fun l => ⟨orderEvents_perm l, fun hl => ?_⟩
    refine (orderEvents_pairwise l).imp_of_mem fun {x y} hx hy h => ?_
    exact EvReq.lex_of_key_le (hl x ((orderEvents_perm l).mem_iff.1 hx)) (hl y ((orderEvents_perm l).mem_iff.1 hy)) h
  · intro s
    have hempty : orderEvents s.raised = [] ↔ s.raised = [] := ⟨fun h => List.nil_perm.1 (h ▸ orderEvents_perm s.raised), fun h => by rw [h]; rfl⟩
    refine ⟨(State.logged_foldl _ _).trans ?_, (State.rd_next_foldl _ _).trans ?_⟩
    · simp only [hempty, State.logged, List.length_map]
    · rw [(orderEvents_perm s.raised).length_eq]
      rfl
  · rintro s t code unit a6 a7 rfl
    refine ⟨State.evs_logEvent _ _, ?_, State.rd_next_logEvent _ _, State.rd_oldest_logEvent _ _, State.overrun_logEvent _ _⟩
    rw [State.evs_logEvent, List.length_take]
    rfl

end Sys2Proof.Machine
end

section
/-! SUPPORT. Mailboxes (14_dma_mailboxes, R369-R373): what each access leaves in its channel, from conditions on the state and the operands alone. -/
namespace Sys2Proof.Machine

/-! ## What leaves the mailbox registers alone -/

/-- A state has the register words below the performance counters, and with them every mailbox register, as another one, and is held in reset like it. -/
def State.KeepsLow (t s : State) : Prop := (∀ a, a < 0x60000 → t.rd a = s.rd a) ∧ t.held = s.held

theorem State.KeepsLow.rfl {s : State} : s.KeepsLow s := ⟨fun _ _ => Eq.refl _, Eq.refl _⟩

theorem State.KeepsLow.trans {s t u : State} (h : u.KeepsLow t) (h' : t.KeepsLow s) : u.KeepsLow s :=
  ⟨fun a ha => (h.1 a ha).trans (h'.1 a ha), h.2.trans h'.2⟩

theorem State.KeepsLow.fld {s t : State} (h : t.KeepsLow s) {a : Nat} (ha : a < 0x60000) (f : Field) : t.fld a f = s.fld a f :=
  congrArg (getF · f) (h.1 a ha)

section
variable (s : State)

theorem State.keepsLow_wr {b : Nat} (hb : 0x60000 ≤ b) (v : Word) : (s.wr b v).KeepsLow s :=
  ⟨fun _ ha => State.rd_wr_other _ _ (ne_of_low ha hb), Eq.refl _⟩

theorem State.keepsLow_raiseLim (ms code unit : Nat) : (s.raiseLim ms code unit).KeepsLow s := by
  unfold State.raiseLim
  dsimp only
  split <;> exact ⟨fun _ _ => Eq.refl _, Eq.refl _⟩

theorem State.keepsLow_evOr (e m : Nat) : (s.evOr e m).KeepsLow s := by
  refine ⟨fun a ha => State.rd_wr64_other (s := s) (a := Reg.SB_EVF e) _ ?_ ?_, Eq.refl _⟩ <;> exact ne_of_low ha (by unfold Reg.SB_EVF; omega)

theorem State.keepsLow_evSource (src : Nat) : (s.evSource src).KeepsLow s := by
  have hfold : ∀ (l : List Nat) (t : State),
      (l.foldl (fun (t : State) e => let m := t.srcMask e src; if m = 0 then t else t.evOr e m) t).KeepsLow t := by
    intro l
    induction l with
    | nil => exact fun _ => .rfl
    | cons e l ih =>
      refine fun t => (ih _).trans ?_
      dsimp only
      split
      · exact .rfl
      · exact t.keepsLow_evOr e _
  exact hfold _ s

theorem State.keepsLow_wqPush (q desc arg req : Nat) : (s.wqPush q desc arg req).2.KeepsLow s := by
  unfold State.wqPush
  split
  · exact (State.keepsLow_raiseLim _ _ _ _).trans (s.keepsLow_wr (by unfold Reg.LODE_WQ_FULL_CNT; omega) _)
  · exact State.keepsLow_wr _ (by unfold Reg.LODE_WQ_STAT; omega) _

theorem State.keepsLow_sendBk (p : Fin 2) (type len tspec : Nat) (body : List Nat) : (s.sendBk p type len tspec body).KeepsLow s := by
  refine ⟨fun a ha => s.rd_sendBk_off (by simp only [offPmu, Reg.PMU_CTL]; omega)
    (fun q => ⟨ne_of_low ha (by unfold Reg.LINK_SEC_STAT; omega), ne_of_low ha (by unfold Reg.LINK_STATUS; omega)⟩) p type len tspec body, ?_⟩
  exact Untouched.sendBk (f := State.held)
    ⟨fun _ _ => Eq.refl _, fun _ _ => Eq.refl _, fun _ _ => Eq.refl _, fun _ _ => Eq.refl _, fun _ _ => Eq.refl _, fun _ _ => Eq.refl _, fun _ _ => Eq.refl _⟩
    s p type len tspec body

theorem State.keepsLow_answer (r : Req) (code data : Nat) : (s.answer r code data).KeepsLow s :=
  ⟨fun _ ha => s.rd_answer_low ha r code data, s.held_answer r code data⟩

end

theorem State.keepsLow_raise (s : State) (code unit : Nat) : (s.raise code unit).KeepsLow s := ⟨fun _ _ => Eq.refl _, Eq.refl _⟩

/-- While the device answers, a requester's record holds the response and the data of its access (R24). -/
theorem State.resp_answer {s : State} (hh : s.held = false) (r : Req) (code data : Nat) : ((s.answer r code data).busOf r.id).resp = code := by
  rw [State.busOf_answer hh]

theorem State.data_answer {s : State} (hh : s.held = false) (r : Req) (code data : Nat) : ((s.answer r code data).busOf r.id).data = data := by
  rw [State.busOf_answer hh]

/-! ## The registers of a channel -/

section
variable (c : Fin 32)

theorem msg_lt (k : Fin 16) : Reg.MBX_MSG c k < 0x60000 := by unfold Reg.MBX_MSG; omega
theorem stat_lt : Reg.MBX_STAT c < 0x60000 := by unfold Reg.MBX_STAT; omega
theorem msg_ne_stat (k : Fin 16) : Reg.MBX_MSG c k ≠ Reg.MBX_STAT c := by unfold Reg.MBX_MSG Reg.MBX_STAT; omega
theorem msg_ne_msg {j k : Fin 16} (h : j ≠ k) : Reg.MBX_MSG c j ≠ Reg.MBX_MSG c k := by
  have : j.val ≠ k.val := fun he => h (Fin.ext he)
  unfold Reg.MBX_MSG
  omega

end

section
variable {s : State} {c : Fin 32} {req : Nat}

theorem State.mbxFull_eq_false (h : s.fld (Reg.MBX_STAT c) Fld.MBX_STAT_FULL = 0) : s.mbxFull c = false := (s.bit_eq_false_iff _ _).2 h

theorem State.mbxTaken_eq_false (h : s.fld (Reg.MBX_STAT c) Fld.MBX_STAT_CLAIMED = 0 ∨ s.fld (Reg.MBX_STAT c) Fld.MBX_STAT_CLAIMER = req) :
    s.mbxTaken c req = false := by
  rw [State.mbxTaken, Bool.and_eq_false_iff]
  exact h.imp (fun h0 => (s.bit_eq_false_iff _ _).2 h0) (fun h1 => bne_eq_false_iff_eq.2 h1)

theorem rxValid_iff {rx : Nat} : rxValid rx = true ↔ rx = 0x10 ∨ (1 ≤ rx ∧ rx ≤ 5) := by
  simp only [rxValid, Bool.or_eq_true, Bool.and_eq_true, decide_eq_true_eq, beq_iff_eq]
  exact Or.comm

theorem State.mbxIsRx_iff : s.mbxIsRx c req = true ↔
    s.fld (Reg.MBX_CFG c) Fld.MBX_CFG_RX = req ∨ (s.fld (Reg.MBX_CFG c) Fld.MBX_CFG_RX = 0x10 ∧ 16 ≤ req ∧ req ≤ 49) := by
  simp only [State.mbxIsRx, Bool.or_eq_true, Bool.and_eq_true, decide_eq_true_eq, beq_iff_eq]

end

/-! ## Message words (R370) -/

section
variable (s : State) (c : Fin 32)

/-- A claim sets CLAIMED and CLAIMER, and writes no other register. -/
theorem State.rd_stat_mbxClaim (req : Nat) : (s.mbxClaim c req).rd (Reg.MBX_STAT c) =
    setF (setF (s.rd (Reg.MBX_STAT c)) Fld.MBX_STAT_CLAIMED 1) Fld.MBX_STAT_CLAIMER req := State.rd_wr_same _ _ _

theorem State.rd_mbxClaim_other (req : Nat) {a : Nat} (h : a ≠ Reg.MBX_STAT c) : (s.mbxClaim c req).rd a = s.rd a := State.rd_wr_other _ _ h

end

/-! ## Posting (R369, R371) -/

/-- `MBX_STAT` as a posting leaves it before the message is delivered. -/
def postedStat (w : Word) (req : Nat) : Word :=
  let w1 := setF (setF (setF (setF w Fld.MBX_STAT_FULL 1) Fld.MBX_STAT_CLAIMED 0) Fld.MBX_STAT_SENDER req) Fld.MBX_STAT_CLAIMER 0
  setF w1 Fld.MBX_STAT_SEQ ((getF w1 Fld.MBX_STAT_SEQ + 1) % 256)

theorem State.mbxPost_eq (s : State) (c req : Nat) : s.mbxPost c req = (s.wr (Reg.MBX_STAT c) (postedStat (s.rd (Reg.MBX_STAT c)) req)).mbxDeliver c req := rfl

theorem getF_postedStat (w : Word) {req : Nat} (hreq : req < 256) :
    getF (postedStat w req) Fld.MBX_STAT_FULL = 1 ∧ getF (postedStat w req) Fld.MBX_STAT_CLAIMED = 0 ∧
      getF (postedStat w req) Fld.MBX_STAT_CLAIMER = 0 ∧ getF (postedStat w req) Fld.MBX_STAT_SENDER = req ∧
      getF (postedStat w req) Fld.MBX_STAT_SEQ = (getF w Fld.MBX_STAT_SEQ + 1) % 256 := by
  have hseq : ∀ (w : Word) (f : Field) (v : Nat), (f.lsb + f.width ≤ 16 ∨ 24 ≤ f.lsb) → getF (setF w f v) Fld.MBX_STAT_SEQ = getF w Fld.MBX_STAT_SEQ :=
    fun w f v h => getF_setF_other w f _ v (by decide) h
  refine ⟨?_, ?_, ?_, ?_, ?_⟩
  · rw [postedStat, getF_setF_other _ _ _ _ (by decide) (by decide), getF_setF_other _ _ _ _ (by decide) (by decide),
      getF_setF_other _ _ _ _ (by decide) (by decide), getF_setF_other _ _ _ _ (by decide) (by decide), getF_setF_same _ _ _ (by decide)]
    rfl
  · rw [postedStat, getF_setF_other _ _ _ _ (by decide) (by decide), getF_setF_other _ _ _ _ (by decide) (by decide),
      getF_setF_other _ _ _ _ (by decide) (by decide), getF_setF_same _ _ _ (by decide)]
    rfl
  · rw [postedStat, getF_setF_other _ _ _ _ (by decide) (by decide), getF_setF_same _ _ _ (by decide)]
    rfl
  · rw [postedStat, getF_setF_other _ _ _ _ (by decide) (by decide), getF_setF_other _ _ _ _ (by decide) (by decide), getF_setF_same _ _ _ (by decide)]
    exact Nat.mod_eq_of_lt hreq
  · rw [postedStat, getF_setF_same _ _ _ (by decide), hseq _ _ _ (by decide), hseq _ _ _ (by decide), hseq _ _ _ (by decide), hseq _ _ _ (by decide)]
    exact Nat.mod_mod _ _

/-- Delivery writes, of the registers below the counters, `MBX_STAT.NOTIFY_LOST` of its channel at most (R369). -/
theorem State.mbxDeliver_keeps (s : State) (c : Fin 32) (req : Nat) :
    (s.mbxDeliver c req).KeepsLow s ∨ (s.mbxDeliver c req).KeepsLow (s.setFld (Reg.MBX_STAT c) Fld.MBX_STAT_NOTIFY_LOST 1) := by
  have hsend : ∀ p : Nat, p < 2 → (s.mbxCopy c p).KeepsLow s := fun p hp => s.keepsLow_sendBk ⟨p, hp⟩ _ _ _ _
  unfold State.mbxDeliver
  dsimp only
  generalize getF (s.rd (Reg.MBX_CFG c)) Fld.MBX_CFG_RX = rx
  generalize hwq : s.wqPush _ _ _ req = x
  have hpush : x.2.KeepsLow s := hwq ▸ s.keepsLow_wqPush _ _ _ _
  split
  next h =>
    split
    · exact .inl (hsend _ (by omega))
    · exact .inl .rfl
  next =>
    split
    · obtain ⟨ok, t⟩ := x
      cases ok with
      | true => exact .inl hpush
      | false =>
        refine .inr ⟨fun a ha => ?_, hpush.2⟩
        by_cases he : a = Reg.MBX_STAT c
        · subst he
          refine (State.rd_wr_same _ _ _).trans (Eq.trans ?_ (State.rd_wr_same _ _ _).symm)
          rw [hpush.1 _ ha]
        · exact (State.rd_setFld_other _ _ _ he).trans ((hpush.1 a ha).trans (State.rd_setFld_other _ _ _ he).symm)
    · exact .inl .rfl

/-- What a posting leaves: the words of the channel, and every field of `MBX_STAT` but NOTIFY_LOST as posted. -/
theorem State.mbxPost_leaves (s : State) (c : Fin 32) (req : Nat) :
    (∀ j : Fin 16, (s.mbxPost c req).rd (Reg.MBX_MSG c j) = s.rd (Reg.MBX_MSG c j)) ∧ (s.mbxPost c req).held = s.held ∧
      ∀ f : Field, f.lsb + f.width ≤ 29 ∨ (30 ≤ f.lsb ∧ f.lsb + f.width ≤ 32) →
        (s.mbxPost c req).fld (Reg.MBX_STAT c) f = getF (postedStat (s.rd (Reg.MBX_STAT c)) req) f := by
  rw [State.mbxPost_eq]
  generalize postedStat (s.rd (Reg.MBX_STAT c)) req = w
  have hmsg : ∀ j : Fin 16, (s.wr (Reg.MBX_STAT c) w).rd (Reg.MBX_MSG c j) = s.rd (Reg.MBX_MSG c j) := fun j => State.rd_wr_other _ _ (msg_ne_stat c j)
  have hstat : (s.wr (Reg.MBX_STAT c) w).rd (Reg.MBX_STAT c) = w := State.rd_wr_same _ _ _
  obtain h | h := (s.wr (Reg.MBX_STAT c) w).mbxDeliver_keeps c req
  · exact ⟨fun j => (h.1 _ (msg_lt c j)).trans (hmsg j), h.2, fun f _ => (h.fld (stat_lt c) f).trans (congrArg (getF · f) hstat)⟩
  · refine ⟨fun j => (h.1 _ (msg_lt c j)).trans ((State.rd_setFld_other _ _ _ (msg_ne_stat c j)).trans (hmsg j)), h.2, fun f hf => ?_⟩
    rw [h.fld (stat_lt c) f, State.fld_setFld_other _ _ _ _ _ (by omega) (by simp only [Fld.MBX_STAT_NOTIFY_LOST]; omega)]
    exact congrArg (getF · f) hstat

/-! ## Lapse and flush (R370, R373) -/

section
variable (s : State) (c : Fin 32)

theorem State.rd_stat_mbxLapse : (s.mbxLapse c).rd (Reg.MBX_STAT c) =
    setF (setF (s.rd (Reg.MBX_STAT c)) Fld.MBX_STAT_CLAIMED 0) Fld.MBX_STAT_CLAIMER 0 := State.rd_wr_same _ _ _

theorem State.claimed_mbxLapse : (s.mbxLapse c).fld (Reg.MBX_STAT c) Fld.MBX_STAT_CLAIMED = 0 := by
  rw [State.fld, State.rd_stat_mbxLapse, getF_setF_other _ _ _ _ (by decide) (by decide), getF_setF_same _ _ _ (by decide)]
  rfl

theorem State.claimer_mbxLapse : (s.mbxLapse c).fld (Reg.MBX_STAT c) Fld.MBX_STAT_CLAIMER = 0 := by
  rw [State.fld, State.rd_stat_mbxLapse, getF_setF_same _ _ _ (by decide)]
  rfl

theorem State.rd_mbxLapse_msg (j : Fin 16) : (s.mbxLapse c).rd (Reg.MBX_MSG c j) = s.rd (Reg.MBX_MSG c j) := State.rd_wr_other _ _ (msg_ne_stat c j)

/-- Clearing the words of a list of numbers leaves a word that is 0 or named by none of them as it is. -/
theorem State.rd_clearWords (l : List Nat) (a : Nat) (h : s.rd a = 0 ∨ ∀ k ∈ l, a ≠ Reg.MBX_MSG c k) :
    (l.foldl (fun (t : State) k => t.wr (Reg.MBX_MSG c k) 0) s).rd a = s.rd a := by
  induction l generalizing s with
  | nil => rfl
  | cons k l ih =>
    have hk : (s.wr (Reg.MBX_MSG c k) 0).rd a = s.rd a := by
      by_cases he : a = Reg.MBX_MSG c k
      · rw [he, State.rd_wr_same]
        exact (h.resolve_right fun hl => hl k List.mem_cons_self he) ▸ he ▸ rfl
      · exact State.rd_wr_other _ _ he
    refine (ih _ ?_).trans hk
    exact h.imp (fun h0 => hk.trans h0) (fun hl j hj => hl j (List.mem_cons_of_mem k hj))

/-- Clearing the words of a list of numbers clears each word that it names. -/
theorem State.rd_clearWords_mem {l : List Nat} {k : Nat} (hk : k ∈ l) :
    (l.foldl (fun (t : State) k => t.wr (Reg.MBX_MSG c k) 0) s).rd (Reg.MBX_MSG c k) = 0 := by
  induction l generalizing s with
  | nil => exact absurd hk List.not_mem_nil
  | cons j l ih =>
    by_cases hl : k ∈ l
    · exact ih _ hl
    · obtain rfl : k = j := (List.mem_cons.1 hk).resolve_right hl
      have h0 : (s.wr (Reg.MBX_MSG c k) 0).rd (Reg.MBX_MSG c k) = 0 := State.rd_wr_same _ _ _
      exact (State.rd_clearWords _ c l _ (.inl h0)).trans h0

/-- The state of a channel that its receiver has flushed. -/
def State.flushed : State :=
  (List.range 16).foldl (fun (t : State) k => t.wr (Reg.MBX_MSG c k) 0)
    ((if s.mbxClaimed c then s.mbxLapse c else s).setFld (Reg.MBX_STAT c) Fld.MBX_STAT_FULL 0)

theorem State.held_flushed : (s.flushed c).held = s.held := by
  have hfold : ∀ (l : List Nat) (t : State), (l.foldl (fun (t : State) k => t.wr (Reg.MBX_MSG c k) 0) t).held = t.held := by
    intro l
    induction l with
    | nil => exact fun _ => rfl
    | cons k l ih => exact fun t => ih _
  refine (hfold _ _).trans ?_
  split <;> rfl

theorem State.rd_flushed_msg (j : Fin 16) : (s.flushed c).rd (Reg.MBX_MSG c j) = 0 :=
  State.rd_clearWords_mem _ c (List.mem_range.2 j.isLt)

/-- A flush leaves the channel neither FULL nor CLAIMED. -/
theorem State.stat_flushed : (s.flushed c).fld (Reg.MBX_STAT c) Fld.MBX_STAT_FULL = 0 ∧ (s.flushed c).fld (Reg.MBX_STAT c) Fld.MBX_STAT_CLAIMED = 0 := by
  have hrd : ∀ f, (s.flushed c).fld (Reg.MBX_STAT c) f =
      ((if s.mbxClaimed c then s.mbxLapse c else s).setFld (Reg.MBX_STAT c) Fld.MBX_STAT_FULL 0).fld (Reg.MBX_STAT c) f := fun f =>
    congrArg (getF · f) (State.rd_clearWords _ c _ _ (.inr fun k hk => (msg_ne_stat c ⟨k, List.mem_range.1 hk⟩).symm))
  refine ⟨(hrd _).trans (State.fld_setFld_same _ _ _ _ (by decide)), (hrd _).trans ((State.fld_setFld_other _ _ _ _ _ (by decide) (by decide)).trans ?_)⟩
  split
  next => exact s.claimed_mbxLapse c
  next h => exact (s.bit_eq_false_iff _ _).1 (Bool.eq_false_iff.2 h)

end

/-! ## The accesses -/

section
variable {s : State} {r : Req} {c : Fin 32} (hh : s.held = false)
include hh

theorem exec_mbxMsgWrite_free {k : Fin 16} (v : Word) (hg : s.grants r (Reg.MBX_MSG c k)) (hid : r.id < 256)
    (hf : s.fld (Reg.MBX_STAT c) Fld.MBX_STAT_FULL = 0)
    (ht : s.fld (Reg.MBX_STAT c) Fld.MBX_STAT_CLAIMED = 0 ∨ s.fld (Reg.MBX_STAT c) Fld.MBX_STAT_CLAIMER = r.id) :
    ∃ t : State, exec (.mbxMsgWrite r c k v) s = .next t.endCycle ∧ (t.busOf r.id).resp = 0 ∧ t.rd (Reg.MBX_MSG c k) = v ∧
      (∀ j : Fin 16, j ≠ k → t.rd (Reg.MBX_MSG c j) = s.rd (Reg.MBX_MSG c j)) ∧ t.fld (Reg.MBX_STAT c) Fld.MBX_STAT_FULL = 0 ∧
      t.fld (Reg.MBX_STAT c) Fld.MBX_STAT_CLAIMED = 1 ∧ t.fld (Reg.MBX_STAT c) Fld.MBX_STAT_CLAIMER = r.id := by
  refine ⟨_, finish_writeBy hg (mbxMsgWrite_of_free (s := s.entering r) (State.mbxFull_eq_false hf) (State.mbxTaken_eq_false ht) k v), ?_⟩
  have hkeep := (((s.entering r).mbxClaim c r.id).wr (Reg.MBX_MSG c k) v).keepsLow_answer r 0 0
  have hstat : (((s.entering r).mbxClaim c r.id).wr (Reg.MBX_MSG c k) v).rd (Reg.MBX_STAT c) =
      setF (setF (s.rd (Reg.MBX_STAT c)) Fld.MBX_STAT_CLAIMED 1) Fld.MBX_STAT_CLAIMER r.id :=
    (State.rd_wr_other _ _ (msg_ne_stat c k).symm).trans (State.rd_stat_mbxClaim _ c r.id)
  rw [hkeep.fld (stat_lt c), hkeep.fld (stat_lt c), hkeep.fld (stat_lt c), State.fld, State.fld, State.fld, hstat]
  refine ⟨State.resp_answer (by exact hh) r 0 0, (hkeep.1 _ (msg_lt c k)).trans (State.rd_wr_same _ _ _), fun j hj => ?_, ?_, ?_, ?_⟩
  · exact (hkeep.1 _ (msg_lt c j)).trans ((State.rd_wr_other _ _ (msg_ne_msg c hj)).trans (State.rd_mbxClaim_other _ c _ (msg_ne_stat c j)))
  · rw [getF_setF_other _ _ _ _ (by decide) (by decide), getF_setF_other _ _ _ _ (by decide) (by decide)]
    exact hf
  · rw [getF_setF_other _ _ _ _ (by decide) (by decide), getF_setF_same _ _ _ (by decide)]
    rfl
  · rw [getF_setF_same _ _ _ (by decide)]
    exact Nat.mod_eq_of_lt hid

theorem exec_mbxMsgWrite_refused {k : Fin 16} (v : Word) (hg : s.grants r (Reg.MBX_MSG c k))
    (ht : s.fld (Reg.MBX_STAT c) Fld.MBX_STAT_FULL = 1 ∨
      (s.fld (Reg.MBX_STAT c) Fld.MBX_STAT_CLAIMED = 1 ∧ s.fld (Reg.MBX_STAT c) Fld.MBX_STAT_CLAIMER ≠ r.id)) :
    ∃ t : State, exec (.mbxMsgWrite r c k v) s = .next t.endCycle ∧
      (t.busOf r.id).resp = (if v = s.rd (Reg.MBX_MSG c k) then 0 else 7) ∧ ∀ a, a / 0x10000 ≠ Reg.PMU_CTL / 0x10000 → t.rd a = s.rd a := by
  have hset : ∀ f, s.fld (Reg.MBX_STAT c) f = 1 → s.bit (Reg.MBX_STAT c) f = true := fun f h => (s.bit_eq_true_iff _ _).2 (by
    rw [show getF (s.rd (Reg.MBX_STAT c)) f = 1 from h]; exact Nat.one_ne_zero)
  have hbusy : ((s.entering r).mbxFull c || (s.entering r).mbxTaken c r.id) = true := by
    refine Bool.or_eq_true_iff.2 (ht.imp (hset _) fun h => ?_)
    exact Bool.and_eq_true_iff.2 ⟨hset _ h.1, bne_iff_ne.2 h.2⟩
  refine ⟨_, finish_writeBy hg (if_pos hbusy), State.resp_answer (by exact hh) r _ 0, fun a ha => ?_⟩
  exact (s.entering r).rd_answer_off ha r _ 0

theorem exec_mbxDoorbell_posts {v : Word} (hg : s.grants r (Reg.MBX_DOORBELL c)) (hid : r.id < 256) (hv : getF v Fld.MBX_DOORBELL_RING = 1)
    (hf : s.fld (Reg.MBX_STAT c) Fld.MBX_STAT_FULL = 0)
    (ht : s.fld (Reg.MBX_STAT c) Fld.MBX_STAT_CLAIMED = 0 ∨ s.fld (Reg.MBX_STAT c) Fld.MBX_STAT_CLAIMER = r.id)
    (hrx : s.fld (Reg.MBX_CFG c) Fld.MBX_CFG_RX = 0x10 ∨ (1 ≤ s.fld (Reg.MBX_CFG c) Fld.MBX_CFG_RX ∧ s.fld (Reg.MBX_CFG c) Fld.MBX_CFG_RX ≤ 5)) :
    ∃ t : State, exec (.mbxDoorbell r c v) s = .next t.endCycle ∧ (t.busOf r.id).resp = 0 ∧ t.fld (Reg.MBX_STAT c) Fld.MBX_STAT_FULL = 1 ∧
      t.fld (Reg.MBX_STAT c) Fld.MBX_STAT_CLAIMED = 0 ∧ t.fld (Reg.MBX_STAT c) Fld.MBX_STAT_CLAIMER = 0 ∧
      t.fld (Reg.MBX_STAT c) Fld.MBX_STAT_SENDER = r.id ∧
      t.fld (Reg.MBX_STAT c) Fld.MBX_STAT_SEQ = (s.fld (Reg.MBX_STAT c) Fld.MBX_STAT_SEQ + 1) % 256 ∧
      ∀ j : Fin 16, t.rd (Reg.MBX_MSG c j) = s.rd (Reg.MBX_MSG c j) := by
  have hr : (s.entering r).mbxRefuses c r.id = false := by
    have h1 : (s.entering r).mbxFull c = false := State.mbxFull_eq_false hf
    have h2 : (s.entering r).mbxTaken c r.id = false := State.mbxTaken_eq_false ht
    have h3 : rxValid ((s.entering r).fld (Reg.MBX_CFG c) Fld.MBX_CFG_RX) = true := rxValid_iff.2 hrx
    rw [State.mbxRefuses, h1, h2, h3]
    rfl
  refine ⟨_, finish_writeBy hg (mbxDoorbell_of_ring (s := s.entering r) hv hr), ?_⟩
  obtain ⟨hmsg, hheld, hfld⟩ := (s.entering r).mbxPost_leaves c r.id
  obtain ⟨gfull, gclaimed, gclaimer, gsender, gseq⟩ := getF_postedStat ((s.entering r).rd (Reg.MBX_STAT c)) hid
  have hkeep := ((s.entering r).mbxPost c r.id).keepsLow_answer r 0 0
  have hstat : ∀ f : Field, f.lsb + f.width ≤ 29 ∨ (30 ≤ f.lsb ∧ f.lsb + f.width ≤ 32) →
      (((s.entering r).mbxPost c r.id).answer r 0 0).fld (Reg.MBX_STAT c) f = getF (postedStat ((s.entering r).rd (Reg.MBX_STAT c)) r.id) f :=
    fun f hb => (hkeep.fld (stat_lt c) f).trans (hfld f hb)
  exact ⟨State.resp_answer (hheld.trans hh) r 0 0, (hstat _ (by decide)).trans gfull, (hstat _ (by decide)).trans gclaimed,
    (hstat _ (by decide)).trans gclaimer, (hstat _ (by decide)).trans gsender, (hstat _ (by decide)).trans gseq,
    fun j => (hkeep.1 _ (msg_lt c j)).trans (hmsg j)⟩

theorem exec_mbxDoorbell_silent {v : Word} (hg : s.grants r (Reg.MBX_DOORBELL c)) (hv : getF v Fld.MBX_DOORBELL_RING = 0) :
    ∃ t : State, exec (.mbxDoorbell r c v) s = .next t.endCycle ∧ (t.busOf r.id).resp = 0 ∧
      ∀ a, a / 0x10000 ≠ Reg.PMU_CTL / 0x10000 → t.rd a = s.rd a :=
  ⟨_, finish_writeBy hg (if_pos hv), State.resp_answer (by exact hh) r _ 0, fun _ ha => (s.entering r).rd_answer_off ha r 0 0⟩

/-- The acknowledging read leaves, below the counters, FULL clear and the rest of the registers as they were (R372). -/
theorem exec_mbxAck_by_receiver (hg : s.grants r (Reg.MBX_MSG c 15)) (hf : s.mbxFull c = true) (hr : s.mbxIsRx c r.id = true) :
    ∃ t : State, exec (.mbxAck r c) s = .next t.endCycle ∧ (t.busOf r.id).resp = 0 ∧ (t.busOf r.id).data = (s.rd (Reg.MBX_MSG c 15)).toNat ∧
      t.KeepsLow (s.setFld (Reg.MBX_STAT c) Fld.MBX_STAT_FULL 0) := by
  refine ⟨_, finish_readBy hg (mbxMsgRead_acknowledges hf hr), ?_⟩
  dsimp only
  generalize hu : (if s.bit (Reg.MBX_CFG c) Fld.MBX_CFG_ACKEV then
    ((s.setFld (Reg.MBX_STAT c) Fld.MBX_STAT_FULL 0).evSource (0x40 + c)).raise 0x8005 c
    else (s.setFld (Reg.MBX_STAT c) Fld.MBX_STAT_FULL 0).evSource (0x40 + c)) = u
  have hlow : u.KeepsLow (s.setFld (Reg.MBX_STAT c) Fld.MBX_STAT_FULL 0) := by
    have hsrc := (s.setFld (Reg.MBX_STAT c) Fld.MBX_STAT_FULL 0).keepsLow_evSource (0x40 + c)
    subst hu
    split
    · exact (State.keepsLow_raise _ 0x8005 c).trans hsrc
    · exact hsrc
  have hheld : u.held = false := hlow.2.trans hh
  exact ⟨State.resp_answer hheld r 0 _, State.data_answer hheld r 0 _, (u.keepsLow_answer r 0 _).trans hlow⟩

theorem exec_mbxAck_other (hg : s.grants r (Reg.MBX_MSG c 15)) (h : ¬(s.mbxFull c = true ∧ s.mbxIsRx c r.id = true)) :
    ∃ t : State, exec (.mbxAck r c) s = .next t.endCycle ∧ (t.busOf r.id).resp = 0 ∧ (t.busOf r.id).data = (s.rd (Reg.MBX_MSG c 15)).toNat ∧
      t.KeepsLow s := by
  refine ⟨_, finish_readBy hg (if_neg fun hc => h hc.2), ?_⟩
  exact ⟨State.resp_answer hh r 0 _, State.data_answer hh r 0 _, s.keepsLow_answer r 0 _⟩

theorem exec_mbxAck_leaves {rx : Nat} (hg : s.grants r (Reg.MBX_MSG c 15)) (hrx : rx = s.fld (Reg.MBX_CFG c) Fld.MBX_CFG_RX) :
    ∃ t : State, exec (.mbxAck r c) s = .next t.endCycle ∧ (t.busOf r.id).resp = 0 ∧ (t.busOf r.id).data = (s.rd (Reg.MBX_MSG c 15)).toNat ∧
      (∀ j : Fin 16, t.rd (Reg.MBX_MSG c j) = s.rd (Reg.MBX_MSG c j)) ∧
      ((rx = r.id ∨ (rx = 0x10 ∧ 16 ≤ r.id ∧ r.id ≤ 49)) → t.fld (Reg.MBX_STAT c) Fld.MBX_STAT_FULL = 0) ∧
      (¬(rx = r.id ∨ (rx = 0x10 ∧ 16 ≤ r.id ∧ r.id ≤ 49)) → t.rd (Reg.MBX_STAT c) = s.rd (Reg.MBX_STAT c)) := by
  subst hrx
  rw [← State.mbxIsRx_iff]
  by_cases h : s.mbxFull c = true ∧ s.mbxIsRx c r.id = true
  · obtain ⟨t, hexec, hresp, hdata, hlow⟩ := exec_mbxAck_by_receiver hh hg h.1 h.2
    refine ⟨t, hexec, hresp, hdata, fun j => ?_, fun _ => ?_, fun hn => absurd h.2 hn⟩
    · exact (hlow.1 _ (msg_lt c j)).trans (State.rd_setFld_other _ _ _ (msg_ne_stat c j))
    · exact (hlow.fld (stat_lt c) _).trans (State.fld_setFld_same _ _ _ _ (by decide))
  · obtain ⟨t, hexec, hresp, hdata, hlow⟩ := exec_mbxAck_other hh hg h
    refine ⟨t, hexec, hresp, hdata, fun j => hlow.1 _ (msg_lt c j), fun hr => ?_, fun _ => hlow.1 _ (stat_lt c)⟩
    exact (hlow.fld (stat_lt c) _).trans ((s.bit_eq_false_iff _ _).1 (Bool.eq_false_iff.2 fun hf => h ⟨hf, hr⟩))

theorem exec_mbxFlush_leaves {v : Word} (hg : s.grants r (Reg.MBX_FLUSH c)) (hv : getF v Fld.MBX_FLUSH_FLUSH = 1) (hr : s.mbxIsRx c r.id = true) :
    ∃ t : State, exec (.mbxFlush r c v) s = .next t.endCycle ∧ (t.busOf r.id).resp = 0 ∧ t.fld (Reg.MBX_STAT c) Fld.MBX_STAT_FULL = 0 ∧
      t.fld (Reg.MBX_STAT c) Fld.MBX_STAT_CLAIMED = 0 ∧ ∀ j : Fin 16, t.rd (Reg.MBX_MSG c j) = 0 := by
  have hexec : exec (.mbxFlush r c v) s = .next (State.endCycle (((s.entering r).flushed c).answer r 0 0)) :=
    finish_writeBy hg (mbxFlush_of_receiver (s := s.entering r) hv hr)
  obtain ⟨hfull, hclaimed⟩ := (s.entering r).stat_flushed c
  have hkeep := ((s.entering r).flushed c).keepsLow_answer r 0 0
  exact ⟨_, hexec, State.resp_answer (((s.entering r).held_flushed c).trans hh) r 0 0, (hkeep.fld (stat_lt c) _).trans hfull,
    (hkeep.fld (stat_lt c) _).trans hclaimed, fun j => (hkeep.1 _ (msg_lt c j)).trans ((s.entering r).rd_flushed_msg c j)⟩

end

/-- Settles O49: each access runs the case of its rule that the channel's state names, and its answer leaves the channel as the rule left it. -/
theorem mailboxAccessesComplete : Obligations.MailboxAccessesComplete := by
  unfold Obligations.MailboxAccessesComplete
  refine ⟨fun s r c k v hg hh hid hf ht => exec_mbxMsgWrite_free hh v hg hid hf ht, fun s r c k v hg hh ht => exec_mbxMsgWrite_refused hh v hg ht,
    fun s r c v hg hh hid hv hf ht hrx => exec_mbxDoorbell_posts hh hg hid hv hf ht hrx, fun s r c v hg hh hv => exec_mbxDoorbell_silent hh hg hv,
    fun s r c rx hg hh hrx => exec_mbxAck_leaves hh hg hrx, ?_, ?_, ?_⟩
  · rintro s r c v rx hg hh hv rfl hr
    exact exec_mbxFlush_leaves hh hg hv (State.mbxIsRx_iff.2 hr)
  · intro s c hc hd
    have hclaimed : s.mbxClaimed c = true := (s.bit_eq_true_iff _ _).2 (by
      rw [show getF (s.rd (Reg.MBX_STAT c)) Fld.MBX_STAT_CLAIMED = 1 from hc]; exact Nat.one_ne_zero)
    exact ⟨_, exec_mbxClaimLapsed_due hclaimed hd, s.claimed_mbxLapse c, s.claimer_mbxLapse c, rfl, fun j => s.rd_mbxLapse_msg c j⟩
  · intro s c h
    refine finish_congr (if_neg fun hc => ?_)
    simp only [Bool.and_eq_true, decide_eq_true_eq] at hc
    exact h.elim (fun h0 => Bool.false_ne_true (((s.bit_eq_false_iff _ _).2 h0).symm.trans hc.1)) (fun hlt => Nat.not_le.2 hlt hc.2)

end Sys2Proof.Machine
end
